-- ==== Sys2Proof/Word.lean ====
section
/-!
DEFINITION. Word.lean: the word of the register space, the byte, and the names of the bit fields that the spec
numbers (identifiers, generations, slot and cell numbers). R3, R6.
-/
namespace Sys2Proof

/-- A register or a 32-bit access (R6). -/
abbrev Word := BitVec 32

/-- One byte. -/
abbrev Byte := BitVec 8

/-- A byte string, byte 0 first. -/
abbrev Bytes := List (BitVec 8)

/-- A partition identifier (6 bits: MP_REQ_PART, OP_STREAM.PART, ...). -/
abbrev PartId := BitVec 6

/-- A stream identifier (TAPn_SID, R50). -/
abbrev StreamId := BitVec 12

/-- A job identifier. -/
abbrev JobId := BitVec 16

/-- An 8-bit generation. -/
abbrev Gen := BitVec 8

/-- A key slot number, one of 16,384. -/
abbrev SlotIx := BitVec 14

/-- A key-fabric endpoint, one of 4,096. -/
abbrev EndpointId := BitVec 12

/-- A counter cell, one of 65,536. -/
abbrev CellId := BitVec 16

/-- A byte address of the control port (ICP_REQ_ADDR, R40). -/
abbrev IcpAddr := BitVec 24

/-- An address of a register as a core names it: an offset of register space or, from 0xC000000 on, the physical address of a
register of the cluster interrupt controller (R465). -/
abbrev RegAddr := BitVec 28

end Sys2Proof
end

