-- ==== Sys2Proof/Machine/Bits.lean ====
section
/-!
DEFINITION. Machine/Bits.lean: bit fields of words (R3), bytes of words (R4, R5) and the byte orders that messages use.
-/
namespace Sys2Proof.Machine

/-- The field of `len` bits of `w` that starts at bit `lo` (R3). -/
def fld {n : Nat} (w : BitVec n) (lo len : Nat) : BitVec len := w.extractLsb' lo len

/-- The same field read as a number. -/
def fldN {n : Nat} (w : BitVec n) (lo len : Nat) : Nat := (w.extractLsb' lo len).toNat

/-- Bit `i` of a word. -/
def bit {n : Nat} (w : BitVec n) (i : Nat) : Bool := w.getLsbD i

/-- A word that holds `v` in the field that starts at bit `lo`. -/
def put {n : Nat} (v : BitVec n) (lo : Nat) : Word := v.setWidth 32 <<< lo

/-- A word that holds the number `v` in the field of `len` bits that starts at bit `lo`. -/
def putN (v lo len : Nat) : Word := (BitVec.ofNat len v).setWidth 32 <<< lo

/-- A word that holds the flag `b` at bit `lo`. -/
def putB (b : Bool) (lo : Nat) : Word := if b then (1#32) <<< lo else 0#32

/-- The mask of `len` ones that starts at bit `lo`. -/
def ones (lo len : Nat) : Word := (BitVec.ofNat 32 (2 ^ len - 1)) <<< lo

/-- `n` bytes of the number `v`, least significant first. -/
def leBytes : Nat → Nat → Bytes
  | 0, _ => []
  | n + 1, v => BitVec.ofNat 8 v :: leBytes n (v / 256)

/-- The number that a byte string spells, least significant byte first. -/
def ofLE : Bytes → Nat
  | [] => 0
  | b :: bs => b.toNat + 256 * ofLE bs

/-- `n` bytes of the number `v`, most significant first. -/
def beBytes (n v : Nat) : Bytes := (leBytes n v).reverse

/-- The number that a byte string spells, most significant byte first. -/
def ofBE (bs : Bytes) : Nat := ofLE bs.reverse

/-- The four bytes of a register, byte 0 in bits [7:0] (R5). -/
def wordBytes (w : Word) : Bytes := leBytes 4 w.toNat

/-- The byte string that consecutive registers hold (R5). -/
def wordsToBytes (ws : List Word) : Bytes := ws.flatMap wordBytes

/-- Word `k` of a byte string laid out in consecutive registers (R5); absent bytes read 0. -/
def byteWord (bs : Bytes) (k : Nat) : Word := BitVec.ofNat 32 (ofLE ((bs.drop (4 * k)).take 4))

/-- The low half of a 64-bit quantity that stands in two registers (R4). -/
def lo32 (v : BitVec 64) : Word := v.setWidth 32

/-- The high half of a 64-bit quantity that stands in two registers (R4). -/
def hi32 (v : BitVec 64) : Word := (v >>> 32).setWidth 32

/-- A byte string cut or filled with zero bytes to `n` bytes. -/
def padTo (n : Nat) (bs : Bytes) : Bytes := (bs ++ List.replicate n 0#8).take n

/-- `n` bytes of `bs` from byte `off`. -/
def slice (bs : Bytes) (off n : Nat) : Bytes := (bs.drop off).take n

/-- The byte string of a text in ASCII. -/
def ascii (t : String) : Bytes := t.toList.map fun c => BitVec.ofNat 8 c.toNat

/-- A count that stops at its greatest value `top`. -/
def satInc (top v : Nat) : Nat := if v < top then v + 1 else v

/-- Element `i` of a list replaced, the list unchanged where it has no such element. -/
def setAt {α : Type} (l : List α) (i : Nat) (v : α) : List α := l.set i v

/-- Element `i` of a list changed by `f`, the list unchanged where it has no such element. -/
def modAt {α : Type} (l : List α) (i : Nat) (f : α → α) : List α := l.modify i f

/-- A list of bits as the number whose bit `i` is element `i`. -/
def bitsToNat : List Bool → Nat
  | [] => 0
  | b :: bs => (if b then 1 else 0) + 2 * bitsToNat bs

end Sys2Proof.Machine
end

