-- ==== Sys2Proof/Machine/Encode.lean ====
section
/-!
DEFINITION. Machine/Encode.lean: the two byte encodings of the attestation unit: CBOR in the core deterministic encoding of
RFC 8949 (R389), and DER for certificates (R384).
-/
namespace Sys2Proof.Machine

/-! ### CBOR -/

/-- The head of a CBOR item: its major type and its argument in the shortest form. -/
def cborHead (major n : Nat) : Bytes :=
  let ib (k : Nat) : Byte := BitVec.ofNat 8 (32 * major + k)
  if n < 24 then [ib n]
  else if n < 0x100 then ib 24 :: beBytes 1 n
  else if n < 0x10000 then ib 25 :: beBytes 2 n
  else if n < 0x100000000 then ib 26 :: beBytes 4 n
  else ib 27 :: beBytes 8 n

/-- An unsigned integer. -/
def cborUint (n : Nat) : Bytes := cborHead 0 n

/-- The negative integer −1 − n. -/
def cborNeg (n : Nat) : Bytes := cborHead 1 n

/-- A byte string. -/
def cborBytes (bs : Bytes) : Bytes := cborHead 2 bs.length ++ bs

/-- A text string in ASCII. -/
def cborText (t : String) : Bytes := cborHead 3 (ascii t).length ++ ascii t

/-- An array of encoded items. -/
def cborArray (l : List Bytes) : Bytes := cborHead 4 l.length ++ l.flatten

/-- A map of encoded values by unsigned keys, given in ascending order. -/
def cborMap (l : List (Nat × Bytes)) : Bytes := cborHead 5 l.length ++ l.flatMap fun e => cborUint e.1 ++ e.2

/-- A tagged item. -/
def cborTag (n : Nat) (item : Bytes) : Bytes := cborHead 6 n ++ item

/-- A Boolean. -/
def cborBool (b : Bool) : Bytes := [if b then 0xF5 else 0xF4]

/-- Null. -/
def cborNull : Bytes := [0xF6]

/-- An optional item: null where it is absent. -/
def cborOpt {α : Type} (f : α → Bytes) : Option α → Bytes
  | none => cborNull
  | some v => f v

/-! ### DER -/

/-- The length octets of a DER value. -/
def derLength (n : Nat) : Bytes :=
  if n < 0x80 then [BitVec.ofNat 8 n]
  else if n < 0x100 then 0x81 :: beBytes 1 n
  else if n < 0x10000 then 0x82 :: beBytes 2 n
  else 0x83 :: beBytes 3 n

/-- A DER value with its tag. -/
def der (tag : Byte) (content : Bytes) : Bytes := tag :: (derLength content.length ++ content)

/-- SEQUENCE, SET and OCTET STRING. -/
def derSeq (l : List Bytes) : Bytes := der 0x30 l.flatten
def derSet (l : List Bytes) : Bytes := der 0x31 l.flatten
def derOctets (bs : Bytes) : Bytes := der 0x04 bs

/-- The content of an INTEGER that is not negative, from its bytes: the shortest two's complement form. -/
def derNatBytes (bs : Bytes) : Bytes :=
  match bs.dropWhile fun b => b == 0 with
  | [] => [0]
  | b :: l => if b.toNat < 0x80 then b :: l else 0 :: b :: l

/-- An INTEGER that is not negative. -/
def derNat (bs : Bytes) : Bytes := der 0x02 (derNatBytes bs)

/-- A BIT STRING of whole bytes. -/
def derBits (bs : Bytes) : Bytes := der 0x03 (0 :: bs)

/-- An object identifier from its content octets. -/
def derOid (bs : Bytes) : Bytes := der 0x06 bs

/-- TRUE. -/
def derTrue : Bytes := der 0x01 [0xFF]

/-- The 96 uppercase hexadecimal characters of a digest. -/
def hexUpper (bs : Bytes) : Bytes :=
  let digit (n : Nat) : Byte := BitVec.ofNat 8 (if n < 10 then 48 + n else 55 + n)
  bs.flatMap fun b => [digit (b.toNat / 16), digit (b.toNat % 16)]

end Sys2Proof.Machine
end

