-- ==== Sys2Proof/Machine/Certificate.lean ====
section
/-!
DEFINITION. Machine/Certificate.lean: the alias certificates in DER (R384): X.509 v3 under RFC 5280, with the DICE
MultiTcbInfo extension.
-/
namespace Sys2Proof.Machine

/-- Object identifiers, as content octets. -/
def oidSerial : Bytes := [0x55, 0x04, 0x05]
def oidName : Bytes := [0x55, 0x04, 0x03]
def oidEcdsa384 : Bytes := [0x2A, 0x86, 0x48, 0xCE, 0x3D, 0x04, 0x03, 0x03]
def oidMlDsa87 : Bytes := [0x60, 0x86, 0x48, 0x01, 0x65, 0x03, 0x04, 0x03, 0x13]
def oidEcKey : Bytes := [0x2A, 0x86, 0x48, 0xCE, 0x3D, 0x02, 0x01]
def oidP384 : Bytes := [0x2B, 0x81, 0x04, 0x00, 0x22]
def oidSha3512 : Bytes := [0x60, 0x86, 0x48, 0x01, 0x65, 0x03, 0x04, 0x02, 0x0A]
def oidBasic : Bytes := [0x55, 0x1D, 0x13]
def oidUsage : Bytes := [0x55, 0x1D, 0x0F]
def oidAuthority : Bytes := [0x55, 0x1D, 0x23]
def oidSubject : Bytes := [0x55, 0x1D, 0x0E]
def oidMultiTcb : Bytes := [0x67, 0x81, 0x05, 0x05, 0x04, 0x05]

/-- What both alias certificates carry: the device ID and the alias digest, the values of MR0 to MR5, the manifest SVNs of
MR2 to MR5, and the two flags. -/
structure CertInfo where
  devid : Bytes
  aliasKeys : Bytes
  mrs : List Bytes
  svns : List Nat
  testRoot : Bool
  debugOpen : Bool
  deriving DecidableEq, Repr

/-- A distinguished name of a serialNumber and a commonName. -/
def certName (digest : Bytes) (cn : String) : Bytes :=
  let attr (oid v : Bytes) : Bytes := derSet [derSeq [derOid oid, v]]
  derSeq [attr oidSerial (der 0x13 (hexUpper digest)), attr oidName (der 0x0C (ascii cn))]

/-- OperationalFlags: bit 1 notSecure, bit 3 debug, trailing zero bits left off. -/
def certFlags (i : CertInfo) : Bytes :=
  if i.debugOpen then [0x04, if i.testRoot then 0x50 else 0x10] else if i.testRoot then [0x06, 0x40] else [0x00]

/-- One TcbInfo entry: vendor, model, svn where it has one, index, fwids, flags. -/
def tcbInfo (i : CertInfo) (n : Nat) : Bytes :=
  let svn := if n < 2 then [] else der 0x83 (derNatBytes (beBytes 2 (i.svns.getD (n - 2) 0)))
  let fwid := derSeq [derOid oidSha3512, derOctets (i.mrs.getD n [])]
  derSeq [der 0x80 (ascii "Kalfosal"), der 0x81 (ascii "ICV2-A"), svn, der 0x85 (derNatBytes [BitVec.ofNat 8 n]), der 0xA6 fwid,
    der 0x87 (certFlags i)]

/-- An extension. -/
def certExt (oid : Bytes) (critical : Bool) (v : Bytes) : Bytes :=
  derSeq ([derOid oid] ++ (if critical then [derTrue] else []) ++ [derOctets v])

/-- The extensions of R384, in its order. -/
def certExtensions (i : CertInfo) : Bytes :=
  der 0xA3 (derSeq
    [certExt oidBasic true (derSeq []), certExt oidUsage true (der 0x03 [0x07, 0x80]),
      certExt oidAuthority false (derSeq [der 0x80 (i.devid.take 20)]), certExt oidSubject false (derOctets (i.aliasKeys.take 20)),
      certExt oidMultiTcb false (derSeq ((List.range 6).map (tcbInfo i)))])

/-- The validity of R384. -/
def certValidity : Bytes := derSeq [der 0x17 (ascii "250101000000Z"), der 0x18 (ascii "99991231235959Z")]

/-- The signature algorithm of a leg. -/
def certAlg (ec : Bool) : Bytes := derSeq [derOid (if ec then oidEcdsa384 else oidMlDsa87)]

/-- The subjectPublicKeyInfo of a leg, from the PUBKEY output of slot 1. -/
def certKey (ec : Bool) (keys : Bytes) : Bytes :=
  if ec then derSeq [derSeq [derOid oidEcKey, derOid oidP384], derBits (0x04 :: keys.take 96)]
  else derSeq [certAlg false, derBits (slice keys 96 2592)]

/-- Bit 7 of byte 0 cleared. -/
def clearTop : Bytes → Bytes
  | [] => []
  | b :: l => (b &&& 0x7F) :: l

/-- The TBSCertificate of a leg. -/
def certTbs (i : CertInfo) (ec : Bool) (keys : Bytes) : Bytes :=
  let leg := if ec then "EC" else "ML-DSA-87"
  derSeq
    [der 0xA0 (derNat [2]), derNat (clearTop (slice i.aliasKeys (if ec then 0 else 16) 16)), certAlg ec,
      certName i.devid ("Icvia Device ID " ++ leg), certValidity, certName i.aliasKeys ("Icvia Alias " ++ leg), certKey ec keys,
      certExtensions i]

/-- A certificate from its TBSCertificate and its leg of the signature. -/
def certOf (ec : Bool) (tbs sig : Bytes) : Bytes :=
  let v := if ec then derSeq [derNat (sig.take 48), derNat (sig.drop 48)] else sig
  derSeq [tbs, certAlg ec, derBits v]

end Sys2Proof.Machine
end

