-- ==== Sys2Proof/Config.lean ====
section
/-!
DEFINITION. Config.lean: the values that the spec leaves to the implementation or does not fix, as constants without a
body: nothing in Lean can evaluate them, so every statement holds for every value. Each is named in the assumption log.
-/
namespace Sys2Proof.Config

/-- Byte `n` of the TRNG's output since the model started (R490). Free: the spec fixes no value.
Marks: log 7 (DESIGN CHOICE). -/
opaque trngByte : Nat → Byte

/-- The supply voltage of the OTP array in millivolts at the `n`-th look at it that no command's operand gives (R129, R141).
Free: it is the board's.
Marks: log 30 (DESIGN CHOICE). -/
opaque vqps (n : Nat) : Nat

/-- The zeroing of control SRAM has ended when the `n`-th access of the security core that asks meets it (R550). Free: the spec
gives its end no time but the release of D5.
Marks: log 42 (DESIGN CHOICE). -/
opaque zeroed (n : Nat) : Bool

/-- TR, the fixed test root of the Tinder ROM (R272). Free: the spec does not print it.
Marks: log 9 (DESIGN CHOICE). -/
opaque testRoot : BitVec 256

/-- CTExponent of the responder's CAPABILITIES (DSP0274). Free: the spec gives no time.
Marks: log 14 (DESIGN CHOICE). -/
opaque spdmCtExponent : BitVec 8

/-- Where the device ID chain of a leg stands in the NVM, by address and length, the CA's certificate first, as PLATFORM_DATA
of the boot record names it (R382). Free: the layout of PLATFORM_DATA is the licensee's (R173).
Marks: log 13 (DEDUCED). -/
opaque certPlaces (ec : Bool) (platformData : Bytes) : List (Nat × Nat)

/-- The messages that the main and the security firmware exchange on MBX1: 0 PQ_START, 1 its answer, 2 the handover request,
3 the ready notice, 4 the notice that the new firmware serves, 5 PQ_ACCEPT, 6 its answer, 7 the word that an activation leaves
MAINFW as it is (R407, R512, R513). Free: the spec gives no layout.
Marks: log 68 (DESIGN CHOICE). -/
opaque fwMessage (kind : Nat) : List Word

/-- Where the manager's main firmware keeps a worker's report in device memory (R418). Free: the firmware's own.
Marks: log 68 (DESIGN CHOICE). -/
opaque reportPlace (worker : BitVec 12) : Nat

/-- The body of a handover area written in epoch `n`: the main area (0) or the security area (1) (R514). Free: its layout is the
firmware's.
Marks: log 63 (DESIGN CHOICE). -/
opaque handoverBody (n area : Nat) : Bytes

/-- The lowest and highest ring protocol level of the main firmware (R481). Free: the firmware's own.
Marks: log 14 (DESIGN CHOICE). -/
opaque fwProtoMin : Nat

/-- The highest ring protocol level of the main firmware.
Marks: log 14 (DESIGN CHOICE). -/
opaque fwProtoMax : Nat

/-- The features that the main firmware's page sets, bits 0 to 5 (R482).
Marks: log 14 (DESIGN CHOICE). -/
opaque fwFeatures : Nat

/-- MAX_STEP of the main firmware's page.
Marks: log 14 (DESIGN CHOICE). -/
opaque fwMaxStep : Nat

/-- LIVE_PERIOD of the active page.
Marks: log 14 (DESIGN CHOICE). -/
opaque fwLivePeriod : Nat

/-- In the n-th scan since the release of D1 the fence reads the regulator's temperature too (R71). Free: the spec lists the
command and not when it is sent.
Marks: log 102 (DESIGN CHOICE). -/
opaque avsReadsTemp : Nat → Bool

/-- How many requests the control port's front end has room for (R34, R41). Free: the spec gives no figure.
Marks: log 103 (DESIGN CHOICE). -/
opaque icpDepth : Nat

/-- The SECDED check bits of a downstream beat: HEAD, CLASS and DATA from the top (R318). Free: the spec does not print the
code.
Marks: log 91 (DESIGN CHOICE). -/
opaque beatEcc : BitVec 67 → BitVec 8

/-- What CRS_STRAP holds after four sets of readings that disagree: the code, and for a fault NVM_QSPI and CWY_EN (R108). Free:
the spec gives no value there.
Marks: log 17 (DESIGN CHOICE). -/
opaque strapUnstable : List (BitVec 4) → BitVec 4

/-- NVM_QSPI and CWY_EN of a strap fault, by its code.
Marks: log 17 (DESIGN CHOICE). -/
opaque strapFaultMode : BitVec 4 → BitVec 2

/-- Every control core waits for an interrupt, at the n-th read of CRS_DOMAIN_STATUS (R102): what software on the cores
does is outside the block's state.
Marks: log 15 (DESIGN CHOICE). -/
opaque coresWaiting : Nat → Bool

/-- The n-th nonzero word of the TRNG that GEN_ROOT_HALF draws, less 1 (R139): zero words are drawn again.
Marks: log 8 (DESIGN CHOICE). -/
opaque trngNonzero : Nat → Fin (18446744073709551614 + 1)

/-- The 11-bit manufacturer identity of IDCODE, from IDENT rows 0x084 to 0x087 (R77): the spec does not say which bits.
Marks: log 18 (DESIGN CHOICE). -/
opaque jtagManufacturer : List (BitVec 64) → BitVec 11

/-- ROM_DIGEST, wired into the block (R182). Free: the spec does not print it.
Marks: log 9 (DESIGN CHOICE). -/
opaque romDigest : BitVec 512

/-- The digest of the test signer's ECDSA key (R172). Free: the spec does not print it.
Marks: log 9 (DESIGN CHOICE). -/
opaque testSignerEc : BitVec 384

/-- The digest of the test signer's ML-DSA key (R172).
Marks: log 9 (DESIGN CHOICE). -/
opaque testSignerMl : BitVec 384

/-- The bytes of a 4 KiB sector of the NVM whose n-th interrupted erase or program left it torn, by offset (R518). Free: the
spec gives none.
Marks: log 6 (DESIGN CHOICE). -/
opaque nvmTorn : Nat → Nat → Byte

end Sys2Proof.Config
end

