-- ==== Sys2Proof/Machine/Sha2.lean ====
section
/-!
DEFINITION. Machine/Sha2.lean: SHA-384 and SHA-512 (FIPS 180-4), HMAC-SHA-384 (RFC 2104), HKDF over it (RFC 5869), and
the CRC-32C that frames carry.
-/
namespace Sys2Proof.Machine

/-- The `n` words of 64 bits that a number spells, the most significant one first. -/
def wordsOf (n v : Nat) : List (BitVec 64) := (List.range n).map fun k => BitVec.ofNat 64 (v >>> (64 * (n - 1 - k)))

/-- The constants of SHA-512's rounds: the first 64 bits of the fractional parts of the cube roots of the first eighty primes,
five to a numeral. -/
def roundConstants : List (BitVec 64) :=
  List.flatMap (wordsOf 5)
    [0x428a2f98d728ae227137449123ef65cdb5c0fbcfec4d3b2fe9b5dba58189dbbc3956c25bf348b538,
      0x59f111f1b605d019923f82a4af194f9bab1c5ed5da6d8118d807aa98a303024212835b0145706fbe,
      0x243185be4ee4b28c550c7dc3d5ffb4e272be5d74f27b896f80deb1fe3b1696b19bdc06a725c71235,
      0xc19bf174cf692694e49b69c19ef14ad2efbe4786384f25e30fc19dc68b8cd5b5240ca1cc77ac9c65,
      0x2de92c6f592b02754a7484aa6ea6e4835cb0a9dcbd41fbd476f988da831153b5983e5152ee66dfab,
      0xa831c66d2db43210b00327c898fb213fbf597fc7beef0ee4c6e00bf33da88fc2d5a79147930aa725,
      0x06ca6351e003826f142929670a0e6e7027b70a8546d22ffc2e1b21385c26c9264d2c6dfc5ac42aed,
      0x53380d139d95b3df650a73548baf63de766a0abb3c77b2a881c2c92e47edaee692722c851482353b,
      0xa2bfe8a14cf10364a81a664bbc423001c24b8b70d0f89791c76c51a30654be30d192e819d6ef5218,
      0xd69906245565a910f40e35855771202a106aa07032bbd1b819a4c116b8d2d0c81e376c085141ab53,
      0x2748774cdf8eeb9934b0bcb5e19b48a8391c0cb3c5c95a634ed8aa4ae3418acb5b9cca4f7763e373,
      0x682e6ff3d6b2b8a3748f82ee5defb2fc78a5636f43172f6084c87814a1f0ab728cc702081a6439ec,
      0x90befffa23631e28a4506cebde82bde9bef9a3f7b2c67915c67178f2e372532bca273eceea26619c,
      0xd186b8c721c0c207eada7dd6cde0eb1ef57d4f7fee6ed17806f067aa72176fba0a637dc5a2c898a6,
      0x113f9804bef90dae1b710b35131c471b28db77f523047d8432caab7b40c724933c9ebe0a15c9bebc,
      0x431d67c49c100d4c4cc5d4becb3e42b6597f299cfc657e2a5fcb6fab3ad6faec6c44198c4a475817]

/-- The initial value of SHA-512, four words to a numeral. -/
def sha512Init : List (BitVec 64) :=
  List.flatMap (wordsOf 4)
    [0x6a09e667f3bcc908bb67ae8584caa73b3c6ef372fe94f82ba54ff53a5f1d36f1,
      0x510e527fade682d19b05688c2b3e6c1f1f83d9abfb41bd6b5be0cd19137e2179]

/-- The initial value of SHA-384. -/
def sha384Init : List (BitVec 64) :=
  List.flatMap (wordsOf 4)
    [0xcbbb9d5dc1059ed8629a292a367cd5079159015a3070dd17152fecd8f70e5939,
      0x67332667ffc00b318eb44a8768581511db0c2e0d64f98fa747b5481dbefa4fa4]

/-- The next `n` words of the message schedule, the last sixteen words kept newest first. -/
def sha512Sched : Nat → List (BitVec 64) → List (BitVec 64)
  | 0, _ => []
  | n + 1, w =>
    let a := w.getD 14 0
    let b := w.getD 1 0
    let s0 := a.rotateRight 1 ^^^ a.rotateRight 8 ^^^ (a >>> 7)
    let s1 := b.rotateRight 19 ^^^ b.rotateRight 61 ^^^ (b >>> 6)
    let v := w.getD 15 0 + s0 + w.getD 6 0 + s1
    v :: sha512Sched n (v :: w)

/-- One round over the eight working variables; `kw` is the round constant plus the schedule word. -/
def sha512Round (v : List (BitVec 64)) (kw : BitVec 64) : List (BitVec 64) :=
  match v with
  | [a, b, c, d, e, f, g, h] =>
    let t1 := h + (e.rotateRight 14 ^^^ e.rotateRight 18 ^^^ e.rotateRight 41) + ((e &&& f) ^^^ (~~~e &&& g)) + kw
    let t2 := (a.rotateRight 28 ^^^ a.rotateRight 34 ^^^ a.rotateRight 39) + ((a &&& b) ^^^ (a &&& c) ^^^ (b &&& c))
    [t1 + t2, a, b, c, d + t1, e, f, g]
  | _ => v

/-- The sixteen big-endian words of a 128-byte block. -/
def be64s : Nat → Bytes → List (BitVec 64)
  | 0, _ => []
  | n + 1, bs => BitVec.ofNat 64 (ofBE (bs.take 8)) :: be64s n (bs.drop 8)

/-- The compression of one block. -/
def sha512Block (h : List (BitVec 64)) (blk : Bytes) : List (BitVec 64) :=
  let w := be64s 16 blk
  let ws := w ++ sha512Sched 64 w.reverse
  List.zipWith (· + ·) h ((List.zipWith (· + ·) roundConstants ws).foldl sha512Round h)

/-- Full 128-byte blocks, at most `n`, compressed; the rest is returned. -/
def sha512Blocks : Nat → List (BitVec 64) → Bytes → List (BitVec 64) × Bytes
  | 0, h, bs => (h, bs)
  | n + 1, h, bs => if bs.length < 128 then (h, bs) else sha512Blocks n (sha512Block h (bs.take 128)) (bs.drop 128)

/-- The padding of a message of `len` bytes: 0x80, zeros, and the length in bits in 16 bytes. -/
def sha512Pad (len : Nat) : Bytes :=
  [0x80#8] ++ List.replicate ((240 - (len + 1) % 128) % 128) 0#8 ++ beBytes 16 (8 * len)

/-- The digest from an initial value. -/
def sha512From (init : List (BitVec 64)) (m : Bytes) : Bytes :=
  let p := m ++ sha512Pad m.length
  (sha512Blocks (p.length / 128) init p).1.flatMap fun w => beBytes 8 w.toNat

/-- SHA-512. -/
def sha512 (m : Bytes) : Bytes := sha512From sha512Init m

/-- SHA-384. -/
def sha384 (m : Bytes) : Bytes := (sha512From sha384Init m).take 48

/-- HMAC-SHA-384. -/
def hmac384 (key m : Bytes) : Bytes :=
  let k := padTo 128 (if key.length > 128 then sha384 key else key)
  sha384 ((k.map (· ^^^ 0x5C#8)) ++ sha384 ((k.map (· ^^^ 0x36#8)) ++ m))

/-- HKDF-Extract over HMAC-SHA-384. -/
def hkdfExtract (salt ikm : Bytes) : Bytes := hmac384 salt ikm

/-- The blocks of HKDF-Expand from counter `i`. -/
def hkdfBlocks (prk info : Bytes) : Nat → Nat → Bytes → Bytes
  | 0, _, _ => []
  | n + 1, i, t =>
    let b := hmac384 prk (t ++ info ++ [BitVec.ofNat 8 i])
    b ++ hkdfBlocks prk info n (i + 1) b

/-- HKDF-Expand over HMAC-SHA-384. -/
def hkdfExpand (prk info : Bytes) (n : Nat) : Bytes := (hkdfBlocks prk info (n / 48 + 1) 1 []).take n

/-- One bit step of the reflected CRC-32C register. -/
def crc32cBit (c : BitVec 32) : BitVec 32 := if c.getLsbD 0 then (c >>> 1) ^^^ 0x82F63B78#32 else c >>> 1

/-- One byte of CRC-32C. -/
def crc32cByte (c : BitVec 32) (b : Byte) : BitVec 32 :=
  (List.range 8).foldl (fun c _ => crc32cBit c) (c ^^^ b.setWidth 32)

/-- CRC-32C (Castagnoli) of a byte string. -/
def crc32c (m : Bytes) : BitVec 32 := ~~~ (m.foldl crc32cByte 0xFFFFFFFF#32)

end Sys2Proof.Machine
end

