-- ==== Sys2Proof/Syntax.lean ====
section
/-!
DEFINITION. Syntax.lean: the commands and events of the block, one constructor per row of spec/opcode_table.json, with
the operands each carries: the written word of a register-started command, the beat of a port, or what the host die, the
NVM device or the analogue world does in an event.
-/
namespace Sys2Proof

/-- Who makes a register access: the security core, a control core, a class of the control port (R40), or the
attestation unit over its internal path. -/
inductive Req where
  | sec
  | ctl (core : Fin 8)
  | icp (cls : BitVec 2)
  | att
  deriving DecidableEq, Repr

/-- The two command blocks of a unit: S for the security core, C for the control cluster. -/
inductive Blk where
  | s | c
  deriving DecidableEq, Repr

/-- The direction block of a mailbox: A to B, or B to A (R471). -/
inductive MbxDir where
  | ab | ba
  deriving DecidableEq, Repr

/-- The eleven reset sources of R92. -/
inductive Source where
  | por | coldN | warmN | wdtSec | wdtCtl | swCold | swWarm | lcTrans | tamper | fenceTrip | block
  deriving DecidableEq, Repr

/-- What a 64-bit row reads at MARGIN_0, NORMAL and MARGIN_1 (R117). -/
structure Row3 where
  m0 : BitVec 64 := 0
  nrm : BitVec 64 := 0
  m1 : BitVec 64 := 0
  deriving DecidableEq, Repr

/-- The arbiters that keep a quota window (R327, R360, R242, R258, R341). -/
inductive Arbiter where
  | port (n : Fin 8)
  | pke | dge | cmp

  deriving DecidableEq, Repr

/-- What a counter-cell bank meets when it reads a cell: nothing, a corrected error, an uncorrectable error, or a
residue mismatch (R348). -/
inductive CellErr where
  | none | corrected | uncorr | residue
  deriving DecidableEq, Repr

/-- What a PKE operation meets while it runs: nothing, a corrected error, a residue mismatch (R375), a failed self-check
(R372), or an uncorrectable error of working memory (R375) or of the cache entry
(R358). -/
inductive PkeFault where
  | none | corrected | residue | selfCheck | uncorr | cache
  deriving DecidableEq, Repr

/-- What SECDED finds where a memory is read (R234, R262). -/
inductive MemErr where
  | none | corrected | uncorr
  deriving DecidableEq, Repr

/-- Who issues a PKE command that the attestation unit may issue too (R361). -/
inductive PkeReq where
  | s | c | att
  deriving DecidableEq, Repr

/-- The kind of a core's access (TOP_AFAULT_INFO.KIND). -/
inductive AccKind where
  | load | store | amo | fetch
  deriving DecidableEq, Repr

/-- The space a core's access names (TOP_AFAULT_INFO.SPACE). -/
inductive AccSpace where
  | reg | csram | psram | other
  deriving DecidableEq, Repr

/-- Who claims an interrupt source (R470): a control core, in a context of the cluster interrupt controller, context `2c` for
core `c` in M-mode and `2c + 1` in S-mode; or the security core, through the vector of a source. -/
inductive Claimer where
  | cluster (ctx : Fin 16)
  | security (src : Fin 32)
  deriving DecidableEq, Repr

/-- Why the firmware finds the host driver gone (R488): MBX_HOST_RESET was written, a CAP_OFFER stayed unanswered for 2^31
CLK_A cycles, or LIVENESS stood still for longer than LIVE_PERIOD. -/
inductive GoneCause where
  | hostReset | offer | liveness
  deriving DecidableEq, Repr

/-- Why the Causeway receiver drops a frame (R497). -/
inductive FrameFault where
  | symbol | crc | length
  deriving DecidableEq, Repr

/-- The commands and events of the opcode table. -/
inductive Instr where
  /-- REGISTER_WRITE (R8). A write to a register that has no row of its own stores or clears fields according to
  its access code. -/
  | registerWrite (q : Req) (a : RegAddr) (size : Fin 3) (v : Word)
  /-- ICP_REQUEST (R42). The block accepts a control-port request beat, refuses it by address or class, or answers
  BUSY for a unit whose domain is not serving. -/
  | icpRequest (write : Bool) (a : IcpAddr) (v : Word) (src : BitVec 2) (tag : BitVec 4)
  /-- ICP_RESPONSE (R44). The block answers an accepted control-port request in order, 4 to 64 CLK_C cycles after
  accepting it. -/
  | icpResponse
  /-- MP_READ_DATA (R49). A read-data beat arrives on the memory port and is delivered to its unit, or an
  MP_RD_ERR makes the unit discard the data and complete with INTEGRITY. -/
  | mpReadData (tag : BitVec 8) (last err : Bool) (data : BitVec 512)
  /-- MP_WRITE_ACK (R48). A write acknowledgement arrives on the memory port and releases the operations that wait
  on that write, or completes them with INTEGRITY on MP_WACK_ERR. -/
  | mpWriteAck (tag : BitVec 8) (err : Bool)
  /-- TAP_BEAT (R53). A beat arrives on a tap; it is accepted into its stream or dropped, and a stream closes on
  LAST. -/
  | tapBeat (tap : Fin 16) (data : BitVec 1024) (sid : StreamId) (first last : Bool) (nbm1 : BitVec 7)
      (err : MemErr)
  /-- BEAT_INTAKE (R204). A beat that waits in the tap buffer enters a free leaf buffer, and its credit is
  returned. -/
  | beatIntake (tap : Fin 16)
  /-- LEAF_DONE (R211). A fen lane finishes a leaf and places the leaf value in its output slot, writing the chunk
  digest in chunk-digest mode. -/
  | leafDone (lane : Fin 192) (err : MemErr)
  /-- COMBINE_ABSORB (R212). A combine lane takes a queued leaf value and absorbs it into the stream context in
  leaf order. -/
  | combineAbsorb (lane : Fin 4) (err : MemErr)
  /-- STREAM_RESULT (R219). A closing stream's final node is squeezed, compared or extended, its outcome recorded
  and its result posted. -/
  | streamResult (sid : StreamId) (err : MemErr)
  /-- SME_EVENT_SEND (R216). A release token, BIND or FAIL event waiting in a stream context enters the Kiln's
  event queue once it has room. -/
  | smeEventSend
  /-- EXTENSION_APPLY (R223). The extension unit applies the next queued extension to a measurement register and
  advances its count. -/
  | extensionApply (err : MemErr)
  /-- OPEN (R197). SME OPEN binds a stream ID to its tap, lane group, partition, path and length, or is refused.
  -/
  | smeOpen (b : Blk) (w : Word)
  /-- ABORT (R199). SME ABORT moves an OPEN stream to CLOSING with outcome ABORTED. -/
  | smeAbort (b : Blk) (w : Word)
  /-- STATUS (R237). SME STATUS loads the stream's state, generation, outcome and byte count into the block's
  result registers. -/
  | smeStatus (b : Blk) (w : Word) (err : MemErr)
  /-- EXP_WRITE (R227). EXP_WRITE arms an expected-digest entry with its digest, stream, partition, job and owner.
  -/
  | expWrite (b : Blk) (w : Word) (err : MemErr)
  /-- EXP_CLEAR (R228). EXP_CLEAR disarms and zeroes an expected-digest entry that is not IN_USE. -/
  | expClear (b : Blk) (w : Word)
  /-- EXP_READ (R226). EXP_READ returns an entry's stream, partition, owner, state bits, LAST and job, never its
  digest. -/
  | expRead (b : Blk) (w : Word) (err : MemErr)
  /-- MR_EXTEND (R222). MR_EXTEND queues an extension of a measurement register that the requester may extend. -/
  | mrExtend (b : Blk) (w : Word)
  /-- MR_ASSIGN (R224). MR_ASSIGN assigns one of MR16 to MR63 to a partition, or releases it, zeroing the register
  and its count. -/
  | mrAssign (b : Blk) (w : Word)
  /-- MR_READ (R225). MR_READ copies a register's value, extension count and owner between extensions. -/
  | mrRead (b : Blk) (w : Word) (err : MemErr)
  /-- PURGE (R233). PURGE starts removing every stream, token, entry, register and salt of a partition. -/
  | smePurge (b : Blk) (w : Word)
  /-- PURGE_RESUME (R233). A running PURGE continues once the partition's CLOSING streams have closed and the Kiln
  has taken its events, then completes. -/
  | purgeResume
  /-- SME_COMMIT (R209). A write of SME_COMMIT applies the staged lane-group assignments or refuses them. -/
  | smeCommit (w : Word)
  /-- RES_POP (R220). A read of RES_POP returns and removes the oldest queued stream result of the block. -/
  | resPop (b : Blk)
  /-- DGE_ACQUIRE_REQ (R242). A write of DGE_ACQUIRE with REQ = 1 raises a context request. -/
  | dgeAcquireReq (q : Req) (w : Word)
  /-- DGE_ACQUIRE_WITHDRAW (R243). A write of DGE_ACQUIRE with REQ = 0 withdraws the pending request. -/
  | dgeAcquireWithdraw (q : Req) (w : Word)
  /-- DGE_GRANT (R242). The arbiter grants a free DGE context, advances its generation, zeroes it and records the
  holder. -/
  | dgeGrant (err : MemErr)
  /-- UPDATE (R248). UPDATE starts absorbing bytes from the window, control SRAM or device memory into a held
  context. -/
  | dgeUpdate (q : Req) (c : Fin 4) (w : Word) (err : MemErr)
  /-- FINAL (R253). FINAL pads the message and delivers the digest to READ, COMPARE or EXTEND. -/
  | dgeFinal (q : Req) (c : Fin 4) (w : Word) (err : MemErr)
  /-- ABANDON (R264). The holder's ABANDON command frees its context, including a FAULTED one. -/
  | dgeAbandon (q : Req) (c : Fin 4) (w : Word)
  /-- DGE_FORCE_ABANDON (R246). A write of DGE_ARB.ABANDON forces abandonment of a context at its next block
  boundary. -/
  | dgeForceAbandon (w : Word)
  /-- DGE_BLOCK_DONE (R240). A digest core finishes a block, completes any UPDATE or FINAL that ends there or
  stops an abandoned context, and takes the longest-waiting block. -/
  | dgeBlockDone (c : Fin 4) (err : MemErr)
  /-- COMPARE (R261). A CMP COMPARE command requests slice 4 to compare the block's two operands. -/
  | cmpCompare (b : Blk) (w : Word)
  /-- CMP_SLICE_GRANT (R258). The arbiter grants comparator slice 4 to one waiting comparison. -/
  | cmpSliceGrant
  /-- COMPARISON_DONE (R259). A comparator slice returns equal or not equal exactly 64 CLK_A cycles after the
  comparison starts. -/
  | comparisonDone (slice : Fin 5) (err : MemErr)
  /-- POR_N_FALL (R92). POR_N low acts as the POR source and resets every domain and the CRS core. -/
  | porNFall
  /-- POR_N_RISE (R90). POR_N deasserts and the root PLL starts to lock. -/
  | porNRise
  /-- D0_RESET (R38). VDD_AON and VBAT are both out of range, D0 resets, the peat store reads ZERO and POR is
  asserted. -/
  | d0Reset
  /-- PLL_LOCK (R90). Lock of the root PLL is detected, the clocks run and SELECT sampling begins. -/
  | pllLock
  /-- PLL_LOCK_TIMEOUT (R90). Lock is not detected within 256 low-speed cycles, so the PLL restarts, or the block
  stays in reset after four attempts. -/
  | pllLockTimeout
  /-- STRAP_LATCH (R108). A set of eight SELECT readings completes and its code is latched, the readings are
  repeated, or FAULT is set. -/
  | strapLatch (readings : List (BitVec 4))
  /-- COLD_N_ACT (R62). A filtered low on COLD_N acts as a COLD-class reset source. -/
  | coldNAct
  /-- WARM_N_ACT (R62). A filtered low on WARM_N acts as a WARM-class reset source. -/
  | warmNAct
  /-- SOURCE_DEASSERT (R99). A reset source deasserts, its pin rising or its assertion count ending, and release
  starts once every source is deasserted. -/
  | sourceDeassert (src : Source)
  /-- D4_RESET_ENTRY (R93). D4 enters reset when every port has acknowledged the retire revoke, or 1,024 CLK_B
  cycles after the episode began. -/
  | d4ResetEntry
  /-- DOMAIN_RELEASE (R95). An internal domain's gap elapses and the domain is released in the fixed order. -/
  | domainRelease
  /-- HOST_DOMAIN_RELEASE (R96). The next enabled host-die domain's gap elapses and its SD output is released. -/
  | hostDomainRelease
  /-- SW_WARM (R92). A keyed write of CRS_SW_RESET with KIND = 0 acts as a WARM or CONTROL reset source. -/
  | swWarm (w : Word)
  /-- SW_COLD (R92). A keyed write of CRS_SW_RESET with KIND = 1 acts as a COLD reset source. -/
  | swCold (w : Word)
  /-- BLOCK_CMD (R102). A keyed write of CRS_BLOCK_CMD sets PENDING and stops intake to the named domain. -/
  | blockCmd (w : Word)
  /-- BLOCK_SAMPLE (R102). 16 CLK_D cycles after a BLOCK command, the domain's idle condition is sampled and BLOCK
  is asserted or the command refused with BUSY. -/
  | blockSample (coresWaiting : Bool)
  /-- WDT_SEC_KICK (R103). A write of 0xA5 to CRS_WDT_SEC_KICK reloads the security core watchdog. -/
  | wdtSecKick (w : Word)
  /-- WDT_CTL_KICK (R103). A write of 0xA5 to CRS_WDT_CTL_KICK reloads the control cluster watchdog. -/
  | wdtCtlKick (q : Req) (w : Word)
  /-- WDT_CTL_ENABLE (R103). A write of CRS_WDT_CTL_CTRL that sets ENABLE from 0 to 1 reloads the counter and
  starts it. -/
  | wdtCtlEnable (w : Word)
  /-- WDT_SEC (R92). The security core watchdog reaches zero and asserts a COLD reset source. -/
  | wdtSec
  /-- WDT_CTL (R92). The control cluster watchdog reaches zero and asserts a CONTROL reset source. -/
  | wdtCtl
  /-- GO (R96). A write of CRS_SD_CTRL.GO permits the host-die release chain. -/
  | go (w : Word)
  /-- HOLD_RELEASE (R111). A write of CRS_PAD_CTRL.HOLD_RELEASE drives PAD_HOLD low. -/
  | holdRelease (w : Word)
  /-- CRS_COMMIT (R114). A write of CRS_COMMIT applies the staged gaps and enable mask, or refuses them with BUSY
  or BAD_LENGTH. -/
  | crsCommit (w : Word)
  /-- DIM_ENTER (R104). A write of CRS_DIM_CTRL.ENTER stops CLK_A to D3 and D5 if both are idle, or records BUSY.
  -/
  | dimEnter (w : Word) (coresWaiting : Bool)
  /-- DIM_EXIT (R105). A write of CRS_DIM_CTRL.EXIT ends DIM and restores clocks, taps and the operating point. -/
  | dimExit (w : Word)
  /-- OTP_STARTUP_DONE (R118). 16,384 CLK_D cycles after D1 release, the OTP start-up read completes, shadows,
  counters, margins and region usability are set, and the life-cycle state is decoded. -/
  | otpStartupDone (drift : List (Nat × Row3))
  /-- OTP_READ (R134). READ senses one row at a chosen reference into OTP_RDATA0 and OTP_RDATA1. -/
  | otpRead (w : Word)
  /-- PROGRAM (R131). PROGRAM starts ORing the write data into a row, one bit at a time. -/
  | otpProgram (w : Word) (vqps : Nat)
  /-- FINALISE (R127). FINALISE checks a region, computes its digest and starts burning the digest and the FINAL
  marker. -/
  | otpFinalise (w : Word)
  /-- OTP_ADVANCE (R136). ADVANCE starts re-pulsing marginal bits and burning a thermometer counter up to its
  target. -/
  | otpAdvance (w : Word) (vqps : Nat)
  /-- REDIRECT (R138). REDIRECT starts copying a main row to the lowest free spare row and burning its redirection
  entry. -/
  | otpRedirect (w : Word) (vqps : Nat)
  /-- GEN_ROOT_HALF (R139). GEN_ROOT_HALF starts burning a TRNG root half into rows 0x080 to 0x083 and then the
  marker. -/
  | genRootHalf (w : Word) (vqps : Nat)
  /-- OTP_PULSE_END (R130). A programming pulse ends, the bit is read at MARGIN_1 and the controller pulses again,
  moves on, samples VQPS or completes the command. -/
  | otpPulseEnd (m0 nrm m1 : Bool) (vqps : Nat)
  /-- TRANSITION (R153). TRANSITION checks the target and token and starts a life-cycle transition. -/
  | lcTransition (w : Word) (vqps : Nat)
  /-- LCS_PHASE_DONE (R153). A timed phase of a transition ends and the controller takes its next step, decodes
  the result, or raises LC_TRANS. -/
  | lcsPhaseDone (vqps : Nat)
  /-- ERASE_DONE (R156). ERASE_DONE resumes a RETURN transition at step 7 after the owner regions were erased. -/
  | eraseDone (w : Word)
  /-- OPEN_DEBUG (R161). OPEN_DEBUG destroys working keys, sets DEBUG_OPEN and raises OBS_EN, unless CONF_CLOSED
  forbids it. -/
  | openDebug (w : Word)
  /-- JTAG_INSTRUCTION (R78). An instruction shifted into the test access port selects IDCODE, BYPASS or, while
  the debug gate is open, a private register. -/
  | jtagInstruction (ir : BitVec 8)
  /-- TINDER_BOOT (R181). On D2 release the Tinder ROM reads, verifies and loads the boot record, manifest and
  parts, extends MR0 to MR5, forms the root and hands over, or fails. -/
  | tinderBoot (abort : Option (Fin 27))
  /-- BOOT_MAIN_START (R187). A write of BOOT_MAIN_START.START while STAGE is 5 starts the control cores at offset
  0. -/
  | bootMainStart (w : Word)
  /-- BOOT_LOCK_WRITE (R180). A write of BOOT_LOCK_MAIN, GATE or SENS raises the image-lock end if it grows within
  the part's range. -/
  | bootLockWrite (which : Fin 3) (w : Word)
  /-- TAMPER_INPUT (R268). An acting tamper input zeroes the peat store, sets the latch, clears the root and halts
  the Kiln within 200 ns. -/
  | tamperInput (pin : Fin 8)
  /-- KLN_TAMPER_CLEAR (R269). A keyed write clears the tamper latch and INPUTS if no tamper input is active. -/
  | klnTamperClear (w : Word) (active : BitVec 8)
  /-- FORM_ROOT (R273). FORM_ROOT selects the root, derives the device ID and alias seeds and draws the boot
  nonce. -/
  | formRoot (w : Word)
  /-- DERIVE (R286). DERIVE writes a child slot derived from a parent slot or the root. -/
  | klnDerive (w : Word) (err : MemErr)
  /-- SESSION_OPEN (R288). SESSION_OPEN takes both PKE shared secrets and writes a session slot and table entry.
  -/
  | sessionOpen (w : Word)
  /-- UNWRAP (R293). UNWRAP authenticates and unwraps a LOAD, PROVISION, SHARE or PERSIST message into a slot. -/
  | klnUnwrap (w : Word) (err : MemErr)
  /-- UNSEAL (R295). UNSEAL authenticates a DATA_IN message and writes its plaintext to private SRAM. -/
  | klnUnseal (w : Word) (err : MemErr)
  /-- SEAL (R295). SEAL builds a DATA_OUT message under the session slot and advances the outbound counter. -/
  | klnSeal (w : Word) (err : MemErr)
  /-- DESTROY (R309). DESTROY zeroes a slot and removes any session entry that uses it. -/
  | klnDestroy (w : Word) (err : MemErr)
  /-- DESTROY_PARTITION (R309). DESTROY_PARTITION destroys every slot, record and session of a partition and
  commits a group ZEROISE. -/
  | destroyPartition (w : Word)
  /-- JOB_CREATE (R298). JOB_CREATE starts a COLLECTING confluence record for a job. -/
  | jobCreate (w : Word)
  /-- JOB_DESTROY (R305). JOB_DESTROY destroys a record's share, joint and lineage slots and frees the record. -/
  | jobDestroy (w : Word)
  /-- SALT_LOAD (R310). SALT_LOAD derives a partition's salt and delivers it to the SME. -/
  | saltLoad (w : Word)
  /-- KLN_EVENT_APPLY (R301). The Kiln takes the next BIND, TOKEN or FAIL event from its queue and applies it to
  the matching record. -/
  | klnEventApply
  /-- LOAD (R336). KFB LOAD sends a slot's key to one endpoint or a group. -/
  | kfbLoad (w : Word) (err : MemErr)
  /-- ROTATE (R339). KFB ROTATE lowers the END boundary of a current key. -/
  | kfbRotate (w : Word)
  /-- ZEROISE (R324). KFB ZEROISE commits an EMBER message that erases every key at the named endpoints. -/
  | kfbZeroise (w : Word)
  /-- REVOKE (R324). KFB REVOKE commits an EMBER message that erases every key tagged with a slot and its GEN. -/
  | kfbRevoke (w : Word)
  /-- BIND (R346). KFB BIND binds an endpoint to a partition, advances its EGEN and sends BIND. -/
  | kfbBind (w : Word)
  /-- KFB_RELEASE (R346). KFB RELEASE sends a ZEROISE to an endpoint and clears PRESENT. -/
  | kfbRelease (w : Word)
  /-- KF_BEAT_SEND (R327). A key-fabric port arbiter grants one beat of a class queue and the port sends it. -/
  | kfBeatSend (port : Fin 8)
  /-- ARBITER_WINDOW (R327). A new quota window of a shared arbiter opens and masked high-priority requests become
  eligible. -/
  | arbiterWindow (arb : Arbiter)
  /-- EACK (R335). A merged EMBER acknowledgement pulse arrives and is matched to the oldest sent EMBER beat of
  the port. -/
  | eack (port : Fin 8) (age : Nat)
  /-- EMBER_LATE (R335). A revoke is unacknowledged 900 CLK_B cycles after its commit and is counted late. -/
  | emberLate (id : Nat)
  /-- EMBER_TIMEOUT (R335). A revoke is unacknowledged 4,096 CLK_B cycles after it was sent and the port becomes
  FAULTED. -/
  | emberTimeout (port : Fin 8)
  /-- ACK (R337). An upstream ACK returns a credit and completes a LOAD, ROTATE or BIND when every addressed
  endpoint has acknowledged. -/
  | kfAck (port : Fin 8) (beat : BitVec 64) (corrected : Bool)
  /-- CNT_REQ (R341). An upstream CNT_REQ queues a counter-cell range request. -/
  | kfCntReq (port : Fin 8) (beat : BitVec 64) (corrected : Bool)
  /-- NEXT_REQ (R338). An upstream NEXT_REQ queues a request for a next key in KFB_NEXT_POP. -/
  | kfNextReq (port : Fin 8) (beat : BitVec 64) (corrected : Bool)
  /-- FAULT (R325). An upstream FAULT beat reports a dropped message or uncorrectable beat at an endpoint. -/
  | kfFault (port : Fin 8) (beat : BitVec 64) (corrected : Bool)
  /-- KFB_DONE_POP (R352). A read of KFB_DONE_POP returns and removes the oldest command completion. -/
  | kfbDonePop
  /-- KFB_NEXT_POP (R338). A read of KFB_NEXT_POP returns and removes the oldest NEXT_REQ. -/
  | kfbNextPop
  /-- CNT_GRANT (R342). A counter-cell bank performs one grant operation and queues the GRANT, or refuses it. -/
  | cntGrant (bank : Fin 16) (err : CellErr)
  /-- CONFIGURE (R343). CNT CONFIGURE sets a cell's partition and enable. -/
  | cntConfigure (w : Word)
  /-- CNT_READ (R353). CNT READ returns a cell's value and state. -/
  | cntRead (w : Word)
  /-- CNT_ADVANCE (R343). CNT ADVANCE raises a cell's value to its operand if larger. -/
  | cntAdvance (w : Word)
  /-- CNT_RETIRE (R343). CNT RETIRE marks a cell EXHAUSTED. -/
  | cntRetire (w : Word)
  /-- CNT_EXH_POP (R342). A read of CNT_EXH_POP returns and removes the oldest exhausted or faulted cell. -/
  | cntExhPop
  /-- EC_VERIFY (R354). EC_VERIFY queues an ECDSA P-384 verification. -/
  | ecVerify (b : Blk) (w : Word)
  /-- MLDSA_VERIFY (R354). MLDSA_VERIFY queues an ML-DSA-87 verification. -/
  | mldsaVerify (b : Blk) (w : Word)
  /-- HYB_VERIFY (R371). HYB_VERIFY queues a hybrid verification of both legs. -/
  | hybVerify (b : Blk) (w : Word)
  /-- HYB_SIGN (R372). HYB_SIGN queues a self-checked hybrid signature with slot 0 or 1. -/
  | hybSign (b : PkeReq) (w : Word) (err : MemErr)
  /-- PUBKEY (R361). PUBKEY queues output of both public keys of slot 0 or 1. -/
  | pkePubkey (b : PkeReq) (w : Word) (err : MemErr)
  /-- ECDH_KEYGEN (R364). ECDH_KEYGEN queues an ephemeral P-384 key generation into EPH_EC. -/
  | ecdhKeygen (b : Blk) (w : Word)
  /-- ECDH_DERIVE (R364). ECDH_DERIVE queues the shared-secret computation into SS_ECDH. -/
  | ecdhDerive (b : Blk) (w : Word)
  /-- KEM_KEYGEN (R364). KEM_KEYGEN queues an ML-KEM-1024 key generation into EPH_KEM. -/
  | kemKeygen (b : Blk) (w : Word)
  /-- KEM_DECAPS (R363). KEM_DECAPS queues a decapsulation into SS_KEM. -/
  | kemDecaps (b : Blk) (w : Word)
  /-- KEM_ENCAPS (R361). KEM_ENCAPS queues an encapsulation to a given key. -/
  | kemEncaps (b : Blk) (w : Word)
  /-- EXPAND (R358). The Kiln's EXPAND fills the PKE cache entry of slot 0 or 1. -/
  | pkeExpand (slot : Fin 2)
  /-- PKE_GRANT (R360). The PKE queue arbiter grants one pending operation. -/
  | pkeGrant
  /-- PKE_OP_DONE (R367). A running PKE operation completes, writes its output or fails, and zeroes working
  memory. -/
  | pkeOpDone (fault : PkeFault)
  /-- PKE_ABANDON (R378). A write of PKE_CTRL.ABANDON stops the running operation with ABORTED. -/
  | pkeAbandon (w : Word)
  /-- PLATFORM_REPORT (R391). PLATFORM_REPORT starts assembling and signing a platform report. -/
  | platformReport (b : Blk) (w : Word)
  /-- JOB_REPORT (R392). JOB_REPORT starts assembling and signing a report on one confluence record. -/
  | jobReport (b : Blk) (w : Word)
  /-- SIGN_BIND (R404). SIGN_BIND signs a hash for a fixed purpose with the alias key. -/
  | signBind (b : Blk) (w : Word)
  /-- CERT_READ (R423). CERT_READ writes an alias certificate to the requester's memory. -/
  | certRead (b : Blk) (w : Word)
  /-- COMPOSITE (R419). COMPOSITE forms the tree over a leaf list and signs a composite report. -/
  | attComposite (b : Blk) (w : Word)
  /-- CERT_BUILD (R385). On the first cycle with STAGE 5 and a root, the attestation unit builds and signs both
  alias certificates. -/
  | certBuild
  /-- REPORT_SAMPLE (R413). A deferred report takes its sample once the firmware record is committed or HANDOVER
  clears. -/
  | reportSample (err : MemErr)
  /-- ATT_COMMIT (R412). A write of ATT_COMMIT applies the staged firmware record, advances the epoch and updates
  TOP_FW_DIGEST. -/
  | attCommit (w : Word)
  /-- HANDOVER_SET (R412). A write of ATT_CTRL.HANDOVER = 1 defers reports until the next commit. -/
  | handoverSet (w : Word)
  /-- HANDOVER_CLEAR (R412). A write of ATT_CTRL.HANDOVER = 0 discards the staged record without a commit. -/
  | handoverClear (w : Word)
  /-- MAIN_READY (R415). A write of ATT_CTRL.MAIN_READY moves side B of MBX0 to the control cluster. -/
  | mainReady (w : Word)
  /-- GET_VERSION (R400). The SPDM responder answers GET_VERSION with version 1.3. -/
  | getVersion (ss : Option Word) (r : Bytes)
  /-- GET_CAPABILITIES (R400). The SPDM responder answers GET_CAPABILITIES with its fixed flags and sizes. -/
  | getCapabilities (ss : Option Word) (r : Bytes)
  /-- NEGOTIATE_ALGORITHMS (R401). The SPDM responder selects its fixed algorithms or answers NegotiationFail. -/
  | negotiateAlgorithms (ss : Option Word) (r : Bytes)
  /-- GET_DIGESTS (R402). The SPDM responder returns the digest of the slot 0 chain. -/
  | getDigests (ss : Option Word) (r : Bytes)
  /-- GET_CERTIFICATE (R402). The SPDM responder returns part of the slot 0 certificate chain. -/
  | getCertificate (ss : Option Word) (r : Bytes)
  /-- CHALLENGE (R402). The SPDM responder answers CHALLENGE with a purpose 0 SIGN_BIND signature. -/
  | challenge (ss : Option Word) (r : Bytes)
  /-- GET_MEASUREMENTS (R403). The SPDM responder returns MR0 to MR15 from one MR_READ sample. -/
  | getMeasurements (ss : Option Word) (r : Bytes)
  /-- KEY_EXCHANGE (R405). The SPDM responder performs ECDHE in software and signs the exchange. -/
  | keyExchange (ss : Option Word) (r : Bytes)
  /-- FINISH (R402). The SPDM responder completes the session handshake. -/
  | finish (ss : Option Word) (r : Bytes)
  /-- END_SESSION (R409). END_SESSION ends an SPDM session and destroys its Kiln session slot. -/
  | endSession (ss : Option Word) (r : Bytes)
  /-- PQ_START (R407). PQ_START begins the post-quantum leg and returns a signed PQ_OFFER. -/
  | pqStart (ss : Option Word) (r : Bytes)
  /-- PQ_ACCEPT (R407). PQ_ACCEPT derives both secrets and opens the Kiln session. -/
  | pqAccept (ss : Option Word) (r : Bytes)
  /-- PQ_LEG_TIMEOUT (R408). No PQ_ACCEPT arrives within 100 ms of PQ_OFFER and the leg is given up. -/
  | pqLegTimeout
  /-- PQ_CERT (R406). PQ_CERT returns part of the ML-DSA certificate chain. -/
  | pqCert (ss : Option Word) (r : Bytes)
  /-- VDM_REPORT (R406). The vendor REPORT request produces a report for the session. -/
  | vdmReport (ss : Option Word) (r : Bytes)
  /-- GET_PAGE (R406). GET_PAGE returns part of the session's last report. -/
  | getPage (ss : Option Word) (r : Bytes)
  /-- KEY_MSG (R406). KEY_MSG passes a key-update or DATA_IN message to the security firmware and returns its
  code. -/
  | keyMsg (ss : Option Word) (r : Bytes) (out : Option Bytes)
  /-- SUPPLY_CHECK (R410). SUPPLY_CHECK answers a challenge with the HMAC under the provisioning secret. -/
  | supplyCheck (ss : Option Word) (r : Bytes)
  /-- WCP_RX_MESSAGE (R479). The WCP engine receives a message, drops it if malformed or stale, or writes its
  beats and posts a descriptor on MBX2. -/
  | wcpRxMessage (beats : List (BitVec 128))
  /-- REPORT_REQ (R418). A worker answers REPORT_REQ with its platform report in REPORT_PART messages. -/
  | reportReq
  /-- REPORT_PART (R418). The manager checks and collects a worker's report part. -/
  | reportPart
  /-- VERSION_REQ (R421). A worker answers VERSION_REQ with VERSION_INFO from its record. -/
  | versionReq
  /-- VERSION_INFO (R421). The manager takes a worker's VERSION_INFO for scheduling and compatibility. -/
  | versionInfo
  /-- CANCEL (R418). A worker receiving CANCEL drops the named request. -/
  | wcpCancel
  /-- COLLECTION_TIMEOUT (R418). The manager's wait for answers ends and missing workers count as absent. -/
  | collectionTimeout
  /-- PRT_COMMIT (R428). A write of PRT_COMMIT defines a partition, advances its generation and epoch, or refuses.
  -/
  | prtCommit (w : Word) (err : MemErr)
  /-- RELEASE (R456). RELEASE starts the change of hands of a partition: drain, revoke, destroy, purge and scrub.
  -/
  | prtRelease (w : Word) (err : MemErr)
  /-- QUARANTINE (R454). QUARANTINE sets a partition QUARANTINED and commits a group ZEROISE. -/
  | prtQuarantine (w : Word) (err : MemErr)
  /-- SCRUB_REGION (R459). SCRUB_REGION zero-fills a WINDOW or OUTBOX region of a releasing partition. -/
  | scrubRegion (w : Word) (err : MemErr)
  /-- SCRUB_DONE (R459). SCRUB_DONE lets a RELEASE at PHASE 4 free the regions and complete. -/
  | scrubDone (w : Word) (err : MemErr)
  /-- JOB_RECORD (R440). JOB_RECORD fills a job digest entry with the gate and policy digests. -/
  | jobRecord (w : Word) (err : MemErr)
  /-- JOB_FORGET (R440). JOB_FORGET frees a job digest entry. -/
  | jobForget (w : Word) (err : MemErr)
  /-- GATE_ENTER (R448). GATE_ENTER puts core 7 into gate mode for a job. -/
  | gateEnter (w : Word) (err : MemErr)
  /-- GATE_EXIT (R450). GATE_EXIT zeroes the scratch area and caches and restores core 7. -/
  | gateExit (w : Word)
  /-- SCRUB_ORPHANS (R434). SCRUB_ORPHANS scrubs and frees every ORPHAN region. -/
  | scrubOrphans (w : Word) (err : MemErr)
  /-- PRT_GATE_YIELD (R450). Core 7's write of PRT_GATE_YIELD leaves gate mode and holds the core. -/
  | gateYield (w : Word)
  /-- GATE_BUDGET_EXPIRE (R450). The gate budget counter reaches zero and core 7 leaves gate mode. -/
  | gateBudgetExpire
  /-- DRAIN_TOKEN (R83). A drain-complete token arrives and is matched to its drain request, advancing a RELEASE,
  or is dropped. -/
  | drainToken (array : BitVec 8) (part : PartId) (gen : Gen)
  /-- AST_RESPONSE (R80). An array self-test result arrives and is recorded, or dropped. -/
  | astResponse (array : BitVec 8) (result : BitVec 2)
  /-- AST_TIMEOUT (R80). A self-test request is unanswered for 16,777,216 CLK_B cycles and records fail. -/
  | astTimeout (array : BitVec 8)
  /-- ACCESS_FAULT (R468). A control core's forbidden access has no effect, takes an access exception and is
  recorded. -/
  | accessFault (core : Fin 8) (kind : AccKind) (space : AccSpace) (addr : BitVec 64) (machine uncorr : Bool)
  /-- SEC_ACCESS_FAULT (R469). A security core's forbidden or uncorrectable access has no effect, takes an
  exception and is recorded with SEC set. -/
  | secAccessFault (kind : AccKind) (space : AccSpace) (size : Fin 3) (addr : BitVec 32) (uncorr : Bool)
  /-- WRITEBACK_UNCORR (R542). An uncorrectable error in a dirty line at write-back discards it and asserts
  WDT_CTL. -/
  | writebackUncorr
  /-- SEND (R472). A write of SEND posts a mailbox message, or is refused. -/
  | mbxSend (q : Req) (m : Fin 4) (d : MbxDir) (w : Word)
  /-- POP (R472). A read of POP takes the pending message and clears FULL. -/
  | mbxPop (q : Req) (m : Fin 4) (d : MbxDir)
  /-- DB_SET (R474). A write of DB_SET sets doorbell bits of a mailbox direction. -/
  | dbSet (q : Req) (m : Fin 4) (d : MbxDir) (w : Word)
  /-- MBX_HOST_RESET (R475). A keyed write resets side A of MBX0. -/
  | mbxHostReset (w : Word)
  /-- MBX_RINGDB (R477). A write of MBX_RINGDB sets a ring's pending bit and doorbell 30. -/
  | mbxRingdb (w : Word)
  /-- CAP_ACCEPT (R483). The firmware checks the driver page and sends CAP_ACTIVE. -/
  | capAccept
  /-- RING_CREATE (R485). RING_CREATE sets up a ring pair and advances its GEN. -/
  | ringCreate (authorised : Bool)
  /-- RING_DESTROY (R478). RING_DESTROY tears down a ring pair. -/
  | ringDestroy
  /-- REPORT (R478). An MBX0 REPORT message asks for a platform report. -/
  | hostReport
  /-- NOP (R487). A NOP ring submission completes with DONE. -/
  | ringNop (ring : BitVec 6)
  /-- JOB_STEP (R487). A JOB_STEP submission schedules one step on the partition's arrays. -/
  | jobStep (ring : BitVec 6) (workers : List (BitVec 12))
  /-- STREAM_OPEN (R487). A STREAM_OPEN submission issues SME OPEN from block C. -/
  | ringStreamOpen (ring : BitVec 6)
  /-- STREAM_RESULT_OP (R487). A STREAM_RESULT submission completes when the stream is CLOSED. -/
  | ringStreamResult (ring : BitVec 6)
  /-- RING_COPY (R487). A COPY submission moves bytes through a wire endpoint of the partition. -/
  | ringCopy (ring : BitVec 6)
  /-- DRIVER_GONE (R488). The host driver is treated as gone and running rings are parked. -/
  | driverGone (why : GoneCause)
  /-- TRNG_READ (R490). A read of TOP_TRNG_DATA returns and removes the oldest word of the core's bank. -/
  | trngRead (q : Req)
  /-- TRNG_HEALTH_FAIL (R490). A TRNG health test fails, every bank empties and FAIL sets. -/
  | trngHealthFail
  /-- TRNG_RESUME (R490). 4,096 CLK_D cycles after a failure, the TRNG resumes if its start-up test passes. -/
  | trngResume (pass : Bool)
  /-- LINK_UP (R495). The Causeway receiver sees 1,024 valid K28.5 symbols and sets LINK. -/
  | linkUp
  /-- LINK_DOWN (R495). 64 violating symbols clear LINK and drop the frame in progress. -/
  | linkDown
  /-- FRAME_DROP (R497). A Causeway frame with a symbol, CRC or length fault is dropped and counted. -/
  | frameDrop (why : FrameFault)
  /-- REPEAT_FRAME (R499). A frame repeating the last accepted SEQ gets its stored answer again. -/
  | repeatFrame (frame : Bytes)
  /-- HELLO (R500). A peer HELLO opens a new service session, answered with the block's HELLO. -/
  | cwyHello (frame : Bytes)
  /-- MANIFEST (R506). A MANIFEST frame is staged, and its LAST frame triggers the manifest checks. -/
  | cwyManifest (frame : Bytes)
  /-- CHUNK (R503). A CHUNK frame's payload is written to staging. -/
  | cwyChunk (frame : Bytes)
  /-- ACTIVATE (R512). COMMIT with ACTIVATE verifies the staged parts and activates them without a restart. -/
  | cwyActivate (frame : Bytes)
  /-- NEXT_BOOT (R508). COMMIT with NEXT_BOOT verifies the staged parts and rewrites the NVM. -/
  | cwyNextBoot (frame : Bytes)
  /-- COMMIT_ADVANCE (R517). COMMIT with ADVANCE raises the SVN floors to the committed record. -/
  | commitAdvance (frame : Bytes) (vqps : Nat)
  /-- STATUS_QUERY (R498). A peer STATUS query is answered with the current phase and progress. -/
  | statusQuery (frame : Bytes)
  /-- ABORT_FRAME (R498). A peer ABORT frame ends the service session. -/
  | abortFrame (frame : Bytes)
  /-- SESSION_IDLE_TIMEOUT (R501). No frame is accepted for CWY_IDLE_LIMIT cycles and the session ends. -/
  | sessionIdleTimeout
  /-- COPY (R511). CWY COPY starts the copy engine from staging to control SRAM. -/
  | cwyCopy (w : Word)
  /-- NVM_ERASE (R516). CWY ERASE starts erasing one NVM sector. -/
  | nvmErase (w : Word)
  /-- NVM_PROGRAM (R516). CWY PROGRAM starts programming one NVM sector from staging. -/
  | nvmProgram (w : Word)
  /-- NVM_VERIFY (R518). CWY VERIFY compares one NVM sector with staging. -/
  | nvmVerify (w : Word)
  /-- CWY_ENGINE_DONE (R522). The copy or NVM engine finishes its command and records its completion code. -/
  | cwyEngineDone (ok : Bool)
  /-- SNS_REQUEST (R533). Every 8 CLK_D cycles the fence issues the next sensor-bus request of its scan. -/
  | snsRequest
  /-- SNS_RESPONSE (R68). A sensor-bus response arrives and is recorded, marked absent or dropped. -/
  | snsResponse (addr : BitVec 8) (data : BitVec 16)
  /-- SNS_TIMEOUT (R68). A sensor request is unanswered for 256 CLK_D cycles and yields an absent reading. -/
  | snsTimeout (addr : BitVec 8)
  /-- SCAN_COMPLETE (R534). At the end of a scan the fence throttles or restores the duty, or trips. -/
  | scanComplete
  /-- FENCE_TRIP_HOLD_END (R537). The hold counter ends after 1,048,576 CLK_D cycles and FENCE_TRIP deasserts. -/
  | fenceTripHoldEnd
  /-- AVS_RESPONSE (R72). An AVSBus subframe is answered and accepted, retried, or raises the AVSBus fault. -/
  | avsResponse (good alert : Bool) (data : BitVec 16)
  /-- AVS_READBACK (R530). Every 64 CLK_D cycles during a voltage raise, the fence reads VDD_CORE back and raises
  the duty once settled. -/
  | avsReadback (good : Bool) (mv : BitVec 16)
  /-- AVS_SETTLE_TIMEOUT (R530). The readback does not settle within 8,192 CLK_D cycles and the AVSBus fault is
  raised. -/
  | avsSettleTimeout
  /-- FNC_COMMIT (R527). A write of FNC_COMMIT applies the staged plan, wear steps and deltas, or refuses them. -/
  | fncCommit (w : Word)
  /-- FNC_HEALTH_POP (R543). A read of FNC_HEALTH_POP returns and removes the oldest health entry. -/
  | fncHealthPop
  /-- OTP_CHECK_DONE (R551). A timed read, margin check or digest phase of an OTP command ends, and the controller
  completes the command, refuses it or sends its first pulse. -/
  | otpCheckDone (vqps later : Nat)
  /-- DEBUG_GATE_OPEN (R161). OPEN_DEBUG finishes destroying working keys and sets DEBUG_OPEN and OBS_EN, or
  completes with DENIED_ATTR if CONF_CLOSED set meanwhile. -/
  | debugGateOpen
  /-- WCP_CREDIT (R55). A credit pulse arrives on the WCP TX channel and gives the block one more beat to send. -/
  | wcpCredit
  /-- WCP_MESSAGE_SENT (R479). The WCP engine has sent the last beat of a message posted on MBX2 and clears FULL.
  -/
  | wcpMessageSent
  /-- CAUSEWAY_FRAME_SENT (R504). The Causeway engine finishes transmitting a posted frame, stores it for repeats
  and clears FULL of MBX3. -/
  | causewayFrameSent
  /-- TRNG_REFILL (R490). The TRNG delivers a conditioned word into the next core's bank and raises its LEVEL. -/
  | trngRefill
  /-- INTERRUPT_CLAIM (R470). A core claims a source at the cluster interrupt controller, which clears the edge-
  style pending of sources 5, 6 and 25. -/
  | interruptClaim (who : Claimer)
  /-- UPSTREAM_DROP (R347). An upstream key-fabric beat that is uncorrectable, of reserved UTYPE, from another
  port or from a non-PRESENT source is dropped and counted. -/
  | upstreamDrop (port : Fin 8) (beat : BitVec 64) (uncorr : Bool)
  /-- TRST_N_ASSERT (R76). TRST_N going low asynchronously resets the test access port controller. -/
  | trstNAssert
  deriving DecidableEq, Repr

end Sys2Proof
end

