-- ==== Sys2Proof/Decode.lean ====
section
/-!
DEFINITION. Decode.lean: the register map of the 16 MiB register space (R547 and the register tables of every unit
chapter): which register an address names, and which of its bits a write stores. `decodeTableWord` is here too: no row
of the opcode table gives bits, so no word spells a command.
-/
namespace Sys2Proof

/-- The reset domain of a register: D0 to D6, or the CRS core, which only POR resets. -/
inductive Dom where
  | d0 | d1 | d2 | d3 | d4 | d5 | d6 | core
  deriving DecidableEq, Repr

/-- The unit ranges of R547. -/
inductive Unt where
  | top | crs | otp | lcs | boot | sme | dge | kst | kln | kfb | cnt | pke | att | prt | mbx | cwy | fnc | window
  deriving DecidableEq, Repr

/-- The registers, each under the spec's name in lower camel case; a register of a block, a context or a mailbox
direction once for all of them, and a row of consecutive registers once for all of them. -/
inductive Reg where
  -- CRS
  | crsStatus | crsResetCause | crsDomainStatus | crsSdStatus | crsStrap | crsSwReset | crsBlockCmd
  | crsBlockStatus | crsSdCtrl | crsSdEnable | crsPadCtrl | crsWdtSecLoad | crsWdtCtlLoad | crsWdtSecKick
  | crsWdtCtlKick | crsWdtSecCount | crsWdtCtlCount | crsWdtCtlCtrl | crsDimCtrl | crsDimStatus | crsGap
  | crsCommit
  -- OTP
  | otpStatus | otpCounters | otpKeyctr | otpCmd | otpRow | otpArg | otpWdata0 | otpWdata1 | otpRdata0 | otpRdata1
  | otpResult | otpRedirect | otpMarginal | otpMarginalSpare | otpShadowLo | otpShadowHi
  -- LCS
  | lcsStatus | lcsCmd | lcsTarget | lcsResult | lcsToken
  -- BOOT
  | bootStatus | bootResult | bootMainStart | bootWindow | bootLockMain | bootLockGate | bootLockSens
  | bootRecordDigest | bootManifestDigest
  -- SME
  | smeCmd | smeResult | smeOpStream | smeOpJob | smeOpLenLo | smeOpLenHi | smeOpChunkLo | smeOpChunkHi
  | smeOpIndex | smeOpDigest | smeResStream | smeResBytesLo | smeResBytesHi | smeResInfo | smeResPop | smeResAux
  | smeIntStatus | smeIntMask | smeResDigest | smeStatus | smeCntSfault | smeCntOverflow | smeCntCorrected
  | smeCntUncorr | smeLgCfg | smeCommit | smeLgStatus | smeExpArmed | smeSaltValid0 | smeSaltValid1 | smeMrOwner
  -- DGE
  | dgeAcquire | dgeAcqStatus | dgeArb | dgeStatus | dgeCntStale | dgeCntCorrected | dgeCntUncorr | dgeCtxCmd
  | dgeCtxResult | dgeCtxStatus | dgeCtxAux | dgeCtxSrcLo | dgeCtxSrcHi | dgeCtxLen | dgeCtxData | dgeCtxExpect
  | dgeCtxDigest
  -- CMP
  | cmpCmd | cmpResult | cmpA | cmpB
  -- KST
  | kstStatus | kstSel | kstAttr | kstInfo | kstCntIntegrity | kstCntStale | kstCntCorrected | kstValid
  -- KLN
  | klnCmd | klnResult | klnOpSlot | klnOpParent | klnOpAttr | klnOpJob | klnOpMask | klnOpAddr | klnOpDst
  | klnOpLen | klnOpSession | klnOpCtxlen | klnCtx | klnStatus | klnJobSel | klnJobStatus | klnJobProgress
  | klnCntDrop | klnCntReplay | klnCntAuth | klnIntStatus | klnIntMask | klnPeatStatus | klnTamperStatus
  | klnTamperClear
  -- KFB
  | kfbCmd | kfbResult | kfbOpSlot | kfbOpDest | kfbOpCell | kfbOpEndLo | kfbOpEndHi | kfbOpBind | kfbOpRange
  | kfbDonePop | kfbStatus | kfbPortCtrl | kfbPortStatus | kfbCntEmber | kfbCntMasked | kfbCntLate | kfbCntStale
  | kfbCntUpdrop | kfbCntCorrected | kfbCntUncorr | kfbCntEpfault | kfbEmberMax | kfbIntStatus | kfbIntMask
  | kfbNextPop | kfbEpSel | kfbEpInfo
  -- CNT
  | cntCmd | cntResult | cntOpCell | cntOpValueLo | cntOpValueHi | cntRdValueLo | cntRdValueHi | cntRdInfo
  | cntCtrl | cntStatus | cntCntGrants | cntCntDenied | cntCntResidue | cntCntCorrected | cntCntUncorr
  | cntIntStatus | cntIntMask | cntExhPop
  -- PKE
  | pkeCmd | pkeResult | pkeOpSlot | pkeOpMsg | pkeOpKey | pkeOpSig | pkeOpOut | pkeOpLen | pkeOpCtxlen
  | pkeOpDigest | pkeOpCtx | pkeStatus | pkeCtrl | pkeCntResidue | pkeCntSelfcheck | pkeCntCorrected | pkeCntUncorr
  -- ATT
  | attCmd | attResult | attOpOut | attOpList | attOpMax | attOpJob | attOpSel | attOpCount | attResLen
  | attOpNonce | attOpHash | attStatus | attCtrl | attEpoch | attSeqLo | attSeqHi | attBootId | attDevidDigest
  | attAliasDigest | attFwrecSel | attFwrecEntry | attFwrecVersion | attFwrecRelease | attFwrecDigest | attCommit
  | attCntReports | attCntDeferred | attCntRefused
  -- PRT
  | prtStatus | prtEpoch | prtCmd | prtResult | prtOp | prtOpGate | prtOpPolicy | prtStg | prtStgArrays | prtCommit
  | prtRgnSel | prtRgnCfg | prtRgnBaseLo | prtRgnBaseHi | prtRgnPages | prtRgnState | prtSel | prtInfo
  | prtInfoArrays | prtDrainPending | prtGateEp | prtScrubAddrLo | prtScrubAddrHi | prtGateBudget | prtGateStatus
  | prtGateYield | prtJobSel | prtJobInfo | prtJobGate | prtJobPolicy | prtCntTokdrop | prtCntQuar | prtCntRelease
  | prtIntStatus | prtIntMask
  -- TOP
  | topVersion | topFwDigest | topFwStage | topMpCtx | topAfaultInfo | topAfaultAddrLo | topAfaultAddrHi
  | topAfaultCnt | topTrngStatus | topTrngData
  -- MBX
  | mbxMsg | mbxSend | mbxTxStatus | mbxPop | mbxDbSet | mbxDbStatus | mbxDbMask | mbxRxCtrl | mbxHostReset
  | mbxRingdb | mbxRingpend0 | mbxRingpend1 | mbxWcpRxbase
  -- CWY
  | cwyStatus | cwyCtrl | cwySession | cwyStageLo | cwyStageHi | cwyStageLimit | cwyIdleLimit | cwyCopySrc
  | cwyCopyDst | cwyCopyLen | cwyCopyCmd | cwyNvmCmd | cwyCopyResult | cwyNvmResult | cwyNvmAddr | cwyCntCrc
  | cwyCntSymbol | cwyCntSeq | cwyCntStale | cwyRxbuf
  -- FNC
  | fncStatus | fncEffV | fncEffT | fncEffMisc | fncEffI | fncPlan | fncWearSteps | fncDeltaV | fncDeltaT
  | fncDeltaMisc | fncDeltaI | fncThrMask | fncCommit | fncHealth | fncHealthPop | fncCntThrottle | fncCntAbsent
  | fncCntAvsretry | fncCntHealthlost | fncSensorSel | fncSensorData | fncVread | fncTripStatus | fncAvailOperLo
  | fncAvailOperHi | fncAvailDownLo | fncAvailDownHi
  deriving DecidableEq, Repr

/-- Where a register stands and what a plain write of it does (R8, R9, R10). `store`: the bits a write stores;
`back`: the stored bits a read returns; `w1`: bits of access W1C or W1S; `rsv`: reserved bits; `reset`: the reset value
of the stored bits; `dom`: the domain whose reset it belongs to.
Marks: log 75 (DEDUCED). -/
structure RegRow where
  base : Nat
  blkStride : Nat := 0
  blkCount : Nat := 1
  subStride : Nat := 0
  subCount : Nat := 1
  stride : Nat := 4
  count : Nat := 1
  store : Word := 0
  back : Word := 0
  w1 : Word := 0
  rsv : Word := 0
  reset : Word := 0
  dom : Dom
  deriving DecidableEq, Repr

/-- The row of each register, from the register tables of its unit chapter.
Marks: log 75 (DEDUCED). -/
def Reg.row : Reg → RegRow
  | .crsStatus => { base := 0x010000, rsv := 0xFFFFFFE0, dom := .d1 }
  | .crsResetCause => { base := 0x010004, rsv := 0xFFFFFF00, dom := .core }
  | .crsDomainStatus => { base := 0x010008, rsv := 0xFFFFF0C0, dom := .d1 }
  | .crsSdStatus => { base := 0x01000C, rsv := 0xFF000000, dom := .d1 }
  | .crsStrap => { base := 0x010010, rsv := 0xFFFFFE00, dom := .core }
  | .crsSwReset => { base := 0x010020, store := 0xFF000003, rsv := 0xFFFFFC, dom := .d1 }
  | .crsBlockCmd => { base := 0x010024, store := 0xFF000003, rsv := 0xFFFFFC, dom := .d1 }
  | .crsBlockStatus => { base := 0x010028, rsv := 0xFFFFFE00, dom := .d1 }
  | .crsSdCtrl => { base := 0x010030, w1 := 0x1, rsv := 0xFFFFFFFE, dom := .d1 }
  | .crsSdEnable =>
    { base := 0x010034, store := 0xFFFFFF, back := 0xFFFFFF, rsv := 0xFF000000, reset := 0xFFFFFF, dom := .core }
  | .crsPadCtrl => { base := 0x010038, w1 := 0x1, rsv := 0xFFFFFFFE, dom := .d1 }
  | .crsWdtSecLoad => { base := 0x010040, store := 0xFFFFFFFF, back := 0xFFFFFFFF, reset := 0x1000000, dom := .d2 }
  | .crsWdtCtlLoad => { base := 0x010050, store := 0xFFFFFFFF, back := 0xFFFFFFFF, reset := 0x1000000, dom := .d5 }
  | .crsWdtSecKick => { base := 0x010044, store := 0xFF, rsv := 0xFFFFFF00, dom := .d2 }
  | .crsWdtCtlKick => { base := 0x010054, store := 0xFF, rsv := 0xFFFFFF00, dom := .d5 }
  | .crsWdtSecCount => { base := 0x010048, dom := .d2 }
  | .crsWdtCtlCount => { base := 0x010058, dom := .d5 }
  | .crsWdtCtlCtrl => { base := 0x01005C, store := 0x1, back := 0x1, rsv := 0xFFFFFFFE, dom := .d5 }
  | .crsDimCtrl => { base := 0x010060, w1 := 0x3, rsv := 0xFFFFFFFC, dom := .d1 }
  | .crsDimStatus => { base := 0x010064, rsv := 0xFFFF000E, dom := .d1 }
  | .crsGap =>
    { base := 0x010080, stride := 4, count := 29, store := 0x1FFF, back := 0x1FFF, rsv := 0xFFFFE000,
      reset := 0x100, dom := .core }
  | .crsCommit => { base := 0x0100FC, store := 0x1, rsv := 0xFFFF00FE, dom := .d1 }
  | .otpStatus => { base := 0x020000, rsv := 0xFF800000, dom := .d1 }
  | .otpCounters => { base := 0x020008, rsv := 0x80808080, dom := .d1 }
  | .otpKeyctr => { base := 0x02000C, rsv := 0xFFFFFE00, dom := .d1 }
  | .otpCmd => { base := 0x020010, store := 0xF, rsv := 0xFFFFFFF0, dom := .d1 }
  | .otpRow => { base := 0x020014, store := 0x7FF, back := 0x7FF, rsv := 0xFFFFF800, dom := .d1 }
  | .otpArg => { base := 0x020018, store := 0x1FF0773, back := 0x1FF0773, rsv := 0xFE00F88C, dom := .d1 }
  | .otpWdata0 => { base := 0x020020, store := 0xFFFFFFFF, back := 0xFFFFFFFF, dom := .d1 }
  | .otpWdata1 => { base := 0x020024, store := 0xFFFFFFFF, back := 0xFFFFFFFF, dom := .d1 }
  | .otpRdata0 => { base := 0x020028, dom := .d1 }
  | .otpRdata1 => { base := 0x02002C, dom := .d1 }
  | .otpResult => { base := 0x020030, rsv := 0xFFFC0000, dom := .d1 }
  | .otpRedirect => { base := 0x020034, dom := .d1 }
  | .otpMarginal => { base := 0x020100, stride := 4, count := 32, dom := .d1 }
  | .otpMarginalSpare => { base := 0x020180, dom := .d1 }
  | .otpShadowLo => { base := 0x021000, stride := 8, count := 1024, dom := .d1 }
  | .otpShadowHi => { base := 0x021004, stride := 8, count := 1024, dom := .d1 }
  | .lcsStatus => { base := 0x030000, rsv := 0xFFF80000, dom := .d1 }
  | .lcsCmd => { base := 0x030010, store := 0xF, rsv := 0xFFFFFFF0, dom := .d1 }
  | .lcsTarget => { base := 0x030014, store := 0x7, back := 0x7, rsv := 0xFFFFFFF8, dom := .d1 }
  | .lcsResult => { base := 0x030018, rsv := 0xFFC00000, dom := .core }
  | .lcsToken => { base := 0x030020, stride := 4, count := 8, store := 0xFFFFFFFF, dom := .d1 }
  | .bootStatus => { base := 0x040000, rsv := 0xFFFF0000, dom := .d2 }
  | .bootResult => { base := 0x040004, rsv := 0xFFFFE000, dom := .d2 }
  | .bootMainStart => { base := 0x040010, w1 := 0x1, rsv := 0xFFFFFFFE, dom := .d2 }
  | .bootWindow => { base := 0x040014, store := 0x1, back := 0x1, rsv := 0xFFFFFFFE, dom := .d2 }
  | .bootLockMain => { base := 0x040020, store := 0xFFF000, back := 0xFFF000, rsv := 0xFF000FFF, dom := .d2 }
  | .bootLockGate => { base := 0x040024, store := 0xFFF000, back := 0xFFF000, rsv := 0xFF000FFF, dom := .d2 }
  | .bootLockSens => { base := 0x040028, store := 0xFFF000, back := 0xFFF000, rsv := 0xFF000FFF, dom := .d2 }
  | .bootRecordDigest => { base := 0x040040, stride := 4, count := 16, dom := .d2 }
  | .bootManifestDigest => { base := 0x040080, stride := 4, count := 16, dom := .d2 }
  | .smeCmd => { base := 0x100000, blkStride := 0x100, blkCount := 2, store := 0xF, rsv := 0xFFFFFFF0, dom := .d3 }
  | .smeResult => { base := 0x100004, blkStride := 0x100, blkCount := 2, rsv := 0xFFFFFE00, dom := .d3 }
  | .smeOpStream =>
    { base := 0x100008, blkStride := 0x100, blkCount := 2, store := 0xFFFFFFF, back := 0xFFFFFFF,
      rsv := 0xF0000000, dom := .d3 }
  | .smeOpJob =>
    { base := 0x10000C, blkStride := 0x100, blkCount := 2, store := 0x3FFFFF, back := 0x3FFFFF,
      rsv := 0xFFC00000, dom := .d3 }
  | .smeOpLenLo =>
    { base := 0x100010, blkStride := 0x100, blkCount := 2, store := 0xFFFFFFFF, back := 0xFFFFFFFF, dom := .d3 }
  | .smeOpLenHi =>
    { base := 0x100014, blkStride := 0x100, blkCount := 2, store := 0xFFFF, back := 0xFFFF, rsv := 0xFFFF0000, dom := .d3 }
  | .smeOpChunkLo =>
    { base := 0x100018, blkStride := 0x100, blkCount := 2, store := 0xFFFFF000, back := 0xFFFFF000,
      rsv := 0xFFF, dom := .d3 }
  | .smeOpChunkHi =>
    { base := 0x10001C, blkStride := 0x100, blkCount := 2, store := 0xFFFFFFF, back := 0xFFFFFFF,
      rsv := 0xF0000000, dom := .d3 }
  | .smeOpIndex =>
    { base := 0x100020, blkStride := 0x100, blkCount := 2, store := 0x13FFF, back := 0x13FFF,
      rsv := 0xFFFEC000, dom := .d3 }
  | .smeOpDigest =>
    { base := 0x100040, blkStride := 0x100, blkCount := 2, stride := 4, count := 16, store := 0xFFFFFFFF,
      dom := .d3 }
  | .smeResStream => { base := 0x100080, blkStride := 0x100, blkCount := 2, dom := .d3 }
  | .smeResBytesLo => { base := 0x100084, blkStride := 0x100, blkCount := 2, dom := .d3 }
  | .smeResBytesHi => { base := 0x100088, blkStride := 0x100, blkCount := 2, dom := .d3 }
  | .smeResInfo => { base := 0x10008C, blkStride := 0x100, blkCount := 2, dom := .d3 }
  | .smeResPop => { base := 0x100090, blkStride := 0x100, blkCount := 2, rsv := 0x70000000, dom := .d3 }
  | .smeResAux => { base := 0x100094, blkStride := 0x100, blkCount := 2, dom := .d3 }
  | .smeIntStatus => { base := 0x100098, blkStride := 0x100, blkCount := 2, w1 := 0xE, rsv := 0xFFFFFFF0, dom := .d3 }
  | .smeIntMask =>
    { base := 0x10009C, blkStride := 0x100, blkCount := 2, store := 0xF, back := 0xF, rsv := 0xFFFFFFF0,
      dom := .d3 }
  | .smeResDigest => { base := 0x1000C0, blkStride := 0x100, blkCount := 2, stride := 4, count := 16, dom := .d3 }
  | .smeStatus => { base := 0x100200, rsv := 0xFFFFFE00, dom := .d3 }
  | .smeCntSfault => { base := 0x100204, dom := .d3 }
  | .smeCntOverflow => { base := 0x100208, dom := .d3 }
  | .smeCntCorrected => { base := 0x10020C, dom := .d3 }
  | .smeCntUncorr => { base := 0x100210, dom := .d3 }
  | .smeLgCfg =>
    { base := 0x100300, stride := 4, count := 16, store := 0x33F, back := 0x33F, rsv := 0xFFFFFCC0, dom := .d3 }
  | .smeCommit => { base := 0x100340, store := 0x1, rsv := 0xFFFF00FE, dom := .d3 }
  | .smeLgStatus => { base := 0x100380, stride := 4, count := 16, rsv := 0xF000FFF0, dom := .d3 }
  | .smeExpArmed => { base := 0x100400, stride := 4, count := 32, dom := .d3 }
  | .smeSaltValid0 => { base := 0x100480, dom := .d3 }
  | .smeSaltValid1 => { base := 0x100484, dom := .d3 }
  | .smeMrOwner => { base := 0x100500, stride := 4, count := 64, rsv := 0xFFFFFCC0, dom := .d2 }
  | .dgeAcquire => { base := 0x180000, store := 0x7, rsv := 0xFFFFFFF8, dom := .d3 }
  | .dgeAcqStatus => { base := 0x180004, rsv := 0xFFFFF000, dom := .d3 }
  | .dgeArb => { base := 0x180008, store := 0xF1, back := 0x1, rsv := 0xFFFFFF0E, dom := .d3 }
  | .dgeStatus => { base := 0x18000C, rsv := 0xFFFFF000, dom := .d3 }
  | .dgeCntStale => { base := 0x180010, dom := .d3 }
  | .dgeCntCorrected => { base := 0x180014, dom := .d3 }
  | .dgeCntUncorr => { base := 0x180018, dom := .d3 }
  | .dgeCtxCmd =>
    { base := 0x181000, blkStride := 0x400, blkCount := 4, store := 0xFF3FFF, rsv := 0xFF00C000, dom := .d3 }
  | .dgeCtxResult => { base := 0x181004, blkStride := 0x400, blkCount := 4, rsv := 0xFF00FE00, dom := .d3 }
  | .dgeCtxStatus => { base := 0x181008, blkStride := 0x400, blkCount := 4, rsv := 0xFFFF0000, dom := .d3 }
  | .dgeCtxAux => { base := 0x18100C, blkStride := 0x400, blkCount := 4, dom := .d3 }
  | .dgeCtxSrcLo =>
    { base := 0x181010, blkStride := 0x400, blkCount := 4, store := 0xFFFFFFFF, back := 0xFFFFFFFF, dom := .d3 }
  | .dgeCtxSrcHi =>
    { base := 0x181014, blkStride := 0x400, blkCount := 4, store := 0xFFFFFFF, back := 0xFFFFFFF,
      rsv := 0xF0000000, dom := .d3 }
  | .dgeCtxLen =>
    { base := 0x181018, blkStride := 0x400, blkCount := 4, store := 0xFFFFFFFF, back := 0xFFFFFFFF, dom := .d3 }
  | .dgeCtxData =>
    { base := 0x181100, blkStride := 0x400, blkCount := 4, stride := 4, count := 34, store := 0xFFFFFFFF,
      dom := .d3 }
  | .dgeCtxExpect =>
    { base := 0x181200, blkStride := 0x400, blkCount := 4, stride := 4, count := 16, store := 0xFFFFFFFF,
      dom := .d3 }
  | .dgeCtxDigest => { base := 0x181240, blkStride := 0x400, blkCount := 4, stride := 4, count := 16, dom := .d3 }
  | .cmpCmd => { base := 0x188000, blkStride := 0x100, blkCount := 2, store := 0x7FF, rsv := 0xFFFFF800, dom := .d3 }
  | .cmpResult => { base := 0x188004, blkStride := 0x100, blkCount := 2, rsv := 0xFFFFFE00, dom := .d3 }
  | .cmpA =>
    { base := 0x188040, blkStride := 0x100, blkCount := 2, stride := 4, count := 16, store := 0xFFFFFFFF,
      dom := .d3 }
  | .cmpB =>
    { base := 0x188080, blkStride := 0x100, blkCount := 2, stride := 4, count := 16, store := 0xFFFFFFFF,
      dom := .d3 }
  | .kstStatus => { base := 0x200000, rsv := 0xFFFE0000, dom := .d2 }
  | .kstSel => { base := 0x200004, store := 0x3FFF, back := 0x3FFF, rsv := 0xFFFFC000, dom := .d2 }
  | .kstAttr => { base := 0x200008, dom := .d2 }
  | .kstInfo => { base := 0x20000C, rsv := 0xFFFFFF00, dom := .d2 }
  | .kstCntIntegrity => { base := 0x200010, dom := .d2 }
  | .kstCntStale => { base := 0x200014, dom := .d2 }
  | .kstCntCorrected => { base := 0x200018, dom := .d2 }
  | .kstValid => { base := 0x201000, stride := 4, count := 512, dom := .d2 }
  | .klnCmd => { base := 0x280000, store := 0xF, rsv := 0xFFFFFFF0, dom := .d2 }
  | .klnResult => { base := 0x280004, rsv := 0xFFFFFE00, dom := .d2 }
  | .klnOpSlot => { base := 0x280008, store := 0xFF3FFF, back := 0xFF3FFF, rsv := 0xFF00C000, dom := .d2 }
  | .klnOpParent => { base := 0x28000C, store := 0x80FF3FFF, back := 0x80FF3FFF, rsv := 0x7F00C000, dom := .d2 }
  | .klnOpAttr => { base := 0x280010, store := 0x1FFFFFF, back := 0x1FFFFFF, rsv := 0xFE000000, dom := .d2 }
  | .klnOpJob => { base := 0x280014, store := 0x3FFFFF, back := 0x3FFFFF, rsv := 0xFFC00000, dom := .d2 }
  | .klnOpMask => { base := 0x280018, store := 0xFFFF, back := 0xFFFF, rsv := 0xFFFF0000, dom := .d2 }
  | .klnOpAddr => { base := 0x28001C, store := 0x3FFFF, back := 0x3FFFF, rsv := 0xFFFC0000, dom := .d2 }
  | .klnOpDst => { base := 0x280020, store := 0x3FFFF, back := 0x3FFFF, rsv := 0xFFFC0000, dom := .d2 }
  | .klnOpLen => { base := 0x280024, store := 0x1FFF, back := 0x1FFF, rsv := 0xFFFFE000, dom := .d2 }
  | .klnOpSession => { base := 0x280028, store := 0xFFFFFFFF, back := 0xFFFFFFFF, dom := .d2 }
  | .klnOpCtxlen => { base := 0x28002C, store := 0x7F, back := 0x7F, rsv := 0xFFFFFF80, dom := .d2 }
  | .klnCtx => { base := 0x280040, stride := 4, count := 16, store := 0xFFFFFFFF, dom := .d2 }
  | .klnStatus => { base := 0x280080, rsv := 0xFC000000, dom := .d2 }
  | .klnJobSel => { base := 0x280084, store := 0x3F, back := 0x3F, rsv := 0xFFFFFFC0, dom := .d2 }
  | .klnJobStatus => { base := 0x280088, rsv := 0xFE00, dom := .d2 }
  | .klnJobProgress => { base := 0x28008C, rsv := 0xF8000000, dom := .d2 }
  | .klnCntDrop => { base := 0x280090, dom := .d2 }
  | .klnCntReplay => { base := 0x280094, dom := .d2 }
  | .klnCntAuth => { base := 0x280098, dom := .d2 }
  | .klnIntStatus => { base := 0x28009C, w1 := 0xF, rsv := 0xFFFFFFF0, dom := .d2 }
  | .klnIntMask => { base := 0x2800A0, store := 0xF, back := 0xF, rsv := 0xFFFFFFF0, dom := .d2 }
  | .klnPeatStatus => { base := 0x2800C0, rsv := 0xFFFC0000, dom := .d0 }
  | .klnTamperStatus => { base := 0x2800C4, rsv := 0xFE000000, dom := .d0 }
  | .klnTamperClear => { base := 0x2800C8, store := 0xFF000000, rsv := 0xFFFFFF, dom := .d2 }
  | .kfbCmd => { base := 0x300000, store := 0xF, rsv := 0xFFFFFFF0, dom := .d4 }
  | .kfbResult => { base := 0x300004, rsv := 0xFFFFE000, dom := .d4 }
  | .kfbOpSlot => { base := 0x300008, store := 0xFF3FFF, back := 0xFF3FFF, rsv := 0xFF00C000, dom := .d4 }
  | .kfbOpDest => { base := 0x30000C, store := 0xFF0F3FFF, back := 0xFF0F3FFF, rsv := 0xF0C000, dom := .d4 }
  | .kfbOpCell => { base := 0x300010, store := 0xFFFF, back := 0xFFFF, rsv := 0xFFFF0000, dom := .d4 }
  | .kfbOpEndLo => { base := 0x300014, store := 0xFFFFFFFF, back := 0xFFFFFFFF, dom := .d4 }
  | .kfbOpEndHi => { base := 0x300018, store := 0xFF, back := 0xFF, rsv := 0xFFFFFF00, dom := .d4 }
  | .kfbOpBind => { base := 0x30001C, store := 0x7F, back := 0x7F, rsv := 0xFFFFFF80, dom := .d4 }
  | .kfbOpRange => { base := 0x300020, store := 0xFFFFFFFF, back := 0xFFFFFFFF, dom := .d4 }
  | .kfbDonePop => { base := 0x300024, rsv := 0x7FFF00E0, dom := .d4 }
  | .kfbStatus => { base := 0x300100, rsv := 0xFFC000FE, dom := .d4 }
  | .kfbPortCtrl =>
    { base := 0x300140, stride := 4, count := 8, store := 0x1, back := 0x1, rsv := 0xFFFFFFFE, dom := .d4 }
  | .kfbPortStatus => { base := 0x300160, stride := 4, count := 8, rsv := 0xFFFF8000, dom := .d4 }
  | .kfbCntEmber => { base := 0x300180, dom := .d4 }
  | .kfbCntMasked => { base := 0x300184, dom := .d4 }
  | .kfbCntLate => { base := 0x300188, dom := .d4 }
  | .kfbCntStale => { base := 0x30018C, dom := .d4 }
  | .kfbCntUpdrop => { base := 0x300190, dom := .d4 }
  | .kfbCntCorrected => { base := 0x300194, dom := .d4 }
  | .kfbCntUncorr => { base := 0x300198, dom := .d4 }
  | .kfbCntEpfault => { base := 0x30019C, dom := .d4 }
  | .kfbEmberMax => { base := 0x3001A0, rsv := 0xFFFF0000, dom := .d4 }
  | .kfbIntStatus => { base := 0x3001C0, w1 := 0xF, rsv := 0xFFFFFFF0, dom := .d4 }
  | .kfbIntMask => { base := 0x3001C4, store := 0xF, back := 0xF, rsv := 0xFFFFFFF0, dom := .d4 }
  | .kfbNextPop => { base := 0x3001C8, rsv := 0x7F000000, dom := .d4 }
  | .kfbEpSel => { base := 0x300200, store := 0xFFF, back := 0xFFF, rsv := 0xFFFFF000, dom := .d4 }
  | .kfbEpInfo => { base := 0x300204, dom := .d4 }
  | .cntCmd => { base := 0x380000, store := 0xF, rsv := 0xFFFFFFF0, dom := .d4 }
  | .cntResult => { base := 0x380004, rsv := 0xFFFFFE00, dom := .d4 }
  | .cntOpCell => { base := 0x380008, store := 0x13FFFFF, back := 0x13FFFFF, rsv := 0xFEC00000, dom := .d4 }
  | .cntOpValueLo => { base := 0x38000C, store := 0xFFFFFFFF, back := 0xFFFFFFFF, dom := .d4 }
  | .cntOpValueHi => { base := 0x380010, store := 0xFFFFFFFF, back := 0xFFFFFFFF, dom := .d4 }
  | .cntRdValueLo => { base := 0x380014, dom := .d4 }
  | .cntRdValueHi => { base := 0x380018, dom := .d4 }
  | .cntRdInfo => { base := 0x38001C, rsv := 0xFFFFFE00, dom := .d4 }
  | .cntCtrl => { base := 0x380040, store := 0x1, back := 0x1, rsv := 0xFFFFFFFE, dom := .d4 }
  | .cntStatus => { base := 0x380044, rsv := 0xFFFE, dom := .d4 }
  | .cntCntGrants => { base := 0x380080, dom := .d4 }
  | .cntCntDenied => { base := 0x380084, dom := .d4 }
  | .cntCntResidue => { base := 0x380088, dom := .d4 }
  | .cntCntCorrected => { base := 0x38008C, dom := .d4 }
  | .cntCntUncorr => { base := 0x380090, dom := .d4 }
  | .cntIntStatus => { base := 0x3800C0, w1 := 0x3, rsv := 0xFFFFFFFC, dom := .d4 }
  | .cntIntMask => { base := 0x3800C4, store := 0x3, back := 0x3, rsv := 0xFFFFFFFC, dom := .d4 }
  | .cntExhPop => { base := 0x3800C8, rsv := 0x7FFF0000, dom := .d4 }
  | .pkeCmd => { base := 0x400000, blkStride := 0x100, blkCount := 2, store := 0x1F, rsv := 0xFFFFFFE0, dom := .d2 }
  | .pkeResult => { base := 0x400004, blkStride := 0x100, blkCount := 2, rsv := 0xFFFFFE00, dom := .d2 }
  | .pkeOpSlot =>
    { base := 0x400008, blkStride := 0x100, blkCount := 2, store := 0xFF3FFF, back := 0xFF3FFF,
      rsv := 0xFF00C000, dom := .d2 }
  | .pkeOpMsg =>
    { base := 0x40000C, blkStride := 0x100, blkCount := 2, store := 0xFFFFFF, back := 0xFFFFFF,
      rsv := 0xFF000000, dom := .d2 }
  | .pkeOpKey =>
    { base := 0x400010, blkStride := 0x100, blkCount := 2, store := 0xFFFFFF, back := 0xFFFFFF,
      rsv := 0xFF000000, dom := .d2 }
  | .pkeOpSig =>
    { base := 0x400014, blkStride := 0x100, blkCount := 2, store := 0xFFFFFF, back := 0xFFFFFF,
      rsv := 0xFF000000, dom := .d2 }
  | .pkeOpOut =>
    { base := 0x400018, blkStride := 0x100, blkCount := 2, store := 0xFFFFFF, back := 0xFFFFFF,
      rsv := 0xFF000000, dom := .d2 }
  | .pkeOpLen =>
    { base := 0x40001C, blkStride := 0x100, blkCount := 2, store := 0x1FFFFF, back := 0x1FFFFF,
      rsv := 0xFFE00000, dom := .d2 }
  | .pkeOpCtxlen =>
    { base := 0x400020, blkStride := 0x100, blkCount := 2, store := 0x7F, back := 0x7F, rsv := 0xFFFFFF80,
      dom := .d2 }
  | .pkeOpDigest =>
    { base := 0x400040, blkStride := 0x100, blkCount := 2, stride := 4, count := 12, store := 0xFFFFFFFF,
      dom := .d2 }
  | .pkeOpCtx =>
    { base := 0x400080, blkStride := 0x100, blkCount := 2, stride := 4, count := 16, store := 0xFFFFFFFF,
      dom := .d2 }
  | .pkeStatus => { base := 0x400200, rsv := 0xFFFF8000, dom := .d2 }
  | .pkeCtrl => { base := 0x400204, store := 0x1, back := 0x1, w1 := 0x2, rsv := 0xFFFFFFFC, dom := .d2 }
  | .pkeCntResidue => { base := 0x400208, dom := .d2 }
  | .pkeCntSelfcheck => { base := 0x40020C, dom := .d2 }
  | .pkeCntCorrected => { base := 0x400210, dom := .d2 }
  | .pkeCntUncorr => { base := 0x400214, dom := .d2 }
  | .attCmd => { base := 0x480000, blkStride := 0x100, blkCount := 2, store := 0xF, rsv := 0xFFFFFFF0, dom := .d2 }
  | .attResult => { base := 0x480004, blkStride := 0x100, blkCount := 2, rsv := 0xFFFFFC00, dom := .d2 }
  | .attOpOut =>
    { base := 0x480008, blkStride := 0x100, blkCount := 2, store := 0xFFFFFF, back := 0xFFFFFF,
      rsv := 0xFF000000, dom := .d2 }
  | .attOpList =>
    { base := 0x480018, blkStride := 0x100, blkCount := 2, store := 0xFFFFFF, back := 0xFFFFFF,
      rsv := 0xFF000000, dom := .d2 }
  | .attOpMax =>
    { base := 0x48000C, blkStride := 0x100, blkCount := 2, store := 0x3FFFF, back := 0x3FFFF,
      rsv := 0xFFFC0000, dom := .d2 }
  | .attOpJob =>
    { base := 0x480010, blkStride := 0x100, blkCount := 2, store := 0x3FFFFF, back := 0x3FFFFF,
      rsv := 0xFFC00000, dom := .d2 }
  | .attOpSel =>
    { base := 0x480014, blkStride := 0x100, blkCount := 2, store := 0x7, back := 0x7, rsv := 0xFFFFFFF8,
      dom := .d2 }
  | .attOpCount =>
    { base := 0x48001C, blkStride := 0x100, blkCount := 2, store := 0x1FFFFF, back := 0x1FFFFF,
      rsv := 0xFFE00000, dom := .d2 }
  | .attResLen => { base := 0x480020, blkStride := 0x100, blkCount := 2, rsv := 0xFFFC0000, dom := .d2 }
  | .attOpNonce =>
    { base := 0x480040, blkStride := 0x100, blkCount := 2, stride := 4, count := 8, store := 0xFFFFFFFF,
      dom := .d2 }
  | .attOpHash =>
    { base := 0x480060, blkStride := 0x100, blkCount := 2, stride := 4, count := 12, store := 0xFFFFFFFF,
      dom := .d2 }
  | .attStatus => { base := 0x480200, rsv := 0xFFFFFF80, dom := .d2 }
  | .attCtrl => { base := 0x480204, store := 0x1, back := 0x1, w1 := 0x2, rsv := 0xFFFFFFFC, dom := .d2 }
  | .attEpoch => { base := 0x480208, dom := .d2 }
  | .attSeqLo => { base := 0x48020C, dom := .d2 }
  | .attSeqHi => { base := 0x480210, dom := .d2 }
  | .attBootId => { base := 0x480220, stride := 4, count := 8, dom := .d2 }
  | .attDevidDigest => { base := 0x480240, stride := 4, count := 12, dom := .d2 }
  | .attAliasDigest => { base := 0x480280, stride := 4, count := 12, dom := .d2 }
  | .attFwrecSel => { base := 0x480300, store := 0xF, back := 0xF, rsv := 0xFFFFFFF0, dom := .d2 }
  | .attFwrecEntry => { base := 0x480304, store := 0x1FFFF, back := 0x1FFFF, rsv := 0xFFFE0000, dom := .d2 }
  | .attFwrecVersion => { base := 0x480308, store := 0xFFFFFFFF, back := 0xFFFFFFFF, dom := .d2 }
  | .attFwrecRelease => { base := 0x48030C, store := 0xFFFFFFFF, back := 0xFFFFFFFF, dom := .d2 }
  | .attFwrecDigest =>
    { base := 0x480340, stride := 4, count := 16, store := 0xFFFFFFFF, back := 0xFFFFFFFF, dom := .d2 }
  | .attCommit => { base := 0x4803C0, store := 0x1, rsv := 0xFFFF00FE, dom := .d2 }
  | .attCntReports => { base := 0x480400, dom := .d2 }
  | .attCntDeferred => { base := 0x480404, dom := .d2 }
  | .attCntRefused => { base := 0x480408, dom := .d2 }
  | .prtStatus => { base := 0x500000, rsv := 0xFFFFFC00, dom := .d2 }
  | .prtEpoch => { base := 0x500004, dom := .d2 }
  | .prtCmd => { base := 0x500010, store := 0xF, rsv := 0xFFFFFFF0, dom := .d2 }
  | .prtResult => { base := 0x500014, rsv := 0xFFFFFE00, dom := .d2 }
  | .prtOp => { base := 0x500018, store := 0xFFFF3F3F, back := 0xFFFF3F3F, rsv := 0xC0C0, dom := .d2 }
  | .prtOpGate => { base := 0x500040, stride := 4, count := 16, store := 0xFFFFFFFF, dom := .d2 }
  | .prtOpPolicy => { base := 0x500080, stride := 4, count := 16, store := 0xFFFFFFFF, dom := .d2 }
  | .prtStg => { base := 0x5000C0, store := 0x33F, back := 0x33F, rsv := 0xFFFFFCC0, dom := .d2 }
  | .prtStgArrays =>
    { base := 0x5000D0, stride := 4, count := 8, store := 0xFFFFFFFF, back := 0xFFFFFFFF, dom := .d2 }
  | .prtCommit => { base := 0x5000FC, store := 0x1, rsv := 0xFFFF00FE, dom := .d2 }
  | .prtRgnSel => { base := 0x500100, store := 0x3F, back := 0x3F, rsv := 0xFFFFFFC0, dom := .d2 }
  | .prtRgnCfg => { base := 0x500104, store := 0x33F, back := 0x33F, rsv := 0xFFFFFCC0, dom := .d2 }
  | .prtRgnBaseLo => { base := 0x500108, store := 0xFFFFF000, back := 0xFFFFF000, rsv := 0xFFF, dom := .d2 }
  | .prtRgnBaseHi => { base := 0x50010C, store := 0xFFFFFFFF, back := 0xFFFFFFFF, dom := .d2 }
  | .prtRgnPages => { base := 0x500110, store := 0xFFFFFFFF, back := 0xFFFFFFFF, dom := .d2 }
  | .prtRgnState => { base := 0x500114, rsv := 0xFFFFFC00, dom := .d2 }
  | .prtSel => { base := 0x500180, store := 0x3F, back := 0x3F, rsv := 0xFFFFFFC0, dom := .d2 }
  | .prtInfo => { base := 0x500184, rsv := 0xFFFF0000, dom := .d2 }
  | .prtInfoArrays => { base := 0x5001A0, stride := 4, count := 8, dom := .d2 }
  | .prtDrainPending => { base := 0x5001C0, stride := 4, count := 8, dom := .d2 }
  | .prtGateEp =>
    { base := 0x500200, store := 0xFFFFFF, back := 0xFFFFFF, w1 := 0x80000000, rsv := 0x7F000000, dom := .d2 }
  | .prtScrubAddrLo => { base := 0x500204, store := 0xFFFFFFFF, back := 0xFFFFFFFF, dom := .d2 }
  | .prtScrubAddrHi => { base := 0x500208, store := 0xFFFFFFFF, back := 0xFFFFFFFF, dom := .d2 }
  | .prtGateBudget => { base := 0x50020C, store := 0xFFFFFFFF, back := 0xFFFFFFFF, reset := 0x10000000, dom := .d2 }
  | .prtGateStatus => { base := 0x500210, rsv := 0xFFFE0000, dom := .d2 }
  | .prtGateYield => { base := 0x500214, w1 := 0x1, rsv := 0xFFFFFFFE, dom := .d2 }
  | .prtJobSel => { base := 0x500280, store := 0x3F, back := 0x3F, rsv := 0xFFFFFFC0, dom := .d2 }
  | .prtJobInfo => { base := 0x500284, rsv := 0xFF80, dom := .d2 }
  | .prtJobGate => { base := 0x5002C0, stride := 4, count := 16, dom := .d2 }
  | .prtJobPolicy => { base := 0x500300, stride := 4, count := 16, dom := .d2 }
  | .prtCntTokdrop => { base := 0x500380, dom := .d2 }
  | .prtCntQuar => { base := 0x500384, dom := .d2 }
  | .prtCntRelease => { base := 0x500388, dom := .d2 }
  | .prtIntStatus => { base := 0x5003C0, w1 := 0x1F, rsv := 0xFFFFFFE0, dom := .d2 }
  | .prtIntMask => { base := 0x5003C4, store := 0x1F, back := 0x1F, rsv := 0xFFFFFFE0, dom := .d2 }
  | .topVersion => { base := 0x000000, dom := .d1 }
  | .topFwDigest => { base := 0x000040, stride := 4, count := 16, dom := .d1 }
  | .topFwStage => { base := 0x000080, stride := 4, count := 16, store := 0xFFFFFFFF, dom := .d1 }
  | .topMpCtx => { base := 0x000100, store := 0xFFF, back := 0xFFF, rsv := 0xFFFFF000, reset := 0xFFF, dom := .d1 }
  | .topAfaultInfo => { base := 0x000110, w1 := 0x1, rsv := 0xFFFFFC00, dom := .d1 }
  | .topAfaultAddrLo => { base := 0x000114, dom := .d1 }
  | .topAfaultAddrHi => { base := 0x000118, dom := .d1 }
  | .topAfaultCnt => { base := 0x00011C, dom := .d1 }
  | .topTrngStatus => { base := 0x000120, rsv := 0xFFC0, dom := .d1 }
  | .topTrngData => { base := 0x000124, dom := .d1 }
  | .mbxMsg =>
    { base := 0x600000, blkStride := 0x1000, blkCount := 4, subStride := 0x100, subCount := 2, stride := 4,
      count := 16, store := 0xFFFFFFFF, back := 0xFFFFFFFF, dom := .d6 }
  | .mbxSend =>
    { base := 0x600040, blkStride := 0x1000, blkCount := 4, subStride := 0x100, subCount := 2, store := 0x1F,
      rsv := 0xFFFFFFE0, dom := .d6 }
  | .mbxTxStatus =>
    { base := 0x600044, blkStride := 0x1000, blkCount := 4, subStride := 0x100, subCount := 2, w1 := 0x2,
      rsv := 0xFF000080, dom := .d6 }
  | .mbxPop =>
    { base := 0x600048, blkStride := 0x1000, blkCount := 4, subStride := 0x100, subCount := 2,
      rsv := 0x7FFF00E0, dom := .d6 }
  | .mbxDbSet =>
    { base := 0x60004C, blkStride := 0x1000, blkCount := 4, subStride := 0x100, subCount := 2,
      w1 := 0x7FFFFFFF, rsv := 0x80000000, dom := .d6 }
  | .mbxDbStatus =>
    { base := 0x600050, blkStride := 0x1000, blkCount := 4, subStride := 0x100, subCount := 2,
      w1 := 0xFFFFFFFF, dom := .d6 }
  | .mbxDbMask =>
    { base := 0x600054, blkStride := 0x1000, blkCount := 4, subStride := 0x100, subCount := 2,
      store := 0xFFFFFFFF, back := 0xFFFFFFFF, dom := .d6 }
  | .mbxRxCtrl =>
    { base := 0x600058, blkStride := 0x1000, blkCount := 4, subStride := 0x100, subCount := 2, store := 0x1,
      back := 0x1, rsv := 0xFFFFFFFE, dom := .d6 }
  | .mbxHostReset => { base := 0x600200, store := 0xFF000000, rsv := 0xFFFFFF, dom := .d6 }
  | .mbxRingdb => { base := 0x600204, store := 0x3F, rsv := 0xFFFFFFC0, dom := .d6 }
  | .mbxRingpend0 => { base := 0x600208, w1 := 0xFFFFFFFF, dom := .d6 }
  | .mbxRingpend1 => { base := 0x60020C, w1 := 0xFFFFFFFF, dom := .d6 }
  | .mbxWcpRxbase => { base := 0x602200, store := 0xFFF000, back := 0xFFF000, rsv := 0xFF000FFF, dom := .d6 }
  | .cwyStatus => { base := 0x680000, rsv := 0xFFFFFC00, dom := .d6 }
  | .cwyCtrl => { base := 0x680004, store := 0xFF7F, back := 0xFF7F, rsv := 0xFFFF0080, dom := .d6 }
  | .cwySession => { base := 0x680008, dom := .d6 }
  | .cwyStageLo => { base := 0x680010, store := 0xFFFFF000, back := 0xFFFFF000, rsv := 0xFFF, dom := .d6 }
  | .cwyStageHi =>
    { base := 0x680014, store := 0x8FFFFFFF, back := 0x8FFFFFFF, rsv := 0x70000000, reset := 0xFFF0000, dom := .d6 }
  | .cwyStageLimit => { base := 0x680018, store := 0xFFFFFFFF, back := 0xFFFFFFFF, dom := .d6 }
  | .cwyIdleLimit => { base := 0x68001C, store := 0xFFFFFFFF, back := 0xFFFFFFFF, reset := 0x861C4680, dom := .d6 }
  | .cwyCopySrc => { base := 0x680020, store := 0xFFFFFFFF, back := 0xFFFFFFFF, dom := .d6 }
  | .cwyCopyDst => { base := 0x680024, store := 0xFFFFFF, back := 0xFFFFFF, rsv := 0xFF000000, dom := .d6 }
  | .cwyCopyLen => { base := 0x680028, store := 0xFFFFFFFF, back := 0xFFFFFFFF, dom := .d6 }
  | .cwyCopyCmd => { base := 0x68002C, store := 0xF, rsv := 0xFFFFFFF0, dom := .d6 }
  | .cwyNvmCmd => { base := 0x680044, store := 0xF, rsv := 0xFFFFFFF0, dom := .d6 }
  | .cwyCopyResult => { base := 0x680030, rsv := 0xFFFFFE00, dom := .d6 }
  | .cwyNvmResult => { base := 0x680048, rsv := 0xFFFFFE00, dom := .d6 }
  | .cwyNvmAddr => { base := 0x680040, store := 0xFFFFF000, back := 0xFFFFF000, rsv := 0xFFF, dom := .d6 }
  | .cwyCntCrc => { base := 0x680080, dom := .d6 }
  | .cwyCntSymbol => { base := 0x680084, dom := .d6 }
  | .cwyCntSeq => { base := 0x680088, dom := .d6 }
  | .cwyCntStale => { base := 0x68008C, dom := .d6 }
  | .cwyRxbuf => { base := 0x681000, stride := 4, count := 1024, dom := .d6 }
  | .fncStatus => { base := 0x700000, rsv := 0xFF000000, dom := .d1 }
  | .fncEffV => { base := 0x700004, dom := .d1 }
  | .fncEffT => { base := 0x700008, rsv := 0xFF000000, dom := .d1 }
  | .fncEffMisc => { base := 0x70000C, rsv := 0xFE000000, dom := .d1 }
  | .fncEffI => { base := 0x700010, dom := .d1 }
  | .fncPlan => { base := 0x700020, store := 0x3FFFFF, back := 0x3FFFFF, rsv := 0xFFC00000, dom := .d1 }
  | .fncWearSteps => { base := 0x700024, store := 0xFF, back := 0xFF, rsv := 0xFFFFFF00, dom := .d1 }
  | .fncDeltaV => { base := 0x700030, store := 0xFFFFFFFF, back := 0xFFFFFFFF, dom := .d1 }
  | .fncDeltaT => { base := 0x700034, store := 0xFFFFFF, back := 0xFFFFFF, rsv := 0xFF000000, dom := .d1 }
  | .fncDeltaMisc => { base := 0x700038, store := 0x1FFFFFF, back := 0x1FFFFFF, rsv := 0xFE000000, dom := .d1 }
  | .fncDeltaI => { base := 0x70003C, store := 0xFFFF, back := 0xFFFF, rsv := 0xFFFF0000, dom := .d1 }
  | .fncThrMask =>
    { base := 0x700040, store := 0xFFFFFF, back := 0xFFFFFF, w1 := 0x80000000, rsv := 0x7F000000,
      reset := 0xFFFFF0, dom := .d1 }
  | .fncCommit => { base := 0x7000FC, store := 0x1, rsv := 0xFFFF00FE, dom := .d1 }
  | .fncHealth => { base := 0x700100, w1 := 0x3FF, rsv := 0xFFFFFC00, dom := .d1 }
  | .fncHealthPop => { base := 0x700104, rsv := 0x7FF80000, dom := .d1 }
  | .fncCntThrottle => { base := 0x700110, dom := .d1 }
  | .fncCntAbsent => { base := 0x700114, dom := .d1 }
  | .fncCntAvsretry => { base := 0x700118, dom := .d1 }
  | .fncCntHealthlost => { base := 0x70011C, dom := .d1 }
  | .fncSensorSel => { base := 0x700120, store := 0xFF, back := 0xFF, rsv := 0xFFFFFF00, dom := .d1 }
  | .fncSensorData => { base := 0x700124, rsv := 0xFFFF0000, dom := .d1 }
  | .fncVread => { base := 0x700128, dom := .d1 }
  | .fncTripStatus => { base := 0x700200, rsv := 0xFFF00008, dom := .core }
  | .fncAvailOperLo => { base := 0x700208, dom := .core }
  | .fncAvailOperHi => { base := 0x70020C, dom := .core }
  | .fncAvailDownLo => { base := 0x700210, dom := .core }
  | .fncAvailDownHi => { base := 0x700214, dom := .core }

/-- The registers of CRS. -/
def regsCrs : List Reg := [
  .crsStatus, .crsResetCause, .crsDomainStatus, .crsSdStatus, .crsStrap, .crsSwReset, .crsBlockCmd,
  .crsBlockStatus, .crsSdCtrl, .crsSdEnable, .crsPadCtrl, .crsWdtSecLoad, .crsWdtCtlLoad, .crsWdtSecKick,
  .crsWdtCtlKick, .crsWdtSecCount, .crsWdtCtlCount, .crsWdtCtlCtrl, .crsDimCtrl, .crsDimStatus, .crsGap, .crsCommit]

/-- The registers of OTP. -/
def regsOtp : List Reg := [
  .otpStatus, .otpCounters, .otpKeyctr, .otpCmd, .otpRow, .otpArg, .otpWdata0, .otpWdata1, .otpRdata0, .otpRdata1,
  .otpResult, .otpRedirect, .otpMarginal, .otpMarginalSpare, .otpShadowLo, .otpShadowHi]

/-- The registers of LCS. -/
def regsLcs : List Reg := [
  .lcsStatus, .lcsCmd, .lcsTarget, .lcsResult, .lcsToken]

/-- The registers of BOOT. -/
def regsBoot : List Reg := [
  .bootStatus, .bootResult, .bootMainStart, .bootWindow, .bootLockMain, .bootLockGate, .bootLockSens,
  .bootRecordDigest, .bootManifestDigest]

/-- The registers of SME. -/
def regsSme : List Reg := [
  .smeCmd, .smeResult, .smeOpStream, .smeOpJob, .smeOpLenLo, .smeOpLenHi, .smeOpChunkLo, .smeOpChunkHi,
  .smeOpIndex, .smeOpDigest, .smeResStream, .smeResBytesLo, .smeResBytesHi, .smeResInfo, .smeResPop, .smeResAux,
  .smeIntStatus, .smeIntMask, .smeResDigest, .smeStatus, .smeCntSfault, .smeCntOverflow, .smeCntCorrected,
  .smeCntUncorr, .smeLgCfg, .smeCommit, .smeLgStatus, .smeExpArmed, .smeSaltValid0, .smeSaltValid1, .smeMrOwner]

/-- The registers of DGE. -/
def regsDge : List Reg := [
  .dgeAcquire, .dgeAcqStatus, .dgeArb, .dgeStatus, .dgeCntStale, .dgeCntCorrected, .dgeCntUncorr, .dgeCtxCmd,
  .dgeCtxResult, .dgeCtxStatus, .dgeCtxAux, .dgeCtxSrcLo, .dgeCtxSrcHi, .dgeCtxLen, .dgeCtxData, .dgeCtxExpect,
  .dgeCtxDigest]

/-- The registers of CMP. -/
def regsCmp : List Reg := [
  .cmpCmd, .cmpResult, .cmpA, .cmpB]

/-- The registers of KST. -/
def regsKst : List Reg := [
  .kstStatus, .kstSel, .kstAttr, .kstInfo, .kstCntIntegrity, .kstCntStale, .kstCntCorrected, .kstValid]

/-- The registers of KLN. -/
def regsKln : List Reg := [
  .klnCmd, .klnResult, .klnOpSlot, .klnOpParent, .klnOpAttr, .klnOpJob, .klnOpMask, .klnOpAddr, .klnOpDst,
  .klnOpLen, .klnOpSession, .klnOpCtxlen, .klnCtx, .klnStatus, .klnJobSel, .klnJobStatus, .klnJobProgress,
  .klnCntDrop, .klnCntReplay, .klnCntAuth, .klnIntStatus, .klnIntMask, .klnPeatStatus, .klnTamperStatus,
  .klnTamperClear]

/-- The registers of KFB. -/
def regsKfb : List Reg := [
  .kfbCmd, .kfbResult, .kfbOpSlot, .kfbOpDest, .kfbOpCell, .kfbOpEndLo, .kfbOpEndHi, .kfbOpBind, .kfbOpRange,
  .kfbDonePop, .kfbStatus, .kfbPortCtrl, .kfbPortStatus, .kfbCntEmber, .kfbCntMasked, .kfbCntLate, .kfbCntStale,
  .kfbCntUpdrop, .kfbCntCorrected, .kfbCntUncorr, .kfbCntEpfault, .kfbEmberMax, .kfbIntStatus, .kfbIntMask,
  .kfbNextPop, .kfbEpSel, .kfbEpInfo]

/-- The registers of CNT. -/
def regsCnt : List Reg := [
  .cntCmd, .cntResult, .cntOpCell, .cntOpValueLo, .cntOpValueHi, .cntRdValueLo, .cntRdValueHi, .cntRdInfo,
  .cntCtrl, .cntStatus, .cntCntGrants, .cntCntDenied, .cntCntResidue, .cntCntCorrected, .cntCntUncorr,
  .cntIntStatus, .cntIntMask, .cntExhPop]

/-- The registers of PKE. -/
def regsPke : List Reg := [
  .pkeCmd, .pkeResult, .pkeOpSlot, .pkeOpMsg, .pkeOpKey, .pkeOpSig, .pkeOpOut, .pkeOpLen, .pkeOpCtxlen,
  .pkeOpDigest, .pkeOpCtx, .pkeStatus, .pkeCtrl, .pkeCntResidue, .pkeCntSelfcheck, .pkeCntCorrected, .pkeCntUncorr]

/-- The registers of ATT. -/
def regsAtt : List Reg := [
  .attCmd, .attResult, .attOpOut, .attOpList, .attOpMax, .attOpJob, .attOpSel, .attOpCount, .attResLen,
  .attOpNonce, .attOpHash, .attStatus, .attCtrl, .attEpoch, .attSeqLo, .attSeqHi, .attBootId, .attDevidDigest,
  .attAliasDigest, .attFwrecSel, .attFwrecEntry, .attFwrecVersion, .attFwrecRelease, .attFwrecDigest, .attCommit,
  .attCntReports, .attCntDeferred, .attCntRefused]

/-- The registers of PRT. -/
def regsPrt : List Reg := [
  .prtStatus, .prtEpoch, .prtCmd, .prtResult, .prtOp, .prtOpGate, .prtOpPolicy, .prtStg, .prtStgArrays, .prtCommit,
  .prtRgnSel, .prtRgnCfg, .prtRgnBaseLo, .prtRgnBaseHi, .prtRgnPages, .prtRgnState, .prtSel, .prtInfo,
  .prtInfoArrays, .prtDrainPending, .prtGateEp, .prtScrubAddrLo, .prtScrubAddrHi, .prtGateBudget, .prtGateStatus,
  .prtGateYield, .prtJobSel, .prtJobInfo, .prtJobGate, .prtJobPolicy, .prtCntTokdrop, .prtCntQuar, .prtCntRelease,
  .prtIntStatus, .prtIntMask]

/-- The registers of TOP. -/
def regsTop : List Reg := [
  .topVersion, .topFwDigest, .topFwStage, .topMpCtx, .topAfaultInfo, .topAfaultAddrLo, .topAfaultAddrHi,
  .topAfaultCnt, .topTrngStatus, .topTrngData]

/-- The registers of MBX. -/
def regsMbx : List Reg := [
  .mbxMsg, .mbxSend, .mbxTxStatus, .mbxPop, .mbxDbSet, .mbxDbStatus, .mbxDbMask, .mbxRxCtrl, .mbxHostReset,
  .mbxRingdb, .mbxRingpend0, .mbxRingpend1, .mbxWcpRxbase]

/-- The registers of CWY. -/
def regsCwy : List Reg := [
  .cwyStatus, .cwyCtrl, .cwySession, .cwyStageLo, .cwyStageHi, .cwyStageLimit, .cwyIdleLimit, .cwyCopySrc,
  .cwyCopyDst, .cwyCopyLen, .cwyCopyCmd, .cwyNvmCmd, .cwyCopyResult, .cwyNvmResult, .cwyNvmAddr, .cwyCntCrc,
  .cwyCntSymbol, .cwyCntSeq, .cwyCntStale, .cwyRxbuf]

/-- The registers of FNC. -/
def regsFnc : List Reg := [
  .fncStatus, .fncEffV, .fncEffT, .fncEffMisc, .fncEffI, .fncPlan, .fncWearSteps, .fncDeltaV, .fncDeltaT,
  .fncDeltaMisc, .fncDeltaI, .fncThrMask, .fncCommit, .fncHealth, .fncHealthPop, .fncCntThrottle, .fncCntAbsent,
  .fncCntAvsretry, .fncCntHealthlost, .fncSensorSel, .fncSensorData, .fncVread, .fncTripStatus, .fncAvailOperLo,
  .fncAvailOperHi, .fncAvailDownLo, .fncAvailDownHi]

/-- Every register of the block. -/
def allRegs : List Reg :=
  regsCrs ++ regsOtp ++ regsLcs ++ regsBoot ++ regsSme ++ regsDge ++ regsCmp ++ regsKst ++ regsKln ++
  regsKfb ++ regsCnt ++ regsPke ++ regsAtt ++ regsPrt ++ regsTop ++ regsMbx ++ regsCwy ++ regsFnc

/-- The number of copies of a register: blocks, contexts or mailbox directions. -/
def RegRow.copies (r : RegRow) : Nat := r.blkCount * r.subCount

/-- The byte address of element `k` of copy `b` of a register. -/
def RegRow.addr (r : RegRow) (b k : Nat) : Nat :=
  r.base + r.blkStride * (b / r.subCount) + r.subStride * (b % r.subCount) + r.stride * k

/-- The copy and the element that byte address `a` names, if it names one of this row's registers. -/
def RegRow.locate (r : RegRow) (a : Nat) : Option (Nat × Nat) :=
  if a < r.base then none
  else
    let o := a - r.base
    let m := if r.blkCount = 1 then 0 else o / r.blkStride
    let o1 := o - m * r.blkStride
    let d := if r.subCount = 1 then 0 else o1 / r.subStride
    let o2 := o1 - d * r.subStride
    let k := o2 / r.stride
    if m < r.blkCount ∧ d < r.subCount ∧ k < r.count ∧ o2 % r.stride = 0 then some (m * r.subCount + d, k) else none

/-- A register with the copy and the element an address names. -/
structure RegAt where
  reg : Reg
  blk : Nat := 0
  ix : Nat := 0
  deriving DecidableEq, Repr

/-- The register that byte address `a` names; none where no register occupies it (R7). -/
def decodeReg (a : Nat) : Option RegAt :=
  allRegs.findSome? fun r => (r.row.locate a).map fun bk => ⟨r, bk.1, bk.2⟩

/-- The byte address of a register. -/
def RegAt.addr (p : RegAt) : Nat := p.reg.row.addr p.blk p.ix

/-- The unit whose range holds byte address `a` (R547). -/
def decodeUnit (a : Nat) : Unt :=
  if a < 0x010000 then .top
  else if a < 0x020000 then .crs
  else if a < 0x030000 then .otp
  else if a < 0x040000 then .lcs
  else if a < 0x100000 then .boot
  else if a < 0x180000 then .sme
  else if a < 0x200000 then .dge
  else if a < 0x280000 then .kst
  else if a < 0x300000 then .kln
  else if a < 0x380000 then .kfb
  else if a < 0x400000 then .cnt
  else if a < 0x480000 then .pke
  else if a < 0x500000 then .att
  else if a < 0x600000 then .prt
  else if a < 0x680000 then .mbx
  else if a < 0x700000 then .cwy
  else if a < 0x800000 then .fnc
  else .window

/-- The first domain that R547 names for a unit: the domain of an offset that no register occupies (R7, R43). -/
def Unt.dom : Unt → Dom
  | .top | .crs | .otp | .lcs | .fnc => .d1
  | .boot | .kst | .kln | .pke | .att | .prt => .d2
  | .sme | .dge => .d3
  | .kfb | .cnt => .d4
  | .window => .d5
  | .mbx | .cwy => .d6

/-- No row of the opcode table gives bits: no word spells a command. -/
def decodeTableWord (_nbits _w : Nat) : Option Instr := none

end Sys2Proof
end

