-- ==== Sys2Proof/Machine/Keccak.lean ====
section
/-!
DEFINITION. Machine/Keccak.lean: KECCAK-f[1600] and the functions of FIPS 202 and SP 800-185 that the spec names:
SHA3-256, SHA3-384, SHA3-512, SHAKE128, SHAKE256, cSHAKE256, KMAC256 and ParallelHash256.
-/
namespace Sys2Proof.Machine

/-- A 64-bit lane. -/
abbrev Lane := BitVec 64

/-- The state of KECCAK-f[1600]: 25 lanes, lane (x, y) at index x + 5 y. -/
abbrev Sponge := List (BitVec 64)

/-- The zeroed sponge. -/
def Sponge.zero : Sponge := List.replicate 25 0

/-- Lane (x, y), coordinates taken modulo 5. -/
def Sponge.lane (a : Sponge) (x y : Nat) : Lane := a.getD (x % 5 + 5 * (y % 5)) 0

/-- A sponge given lane by lane. -/
def Sponge.ofFn (f : Nat → Nat → Lane) : Sponge := (List.range 25).map fun i => f (i % 5) (i / 5)

/-- Step θ. -/
def keccakTheta (a : Sponge) : Sponge :=
  let c := (List.range 5).map fun x => a.lane x 0 ^^^ a.lane x 1 ^^^ a.lane x 2 ^^^ a.lane x 3 ^^^ a.lane x 4
  let d := (List.range 5).map fun x => c.getD ((x + 4) % 5) 0 ^^^ (c.getD ((x + 1) % 5) 0).rotateLeft 1
  Sponge.ofFn fun x y => a.lane x y ^^^ d.getD x 0

/-- The walk of step ρ: the lane reached after `n` steps from (1, 0), each from (x, y) to (y, 2x + 3y) modulo 5. -/
def rhoWalk : Nat → Nat × Nat
  | 0 => (1, 0)
  | n + 1 => ((rhoWalk n).2, (2 * (rhoWalk n).1 + 3 * (rhoWalk n).2) % 5)

/-- The rotation of each lane in step ρ, at index x + 5 y: lane (0, 0) stays, and the lane that the walk reaches after `n`
steps turns by the triangular number of n + 1. -/
def keccakRho : List Nat :=
  (List.range 24).foldl (fun l n => l.set ((rhoWalk n).1 + 5 * (rhoWalk n).2) ((n + 1) * (n + 2) / 2 % 64))
    (List.replicate 25 0)

/-- Steps ρ and π: lane (y, 2x + 3y) of the result is lane (x, y) rotated. -/
def keccakRhoPi (a : Sponge) : Sponge :=
  Sponge.ofFn fun u v =>
    let x := (u + 3 * v) % 5
    let y := u
    (a.lane x y).rotateLeft (keccakRho.getD (x + 5 * y) 0)

/-- Step χ. -/
def keccakChi (a : Sponge) : Sponge :=
  Sponge.ofFn fun x y => a.lane x y ^^^ (~~~ (a.lane (x + 1) y) &&& a.lane (x + 2) y)

/-- The bits of the shift register of step ι (FIPS 202, algorithm 5): `n` of them, from register content `r`. -/
def iotaBits : Nat → BitVec 8 → List Bool
  | 0, _ => []
  | n + 1, r => r.getLsbD 0 :: iotaBits n (if r.msb then (r <<< 1) ^^^ 0x71#8 else r <<< 1)

/-- A round constant of step ι from seven bits of the register: bit `j` of them stands at place 2^j - 1. -/
def iotaWord (bits : List Bool) : Lane :=
  (List.range 7).foldl (fun w j => w ||| ((if bits.getD j false then 1#64 else 0#64) <<< (2 ^ j - 1))) 0

/-- The round constants of step ι. -/
def keccakRC : List Lane :=
  let bits := iotaBits 168 1
  (List.range 24).map fun i => iotaWord (bits.drop (7 * i))

/-- One round. -/
def keccakRound (a : Sponge) (rc : Lane) : Sponge :=
  match keccakChi (keccakRhoPi (keccakTheta a)) with
  | [] => []
  | l :: ls => (l ^^^ rc) :: ls

/-- KECCAK-f[1600]. -/
def keccakF (a : Sponge) : Sponge := keccakRC.foldl keccakRound a

/-- The lanes of a byte string, the last one filled with zero bytes. -/
def lanesOf : Nat → Bytes → List Lane
  | 0, _ => []
  | n + 1, bs => BitVec.ofNat 64 (ofLE (bs.take 8)) :: lanesOf n (bs.drop 8)

/-- A block of at most 200 bytes XORed into the sponge. -/
def Sponge.xorBlock (a : Sponge) (blk : Bytes) : Sponge := List.zipWith (· ^^^ ·) a (lanesOf 25 blk)

/-- One block absorbed. -/
def Sponge.absorbBlock (a : Sponge) (blk : Bytes) : Sponge := keccakF (a.xorBlock blk)

/-- The first `n` bytes of the sponge. -/
def Sponge.out (a : Sponge) (n : Nat) : Bytes := (a.flatMap fun l => leBytes 8 l.toNat).take n

/-- A sponge in the course of absorbing: the state, and the bytes of a block not yet full. -/
structure Absorb where
  st : Sponge := Sponge.zero
  part : Bytes := []
  deriving DecidableEq, Repr

/-- Full blocks of `rate` bytes absorbed, at most `n` of them; the rest is kept. -/
def absorbBlocks (rate : Nat) : Nat → Sponge → Bytes → Absorb
  | 0, a, bs => ⟨a, bs⟩
  | n + 1, a, bs =>
    if bs.length < rate then ⟨a, bs⟩ else absorbBlocks rate n (a.absorbBlock (bs.take rate)) (bs.drop rate)

/-- Bytes absorbed at `rate`. -/
def Absorb.add (rate : Nat) (h : Absorb) (bs : Bytes) : Absorb :=
  let all := h.part ++ bs
  absorbBlocks rate (all.length / rate) h.st all

/-- The last block of a message: domain suffix `suffix`, then the pad10*1 rule. -/
def Absorb.lastBlock (rate : Nat) (suffix : Byte) (h : Absorb) : Bytes :=
  let m := h.part ++ [suffix] ++ List.replicate (rate - h.part.length - 1) 0#8
  m.set (rate - 1) ((m.getD (rate - 1) 0) ||| 0x80#8)

/-- `n` bytes squeezed from a padded sponge, `blocks` output blocks at most. -/
def squeeze (rate : Nat) : Nat → Sponge → Nat → Bytes
  | 0, _, _ => []
  | b + 1, a, n => if n ≤ rate then a.out n else a.out rate ++ squeeze rate b (keccakF a) (n - rate)

/-- The padded message's digest of `n` bytes. -/
def Absorb.finish (rate : Nat) (suffix : Byte) (n : Nat) (h : Absorb) : Bytes :=
  squeeze rate (n / rate + 1) (h.st.absorbBlock (h.lastBlock rate suffix)) n

/-- SHA3-256 (FIPS 202). -/
def sha3_256 (m : Bytes) : Bytes := (({} : Absorb).add 136 m).finish 136 0x06 32

/-- SHA3-384 (FIPS 202). -/
def sha3_384 (m : Bytes) : Bytes := (({} : Absorb).add 104 m).finish 104 0x06 48

/-- SHA3-512 (FIPS 202). -/
def sha3_512 (m : Bytes) : Bytes := (({} : Absorb).add 72 m).finish 72 0x06 64

/-- SHAKE256 (FIPS 202), `n` bytes. -/
def shake256 (m : Bytes) (n : Nat) : Bytes := (({} : Absorb).add 136 m).finish 136 0x1F n

/-- The bytes of a number without leading zero bytes, most significant first; one zero byte for 0. -/
def minBE (v : Nat) : Bytes :=
  let bs := (beBytes 8 v).dropWhile (· == 0#8)
  if bs.isEmpty then [0#8] else bs

/-- left_encode of SP 800-185. -/
def leftEncode (v : Nat) : Bytes := BitVec.ofNat 8 (minBE v).length :: minBE v

/-- right_encode of SP 800-185. -/
def rightEncode (v : Nat) : Bytes := minBE v ++ [BitVec.ofNat 8 (minBE v).length]

/-- encode_string of SP 800-185. -/
def encodeString (bs : Bytes) : Bytes := leftEncode (8 * bs.length) ++ bs

/-- bytepad of SP 800-185. -/
def bytepad (w : Nat) (bs : Bytes) : Bytes :=
  let m := leftEncode w ++ bs
  m ++ List.replicate ((w - m.length % w) % w) 0#8

/-- The sponge of cSHAKE256 after its prefix. -/
def cshakeStart (fn cust : Bytes) : Absorb :=
  ({} : Absorb).add 136 (bytepad 136 (encodeString fn ++ encodeString cust))

/-- cSHAKE256 with function name and customisation, not both empty. -/
def cshake256 (m : Bytes) (n : Nat) (fn cust : Bytes) : Bytes := ((cshakeStart fn cust).add 136 m).finish 136 0x04 n

/-- KMAC256.
Marks: log 9 (DESIGN CHOICE). -/
def kmac256 (key m : Bytes) (n : Nat) (cust : Bytes) : Bytes :=
  cshake256 (bytepad 136 (encodeString key) ++ m ++ rightEncode (8 * n)) n (ascii "KMAC") cust

/-- The leaves of a message, `b` bytes each, the last one shorter. -/
def leavesOf (b : Nat) : Nat → Bytes → List Bytes
  | 0, _ => []
  | n + 1, m => if m.isEmpty then [] else m.take b :: leavesOf b n (m.drop b)

/-- ParallelHash256 with leaves of `b` bytes, `n` bytes of output.
Marks: log 9 (DESIGN CHOICE). -/
def parallelHash256 (m : Bytes) (b n : Nat) (cust : Bytes) : Bytes :=
  let ls := leavesOf b (m.length / b + 1) m
  cshake256 (leftEncode b ++ ls.flatMap (fun l => shake256 l 64) ++ rightEncode ls.length ++ rightEncode (8 * n)) n
    (ascii "ParallelHash") cust

end Sys2Proof.Machine
end

