-- ==== Sys2Proof/Machine/Sparse.lean ====
section
/-!
DEFINITION. Machine/Sparse.lean: a large array held as the list of the entries that differ from a fixed value, in ONE
canonical form: keys strictly rising, no entry equal to what an unlisted key reads as. Memories are the instance with
bytes (`Host.Cell` is a pair of an address and a byte).
-/
namespace Sys2Proof.Machine

/-- Entries by key. -/
abbrev Sparse (α : Type) := List (Nat × α)

/-- What key `k` holds; `d` where nothing is listed. -/
def Sparse.get {α : Type} (d : α) : Sparse α → Nat → α
  | [], _ => d
  | (j, v) :: m, k => if j = k then v else if k < j then d else Sparse.get d m k

/-- The entries of `m` with key `k` put to `v`, in canonical form. -/
def Sparse.put {α : Type} [DecidableEq α] (d : α) : Sparse α → Nat → α → Sparse α
  | [], k, v => if v = d then [] else [(k, v)]
  | (j, w) :: m, k, v =>
    if j = k then (if v = d then m else (k, v) :: m)
    else if k < j then (if v = d then (j, w) :: m else (k, v) :: (j, w) :: m)
    else (j, w) :: Sparse.put d m k v

/-- The entries of `m` whose key and value satisfy `p`; the others read as the default again. -/
def Sparse.keep {α : Type} (p : Nat → α → Bool) (m : Sparse α) : Sparse α := m.filter fun e => p e.1 e.2

/-- Every listed entry changed by `f`, entries that become the default dropped. -/
def Sparse.mapAll {α : Type} [DecidableEq α] (d : α) (f : Nat → α → α) (m : Sparse α) : Sparse α :=
  (m.map fun e => (e.1, f e.1 e.2)).filter fun e => e.2 != d

/-- The entries put one after another. -/
def Sparse.putMany {α : Type} [DecidableEq α] (d : α) (m : Sparse α) (l : List (Nat × α)) : Sparse α :=
  l.foldl (fun m e => Sparse.put d m e.1 e.2) m

/-- Every key of `m` lies above `k`, or `m` is empty, and keys rise. -/
def Sparse.rising {α : Type} : Sparse α → Bool
  | [] => true
  | [_] => true
  | (j, _) :: (k, v) :: m => decide (j < k) && Sparse.rising ((k, v) :: m)

/-- The canonical form: keys strictly rise, and no entry equals the value of an unlisted key. -/
def Sparse.wf {α : Type} [DecidableEq α] (d : α) (m : Sparse α) : Bool :=
  Sparse.rising m && m.all fun e => e.2 != d

/-- `n` bytes of a memory from address `a`; an unlisted byte reads `d`. -/
def Sparse.bytes (d : Byte) (m : Sparse Byte) (a n : Nat) : Bytes :=
  (List.range n).map fun i => Sparse.get d m (a + i)

/-- Bytes written to consecutive addresses of a memory. -/
def Sparse.putBytes (d : Byte) : Sparse Byte → Nat → Bytes → Sparse Byte
  | m, _, [] => m
  | m, a, b :: bs => Sparse.putBytes d (Sparse.put d m a b) (a + 1) bs

end Sys2Proof.Machine
end

