-- ==== Sys2Proof/Machine/State.lean ====
section
/-!
DEFINITION. Machine/State.lean: the state of the block as plain data. One structure per unit holds what the hardware of
that unit keeps; the registers that software writes and the hardware only reads stand in `State.regs`, by address.
Large arrays are sparse lists in canonical form (Machine/Sparse.lean).
-/
namespace Sys2Proof.Machine

/-- Why the block stops: nothing in the spec stops it, so there is no reason.
Marks: log 40 (DESIGN CHOICE). -/
inductive Fault where
  deriving DecidableEq, Repr

/-- Why the model gives a command no meaning. -/
inductive Refusal where
  /-- The command has no meaning yet. Raised by exec only. Safe. -/
  | notModelled (mnemonic : String)
  deriving DecidableEq, Repr

/-- The completion codes of R13. -/
inductive Code where
  | done | busy | deniedLc | deniedAttr | badLength | notEqual | supplyWindow | aborted | incomplete | replay
  | badSignature | noResource | integrity | version | lengthFault | staleGen
  deriving DecidableEq, Repr

/-- The number of a completion code (R13). -/
def Code.num : Code → Nat
  | .done => 0x0
  | .busy => 0x1
  | .deniedLc => 0x2
  | .deniedAttr => 0x3
  | .badLength => 0x4
  | .notEqual => 0x5
  | .supplyWindow => 0x6
  | .aborted => 0x7
  | .incomplete => 0x8
  | .replay => 0x9
  | .badSignature => 0xA
  | .noResource => 0xB
  | .integrity => 0xC
  | .version => 0xD
  | .lengthFault => 0xE
  | .staleGen => 0xF

/-- The completion code as registers show it. -/
def Code.byte (c : Code) : BitVec 8 := BitVec.ofNat 8 c.num

/-! ### Memory port (R45 to R49) -/

/-- The unit that waits for a memory-port request: a scrub descriptor or a zero fill of a region (R456, R459), a chunk
digest write (R231), a device-memory read of a digest context (R248), the copy engine and the NVM engine of field update
(R511, R516), the staging write of a Causeway frame (R503), the transfer that the cores' firmware has under way (`core`)
and what the main firmware looks up of the host's structures (`look`, R467). `void`: a reset has come since, and nobody
waits. -/
inductive MpOwner where
  | scrub (region : Nat)
  | fill (region : Nat)
  | chunk (sid : StreamId) (gen : Gen)
  | dge (c : Nat) (gen : Gen)
  | copy
  | nvm
  | stage
  | core
  | look
  | void
  deriving DecidableEq, Repr

/-- An outstanding request: its tag, the beats that a read still owes, the data of its beats so far, and whether one of
them carried an error. -/
structure MpReq where
  tag : BitVec 8
  write : Bool
  left : Nat
  data : Bytes := []
  err : Bool := false
  owner : MpOwner
  deriving DecidableEq, Repr

/-! ### Clocks, resets and the strap (03_clocks_reset_straps.md) -/

/-- A reset episode (R91 to R100). `rank`: the rank of the widest class that acted; `doms`: the internal domains in its
reach; `sdFrom`: the first host-die domain in its reach; `asserted`: the sources asserted now; `cause`, `causeRank`: what
R100 records so far; `acts`: how many acting events occurred;
`retire`: step 7 waits for the retire revoke; `releasing`: a release of this episode has begun; `excluded`: an excluded
source acted (R544). -/
structure Episode where
  rank : Nat
  doms : List Dom
  sdFrom : Option Nat
  asserted : List Source
  cause : Source
  causeRank : Nat
  acts : Nat
  retire : Bool
  releasing : Bool
  excluded : Bool
  deriving DecidableEq, Repr

/-- The strap latch (R107 to R109). ROLE: 0 standalone, 1 worker, 2 manager, 3 none. -/
structure Strap where
  code : BitVec 4
  role : BitVec 2
  qspi : Bool
  cwyEn : Bool
  fault : Bool
  deriving DecidableEq, Repr

/-- The clock, reset and strap unit. The CRS core keeps `cause` to `multi`, `strap`, `strapped`, `strapSets`, `gaps` and
`enable`; the rest is of D1, but the watchdogs: `secCount` of D2, `ctlCount` of D5. `porLow`: POR_N is asserted;
`locking`: the PLL is locking, `pllTries` failed attempts before; `released`: bit i, D(i+1) is released; `sd`: bit n, SDn
is low and CEn high; `gaps`, `enable`: the committed values; `blockOn`: BLOCK has been asserted for the pending command;
`d0Por`: a reset of D0 asserts POR; `idleReads` counts reads of CRS_DOMAIN_STATUS and is the model's own; `zeroing`: an
episode zeroes control SRAM (R112, R550), `zeroLooks` counts the accesses that have met it and is the model's own. -/
structure Crs where
  porLow : Bool := false
  pllLock : Bool := true
  locking : Bool := false
  pllTries : Nat := 0
  strap : Strap := ⟨1, 0, false, true, false⟩
  strapped : Bool := true
  strapSets : Nat := 0
  cause : Source := .por
  reach : Nat := 5
  multi : Bool := false
  gaps : List (BitVec 13) := List.replicate 29 0x100
  enable : BitVec 24 := 0xFFFFFF
  ep : Option Episode := none
  released : BitVec 6 := 0
  sd : BitVec 24 := 0
  go : Bool := false
  padReleased : Bool := false
  blockCode : Code := .done
  blockPending : Option Dom := none
  secCount : Nat := 0x01000000
  ctlCount : Nat := 0x01000000
  dim : Bool := false
  dimExit : Nat := 0
  dimCode : Code := .done
  commitCode : Code := .done
  blockOn : Bool := false
  d0Por : Bool := false
  idleReads : Nat := 0
  zeroing : Bool := false
  zeroLooks : Nat := 0
  deriving DecidableEq, Repr

/-! ### OTP controller (04_otp_array.md) -/

/-- What a running OTP command is. `finMark` and `rootMark` are the marker burns that end FINALISE and GEN_ROOT_HALF;
`lcCopies` is the life-cycle controller's burn of its three copies (R132, R153). -/
inductive OtpJob where
  | program
  | finalise (region : Nat)
  | finMark (region : Nat)
  | advance
  | redirect
  | rootHalf (words : List (BitVec 64))
  | rootMark
  | lcCopies
  deriving DecidableEq, Repr

/-- A row to burn: its physical row, the value it must come to hold, and the bits that pulses may touch. -/
structure Burn where
  row : Nat
  data : BitVec 64
  mask : BitVec 64
  deriving DecidableEq, Repr

/-- What the controller waits for: the checks of FINALISE, the end of a pulse of bit `bit` after `tries` failed ones, or
the three-reference read of the row just burned. -/
inductive OtpPhase where
  | checks
  | pulse (bit tries : Nat)
  | rowCheck
  deriving DecidableEq, Repr

/-- A running command on the programming path. -/
structure OtpRun where
  job : OtpJob
  todo : List Burn
  phase : OtpPhase
  burned : Nat
  first : Bool
  deriving DecidableEq, Repr

/-- The OTP controller and its array. `cells`: what every physical row reads at the three references (main rows
0x000-0x3FF, spare rows 0x400-0x40F, redirection entries 0x410-0x41F); nothing resets them. The rest is of D1:
`snap`: the start-up reads after redirection, from which the shadow, the counters and the flags are read; `margMain`,
`margSpare`, `margEntry`: the marginal main rows, spare rows and entries; `redir`: the active entries and the rows they
name; `usable`: the regions usable as the start-up read decided them (bit 0 TRIM, 1 IDENT, 2 CONFIG, 3 TOKENS); `cut`: the
physical row and the bit whose programming pulse was cut short since the last start-up read; `looks` counts the looks at the
supply that no command's operand gives, and is the model's own. -/
structure Otp where
  cells : Sparse Row3 := []
  startupDone : Bool := false
  snap : Sparse Row3 := []
  margMain : List Nat := []
  margSpare : BitVec 16 := 0
  margEntry : BitVec 16 := 0
  cut : Option (Nat × Nat) := none
  redir : List (Nat × Nat) := []
  usable : BitVec 4 := 0
  looks : Nat := 0
  run : Option OtpRun := none
  rdata : BitVec 64 := 0
  code : Code := .done
  burned : Nat := 0
  deriving DecidableEq, Repr

/-! ### Life-cycle controller (05_life_cycle.md) -/

/-- The life-cycle states of R143. -/
inductive LcState where
  | raw | test | stock | field | ret | ash | invalid
  deriving DecidableEq, Repr

/-- The 3-bit code of a state (R143). -/
def LcState.code : LcState → Nat
  | .raw => 0
  | .test => 1
  | .stock => 2
  | .field => 3
  | .ret => 4
  | .ash => 5
  | .invalid => 7

/-- The phases of a transition that a timer or a command ends. -/
inductive LcPhase where
  | idle
  | destroying
  | rootAction
  | awaitErase
  | reading
  | pump
  | programming
  | decoding
  deriving DecidableEq, Repr

/-- The life-cycle controller (D1), and LCS_RESULT (`res*`), which stands in the CRS core (R165). `opening`: OPEN_DEBUG
runs; `first`: no pulse of this transition, or of the ERASE_DONE that resumed it, has been sampled for yet. -/
structure Lcs where
  state : LcState := .invalid
  copyValid : BitVec 3 := 0
  ashMark : Bool := false
  debugOpen : Bool := false
  testRoot : Bool := false
  confClosed : Bool := false
  phase : LcPhase := .idle
  fails : Nat := 0
  target : LcState := .raw
  fromState : LcState := .raw
  burned : Nat := 0
  eraseDone : Bool := false
  opening : Bool := false
  resCode : Code := .done
  resBurned : Nat := 0
  resFrom : Nat := 0
  resTo : Nat := 0
  deriving DecidableEq, Repr

/-! ### Key store and Kiln (09_key_store_and_kiln.md) -/

/-- A key slot (R278, R279, R285): the key, the attribute word without GEN's history, the stored integrity code, whether
the stored word has an uncorrectable error, whether the store has marked it unusable, and its lineage. -/
structure Slot where
  key : BitVec 256 := 0
  attr : Word := 0
  crc : Word := 0
  bad : Bool := false
  unusable : Bool := false
  lineage : BitVec 7 := 0x7F
  deriving DecidableEq, Repr

/-- The key store. `slots` lists what differs from `Slot` of 32 zero key bytes; `block`: slot reads are blocked
(R268). -/
structure Kst where
  slots : Sparse Slot := []
  block : Bool := false
  ready : Bool := false
  cntIntegrity : Nat := 0
  cntStale : Nat := 0
  cntCorrected : Nat := 0
  deriving DecidableEq, Repr

/-- Which root the root register holds (R272). -/
inductive RootKind where
  | none | test | device
  deriving DecidableEq, Repr

/-- An entry of the session table (R289), with the partition of its slot. -/
structure Session where
  sid : Word
  slot : SlotIx
  gen : Gen
  part : PartId
  inCtr : BitVec 64 := 0
  outCtr : BitVec 64 := 0
  deriving DecidableEq, Repr

/-- A share that has arrived for a record: its owner, its slot, the GEN the slot took, and its session. -/
structure Share where
  owner : Nat
  slot : SlotIx
  gen : Gen
  sid : Word
  deriving DecidableEq, Repr

/-- A required stream of a record: its ID, the bound generation and expected-digest entry, and its EQUAL bit. -/
structure ReqStream where
  sid : StreamId
  bound : Option (Gen × BitVec 10) := none
  equal : Bool := false
  deriving DecidableEq, Repr

/-- The states of a confluence record. -/
inductive RecState where
  | collecting | formed | failed | faulted
  deriving DecidableEq, Repr

/-- A confluence record (R297). -/
structure KRecord where
  part : PartId
  pgen : Gen
  job : JobId
  mask : BitVec 16
  shares : List Share := []
  bind : Bytes
  joint : SlotIx
  streams : List ReqStream
  state : RecState := .collecting
  deriving DecidableEq, Repr

/-- The kinds of event the SME sends the Kiln (R299). -/
inductive EvKind where
  | bind | token | fail
  deriving DecidableEq, Repr

/-- An event in the format of R215, with its kind. -/
structure SmeEvent where
  kind : EvKind
  sid : StreamId
  gen : Gen
  part : PartId
  job : JobId
  entry : BitVec 10
  deriving DecidableEq, Repr

/-- A Kiln command that waits for its turn (R306): its code, the word written, and what SECDED finds in the slot that it
reads. -/
structure KlnWait where
  code : Nat
  w : Word
  err : MemErr
  deriving DecidableEq, Repr

/-- The Kiln. `formed`: FORM_ROOT has run in this release of D2; `forming`: the root that a FORM_ROOT selected and that it
sets once the PKE has expanded slot 0; `recs`: the confluence records in use, by index; `wait`: the command that waits for
the events before it (R306); `owed`: the code of a command whose revokes are not all committed (R334). -/
structure Kln where
  root : RootKind := .none
  rootKey : Bytes := []
  formed : Bool := false
  forming : Option (RootKind × Bytes) := none
  nonce : Bytes := []
  devid : Bytes := []
  halted : Bool := false
  sessions : List Session := []
  recs : Sparse (Option KRecord) := []
  queue : List SmeEvent := []
  wait : Option KlnWait := none
  code : Code := .done
  owed : Option Code := none
  cntDrop : Nat := 0
  cntReplay : Nat := 0
  cntAuth : Nat := 0
  intFormed : Bool := false
  intFailed : Bool := false
  intDrop : Bool := false
  intIntegrity : Bool := false
  deriving DecidableEq, Repr

/-- The peat store and the tamper logic, in D0 (R265). `active`: the TAMP inputs that read active now. -/
structure Peat where
  secret : BitVec 256 := 0
  secretN : BitVec 256 := 0
  events : Nat := 0
  inputs : BitVec 8 := 0
  latch : Bool := false
  active : BitVec 8 := 0
  clearCode : Code := .done
  deriving DecidableEq, Repr

/-! ### Key fabric (10_key_fabric.md) -/

/-- One entry of the endpoint table (R315), with the cell range that BIND gave it. -/
structure Endpoint where
  present : Bool := false
  kind : BitVec 4 := 0
  part : PartId := 0
  gate : Bool := false
  egen : Gen := 0
  kgen : Gen := 0
  cellLo : CellId := 0
  cellHi : CellId := 0
  deriving DecidableEq, Repr

/-- A downstream message (R322, R323). `eps`: every endpoint it addresses, on all ports; `sent`: how many of its beats
this port has sent; `stamp`: when it was queued, which orders ages; `ticket`: the KFB command it belongs to. -/
structure KfMsg where
  typ : BitVec 4
  dkind : BitVec 2
  dest : BitVec 12
  gen : Gen
  usage : BitVec 4
  seq : BitVec 32
  body : List (BitVec 64)
  eps : List EndpointId
  sent : Nat
  stamp : Nat
  ticket : Option Nat
  deriving DecidableEq, Repr

/-- An EMBER message in a port's queue, from commit to acknowledgement. -/
structure EmberSlot where
  id : Nat
  beat : BitVec 64
  sent : Bool
  masked : Bool
  deriving DecidableEq, Repr

/-- The state of one key-fabric port: its four class queues (EMBER, ROTATE, LOAD, BULK), the EMBER grants of the window,
and FAULTED. -/
structure KfPort where
  ember : List EmberSlot := []
  rotate : List KfMsg := []
  load : List KfMsg := []
  bulk : List KfMsg := []
  used : Nat := 0
  faulted : Bool := false
  deriving DecidableEq, Repr

/-- Who waits for the acknowledgement of a revoke. -/
inductive EmberOwner where
  | none
  | ticket (t : Nat)
  | retire
  | release
  deriving DecidableEq, Repr

/-- A committed revoke that some port has not acknowledged. -/
structure Revoke where
  id : Nat
  ports : List Nat
  late : Bool
  owner : EmberOwner
  deriving DecidableEq, Repr

/-- The sources of EMBER messages (R333): the tamper logic, the life-cycle controller, the reset sequencer, the partition
manager, and the Kiln with its key store, by a command, by an event, or as a reset takes the slots. -/
inductive EmberSrc where
  | tamper | lcs | crs | prt | kilnCmd | kilnEvt | store
  deriving DecidableEq, Repr

/-- A revoke that a hardware source has not yet committed, because a queue is full or D4 is in reset (R334, R335). -/
structure EmberReq where
  typ : BitVec 4
  dkind : BitVec 2
  dest : BitVec 12
  slot : SlotIx
  sgen : Gen
  owner : EmberOwner
  src : EmberSrc
  deriving DecidableEq, Repr

/-- A message whose header an endpoint has been sent and not yet acknowledged: one credit of that endpoint (R329). `cell`,
`bound`: the counter cell of a LOAD, and the END of a LOAD or a ROTATE. -/
structure Owed where
  ep : EndpointId
  ticket : Nat
  typ : BitVec 4
  usage : BitVec 4
  kgen : Gen
  slot : SlotIx
  sgen : Gen
  keep : Bool
  cell : CellId
  bound : BitVec 40
  deriving DecidableEq, Repr

/-- A KFB command in flight: how many endpoints it still waits for, and the lowest refusal so far. -/
structure Ticket where
  id : Nat
  wait : Nat
  code : Code
  deriving DecidableEq, Repr

/-- What the KFB mirrors of a key generation that an endpoint holds (R350). `other`: the other position, not the current
one; `cell`, `bound`: the key's counter cell and its boundary END (R338, R344). -/
structure KeyMirror where
  ep : EndpointId
  usage : BitVec 4
  other : Bool
  kgen : Gen
  slot : SlotIx
  sgen : Gen
  keep : Bool
  cell : CellId
  bound : BitVec 40
  deriving DecidableEq, Repr

/-- A queued CNT_REQ (R341). -/
structure CntReq where
  ep : EndpointId
  egen : Gen
  cell : CellId
  size : Nat
  rtag : Bool
  stamp : Nat
  deriving DecidableEq, Repr

/-- The key fabric. `eps`, `groupKgen` and `mirror` are of the retained array of D4 (R349); the rest is port state.
`waiting` belongs to the sources of its revokes. `nextId` numbers revokes, and `stamp` orders requests by age: both are
the model's own. -/
structure Kfb where
  eps : Sparse Endpoint := []
  groupKgen : List Gen := List.replicate 64 0
  mirror : List KeyMirror := []
  up : Bool := false
  ports : List KfPort := List.replicate 8 {}
  revokes : List Revoke := []
  waiting : List EmberReq := []
  owed : List Owed := []
  tickets : List Ticket := []
  doneQ : List (Nat × Code) := []
  nextQ : List (EndpointId × BitVec 4 × Gen) := []
  intDone : Bool := false
  intNext : Bool := false
  resCode : Code := .done
  resTicket : Nat := 0
  intFault : Bool := false
  intLate : Bool := false
  cntEmber : Nat := 0
  cntMasked : Nat := 0
  cntLate : Nat := 0
  cntStale : Nat := 0
  cntUpdrop : Nat := 0
  cntCorrected : Nat := 0
  cntUncorr : Nat := 0
  cntEpfault : Nat := 0
  emberMax : Nat := 0
  nextId : Nat := 0
  stamp : Nat := 0
  deriving DecidableEq, Repr

/-! ### Counter cells (10_key_fabric.md) -/

/-- One counter cell: its value, the value modulo 3 (R348), its partition and its flags. -/
structure CtrCell where
  value : BitVec 64 := 0
  res : Nat := 0
  part : PartId := 0
  enable : Bool := false
  exhausted : Bool := false
  faulted : Bool := false
  deriving DecidableEq, Repr

/-- The CNT commands of R353. -/
inductive CntCmd where
  | configure | read | advance | retire
  deriving DecidableEq, Repr

/-- The counter cells. `cells` is of the retained array of D4. `queues`: the request queue of each port; `cmd`: the CNT
command that waits for its bank. -/
structure Cnt where
  cells : Sparse CtrCell := []
  queues : List (List CntReq) := List.replicate 8 []
  cmd : Option (CntCmd × Nat) := none
  resCode : Code := .done
  rdValue : BitVec 64 := 0
  rdPart : PartId := 0
  rdEnable : Bool := false
  rdExhausted : Bool := false
  rdFaulted : Bool := false
  exhQ : List CellId := []
  intExh : Bool := false
  intFault : Bool := false
  cntGrants : Nat := 0
  cntDenied : Nat := 0
  cntResidue : Nat := 0
  cntCorrected : Nat := 0
  cntUncorr : Nat := 0
  deriving DecidableEq, Repr

/-! ### Public-key engine (11_public_key_engine.md) -/

/-- The operations of R361. -/
inductive PkeOp where
  | ecVerify | mldsaVerify | hybVerify | hybSign | pubkey | ecdhKeygen | ecdhDerive | kemKeygen | kemDecaps | kemEncaps
  | expand
  deriving DecidableEq, Repr

/-- A PKE command, pending or running, with the operands it was issued with. `req`: 0 the Kiln, 1 the attestation unit, 2
block S, 3 block C (R360); `gate`: core 7 in gate mode issued it; `attMsg`: the message that the attestation unit signs;
`ec`, `kem`: the ephemeral private key that the operation consumed at its grant (R364). -/
structure PkeCmd where
  op : PkeOp
  req : Nat
  slot : SlotIx := 0
  gen : Gen := 0
  digest : Bytes := []
  ctx : Bytes := []
  msg : Nat := 0
  key : Nat := 0
  sig : Nat := 0
  out : Nat := 0
  len : Nat := 0
  toKiln : Bool := false
  gate : Bool := false
  attMsg : Bytes := []
  ec : Nat := 0
  kem : Bytes := []
  deriving DecidableEq, Repr

/-- A cache entry (R358): the slot's GEN, the ECDSA private scalar and the ML-DSA seed, from which both public keys and tr
follow (R357). -/
structure PkeEntry where
  gen : Gen
  d : Nat
  xi : Bytes
  deriving DecidableEq, Repr

/-- The public-key engine. `ephKem`: the 64 bytes of randomness of the ML-KEM key pair; `queue`: the pending commands,
oldest first; `used`: grants of the high class in this window; `ucode`: PKUCODE runs; `micro`: the microcode memory
(R177). -/
structure Pke where
  ephEc : Option Nat := none
  ephKem : Option Bytes := none
  ssEcdh : Option Bytes := none
  ssKem : Option Bytes := none
  cache0 : Option PkeEntry := none
  cache1 : Option PkeEntry := none
  queue : List PkeCmd := []
  running : Option PkeCmd := none
  used : Nat := 0
  resS : Code := .done
  resC : Code := .done
  ucode : Bool := false
  micro : Sparse Byte := []
  halted : Bool := false
  cntResidue : Nat := 0
  cntSelfcheck : Nat := 0
  cntCorrected : Nat := 0
  cntUncorr : Nat := 0
  deriving DecidableEq, Repr

/-! ### Stream measurement (07_stream_measurement.md) -/

/-- The states of a stream context (R192). -/
inductive StreamState where
  | free | open | closing | closed
  deriving DecidableEq, Repr

/-- A stream context. `got`: bytes accepted at the tap; `tooLong`: marked LENGTH_FAULT; `bad`: an uncorrectable error
or a failed chunk write met it, `lost`: an error of its context; `noExt`: no extension is made at its close;
`fallback`: the path; `leaves`: leaves begun; `passed`: leaf values absorbed; `sum`: the KECCAK state of the final
node; `equal`: what the comparator returned; `writes`: chunk writes not yet acknowledged; `digest`: the digest
extended. -/
structure Stream where
  st : StreamState := .free
  gen : Gen := 0
  blk : Blk := .s
  tap : Nat := 0
  group : Nat := 0
  part : PartId := 0
  chunk : Bool := false
  job : JobId := 0
  mr : Nat := 0
  len : Nat := 0
  base : Nat := 0
  ctx : EndpointId := 0
  fallback : Bool := false
  entry : BitVec 10 := 0
  got : Nat := 0
  tooLong : Bool := false
  aborted : Bool := false
  bad : Bool := false
  lost : Bool := false
  noExt : Bool := false
  leaves : Nat := 0
  passed : Nat := 0
  sum : Absorb := {}
  equal : Option Bool := none
  writes : Nat := 0
  outcome : Code := .done
  digest : Bytes := []
  deriving DecidableEq, Repr

/-- A beat that waits in a tap's buffer. -/
structure TapBeat where
  sid : StreamId
  bytes : Bytes
  deriving DecidableEq, Repr

/-- A leaf in a lane's buffer: its stream, its index in the stream, the bytes so far. -/
structure Leaf where
  sid : StreamId
  ix : Nat
  bytes : Bytes
  deriving DecidableEq, Repr

/-- A fen lane: its two leaf buffers, the first being absorbed, and its output slot (R210). -/
structure FenLane where
  bufs : List Leaf := []
  slot : Option Leaf := none
  deriving DecidableEq, Repr

/-- A lane-group assignment (R207). -/
structure LaneGroup where
  mode : BitVec 2 := 0
  part : PartId := 0
  deriving DecidableEq, Repr

/-- An entry of the expected-digest table (R226). -/
structure ExpEntry where
  digest : Bytes := []
  sid : StreamId := 0
  part : PartId := 0
  job : JobId := 0
  owner : BitVec 4 := 0
  armed : Bool := false
  inUse : Bool := false
  last : BitVec 8 := 0xFF
  deriving DecidableEq, Repr

/-- Who asked for an extension (R223). -/
inductive ExtSrc where
  | stream (sid : StreamId) (gen : Gen)
  | ctx (c : Nat)
  | blk (b : Blk)
  deriving DecidableEq, Repr

/-- A queued extension. -/
structure ExtReq where
  mr : Nat
  value : Bytes
  src : ExtSrc
  deriving DecidableEq, Repr

/-- A queued result (R220). -/
structure StreamResult where
  sid : StreamId
  gen : Gen
  outcome : Code
  deriving DecidableEq, Repr

/-- A command block's registers that the hardware keeps. -/
structure SmeBlk where
  code : Code := .done
  stream : Word := 0
  bytes : Nat := 0
  info : Word := 0
  aux : Word := 0
  digest : Bytes := []
  resQ : List StreamResult := []
  intOverflow : Bool := false
  intSfault : Bool := false
  intIntegrity : Bool := false
  deriving DecidableEq, Repr

/-- The command that the SME executes over several steps: an MR_EXTEND whose extension is queued, or a PURGE of block S
or of the partition manager. -/
inductive SmeRun where
  | extend (b : Blk)
  | purge (part : PartId)
  | purgePrt (part : PartId)
  deriving DecidableEq, Repr

/-- A command that waits for the SME (R198): its code, the word written, and what SECDED finds when it runs. -/
structure SmeWait where
  code : Nat
  w : Word
  err : MemErr
  deriving DecidableEq, Repr

/-- The stream measurement engine, in D3. `streams`: contexts by stream ID; `groups`: the committed assignments;
`released`: groups that the partition manager has released (R209); `events`: events that wait in stream contexts, in the
order in which they arose; `salts`: the loaded salts by partition. -/
structure Sme where
  tapUp : Bool := false
  streams : Sparse Stream := []
  taps : List (List TapBeat) := List.replicate 16 []
  lanes : Sparse FenLane := []
  groups : List LaneGroup := List.replicate 16 {}
  released : BitVec 16 := 0
  exps : Sparse ExpEntry := []
  salts : Sparse (Option Bytes) := []
  ext : List ExtReq := []
  events : List SmeEvent := []
  run : Option SmeRun := none
  waitS : Option SmeWait := none
  waitC : Option SmeWait := none
  blkS : SmeBlk := {}
  blkC : SmeBlk := {}
  commitCode : Code := .done
  cntSfault : Nat := 0
  cntOverflow : Nat := 0
  cntCorrected : Nat := 0
  cntUncorr : Nat := 0
  deriving DecidableEq, Repr

/-- A measurement register, in D2 (R221): its value, its extension count, the partition it is assigned to, and an
uncorrectable error found in it (R234). -/
structure MReg where
  value : Bytes := List.replicate 64 0
  count : Word := 0
  owner : Option PartId := none
  bad : Bool := false
  deriving DecidableEq, Repr

/-! ### Small digests and the comparator (08_digest_and_compare.md) -/

/-- The states of a digest context. -/
inductive CtxState where
  | free | held | faulted | abandoning
  deriving DecidableEq, Repr

/-- Where FINAL delivers the digest (R253). -/
inductive DgeDest where
  | read | compare | extend (mr : Nat)
  deriving DecidableEq, Repr

/-- What a context's running command still does: an UPDATE, with what is still to be read of device memory, or a FINAL:
its padding absorbed, or its digest on the way to the comparator or the extension unit. -/
inductive DgeRun where
  | update (addr left : Nat)
  | final (dest : DgeDest)
  | deliver
  deriving DecidableEq, Repr

/-- A digest context. `alg`: the ALG code; `holder`: a requester ID, 15 for none; `chain` and `sponge`: the chaining state
of the SHA-2 or the KECCAK core; `part`: bytes not yet absorbed in a block; `count`: bytes of the message; `lastHolder`
may read `digest` and `aux` after FINAL (R255); `abandon`: it stops at its next block boundary, and its command completes
with that code; `reads`: device-memory reads outstanding; `since`: when its block began to wait. -/
structure DgeCtx where
  st : CtxState := .free
  alg : BitVec 2 := 0
  holder : BitVec 4 := 0xF
  gen : Gen := 0
  chain : List (BitVec 64) := []
  sponge : Sponge := Sponge.zero
  part : Bytes := []
  count : Nat := 0
  run : Option DgeRun := none
  code : Code := .done
  resGen : Gen := 0
  digest : Bytes := []
  aux : Word := 0
  lastHolder : BitVec 4 := 0xF
  abandon : Option Code := none
  reads : Nat := 0
  since : Nat := 0
  deriving DecidableEq, Repr

/-- A raised request for a context. -/
structure DgeReq where
  who : BitVec 4
  alg : BitVec 2
  deriving DecidableEq, Repr

/-- What DGE_ACQ_STATUS shows a requester of its last grant. -/
structure DgeAcq where
  granted : Bool := false
  ctx : Nat := 0
  gen : Gen := 0
  deriving DecidableEq, Repr

/-- The small digest engine. `reqs`: the raised requests, oldest first; `used`: grants of the high class in this window;
`core2`, `coreK`: the context whose block the SHA-2 and the KECCAK core process; `stamp` orders waits. -/
structure Dge where
  ctxs : List DgeCtx := List.replicate 4 {}
  reqs : List DgeReq := []
  acq : List DgeAcq := List.replicate 10 {}
  used : Nat := 0
  core2 : Option Nat := none
  coreK : Option Nat := none
  stamp : Nat := 0
  cntStale : Nat := 0
  cntCorrected : Nat := 0
  cntUncorr : Nat := 0
  deriving DecidableEq, Repr

/-- Who waits for a comparison; `gone`: a digest context that was abandoned while its comparison ran. -/
inductive CmpSrc where
  | stream (sid : StreamId)
  | ctx (c : Nat)
  | blk (b : Blk)
  | gone
  deriving DecidableEq, Repr

/-- A comparison, waiting or running, with its operands. -/
structure CmpReq where
  src : CmpSrc
  a : Bytes
  b : Bytes
  deriving DecidableEq, Repr

/-- The comparator: the comparison on each of its five slices, the requests for slice 4, oldest first, the grants of the
high class in this window, and the result codes of its blocks. -/
structure Cmp where
  slices : List (Option CmpReq) := List.replicate 5 none
  reqs : List CmpReq := []
  used : Nat := 0
  codeS : Code := .done
  codeC : Code := .done
  deriving DecidableEq, Repr

/-! ### Attestation (12_attestation.md) -/

/-- The ATT commands of R423. -/
inductive AttOp where
  | platform | job | signBind | certRead | composite
  deriving DecidableEq, Repr

/-- An ATT command with the operands it was issued with. `deferred`: it waits or waited under R413. -/
structure AttCmd where
  blk : Blk
  op : AttOp
  nonce : Bytes
  hash : Bytes
  out : Nat
  max : Nat
  job : JobId
  part : PartId
  sel : Nat
  list : Nat
  count : Nat
  reqgen : Nat
  deferred : Bool
  deriving DecidableEq, Repr

/-- What the running work of the attestation unit waits for: a DGE context, its digest on that context, the end of a
handover, the alias public keys (PUBKEY issued or not yet), the issue of its HYB_SIGN, or the signature. -/
inductive AttPhase where
  | context | hashing | sample | pubkey | keys | sign | signing
  deriving DecidableEq, Repr

/-- The running work: a command, or the building of the certificates (`cmd = none`). `payload`: the report map, once
sampled; `digest` and `msg`: what HYB_SIGN signs with slot `slot` and context `ctx`; `tbs`: the EC TBSCertificate. -/
structure AttRun where
  cmd : Option AttCmd
  phase : AttPhase
  slot : SlotIx := 1
  payload : Option Bytes := none
  digest : Bytes := []
  msg : Bytes := []
  ctx : Bytes := []
  tbs : Bytes := []
  deriving DecidableEq, Repr

/-- One entry of the firmware record (R412). -/
structure FwEntry where
  typ : BitVec 8 := 0
  svn : BitVec 8 := 0
  valid : Bool := false
  version : Word := 0
  digest : Bytes := List.replicate 64 0
  deriving DecidableEq, Repr

/-- A firmware record: its release version and its 16 entries. -/
structure FwRecord where
  release : Word := 0
  entries : List FwEntry := List.replicate 16 {}
  deriving DecidableEq, Repr

/-- The attestation unit. `pend`: the command of block S and of block C that waits; `certs`: the EC and the ML-DSA alias
certificate once built; `aliasKeys`: the PUBKEY output of slot 1. -/
structure Att where
  pendS : Option AttCmd := none
  pendC : Option AttCmd := none
  run : Option AttRun := none
  resS : Code := .done
  resC : Code := .done
  defS : Bool := false
  defC : Bool := false
  lenS : Nat := 0
  lenC : Nat := 0
  certs : Option (Bytes × Bytes) := none
  aliasKeys : Bytes := []
  bootId : Bytes := []
  seq : Nat := 0
  handover : Bool := false
  mainReady : Bool := false
  epoch : Nat := 0
  record : FwRecord := {}
  staged : FwRecord := {}
  commitCode : Code := .done
  cntReports : Nat := 0
  cntDeferred : Nat := 0
  cntRefused : Nat := 0
  deriving DecidableEq, Repr

/-! ### Partition manager (13_partitions_and_release_gate.md) -/

/-- The states of a partition (R425). -/
inductive PartState where
  | free | active | quarantined | releasing
  deriving DecidableEq, Repr

/-- An entry of the partition table (R425), but for its generation, which is retained apart. -/
structure PartEntry where
  st : PartState := .free
  conf : Bool := false
  chunk : Bool := false
  arrays : BitVec 256 := 0
  deriving DecidableEq, Repr

/-- A committed entry of the region table (R432, R434). KIND 0 is an unused entry. -/
structure Region where
  part : PartId := 0
  kind : BitVec 2 := 0
  base : BitVec 48 := 0
  pages : Word := 0
  orphan : Bool := false
  scrubbed : Bool := false
  deriving DecidableEq, Repr

/-- A staged entry of the region table. -/
structure StagedRegion where
  part : PartId := 0
  kind : BitVec 2 := 0
  base : BitVec 48 := 0
  pages : Word := 0
  deriving DecidableEq, Repr

/-- An entry of the job digest table (R440). -/
structure JobDigest where
  part : PartId
  job : JobId
  gate : Bytes
  policy : Bytes
  deriving DecidableEq, Repr

/-- Where a RELEASE stands (R456): waiting for drain tokens, for the ZEROISE to be acknowledged, for DESTROY_PARTITION, for
PURGE, for the scrub descriptors, or for SCRUB_DONE. -/
inductive RelStage where
  | drain | revoke | destroy | destroying | purge | purging | scrub | awaitFw
  deriving DecidableEq, Repr

/-- The running RELEASE, with the arrays whose tokens are awaited and the regions whose descriptors are still to be sent. -/
structure Release where
  part : PartId
  stage : RelStage
  wait : BitVec 256
  todo : List Nat := []
  deriving DecidableEq, Repr

/-- A running zero fill: the region, the bytes written so far, and whether SCRUB_ORPHANS runs it. -/
structure ZeroFill where
  region : Nat
  next : Nat
  orphan : Bool
  deriving DecidableEq, Repr

/-- Why core 7 left gate mode (PRT_GATE_STATUS.REASON). -/
inductive GateReason where
  | none | yield | budget | access | quarantine | release
  deriving DecidableEq, Repr

/-- The release gate (R448 to R450). -/
structure Gate where
  active : Bool := false
  held : Bool := false
  reason : GateReason := .none
  part : PartId := 0
  mr : Nat := 0
  job : JobId := 0
  budget : Nat := 0
  deriving DecidableEq, Repr

/-- The partition manager. `gens` and `regions` are the retained store of D4 (R427); the rest is of D2. `orphans`: regions
that a running SCRUB_ORPHANS has still to scrub, the first one now under way. -/
structure Prt where
  parts : Sparse PartEntry := []
  gens : Sparse Gen := []
  regions : Sparse Region := []
  staged : Sparse StagedRegion := []
  jobs : Sparse (Option JobDigest) := []
  epoch : Word := 0
  code : Code := .done
  commitCode : Code := .done
  rel : Option Release := none
  orphans : Option (List Nat) := none
  fill : Option ZeroFill := none
  gate : Gate := {}
  cntTokdrop : Nat := 0
  cntQuar : Nat := 0
  cntRelease : Nat := 0
  intReleased : Bool := false
  intGate : Bool := false
  intScrubWait : Bool := false
  intOrphans : Bool := false
  intTokdrop : Bool := false
  deriving DecidableEq, Repr

/-! ### The fence (16_fence_and_wear.md) -/

/-- An entry of the health report's queue (R543). -/
structure HealthEntry where
  unit : Nat
  code : Code
  part : Option PartId
  deriving DecidableEq, Repr

/-- The factory limits of R523, with the wear baseline of each sentry; their initial values are the defaults of R524. -/
structure FncLimits where
  vFloor : Nat := 720
  vCeil : Nat := 720
  vNom : Nat := 720
  iMax : Nat := 1024
  tThrottle : BitVec 12 := 0x2A8
  tTrip : BitVec 12 := 0x320
  tResume : BitVec 12 := 0x258
  dutyMin : Nat := 4
  dutyMax : Nat := 4
  wearMax : Nat := 0
  absentMax : Nat := 127
  tOffset : BitVec 12 := 0
  baselines : List (BitVec 12) := List.replicate 64 0
  deriving DecidableEq, Repr

/-- The values that FNC_COMMIT applies: the plan, the wear steps and the user deltas (R525, R527). -/
structure FncPlan where
  v : Nat := 0
  duty : Nat := 0
  boost : Bool := false
  wear : Nat := 0
  floorUp : Nat := 0
  ceilDown : Nat := 0
  throttleDown : Nat := 0
  tripDown : Nat := 0
  resumeDown : Nat := 0
  dutyMaxDown : Nat := 0
  wearMaxDown : Nat := 0
  iMaxDown : Nat := 0
  deriving DecidableEq, Repr

/-- An AVSBus subframe (R71). -/
inductive AvsOp where
  | write (mv : Nat)
  | readV
  | readI
  | readTemp
  | readStatus
  | readVersion
  deriving DecidableEq, Repr

/-- The fence, in D1. `d`: the effective duty; `vset`: the voltage last written; `settling`: the target of a raise that
has not settled; `hot`: TMAX has not yet read below resume since the release of D1 (R537); `avs`: subframes to send, the
first one now on the bus, `avsRetried` its second try; `next`: the next address of the scan; `owed`: sensors that have not
answered; `sensors`: the last answers; `scanMax`, `scanAbsent`: this scan so far; `lastAbsent`: the last scan had more
than ABSENT_MAX absent readings; `vBad`: consecutive voltage readings out of range; `readCurrent`: the next scan reads the
current; `locked`: FNC_THR_MASK is locked; `readRetried`: the readback of a raise on the bus is its second try; `cycles`:
CLK_D cycles since the release of D1 (R532); `scans`: scans since then, the model's own. -/
structure Fnc where
  healthUnits : BitVec 10 := 0
  healthQ : List HealthEntry := []
  cntHealthLost : Nat := 0
  limits : FncLimits := {}
  trimDefault : Bool := false
  plan : FncPlan := {}
  commitCode : Code := .done
  d : Nat := 4
  vset : Nat := 720
  settling : Option Nat := none
  hot : Bool := true
  avsFault : Bool := false
  avs : List AvsOp := []
  avsRetried : Bool := false
  next : Nat := 0
  owed : List (BitVec 8) := []
  sensors : Sparse (BitVec 16) := []
  scanMax : Option Int := none
  scanAbsent : Nat := 0
  lastAbsent : Bool := false
  tmax : BitVec 12 := 0
  vread : BitVec 16 := 0
  cread : BitVec 16 := 0
  vBad : Nat := 0
  readCurrent : Bool := false
  locked : Bool := false
  readRetried : Bool := false
  cycles : Nat := 0
  scans : Nat := 0
  cntThrottle : Nat := 0
  cntAbsent : Nat := 0
  cntAvsretry : Nat := 0
  cntSnsdrop : Nat := 0
  deriving DecidableEq, Repr

/-- What the fence and the availability counters keep in the CRS core, which POR alone resets (R537, R544). `cause`: 0 none,
1 temperature, 2 voltage, 3 sensors. -/
structure FncCore where
  cause : Nat := 0
  holding : Bool := false
  count : Nat := 0
  oper : BitVec 64 := 0
  down : BitVec 64 := 0
  deriving DecidableEq, Repr

/-! ### Boot (06_boot_chain.md) -/

/-- What the Tinder ROM leaves, in D2. `fail`: the code of R183; `entry`: the failing manifest entry; `lockMain`, `lockGate`,
`lockSens`: the ends of the locked ranges; `recDigest`, `manDigest`: the body digests; `svns`: the
manifest SVNs of part types 1 to 4; `peers`: the MIN_PEER_VERSION of the running set's entries, by type; `layout`: its
HO_LAYOUT; `arrays`: the number of matrix arrays; `ran`: the ROM has run in this release of D2. -/
structure Boot where
  stage : Nat := 0
  fail : Nat := 0
  testSigner : Bool := false
  lockSet : Bool := false
  lockMain : Nat := 0
  lockGate : Nat := 0
  lockSens : Nat := 0
  resCode : Code := .done
  resEntry : Option Nat := none
  mainStart : Bool := false
  recDigest : Bytes := []
  manDigest : Bytes := []
  svns : List Nat := []
  peers : List (Nat × Word) := []
  layout : Nat := 0
  arrays : Nat := 0
  ran : Bool := false
  deriving DecidableEq, Repr

/-! ### Cores, mailboxes, random numbers (14_cores_mailboxes_rings.md) -/

/-- One direction of a mailbox (R472 to R475). -/
structure MbxSlot where
  msg : List Word := List.replicate 16 0
  full : Bool := false
  aborted : Bool := false
  len : Nat := 0
  seq : Gen := 0
  code : Code := .done
  db : Word := 0
  mask : Word := 0
  msgIe : Bool := false
  deriving DecidableEq, Repr

/-- The mailboxes, in D6: direction A to B of mailbox m is slot 2m, B to A is slot 2m + 1; and the pending bits of the rings
(R477). -/
structure Mbx where
  slots : List MbxSlot := List.replicate 8 {}
  ringPend : BitVec 64 := 0
  deriving DecidableEq, Repr

/-- The WCP engine, in D6 (R55 to R57, R479). `credits`: TX beats the host die has room for; `tx`: the beats still to
send of the message on its way; `posted`: that message stands in MBX2; `queue`: messages that firmware has still to
post; `rx`: messages received that wait for room in MBX2; `genReport`, `genVersion`: the generation of the last
REPORT_REQ and VERSION_REQ sent or received. The two counts are of dropped and of stale messages. -/
structure Wcp where
  credits : Nat := 0
  tx : List (BitVec 128) := []
  posted : Bool := false
  queue : List (List (BitVec 128)) := []
  rx : List (List (BitVec 128)) := []
  genReport : Option Gen := none
  genVersion : Option Gen := none
  cntDrop : Nat := 0
  cntStale : Nat := 0
  deriving DecidableEq, Repr

/-- The TRNG, in D1 (R490): nine banks, the security core's first; `next`: the bank that is refilled next. -/
structure Trng where
  fail : Bool := false
  fails : Nat := 0
  banks : List (List Word) := List.replicate 9 []
  next : Nat := 0
  deriving DecidableEq, Repr

/-- The recorded access fault of TOP_AFAULT_* (R468, R469). -/
structure Afault where
  valid : Bool := false
  core : Nat := 0
  kind : Nat := 0
  space : Nat := 0
  gate : Bool := false
  sec : Bool := false
  addr : BitVec 64 := 0
  deriving DecidableEq, Repr

/-- The TOP unit, in D1, with the edges that the interrupt controllers hold (R470): block C of the PKE and of the ATT, and
block S of either, have ended a command since the last claim. -/
structure Top where
  fwDigest : Bytes := []
  afault : Afault := {}
  cntAfault : Nat := 0
  edgePke : Bool := false
  edgeAtt : Bool := false
  edgeSec : Bool := false
  deriving DecidableEq, Repr

/-- The cluster interrupt controller, in D5 (R470): the priorities of its sources, the enable bits and the threshold of each
context, and the sources that a context has claimed and not completed. The RISC-V specification fixes no reset value.
Marks: log 39 (PRESUMED). -/
structure Plic where
  prio : List Nat := List.replicate 32 0
  enable : List Word := List.replicate 16 0
  threshold : List Nat := List.replicate 16 0
  claimed : Word := 0
  deriving DecidableEq, Repr

/-! ### Control port, test access port, self-test (02_ports.md) -/

/-- A response that the control port owes (R41). -/
structure IcpRsp where
  tag : BitVec 4
  code : Code
  data : Word
  deriving DecidableEq, Repr

/-- What the test access port selects (R76, R78). -/
inductive TapReg where
  | idcode | bypass
  | debug (code : BitVec 8)
  deriving DecidableEq, Repr

/-- The states of the IEEE 1149.1 TAP controller (R76). -/
inductive TapState where
  | testLogicReset | runTestIdle
  | selectDr | captureDr | shiftDr | exit1Dr | pauseDr | exit2Dr | updateDr
  | selectIr | captureIr | shiftIr | exit1Ir | pauseIr | exit2Ir | updateIr
  deriving DecidableEq, Repr

/-- The test access port: its controller, its instruction register, and the shift stage before that (R76). -/
structure Tap where
  ctl : TapState := .testLogicReset
  ir : BitVec 8 := 0x01
  stage : BitVec 8 := 0
  deriving DecidableEq, Repr

/-- A transaction of the NVM port (R84, R86): its addresses have 4 bytes. -/
inductive NvmBus where
  | softReset
  | read (addr : BitVec 32) (dummy len : Nat)
  | writeEnable
  | pageProgram (addr : BitVec 32) (data : Bytes)
  | sectorErase (addr : BitVec 32)
  | readStatus
  deriving DecidableEq, Repr

/-- The record of an array's self-test: not run, requested, or its result (R79, R80). -/
inductive AstState where
  | notRun | owed | pass | fail | absent
  deriving DecidableEq, Repr

/-! ### Field update (15_field_update.md) -/

/-- The engine's work on an accepted frame before its descriptor is posted (R502, R503): the descriptor, the staging writes
of a quarter sector not yet issued and those not yet acknowledged, and whether one failed. -/
structure CwyRx where
  frame : Bytes
  code : Code
  buffered : Bool
  left : Nat := 0
  owed : Nat := 0
  bad : Bool := false
  deriving DecidableEq, Repr

/-- A running command of the copy engine: the next staging offset and destination, the bytes still to be read, and the code
with which a read that came to nothing ends it. -/
structure CwyCopy where
  src : Nat
  dst : Nat
  left : Nat
  bad : Option Code := none
  deriving DecidableEq, Repr

/-- The commands of the NVM engine. -/
inductive NvmOp where
  | erase | program | verify
  deriving DecidableEq, Repr

/-- A running command of the NVM engine: its sector, the staged bytes read so far, and the code with which a read that
came to nothing ends it. -/
structure NvmRun where
  op : NvmOp
  sector : Nat
  data : Bytes
  bad : Option Code := none
  deriving DecidableEq, Repr

/-- The Causeway unit, in D6. `rx`: the frame whose descriptor is not posted; `unanswered`: the peer's last frame has no
answer yet; `sent`: the stored answer, for repeats; `fresh`: no frame has been accepted since D6 was released. The rest but
for the engines and the counts is what the security firmware keeps of the set: `manifest`, the bytes of MANIFEST frames of
this session, by NVM address; `fail`, `failCode`, `entry`, what the last check found (R498, R184); `sectors`, the sectors rewritten. -/
structure Cwy where
  link : Bool := false
  txOn : Bool := false
  sessionOpen : Bool := false
  session : BitVec 16 := 0
  lastSeq : BitVec 16 := 0
  fresh : Bool := true
  unanswered : Bool := false
  sent : Bytes := []
  rx : Option CwyRx := none
  rxbuf : Bytes := []
  manifest : Sparse (Option Byte) := []
  fail : Nat := 0
  failCode : Code := .done
  entry : Nat := 0
  sectors : Nat := 0
  copy : Option CwyCopy := none
  copyCode : Code := .done
  nvm : Option NvmRun := none
  nvmCode : Code := .done
  cntCrc : Nat := 0
  cntSymbol : Nat := 0
  cntSeq : Nat := 0
  cntStale : Nat := 0
  deriving DecidableEq, Repr

/-! ### What the resident firmware keeps (R397 to R421, R478 to R489) -/

/-- The keys and initialisation vectors of one phase of a session (DSP0274): the requester's and the responder's. -/
structure SpdmKeys where
  reqKey : Bytes := []
  reqIv : Bytes := []
  rspKey : Bytes := []
  rspIv : Bytes := []
  deriving DecidableEq, Repr

/-- An SPDM session: its DSP0277 ID, whether its handshake is over, its transcript from the certificate chain to
KEY_EXCHANGE_RSP, the handshake secret, the keys in force and how many records the requester and the responder have sent
under them, the measurements exchanged since the last signature, its transcript hash TH2, `waiting`: its PQ_START waits or
its leg is open, the Kiln slot that the leg formed with its GEN, the session's last report, and what has come of a job
descriptor (R438). -/
structure SpdmSession where
  id : Word
  established : Bool := false
  th : Bytes := []
  hs : Bytes := []
  keys : SpdmKeys := {}
  got : Nat := 0
  sent : Nat := 0
  msgL : Bytes := []
  th2 : Bytes := []
  waiting : Bool := false
  kiln : Option (SlotIx × Gen) := none
  report : Bytes := []
  desc : Bytes := []
  deriving DecidableEq, Repr

/-- The open post-quantum leg (R407, R408): its session, partition and h. -/
structure PqLeg where
  id : Word
  part : BitVec 8
  h : Bytes
  deriving DecidableEq, Repr

/-- The states of a ring (R484). -/
inductive RingState where
  | free | running | parked
  deriving DecidableEq, Repr

/-- What the main firmware has of the submission at the head of a ring (R486, R487): nothing, the entry while the descriptor
that it names is still to be read, all of it, or the entry where a read of the descriptor met an error. -/
inductive RingHead where
  | none
  | entry (e : Bytes)
  | whole (e : Bytes)
  | bad (e : Bytes)
  deriving DecidableEq, Repr

/-- A ring pair (R484 to R486). `phase`: the phase bit of the completions of this pass; `rung`: it has been rung, and its
submission queue has not been found empty since; `head`: the submission that the firmware works on. -/
structure Ring where
  st : RingState := .free
  gen : Gen := 0
  part : PartId := 0
  sqBase : Nat := 0
  cqBase : Nat := 0
  sqLog : Nat := 0
  cqLog : Nat := 0
  sqHead : Nat := 0
  cqTail : Nat := 0
  phase : Bool := true
  rung : Bool := false
  head : RingHead := .none
  deriving DecidableEq, Repr

/-- What the main firmware reads of device memory (R467): the driver page, or for a ring under a GEN its control block, the
submission at its head, or what is left of a step descriptor. -/
inductive FwRead where
  | page
  | block (ring : Nat) (gen : Gen)
  | entry (ring : Nat) (gen : Gen)
  | descriptor (ring : Nat) (gen : Gen) (addr left : Nat)
  deriving DecidableEq, Repr

/-- What the cores' firmware does outward, one after another: bytes written to device memory, doorbells of MBX0 rung towards
the host, a message of MBX0 posted; `code`: the word and the bit where the message holds its completion code. -/
inductive FwOp where
  | write (addr : Nat) (data : Bytes)
  | bell (bits : Word)
  | post (ws : List Word) (code : Option (Nat × Nat))
  deriving DecidableEq, Repr

/-- One operation of the cores' firmware: what is left of it, and the code with which a write of it failed. `sec`: the
security firmware's. -/
structure FwIo where
  sec : Bool := false
  ops : List FwOp
  bad : Option Code := none
  deriving DecidableEq, Repr

/-- What a command that the firmware gave the attestation unit is for: the report that the host asked for on MBX0 and the
address it goes to, a worker's report in answer to a REPORT_REQ, a report of a session, the signature over a CHALLENGE_AUTH,
over MEASUREMENTS or over a KEY_EXCHANGE_RSP of the transcript `t` with its handshake secret, or the signature of the
post-quantum offer; `void`: nothing waits for it any more. -/
inductive FwJob where
  | host (addr : Nat)
  | worker (head : BitVec 128)
  | session (id : Word)
  | challenge (body : Bytes)
  | measure (session : Option Word) (body : Bytes)
  | exchange (id : Word) (t body hs : Bytes)
  | offer
  | void
  deriving DecidableEq, Repr

/-- That command: what it is for, and, once it has ended, its code and how many bytes it wrote. -/
structure FwTask where
  job : FwJob
  done : Option (Code × Nat) := none
  deriving DecidableEq, Repr

/-- The steps of R407 that the security firmware takes by commands: the key pairs and the signature of the offer, then the
two derivations and SESSION_OPEN. -/
inductive PqStep where
  | ecKey | kemKey | sign | derive | decaps | openSlot
  deriving DecidableEq, Repr

/-- The post-quantum leg that the security firmware works on: its session and partition, the step, whether the command of
this step has been given, its code once it has ended, and what has come of the leg: the public keys offered, h, and the
peer's key and ciphertext. -/
structure PqWork where
  id : Word
  part : BitVec 8
  step : PqStep
  asked : Bool := false
  code : Option Code := none
  point : Bytes := []
  key : Bytes := []
  h : Bytes := []
  peer : Bytes := []
  cipher : Bytes := []
  deriving DecidableEq, Repr

/-- What a manager has of one worker's answer to a REPORT_REQ (R417, R418): the parts that arrived, LAST, and whether every
part has. -/
structure WorkerAnswer where
  worker : BitVec 12
  parts : List (Nat × Bytes) := []
  last : Option Nat := none
  answered : Bool := false
  absent : Bool := false
  deriving DecidableEq, Repr

/-- A collection of worker reports under way or ended (R418). -/
structure Collection where
  gen : Gen
  nonce : Bytes
  workers : List WorkerAnswer := []
  ended : Bool := false
  deriving DecidableEq, Repr

/-- A worker's VERSION_INFO (R421): its release and its entries, as TYPE, SVN, VERSION and MIN_PEER_VERSION. -/
structure WorkerInfo where
  worker : BitVec 12
  release : Word
  entries : List (BitVec 8 × BitVec 8 × Word × Word)
  deriving DecidableEq, Repr

/-- A composite report that a session asked for and a collection prepares (R406, R418). -/
structure Compose where
  session : Word
  nonce : Bytes
  deriving DecidableEq, Repr

/-- A job step that spans the manager and workers (R519, R520): its ring, its workers and its protocol level. -/
structure SpanJob where
  ring : Nat
  workers : List (BitVec 12)
  level : Nat
  deriving DecidableEq, Repr

/-- The firmware's state behind the commands that it serves. `conn`: how far an SPDM requester has negotiated (0
nothing, 1 version, 2 capabilities, 3 algorithms); `vca`: the messages of these three steps; `msgB`, `msgL`: the
digest and certificate messages, and the measurements, that the next signature covers; `leg`, `legs`: the open leg and
the PQ_STARTs that wait; `pq`: the leg under way; `destroys`: the session slots still to be destroyed; `attS`, `attC`:
the commands that the security and the main firmware have given the attestation unit; `io`: what the cores' firmware
has still to do outward, `ioOut`: a request of the first of it is on the memory port; `look`: what it reads now,
`page`: the driver page as read, none where the read met an error; `turn`: the ring that it looks at first; `reqGen`:
the generation of the last composite request; `compose`: the one being collected; `reports`: the last signed report of
each worker; `jobs`: the jobs that span workers; `nextRsp`: the next RspSessionID; `capgen` to `stale`: the
negotiation of R483 over the capability area at `area`, `offered`: the offer of CAPGEN is open, `unanswered`: no
CAP_ACCEPT has answered it; `hostReset`: MBX_HOST_RESET has been written since the driver was last found gone (R488);
`advance`: the SVN counters that an ADVANCE operation has still to raise, with their targets (R517). -/
structure Fw where
  conn : Nat := 0
  vca : List Bytes := []
  msgB : Bytes := []
  msgL : Bytes := []
  sessions : List SpdmSession := []
  leg : Option PqLeg := none
  legs : List (Word × BitVec 8) := []
  pq : Option PqWork := none
  destroys : List (SlotIx × Gen) := []
  attS : Option FwTask := none
  attC : Option FwTask := none
  io : List FwIo := []
  ioOut : Bool := false
  look : Option FwRead := none
  page : Option (Option Bytes) := none
  turn : Nat := 0
  reqGen : Gen := 0
  compose : Option Compose := none
  reports : List (BitVec 12 × Bytes) := []
  jobs : List SpanJob := []
  nextRsp : BitVec 16 := 0
  capgen : BitVec 8 := 0
  area : Nat := 0
  offered : Bool := false
  unanswered : Bool := false
  hostReset : Bool := false
  capActive : Bool := false
  level : Nat := 0
  features : Nat := 0
  stale : Nat := 0
  rings : Sparse Ring := []
  coll : Option Collection := none
  infos : List WorkerInfo := []
  advance : List (Nat × Nat) := []
  deriving DecidableEq, Repr

/-- What is done with a sector (R518): it is compared first, erased, programmed, and compared again. -/
inductive SectorStep where
  | check | erase | program | verify
  deriving DecidableEq, Repr

/-- How far the work that a COMMIT began has come. `ask` to `compare`: the verification of part `i` waits for a digest
context, runs its UPDATE and its FINAL in context `c` under a generation (R508). `gate` to `finish`: the steps of R512,
`copy` those that copy the part of a type. `sector`: the rewrite of R518, the addresses still to do, `again`: the first
one for the second time. -/
inductive UpdStep where
  | ask (i : Nat)
  | absorb (i c : Nat) (gen : Gen)
  | compare (i c : Nat) (gen : Gen)
  | gate
  | copy (t : Nat)
  | meet
  | request
  | idle
  | block
  | serve
  | finish
  | sector (todo : List Nat) (st : SectorStep) (again : Bool)
  deriving DecidableEq, Repr

/-- The work of the security firmware, or of the ROM's recovery service, on a set from its COMMIT on: that frame, whether its
operation is ACTIVATE, the manifest, the boot record if one was sent, the step, whether the command of this step has been
given, and what the main firmware wrote into its handover area. -/
structure UpdWork where
  frame : Bytes
  now : Bool
  manifest : Bytes
  record : Bytes
  step : UpdStep
  started : Bool := false
  kept : Option Fw := none
  deriving DecidableEq, Repr

/-- What the block drives on its outputs in answer to the last command: beats, pulses and responses. -/
inductive Out where
  /-- A downstream key-fabric beat (R318). -/
  | kfBeat (port : Nat) (head : Bool) (cls : BitVec 2) (data : BitVec 64) (ecc : BitVec 8)
  /-- A memory-port request with its write data (R45). -/
  | mp (tag : BitVec 8) (write : Bool) (addr beats : Nat) (part : PartId) (ctx : EndpointId) (data : Bytes)
  /-- A credit returned on a tap (R51). -/
  | tapCredit (tap : Nat)
  /-- `n` credits on each tap as TAP_UP rises (R35, R51). -/
  | tapCredits (n : Nat)
  /-- STREAM_FAULT raised on a tap (R53). -/
  | tapFault (tap : Nat) (sid : StreamId)
  /-- A drain request (R81). -/
  | drain (array : Nat) (part : PartId) (gen : Gen)
  /-- A self-test request: the array, and bits [47:12] of the address of its vectors (R79). -/
  | selfTest (array : Nat) (base : BitVec 36)
  /-- The completion code that an access returned, where it is not DONE. -/
  | code (c : Code)
  /-- The word that a register read returned. -/
  | read (v : Word)
  /-- A response on the control port (R40). -/
  | icp (tag : BitVec 4) (c : Code) (data : Word)
  /-- A beat sent on the worker channel (R55). -/
  | wcp (beat : BitVec 128)
  /-- `n` credits returned on the worker channel's RX side (R55). -/
  | wcpCredits (n : Nat)
  /-- A frame sent on the Causeway, between K27.7 and K29.7 (R496). -/
  | frame (bytes : Bytes)
  /-- A sensor-bus request (R67). -/
  | sensor (addr : BitVec 8)
  /-- An AVSBus subframe sent (R71). -/
  | avs (op : AvsOp)
  /-- The register that the test access port now selects (R76), with what IDCODE reads. -/
  | jtag (r : TapReg) (idcode : Word)
  /-- NVM_RST_N held low for so many CLK_D cycles, and then high (R85). -/
  | nvmReset (cycles : Nat)
  /-- A transaction on the NVM port, in Quad SPI or in xSPI mode (R84). -/
  | nvm (quad : Bool) (op : NvmBus)
  /-- A step of a job, handed to the arrays of a partition by its descriptor's address and length (R487), with the workers
  that it spans and its protocol level (R520). -/
  | jobStep (part : PartId) (addr len : Nat) (workers : List (BitVec 12)) (level : Nat)
  /-- The manager withdraws a worker from the job of a ring (R520). -/
  | jobWithdrawn (ring : Nat) (worker : BitVec 12)
  /-- Bytes that the host die's engines move through a wire endpoint of a partition (R487). -/
  | wireCopy (part : PartId) (endpoint : EndpointId) (src dst len : Nat)
  /-- An answer of the SPDM responder, in a session or outside (R402): the message, and what it is on the wire, in a session
  a record under AES-256-GCM (R405). -/
  | spdm (session : Option Word) (msg wire : Bytes)
  /-- A core takes an access exception: its number, none for the security core, and the RISC-V cause (R468, R469). -/
  | exception (core : Option Nat) (cause : Nat)
  deriving DecidableEq, Repr

/-- The state of the block. `mrs`: the measurement registers (D2); `mp`: outstanding memory-port requests; `regs`: the
registers that software writes and the hardware only reads, by address; `upd`: the field update's work under way, which
belongs to the security core; `psram`, `csram`, `nvm`: the private SRAM, control
SRAM and the NVM behind its port; `ast`: the arrays' self-test records, `cntAstdrop` the responses dropped; `icp`: the
responses owed; `outs`: what the last command drove outward; `trngDrawn`: how much of the TRNG's output is spent;
`nvmTears`: erases and programs of the NVM that a reset cut short, the model's own;
`pending`: the commands that wait. -/
structure State where
  crs : Crs := {}
  otp : Otp := {}
  lcs : Lcs := {}
  kfb : Kfb := {}
  cnt : Cnt := {}
  kst : Kst := {}
  kln : Kln := {}
  peat : Peat := {}
  prt : Prt := {}
  fnc : Fnc := {}
  fncCore : FncCore := {}
  sme : Sme := {}
  mrs : Sparse MReg := []
  dge : Dge := {}
  cmp : Cmp := {}
  pke : Pke := {}
  att : Att := {}
  boot : Boot := {}
  mbx : Mbx := {}
  wcp : Wcp := {}
  cwy : Cwy := {}
  trng : Trng := {}
  top : Top := {}
  plic : Plic := {}
  fw : Fw := {}
  upd : Option UpdWork := none
  mp : List MpReq := []
  icp : List IcpRsp := []
  tap : Tap := {}
  ast : Sparse AstState := []
  cntAstdrop : Nat := 0
  regs : Sparse Word := []
  psram : Sparse Byte := []
  csram : Sparse Byte := []
  nvm : Sparse Byte := []
  outs : List Out := []
  trngDrawn : Nat := 0
  nvmTears : Nat := 0
  pending : List Instr := []
  deriving DecidableEq, Repr

/-- The block right after D1 is released at the end of a POR, with the SELECT strap at code 0x1, nothing programmed in OTP,
nothing in the NVM, and no tamper event recorded (R90 to R95, R108, R112): D2 to D6 are still held in reset.
Marks: log 2 (DESIGN CHOICE); log 3 (DESIGN CHOICE). -/
def State.reset : State :=
  { kst := { ready := true }
    crs :=
      { released := 0b000001
        ep := some
          { rank := 5, doms := [.d1, .d2, .d3, .d4, .d5, .d6, .core], sdFrom := some 0, asserted := [], cause := .por,
            causeRank := 5, acts := 1, retire := false, releasing := true, excluded := false } } }

end Sys2Proof.Machine
end

