-- ==== Sys2Proof/Machine/Ops.lean ====
section
/-!
DEFINITION. Machine/Ops.lean: the operations that every unit shares: registers by name, completion codes (R14), the
health report (R543), draws from the TRNG, the memories, and what the block drives outward.
-/
namespace Sys2Proof.Machine

/-- The outcome of a command. -/
abbrev Res := Host.Outcome State Fault Refusal

/-- A command that always completes: its effect, on a state whose outputs are cleared.
Marks: log 70 (DESIGN CHOICE). -/
def ran (f : State → State) (s : State) : Res := .next (f { s with outs := [] })

/-- An event that can come only when `due`: at any other time it has no effect.
Marks: log 40 (DESIGN CHOICE). -/
def ranIf (due : Bool) (f : State → State) : State → Res := ran fun s => if due then f s else s

/-- Something driven outward, after what the command has driven so far.
Marks: log 70 (DESIGN CHOICE). -/
def State.emit (s : State) (o : Out) : State := { s with outs := s.outs ++ [o] }

/-! ### Units -/

/-- The clock, reset and strap unit changed by `f`. -/
def State.onCrs (s : State) (f : Crs → Crs) : State := { s with crs := f s.crs }
/-- The OTP controller changed by `f`. -/
def State.onOtp (s : State) (f : Otp → Otp) : State := { s with otp := f s.otp }
/-- The life-cycle controller changed by `f`. -/
def State.onLcs (s : State) (f : Lcs → Lcs) : State := { s with lcs := f s.lcs }
/-- The key fabric changed by `f`. -/
def State.onKfb (s : State) (f : Kfb → Kfb) : State := { s with kfb := f s.kfb }
/-- The counter cells changed by `f`. -/
def State.onCnt (s : State) (f : Cnt → Cnt) : State := { s with cnt := f s.cnt }
/-- The key store changed by `f`. -/
def State.onKst (s : State) (f : Kst → Kst) : State := { s with kst := f s.kst }
/-- The Kiln changed by `f`. -/
def State.onKln (s : State) (f : Kln → Kln) : State := { s with kln := f s.kln }
/-- The firmware's state changed by `f`. -/
def State.onFw (s : State) (f : Fw → Fw) : State := { s with fw := f s.fw }
/-- The peat store and tamper logic changed by `f`. -/
def State.onPeat (s : State) (f : Peat → Peat) : State := { s with peat := f s.peat }

/-- The debug gate shut (R162): DEBUG_OPEN clears. -/
def State.closeDebug (s : State) : State := { s with lcs := { s.lcs with debugOpen := false } }

/-- The register that the test access port selects: a private debug register only while the debug gate is open (R76, R78).
Marks: log 104 (DEDUCED). -/
def State.tapReg (s : State) : TapReg :=
  if s.tap.ir = 0x01#8 then .idcode
  else if fld s.tap.ir 4 4 = 1#4 ∧ s.lcs.debugOpen = true then .debug s.tap.ir else .bypass

/-- A transaction on the NVM port, in the mode that the strap selects (R84, R107).
Marks: log 105 (DEDUCED). -/
def State.nvmDrive (s : State) (op : NvmBus) : State := s.emit (.nvm s.crs.strap.qspi op)

/-- `n` bytes of the NVM read from address `a`, with 20 dummy cycles (R84).
Marks: log 105 (DEDUCED). -/
def State.nvmFetch (s : State) (a n : Nat) : State := s.nvmDrive (.read (BitVec.ofNat 32 a) 20 n)

/-- `n` bytes of the NVM from address `a`; a byte never written reads as an erased one.
Marks: log 4 (DESIGN CHOICE). -/
def State.nvmBytes (s : State) (a n : Nat) : Bytes := Sparse.bytes 0xFF s.nvm a n

/-- Bytes written to the NVM.
Marks: log 5 (PRESUMED). -/
def State.nvmPut (s : State) (a : Nat) (bs : Bytes) : State := { s with nvm := Sparse.putBytes 0xFF s.nvm a bs }

/-- Domain `d` is released. D0 and the CRS core are never held by an episode as seen here. -/
def State.up (s : State) (d : Dom) : Bool :=
  match d with
  | .d0 | .core => true
  | .d1 => s.crs.released.getLsbD 0
  | .d2 => s.crs.released.getLsbD 1
  | .d3 => s.crs.released.getLsbD 2
  | .d4 => s.crs.released.getLsbD 3
  | .d5 => s.crs.released.getLsbD 4
  | .d6 => s.crs.released.getLsbD 5

/-- Domain `d` is released and takes new work: not while a BLOCK command has stopped its intake, nor D3 and D5 in DIM (R102,
R104).
Marks: log 23 (DEDUCED). -/
def State.serves (s : State) (d : Dom) : Bool :=
  s.up d && s.crs.blockPending != some d && !(s.crs.dim && (d == .d3 || d == .d5))

/-- D3 serves requests. -/
def State.d3Serves (s : State) : Bool := s.serves .d3

/-- A register access to a unit of domain `d`, one of D1, D2, D4 and D6: BUSY and no effect while the domain does not serve
(R43), else the register's effect.
Marks: log 23 (DEDUCED); log 24 (DEDUCED). -/
def ranOn (d : Dom) (f : State → State) (s : State) : Res :=
  ran (fun s => if s.serves d then f s else s.emit (.code .busy)) s

/-! ### Completion codes -/

/-- The code of the lowest value among the refusals that apply (R14).
Marks: log 69 (DEDUCED). -/
def lowest : List (Bool × Code) → Option Code
  | [] => none
  | (b, c) :: l =>
    match lowest l with
    | none => if b then some c else none
    | some d => if b && c.num < d.num then some c else some d

/-- The lower of two codes by value. -/
def Code.min (a b : Code) : Code := if a.num ≤ b.num then a else b

/-- The top of a 32-bit count that saturates. -/
def sat32 : Nat := 0xFFFFFFFF

/-- One more event of a count that saturates at 0xFFFF_FFFF. -/
def tally (n : Nat) : Nat := satInc sat32 n

/-! ### Registers by name -/

/-- What a stored register holds: what software last stored, else its reset value (R8). -/
def State.reg (s : State) (r : Reg) (b : Nat := 0) (k : Nat := 0) : Word :=
  match s.regs.lookup (r.row.addr b k) with
  | some v => v
  | none => r.row.reset

/-- A stored register put to `v`. -/
def State.setReg (s : State) (r : Reg) (v : Word) (b : Nat := 0) (k : Nat := 0) : State :=
  { s with regs :=
      if v = r.row.reset then s.regs.filter fun e => e.1 != r.row.addr b k
      else Sparse.put r.row.reset s.regs (r.row.addr b k) v }

/-- The bytes of `n` consecutive stored registers (R5). -/
def State.regBytes (s : State) (r : Reg) (b n : Nat) : Bytes :=
  wordsToBytes ((List.range n).map fun k => s.reg r b k)

/-- The stored registers of a row cleared: each returns to its reset value. -/
def State.clearReg (s : State) (r : Reg) (b : Nat := 0) : State :=
  let addrs := (List.range r.row.count).map fun k => r.row.addr b k
  { s with regs := s.regs.filter fun e => !addrs.contains e.1 }

/-- The number of a command block: S is copy 0, C is copy 1. -/
def blkIx : Blk → Nat
  | .s => 0
  | .c => 1

/-- A request of the control port, which R42 refuses whatever the state of the unit's domain (R14). -/
def isIcp : Req → Bool
  | .icp _ => true
  | _ => false

/-- The written word carries a nonzero reserved field of register `r` (R11).
Marks: log 26 (DEDUCED). -/
def rsvSet (r : Reg) (w : Word) : Bool := (w &&& r.row.rsv) != 0

/-! ### Health report (R543) -/

/-- A fault entered in the health report: the unit's bit sets, and an entry queues unless the queue of 64 is full.
Marks: log 20 (DESIGN CHOICE); log 43 (DEDUCED). -/
def State.health (s : State) (unit : Nat) (code : Code) (part : Option PartId := none) : State :=
  let f := s.fnc
  let f := { f with healthUnits := f.healthUnits ||| (1#10 <<< unit) }
  { s with fnc :=
      if f.healthQ.length < 64 then { f with healthQ := f.healthQ ++ [⟨unit, code, part⟩] }
      else { f with cntHealthLost := tally f.cntHealthLost } }

/-! ### The TRNG (R490) -/

/-- `n` bytes drawn from the TRNG.
Marks: log 7 (DESIGN CHOICE). -/
def State.draw (s : State) (n : Nat) : Bytes := (List.range n).map fun i => Config.trngByte (s.trngDrawn + i)

/-- The state after `n` bytes were drawn.
Marks: log 7 (DESIGN CHOICE). -/
def State.drew (s : State) (n : Nat) : State := { s with trngDrawn := s.trngDrawn + n }

/-! ### Memories -/

/-- `n` bytes of the security core's private SRAM from offset `a`.
Marks: log 4 (DESIGN CHOICE). -/
def State.psramBytes (s : State) (a n : Nat) : Bytes := Sparse.bytes 0 s.psram a n

/-- Bytes written to the private SRAM. -/
def State.psramPut (s : State) (a : Nat) (bs : Bytes) : State := { s with psram := Sparse.putBytes 0 s.psram a bs }

/-- `n` bytes of control SRAM from offset `a`.
Marks: log 4 (DESIGN CHOICE). -/
def State.csramBytes (s : State) (a n : Nat) : Bytes := Sparse.bytes 0 s.csram a n

/-- Bytes written to control SRAM. -/
def State.csramPut (s : State) (a : Nat) (bs : Bytes) : State := { s with csram := Sparse.putBytes 0 s.csram a bs }

/-- The entry of a partition. -/
def State.partEntry (s : State) (p : PartId) : PartEntry := Sparse.get {} s.prt.parts p.toNat

/-- The state of a partition; partition 0 is always ACTIVE (R426). -/
def State.partState (s : State) (p : PartId) : PartState := if p = 0 then .active else (s.partEntry p).st

/-- A partition is defined: it is not FREE (R428). -/
def State.partDefined (s : State) (p : PartId) : Bool := s.partState p != .free

/-- The current generation of a partition: 0x01 for partition 0, else that of the retained store (R426, R427). -/
def State.partGen (s : State) (p : PartId) : Gen := if p = 0 then 1 else Sparse.get 0 s.prt.gens p.toNat

/-- A range of `n` bytes from offset `a` lies within the private SRAM of 256 KiB, its start 4-byte aligned (R313). -/
def psramRange (a n : Nat) : Bool := a % 4 == 0 && a + n ≤ 0x40000

/-- `n` bytes from offset `a` share a byte with the offsets `lo` to `hi`. -/
def overlaps (a n lo hi : Nat) : Bool := a ≤ hi && lo < a + n

/-- `n` bytes from offset `a` lie within the gate scratch area (R446). -/
def inScratch (a n : Nat) : Bool := 0x0EC0000 ≤ a && a + n ≤ 0x0EF0000

/-- A range of control SRAM that a control core, or core 7 in gate mode, may reach: never the security carve-out (R178) or
the gate scratch area; in gate mode the scratch area only (R446, R449). -/
def ctlRange (gate : Bool) (a n : Nat) : Bool :=
  if gate then inScratch a n
  else a + n ≤ 0x1000000 && !overlaps a n 0x0F00000 0x0FFFFFF && !overlaps a n 0x0EC0000 0x0EEFFFF

/-- `n` bytes from offset `a` touch the gate applet area, which only the security core may write (R446). -/
def inApplet (a n : Nat) : Bool := overlaps a n 0x0E80000 0x0EBFFFF

/-- `n` bytes from offset `a` touch an image-locked range (R179, R180). -/
def State.imageLocked (s : State) (a n : Nat) : Bool :=
  let hits (lo hi : Nat) : Bool := lo < hi && overlaps a n lo (hi - 1)
  s.boot.lockSet &&
    (hits 0x0000000 s.boot.lockMain || hits 0x0E00000 s.boot.lockGate || hits 0x0E40000 s.boot.lockSens ||
      hits 0x0EFD000 0x0EFF300)

/-! ### Memory port (R45 to R49) -/

/-- The memory port can take one more request: D4 is released, and a tag is free. -/
def State.mpRoom (s : State) : Bool := s.up .d4 && s.mp.length < 256

/-- The tag of the next request: the lowest one free.
Marks: log 93 (DESIGN CHOICE). -/
def State.mpTag (s : State) : BitVec 8 :=
  BitVec.ofNat 8 (((List.range 256).find? fun t => s.mp.all fun r => r.tag.toNat != t).getD 0)

/-- A request of `beats` beats issued. Its address is that of a line of 48-bit device memory (R45).
Marks: log 93 (DESIGN CHOICE). -/
def State.mpIssue (s : State) (write : Bool) (addr beats : Nat) (part : PartId) (ctx : EndpointId) (data : Bytes)
    (owner : MpOwner) : State :=
  let r : MpReq := { tag := s.mpTag, write := write, left := beats, owner := owner }
  State.emit { s with mp := s.mp ++ [r] } (.mp s.mpTag write (addr % 2 ^ 48) beats part ctx data)

/-- Endpoint `e` is a gate endpoint: it lies in the range of PRT_GATE_EP, or is bound as one. Only core 7 in gate mode may
name it (R444, R445).
Marks: log 78 (DEDUCED). -/
def State.gateBound (s : State) (e : EndpointId) : Bool :=
  let r := s.reg .prtGateEp
  let v : Endpoint := Sparse.get {} s.kfb.eps e.toNat
  (fldN r 0 12 ≤ e.toNat && e.toNat ≤ fldN r 12 12) || (v.present && v.gate)

/-- A raw request of R435: partition 0, context 0xFFF. -/
def rawCtx : EndpointId := 0xFFF

end Sys2Proof.Machine
end

