-- ==== Sys2Proof/Machine/Otp.lean ====
section
/-!
DEFINITION. Machine/Otp.lean: the OTP array and the programming path, as functions of the controller's own state
(04_otp_array.md). The meanings of the OTP commands are in Machine/LifeCycle.lean, since the life-cycle controller shares
the path.
-/
namespace Sys2Proof.Machine

/-- A row is marginal if any bit reads differently at any two references (R119). -/
def rowMarginal (r : Row3) : Bool := r.m0 != r.nrm || r.nrm != r.m1

/-- A row that reads one value at all three references. -/
def rowSolid (v : BitVec 64) : Row3 := ⟨v, v, v⟩

/-- The number of bits that read 1. -/
def popCount (v : BitVec 64) : Nat := ((List.range 64).filter fun i => v.getLsbD i).length

/-- VQPS, in millivolts, lies in its programming window of 1.746 V to 1.854 V (R37, R129).
Marks: log 30 (DESIGN CHOICE). -/
def vqpsInWindow (mv : Nat) : Bool := 1746 ≤ mv && mv ≤ 1854

/-- What physical row `n` reads. -/
def Otp.cell (o : Otp) (n : Nat) : Row3 := Sparse.get {} o.cells n

/-- The first row and the number of rows of a region (R115), by region code. -/
def regionRows : Nat → Nat × Nat
  | 0 => (0x000, 0x80)
  | 1 => (0x080, 0x80)
  | 2 => (0x100, 0x200)
  | 3 => (0x300, 8)
  | 4 => (0x308, 0x20)
  | 5 => (0x328, 4)
  | 6 => (0x32C, 4)
  | _ => (0x330, 0x20)

/-- The finalisable regions in the bit order of OTP_STATUS.FINAL: TRIM, IDENT, CONFIG, TOKENS (R115, R123). -/
def finalIndex : Nat → Option Nat
  | 0 => some 0
  | 1 => some 1
  | 2 => some 2
  | 4 => some 3
  | _ => none

/-- The first row of a region's record in DIGESTS (R123), by FINAL index. -/
def recordRow (f : Nat) : Nat := 0x330 + 8 * f

/-- A row that PROGRAM refuses (R131): reserved, root half or its marker, or of LC, SVN, KEYCTR or DIGESTS. -/
def programForbidden (n : Nat) : Bool :=
  0x350 ≤ n || n == 0x326 || n == 0x327 || (0x080 ≤ n && n ≤ 0x083) || n == 0x088 ||
    (0x300 ≤ n && n ≤ 0x307) || (0x328 ≤ n && n ≤ 0x34F)

/-- The region that holds a main row, by region code. -/
def regionOf (n : Nat) : Nat :=
  if n < 0x080 then 0 else if n < 0x100 then 1 else if n < 0x300 then 2 else if n < 0x308 then 3
  else if n < 0x328 then 4 else if n < 0x32C then 5 else if n < 0x330 then 6 else 7

/-! ### Redirection (R137) -/

/-- The row that a redirection entry names, if the entry is active: two copies identical with ENABLE set, not
marginal. -/
def entryTarget (r : Row3) : Option Nat :=
  let a := fld r.nrm 0 11
  let b := fld r.nrm 16 11
  let c := fld r.nrm 32 11
  if rowMarginal r then none
  else if (a = b || a = c) && bit a 10 then some (fldN a 0 10)
  else if b = c && bit b 10 then some (fldN b 0 10)
  else none

/-- The active entries, each with the row it names, in rising order. -/
def Otp.activeEntries (o : Otp) : List (Nat × Nat) :=
  (List.range 16).filterMap fun i => (entryTarget (o.cell (0x410 + i))).map fun t => (i, t)

/-- The physical row that serves row `n`: the spare row of the highest active entry that names it, else itself. -/
def route (redir : List (Nat × Nat)) (n : Nat) : Nat :=
  match (redir.filter fun e => e.2 == n).getLast? with
  | some e => 0x400 + e.1
  | none => n

/-- The physical row that serves row `n` under the entries in force. -/
def Otp.phys (o : Otp) (n : Nat) : Nat := route o.redir n

/-- What row `n` reads now, after redirection. -/
def Otp.sense (o : Otp) (n : Nat) : Row3 := o.cell (o.phys n)

/-! ### What the start-up read decided -/

/-- The start-up read of row `n` after redirection. -/
def Otp.snapRow (o : Otp) (n : Nat) : Row3 := Sparse.get {} o.snap n

/-- The shadow of row `n`: its NORMAL read (R118). -/
def Otp.shadow (o : Otp) (n : Nat) : BitVec 64 := (o.snapRow n).nrm

/-- The bytes of `n` shadow rows from row `a` (R116). -/
def Otp.shadowBytes (o : Otp) (a n : Nat) : Bytes :=
  (List.range n).flatMap fun i => leBytes 8 (o.shadow (a + i)).toNat

/-- The digest of a region (R122), over given row values. -/
def regionDigest (code : Nat) (val : Nat → BitVec 64) : Bytes :=
  let rows := regionRows code
  sha3_384 (ascii "icvia-otp-v2" ++ [BitVec.ofNat 8 code] ++
    (List.range rows.2).flatMap fun i => leBytes 2 (rows.1 + i) ++ leBytes 8 (val (rows.1 + i)).toNat)

/-- Region `f` (FINAL index) is finalised: its marker row is valid and more than 32 of its bits read 1 (R123). -/
def Otp.finalised (o : Otp) (f : Nat) : Bool :=
  let r := o.snapRow (recordRow f + 6)
  !rowMarginal r && 32 < popCount r.nrm

/-- The region code of a FINAL index. -/
def finalCode : Nat → Nat
  | 3 => 4
  | f => f

/-- The stored digest of a region's record. -/
def Otp.storedDigest (o : Otp) (f : Nat) : Bytes := o.shadowBytes (recordRow f) 6

/-- Region `f` is usable (R121, R124, R125), decided with the state that the start-up read decoded.
Marks: log 95 (DEDUCED). -/
def Otp.usableNow (o : Otp) (st : LcState) (f : Nat) : Bool :=
  let recordOk := (List.range 8).all fun i => !rowMarginal (o.snapRow (recordRow f + i))
  let rootOk := f != 1 || ([0x080, 0x081, 0x082, 0x083, 0x088].all fun n => !rowMarginal (o.snapRow n))
  recordOk && rootOk &&
    (if o.finalised f then regionDigest (finalCode f) o.shadow == o.storedDigest f
     else st == .raw || st == .test || st == .stock)

/-- Root-half row `i` reads nonzero (OTP_STATUS.ROOT_ROWS). -/
def Otp.rootRow (o : Otp) (i : Nat) : Bool := o.shadow (0x080 + i) != 0

/-- The root half is present (R139): each of its rows nonzero and valid, the marker valid with more than 32 ones. -/
def Otp.rootHalfSet (o : Otp) : Bool :=
  ([0x080, 0x081, 0x082, 0x083].all fun n => o.shadow n != 0 && !rowMarginal (o.snapRow n)) &&
    !rowMarginal (o.snapRow 0x088) && 32 < popCount (o.shadow 0x088)

/-- Region `f` is usable, as the start-up read decided. -/
def Otp.isUsable (o : Otp) (f : Nat) : Bool := o.usable.getLsbD f

/-- A token slot is valid: TOKENS is usable and none of the slot's six rows is marginal (R121, R125). -/
def Otp.tokenSlotValid (o : Otp) (row : Nat) : Bool :=
  o.isUsable 3 && (List.range 6).all fun i => !rowMarginal (o.snapRow (row + i))

/-- The bits of a thermometer counter at MARGIN_0, as a number whose bit 0 is bit 0 of the lowest row. -/
def counterBits (rows : List Row3) : Nat :=
  match rows with
  | [] => 0
  | r :: rs => r.m0.toNat + 2 ^ 64 * counterBits rs

/-- A thermometer counter is contiguous: no 1 stands above a 0 (R135). -/
def counterContiguous (rows : List Row3) : Bool :=
  counterBits rows + 1 == 2 ^ ((rows.map fun r => popCount r.m0).foldl (· + ·) 0)

/-- The value of a thermometer counter: its ones at MARGIN_0, its maximum where it is not contiguous (R135). -/
def counterValue (rows : List Row3) : Nat :=
  if counterContiguous rows then (rows.map fun r => popCount r.m0).foldl (· + ·) 0 else 64 * rows.length

/-- The rows of counter `c`: SVN0 to SVN3, or KEYCTR for 4. -/
def counterRows (c : Nat) : List Nat := if c < 4 then [0x328 + c] else [0x32C, 0x32D, 0x32E, 0x32F]

/-- Security version floor `i`, as the start-up read decoded it. -/
def Otp.svn (o : Otp) (i : Nat) : Nat := counterValue ((counterRows i).map o.snapRow)

/-- The key counter, as the start-up read decoded it. -/
def Otp.keyctr (o : Otp) : Nat := counterValue ((counterRows 4).map o.snapRow)

/-! ### The start-up read (R118, R119) -/

/-- A row that the array has and that can read other than 0 (R114, R115): the reserved main rows read 0.
Marks: log 45 (DEDUCED). -/
def rowHeld (n : Nat) : Bool := n < 0x350 || (0x400 ≤ n && n < 0x420)

/-- What a row that read `old` may read after its cells drifted, where `new` was given: a bit reads 1 at a stricter reference
only where it reads 1 at every more lenient one, and moves by one reference at most, since a cell's current varies by ±30%
(R117). A bit of `free`, whose pulse was cut short, may have come to any level from its own up.
Marks: log 45 (DEDUCED). -/
def driftRow (free : BitVec 64) (old new : Row3) : Row3 :=
  let n := new.nrm ||| new.m1
  ⟨new.m0 ||| n ||| old.nrm ||| (free &&& old.m0), (n &&& (old.m0 ||| free)) ||| old.m1 ||| (free &&& old.nrm),
    (new.m1 &&& (old.nrm ||| free)) ||| (free &&& old.m1)⟩

/-- The bit of row `n` whose last pulse a reset or a supply loss cut short.
Marks: log 45 (DEDUCED). -/
def Otp.cutBit (o : Otp) (n : Nat) : BitVec 64 :=
  match o.cut with
  | some (m, i) => if m = n then 1#64 <<< i else 0
  | none => 0

/-- The array after the drift of some rows' cells.
Marks: log 45 (DEDUCED). -/
def Otp.drift (o : Otp) (rows : List (Nat × Row3)) : Otp :=
  { o with
    cells := Sparse.putMany {} o.cells
      ((rows.filter fun e => rowHeld e.1).map fun e => (e.1, driftRow (o.cutBit e.1) (o.cell e.1) e.2))
    cut := none }

/-- What a D1 reset or a supply loss leaves of the controller: the array, and which pulse it cut short. -/
def Otp.lost (o : Otp) : Otp :=
  { cells := o.cells
    looks := o.looks
    cut :=
      match o.run with
      | some ⟨_, b :: _, .pulse i _, _, _⟩ => some (b.row, i)
      | _ => o.cut }

/-- A flag for each of sixteen rows from row `a`: the row is marginal. -/
def Otp.marginals16 (o : Otp) (a : Nat) : BitVec 16 :=
  BitVec.ofNat 16 (bitsToNat ((List.range 16).map fun i => rowMarginal (o.cell (a + i))))

/-- The reads of the start-up read: redirection, the shadow with its margins, and the marginal rows. The usable regions
wait for the life-cycle state.
Marks: log 45 (DEDUCED). -/
def Otp.startupRead (o : Otp) : Otp :=
  let redir := o.activeEntries
  { o with
    redir := redir
    snap := (List.range 0x350).filterMap fun n =>
      let r := o.cell (route redir n)
      if r = {} then none else some (n, r)
    margMain := (List.range 0x400).filter fun n => rowMarginal (o.cell n)
    margSpare := o.marginals16 0x400
    margEntry := o.marginals16 0x410 }

/-- The usable regions decided, and the controller ready. -/
def Otp.startupFinish (o : Otp) (st : LcState) : Otp :=
  { o with
    usable := BitVec.ofNat 4 (bitsToNat ((List.range 4).map (o.usableNow st)))
    startupDone := true }

/-- The shadow of the rows loaded again from the array (R127 step 11, R139). -/
def Otp.reload (o : Otp) (rows : List Nat) : Otp :=
  { o with snap := rows.foldl (fun m n => Sparse.put {} m n (o.sense n)) o.snap }

/-! ### The programming path (R129, R130) -/

/-- The bits of a burn that still need a pulse: they must become 1 and read 0 at MARGIN_1. -/
def Otp.pulseBits (o : Otp) (b : Burn) : BitVec 64 := b.data &&& b.mask &&& ~~~ (o.cell b.row).m1

/-- The lowest bit that needs a pulse. -/
def lowestBit (v : BitVec 64) : Option Nat := (List.range 64).find? fun i => v.getLsbD i

/-- The burns that still need a pulse, from the first of them on. -/
def Otp.skipDone (o : Otp) (todo : List Burn) : List Burn := todo.dropWhile fun b => o.pulseBits b == 0

/-- The command ends: its code and the bits it burned in OTP_RESULT, the path free. GEN_ROOT_HALF loads the shadow of its
rows if it burned any bit (R139). -/
def Otp.complete (o : Otp) (code : Code) (job : OtpJob) (burned : Nat) : Otp :=
  let o := match job with
    | .rootHalf _ | .rootMark => if burned = 0 then o else o.reload [0x080, 0x081, 0x082, 0x083, 0x088]
    | _ => o
  { o with run := none, code := code, burned := burned }

/-- What the path did: it goes on, or it ended with a code after so many bits burned. -/
structure PathEnd where
  code : Code
  job : OtpJob
  burned : Nat
  deriving DecidableEq, Repr

/-- Burning goes on at the first burn that needs a pulse, after a VQPS sample in the cycle before it: outside the window
the command ends, with SUPPLY_WINDOW at the first sample and ABORTED at a later one (R129). `none`: nothing is left to
burn. -/
def Otp.nextPulse (o : Otp) (r : OtpRun) (vqps : Nat) : Option (Otp × Option PathEnd) :=
  match o.skipDone r.todo with
  | [] => none
  | b :: bs =>
    if vqpsInWindow vqps then
      let ph := OtpPhase.pulse ((lowestBit (o.pulseBits b)).getD 0) 0
      some ({ o with run := some { r with todo := b :: bs, first := false, phase := ph } }, none)
    else some ({ o with run := none }, some ⟨if r.first then .supplyWindow else .aborted, r.job, r.burned⟩)

/-- Rows that must hold given words verify at all three references: none is marginal or differs. -/
def Otp.verifies (o : Otp) (rows : List (Nat × BitVec 64)) : Bool :=
  rows.all fun e => !rowMarginal (o.sense e.1) && (o.sense e.1).nrm == e.2

/-- The six digest rows of a region's record with the words of the computed digest (R123). -/
def Otp.digestRows (o : Otp) (code : Nat) : List (Nat × BitVec 64) :=
  let d := regionDigest code fun n => (o.sense n).nrm
  (List.range 6).map fun i =>
    (recordRow ((finalIndex code).getD 0) + i, BitVec.ofNat 64 (ofLE (slice d (8 * i) 8)))

/-- A burn of all of `v` into row `n`, after redirection. -/
def Otp.burnOf (o : Otp) (e : Nat × BitVec 64) : Burn := ⟨o.phys e.1, e.2, BitVec.allOnes 64⟩

/-- The marker burn of all 64 bits. -/
def Otp.markerBurn (o : Otp) (n : Nat) : Burn := o.burnOf (n, BitVec.allOnes 64)

/-- The path goes on from `r`: to the next pulse, or, with nothing left to burn, to what ends the job (R127 steps 9 to
11, R131, R136, R138, R139). -/
def Otp.goOn (o : Otp) (r : OtpRun) (vqps : Nat) : Otp × Option PathEnd :=
  match o.nextPulse r vqps with
  | some x => x
  | none =>
    let stop (c : Code) : Otp × Option PathEnd := ({ o with run := none }, some ⟨c, r.job, r.burned⟩)
    match r.job with
    | .finalise code =>
      let f := (finalIndex code).getD 0
      if o.verifies (o.digestRows code) then
        match o.nextPulse { r with job := .finMark code, todo := [o.markerBurn (recordRow f + 6)] } vqps with
        | some x => x
        | none => ({ o.reload ((List.range 8).map (recordRow f + ·)) with run := none }, some ⟨.done, r.job, r.burned⟩)
      else stop .integrity
    | .finMark code =>
      let f := (finalIndex code).getD 0
      ({ o.reload ((List.range 8).map (recordRow f + ·)) with run := none }, some ⟨.done, r.job, r.burned⟩)
    | .rootHalf ws =>
      if o.verifies (ws.zipIdx.map fun e => (0x080 + e.2, e.1)) then
        match o.nextPulse { r with job := .rootMark, todo := [o.markerBurn 0x088] } vqps with
        | some x => x
        | none => stop .done
      else stop .integrity
    | _ => stop .done

/-- A cell's bit after a pulse: what the pulse left it to read; a bit never goes back to 0 at a reference where it read
1. -/
def pulsedRow (r : Row3) (i : Nat) (m0 nrm m1 : Bool) : Row3 :=
  let set (v : BitVec 64) (b : Bool) : BitVec 64 := if b then v ||| (1#64 <<< i) else v
  ⟨set r.m0 (m0 || nrm || m1), set r.nrm (nrm || m1), set r.m1 m1⟩

/-- A pulse ends and the bit is read at MARGIN_1 (R130): a bit that passes is burned and the next follows; a bit that
fails receives up to three further pulses, each after a VQPS sample; a row that needs no more goes to its
three-reference read. -/
def Otp.pulseEnd (o : Otp) (r : OtpRun) (bit tries : Nat) (m0 nrm m1 : Bool) (vqps : Nat) : Otp × Option PathEnd :=
  match r.todo with
  | [] => ({ o with run := none }, some ⟨.integrity, r.job, r.burned⟩)
  | b :: bs =>
    let o := { o with cells := Sparse.put {} o.cells b.row (pulsedRow (o.cell b.row) bit m0 nrm m1) }
    if (o.cell b.row).m1.getLsbD bit then
      let r := { r with burned := r.burned + 1 }
      match lowestBit (o.pulseBits b) with
      | none => ({ o with run := some { r with phase := .rowCheck } }, none)
      | some i =>
        if vqpsInWindow vqps then ({ o with run := some { r with todo := b :: bs, phase := .pulse i 0 } }, none)
        else ({ o with run := none }, some ⟨.aborted, r.job, r.burned⟩)
    else if tries < 3 then
      if vqpsInWindow vqps then ({ o with run := some { r with phase := .pulse bit (tries + 1) } }, none)
      else ({ o with run := none }, some ⟨.aborted, r.job, r.burned⟩)
    else ({ o with run := none }, some ⟨.integrity, r.job, r.burned⟩)

/-- The three-reference read of the row just burned ends (R130): a row that is marginal or differs from the data stops
the command with INTEGRITY; otherwise the path goes on. -/
def Otp.rowChecked (o : Otp) (r : OtpRun) (vqps : Nat) : Otp × Option PathEnd :=
  match r.todo with
  | [] => o.goOn r vqps
  | b :: bs =>
    if rowMarginal (o.cell b.row) || (o.cell b.row).nrm != b.data then
      ({ o with run := none }, some ⟨.integrity, r.job, r.burned⟩)
    else o.goOn { r with todo := bs } vqps

/-! ### The checks of FINALISE (R127) -/

/-- The mandatory rows of the ROM template (R126). -/
def mandatoryRows : Nat → List Nat
  | 0 => List.range 16
  | 1 => (List.range 9).map (0x080 + ·)
  | 2 => (List.range 12).map (0x100 + ·)
  | _ => (List.range 30).map (0x308 + ·)

/-- Step 3: a mandatory row reads zero in the shadow (R120), or the region is IDENT and the root half is not set.
Marks: log 108 (DEDUCED). -/
def Otp.finIncomplete (o : Otp) (code : Nat) : Bool :=
  ((mandatoryRows code).any fun n => o.shadow n == 0) || (code == 1 && !o.rootHalfSet)

/-- Step 4: a row of the region or of its record is marginal. -/
def Otp.finMarginal (o : Otp) (code : Nat) : Bool :=
  let rows := regionRows code
  let rec0 := recordRow ((finalIndex code).getD 0)
  ((List.range rows.2).any fun i => rowMarginal (o.sense (rows.1 + i))) ||
    (List.range 8).any fun i => rowMarginal (o.sense (rec0 + i))

/-- Step 7: the stored digest rows hold a 1 where the computed digest holds a 0. -/
def Otp.finConflict (o : Otp) (code : Nat) : Bool :=
  (o.digestRows code).any fun e => ((o.sense e.1).nrm &&& ~~~ e.2) != 0

end Sys2Proof.Machine
end

