-- ==== Sys2Proof/Machine/Fence.lean ====
section
/-!
DEFINITION. Machine/Fence.lean: the fence: limits, the operating point, the sensor scan, the AVSBus and the health report
(16_fence_and_wear.md), and DIM (R104, R105). A trip's reset follows in Machine/Sequencer.lean.
-/
namespace Sys2Proof.Machine

/-- The fence changed by `f`. -/
def State.onFnc (s : State) (f : Fnc → Fnc) : State := { s with fnc := f s.fnc }

/-! ### Factory limits (R523, R524) -/

/-- The limits that TRIM rows 0, 1 and 3 hold. -/
def trimLimits (r0 r1 r3 : BitVec 64) : FncLimits :=
  { vFloor := fldN r0 0 16, vCeil := fldN r0 16 16, vNom := fldN r0 32 16, iMax := fldN r0 48 16, tThrottle := fld r1 0 12,
    tTrip := fld r1 12 12, tResume := fld r1 24 12, dutyMin := fldN r1 36 5, dutyMax := fldN r1 41 5,
    wearMax := fldN r1 46 8, absentMax := fldN r1 54 7, tOffset := fld r3 0 12 }

/-- The wear baselines: 12 bits for each of 64 sentries, from the string that TRIM rows 0x004 to 0x00F hold (R523). -/
def trimBaselines (row : Nat → BitVec 64) : List (BitVec 12) :=
  let all := (List.range 12).foldr (fun i n => (row (4 + i)).toNat + 2 ^ 64 * n) 0
  (List.range 64).map fun k => BitVec.ofNat 12 (all / 2 ^ (12 * k))

/-- The fence fields of TRIM are valid (R524). -/
def trimValid (r0 r1 r3 : BitVec 64) : Bool :=
  let l := trimLimits r0 r1 r3
  650 ≤ l.vFloor && l.vFloor ≤ l.vNom && l.vNom ≤ l.vCeil && l.vCeil ≤ 850 && l.tResume.toInt < l.tThrottle.toInt &&
    l.tThrottle.toInt < l.tTrip.toInt && 1 ≤ l.dutyMin && l.dutyMin ≤ l.dutyMax && l.dutyMax ≤ 16 && fldN r1 61 3 == 0 &&
    fldN r3 12 52 == 0

/-! ### Effective limits and the planned point (R526 to R528) -/

def Fnc.floor (f : Fnc) : Nat := f.limits.vFloor + f.plan.floorUp
def Fnc.ceil (f : Fnc) : Nat := f.limits.vCeil - f.plan.ceilDown
def Fnc.throttleT (f : Fnc) : Int := f.limits.tThrottle.toInt - f.plan.throttleDown
def Fnc.tripT (f : Fnc) : Int := f.limits.tTrip.toInt - f.plan.tripDown
def Fnc.resumeT (f : Fnc) : Int := f.limits.tResume.toInt - f.plan.resumeDown
def Fnc.dutyMax (f : Fnc) : Nat := f.limits.dutyMax - f.plan.dutyMaxDown
def Fnc.wearMax (f : Fnc) : Nat := f.limits.wearMax - f.plan.wearMaxDown
def Fnc.iMax (f : Fnc) : Nat := f.limits.iMax - f.plan.iMaxDown

/-- VW, the voltage that the wear steps call for (R527). -/
def Fnc.vWear (f : Fnc) : Nat := f.limits.vNom + (5 * f.plan.wear + 1) / 2

/-- The plan selects the boot point (R528). -/
def Fnc.bootPoint (f : Fnc) : Bool := f.plan.v == 0 && f.plan.duty == 0

/-- The planned voltage and duty. -/
def Fnc.planV (f : Fnc) : Nat := if f.bootPoint then f.floor else f.plan.v
def Fnc.planDuty (f : Fnc) : Nat := if f.bootPoint then f.limits.dutyMin else f.plan.duty

/-- The staged values as a plan. -/
def State.stagedPlan (s : State) : FncPlan :=
  let p := s.reg .fncPlan
  let t := s.reg .fncDeltaT
  let m := s.reg .fncDeltaMisc
  { v := fldN p 0 16, duty := fldN p 16 5, boost := bit p 21, wear := fldN (s.reg .fncWearSteps) 0 8,
    floorUp := fldN (s.reg .fncDeltaV) 0 16, ceilDown := fldN (s.reg .fncDeltaV) 16 16, throttleDown := fldN t 0 12,
    tripDown := fldN t 12 12, resumeDown := fldN m 0 12, dutyMaxDown := fldN m 12 5, wearMaxDown := fldN m 17 8,
    iMaxDown := fldN (s.reg .fncDeltaI) 0 16 }

/-- Some delta of `p` is smaller than that of `q`.
Marks: log 72 (DEDUCED). -/
def FncPlan.loosens (p q : FncPlan) : Bool :=
  p.floorUp < q.floorUp || p.ceilDown < q.ceilDown || p.throttleDown < q.throttleDown || p.tripDown < q.tripDown ||
    p.resumeDown < q.resumeDown || p.dutyMaxDown < q.dutyMaxDown || p.wearMaxDown < q.wearMaxDown ||
    p.iMaxDown < q.iMaxDown

/-- The plan `f.plan` breaks its limits, or R528.
Marks: log 72 (DEDUCED). -/
def Fnc.planBad (f : Fnc) : Bool :=
  f.limits.vCeil < f.plan.ceilDown || f.ceil < f.floor || f.dutyMax < f.limits.dutyMin ||
    !(f.resumeT < f.throttleT && f.throttleT < f.tripT) || f.limits.wearMax < f.plan.wearMaxDown ||
    f.wearMax < f.plan.wear || f.ceil < f.vWear ||
    (!f.bootPoint &&
      !(max f.floor f.vWear ≤ f.plan.v && f.plan.v ≤ f.ceil && f.limits.dutyMin ≤ f.plan.duty &&
        f.plan.duty ≤ f.dutyMax))

/-! ### Moving the point (R530, R531, R540) -/

/-- A subframe queued for the AVSBus; the first of the queue is on the bus. -/
def State.avsSend (s : State) (op : AvsOp) : State :=
  let first := s.fnc.avs.isEmpty
  let s := s.onFnc fun f => { f with avs := f.avs ++ [op] }
  if first then s.emit (.avs op) else s

/-- The raise that is awaited once the point moves to voltage `v` and duty `d`: a new one, or one that has not settled and
that the duty still waits for.
Marks: log 77 (DEDUCED). -/
def Fnc.awaits (f : Fnc) (v d : Nat) : Option Nat :=
  if f.vset < v then some v
  else if v = f.vset then f.settling
  else if f.settling.isSome ∧ f.d < d then some v else none

/-- The point moves to voltage `v` and duty `d`: a raise changes the voltage first and the duty once it has settled, a
lowering the duty first.
Marks: log 77 (DEDUCED). -/
def State.movePoint (s : State) (v d : Nat) : State :=
  let f := s.fnc
  let s := s.onFnc fun f =>
    { f with vset := v, settling := f.awaits v d, d := if (f.awaits v d).isSome then min f.d d else d }
  if v = f.vset then s else s.avsSend (.write v)

/-- The duty that the committed plan gives now: DUTY_MIN after a trip until the die has cooled (R537). -/
def Fnc.dutyNow (f : Fnc) : Nat := if f.hot then f.limits.dutyMin else f.planDuty

/-- Boost is off (R538): the duty comes down to the planned one.
Marks: log 77 (DEDUCED). -/
def State.boostOff (s : State) : State := s.onFnc fun f => { f with d := min f.d f.planDuty }

/-- The duty that a settled raise leads to: DUTY_MIN under the AVSBus fault and in DIM (R531, R540). -/
def State.settledDuty (s : State) : Nat :=
  if s.fnc.avsFault || s.crs.dim then s.fnc.limits.dutyMin else s.fnc.dutyNow

/-- The committed point taken up; under the AVSBus fault, and in DIM, the floor at DUTY_MIN (R531, R540). -/
def State.takePoint (s : State) : State :=
  if s.fnc.avsFault || s.crs.dim then s.movePoint s.fnc.floor s.fnc.limits.dutyMin
  else s.movePoint s.fnc.planV s.fnc.dutyNow

/-- A throttle event counted where the duty has fallen below the planned one from `d`, at or above it (R535). -/
def State.countFall (s : State) (d : Nat) : State :=
  s.onFnc fun f => if f.d < f.planDuty ∧ f.planDuty ≤ d then { f with cntThrottle := tally f.cntThrottle } else f

/-- The AVSBus fault (R72, R530): held until the next release of D1. The duty falls to DUTY_MIN, which is a throttle event
(R535); in DIM, which has lowered it already, it falls no further. -/
def State.avsFails (s : State) : State :=
  ((s.onFnc fun f => { f with avsFault := true, settling := none }).health 8 .integrity).takePoint.countFall s.fnc.d

/-- TRIM read from the shadow once it is loaded; then the floor voltage is the first subframe on the bus (R72, R523).
Marks: log 102 (DESIGN CHOICE). -/
def State.fenceStart (s : State) : State :=
  let r0 := s.otp.shadow 0
  let r1 := s.otp.shadow 1
  let r3 := s.otp.shadow 3
  let ok := s.otp.isUsable 0 && trimValid r0 r1 r3
  let s := s.onFnc fun f =>
    let f :=
      { f with
        limits := if ok then { trimLimits r0 r1 r3 with baselines := trimBaselines s.otp.shadow } else {}
        trimDefault := !ok }
    { f with d := f.limits.dutyMin, vset := f.floor }
  (s.avsSend (.write s.fnc.floor)).avsSend .readVersion

/-! ### Commit (R527) -/

/-- A partition defined as confidential exists: PRT_STATUS.CONF_ANY. -/
def State.confAny (s : State) : Bool := s.prt.parts.any fun e => e.2.st != .free && e.2.conf

/-- FNC_COMMIT: the staged values take effect together, or the commit is refused.
Marks: log 72 (DEDUCED). -/
def State.fenceCommit (s : State) : State :=
  let p := s.stagedPlan
  let f : Fnc := { s.fnc with plan := p }
  let denied := s.confAny || p.loosens s.fnc.plan || p.wear < s.fnc.plan.wear || f.planBad
  if denied then s.onFnc fun f => { f with commitCode := .deniedAttr }
  else (s.onFnc fun f => { f with plan := p, commitCode := .done }).takePoint

/-- FNC_COMMIT (R527): only a write with COMMIT = 1 commits.
Marks: log 56 (DEDUCED). -/
def execFncCommit (w : Word) (s : State) : Res := ranOn .d1 (fun s => if bit w 0 then s.fenceCommit else s) s

/-! ### Sensor bus (R67 to R70, R533) -/

/-- SNS_REQUEST (R533): due while the scan has an address left. Each scan reads one AVSBus value too, once TRIM is read; when
the fence reads the regulator's temperature (R71) the spec leaves open.
Marks: log 102 (DESIGN CHOICE). -/
def execSnsRequest (s : State) : Res :=
  ranIf (s.up .d1 && s.fnc.next < 192)
    (fun s =>
      let a : BitVec 8 := BitVec.ofNat 8 s.fnc.next
      let s :=
        if s.fnc.next = 0 ∧ s.otp.startupDone = true then
          let op : AvsOp := if s.fnc.readCurrent then .readI else .readV
          let s := (s.avsSend op).onFnc fun f => { f with readCurrent := !f.readCurrent }
          if Config.avsReadsTemp s.fnc.scans then s.avsSend .readTemp else s
        else s
      (s.onFnc fun f => { f with next := f.next + 1, owed := f.owed ++ [a] }).emit (.sensor a)) s

/-- A reading counts as present (R70). -/
def readingPresent (v : BitVec 16) : Bool :=
  bit v 15 && ((List.range 16).filter fun i => bit v i).length % 2 == 1 && fldN v 12 2 == 0

/-- A sensor's reading recorded, or its absence. -/
def State.sensorReads (s : State) (a : BitVec 8) (v : Option (BitVec 16)) : State :=
  s.onFnc fun f =>
    let f := { f with owed := f.owed.erase a, sensors := Sparse.put 0 f.sensors a.toNat (v.getD 0) }
    match v with
    | some x =>
      if a.toNat < 0x80 then
        let t : Int := (fld x 0 12).toInt + f.limits.tOffset.toInt
        { f with scanMax := some (f.scanMax.elim t fun m => max m t) }
      else f
    | none =>
      if a.toNat < 0x80 then { f with scanAbsent := f.scanAbsent + 1 }
      else { f with cntAbsent := tally f.cntAbsent }

/-- SNS_RESPONSE (R68): a response that no request awaits is dropped and counted. -/
def execSnsResponse (addr : BitVec 8) (data : BitVec 16) (s : State) : Res :=
  ran (fun s =>
    if s.fnc.owed.contains addr then s.sensorReads addr (if readingPresent data then some data else none)
    else s.onFnc fun f => { f with cntSnsdrop := tally f.cntSnsdrop }) s

/-- SNS_TIMEOUT (R68): due for a sensor that has not answered.
Marks: log 41 (DESIGN CHOICE). -/
def execSnsTimeout (addr : BitVec 8) (s : State) : Res :=
  ranIf (s.fnc.owed.contains addr) (fun s => s.sensorReads addr none) s

/-! ### AVSBus (R71, R72, R530) -/

/-- A voltage reading: kept, and held against the range of R536. Two out of range in a row stand until the scan that trips.
Marks: log 77 (DEDUCED). -/
def Fnc.readsV (f : Fnc) (mv : BitVec 16) : Fnc :=
  let out := mv.toNat + 25 < f.floor || f.ceil + 25 < mv.toNat
  { f with vread := mv, vBad := if 2 ≤ f.vBad then f.vBad else if out then f.vBad + 1 else 0 }

/-- The subframe on the bus has ended; the next one starts. -/
def State.avsNext (s : State) : State :=
  let s := s.onFnc fun f => { f with avs := f.avs.drop 1, avsRetried := false }
  match s.fnc.avs with
  | [] => s
  | op :: _ => s.emit (.avs op)

/-- What waits for the bus, without the voltage writes above the floor that a fault forbids (R72). -/
def State.avsBar (s : State) : State :=
  s.onFnc fun f =>
    { f with avs := f.avs.take 1 ++ (f.avs.drop 1).filter fun op => match op with
        | .write mv => mv ≤ f.floor
        | _ => true }

/-- The regulator's alert is answered by reading Status, and by nothing else (R71).
Marks: log 102 (DESIGN CHOICE). -/
def State.avsAlerted (s : State) (alert : Bool) : State :=
  if alert && !s.fnc.avs.contains .readStatus then s.avsSend .readStatus else s

/-- AVS_RESPONSE (R72): due while a subframe is on the bus. A bad answer is retried once; a second one is the fault.
`alert`: the regulator signals a status alert (R71). -/
def execAvsResponse (good alert : Bool) (data : BitVec 16) (s : State) : Res :=
  ranIf (!s.fnc.avs.isEmpty)
    (fun s =>
      match s.fnc.avs with
      | [] => s
      | op :: _ =>
        if good then
          (s.onFnc fun f =>
            match op with
            | .readV => f.readsV data
            | .readI => { f with cread := data }
            | _ => f).avsNext.avsAlerted alert
        else if s.fnc.avsRetried then s.avsBar.avsNext.avsFails
        else (s.onFnc fun f => { f with avsRetried := true, cntAvsretry := tally f.cntAvsretry }).emit (.avs op)) s

/-- The voltage that a raise waits for has been written. -/
def Fnc.raiseWritten (f : Fnc) : Bool :=
  f.settling.isSome && f.avs.all fun op => match op with
    | .write _ => false
    | _ => true

/-- AVS_READBACK (R530): due while a written raise settles. VDD_CORE is read over the bus: within 10 mV of the target, the
duty follows; a bad answer is retried once, and a second one is the fault (R72). -/
def execAvsReadback (good : Bool) (mv : BitVec 16) (s : State) : Res :=
  ranIf s.fnc.raiseWritten
    (fun s =>
      let s := s.emit (.avs .readV)
      if good then
        let s := s.onFnc fun f => { f.readsV mv with readRetried := false }
        match s.fnc.settling with
        | none => s
        | some v =>
          if v ≤ mv.toNat + 10 ∧ mv.toNat ≤ v + 10 then s.onFnc fun f => { f with settling := none, d := s.settledDuty }
          else s
      else if s.fnc.readRetried then (s.onFnc fun f => { f with readRetried := false }).avsBar.avsFails
      else s.onFnc fun f => { f with readRetried := true, cntAvsretry := tally f.cntAvsretry }) s

/-- AVS_SETTLE_TIMEOUT (R530): due while a written raise has not settled.
Marks: log 41 (DESIGN CHOICE). -/
def execAvsSettleTimeout (s : State) : Res := ranIf s.fnc.raiseWritten State.avsFails s

/-! ### The end of a scan (R533 to R537) -/

/-- The trip that a scan finds: 1 temperature, 2 voltage, 3 sensors. -/
def Fnc.trips (f : Fnc) : Option Nat :=
  if f.scanMax.any fun t => f.tripT ≤ t then some 1
  else if 2 ≤ f.vBad then some 2
  else if f.limits.absentMax < f.scanAbsent ∧ f.lastAbsent = true then some 3 else none

/-- The duty after a scan that does not trip (R534). -/
def Fnc.scanDuty (f : Fnc) (conf : Bool) : Nat :=
  let i := f.cread.toNat
  let hotOrHigh := f.scanMax.any (fun t => f.throttleT ≤ t) || f.iMax ≤ i
  let cool := f.scanMax.any (fun t => t < f.throttleT - 16) && 16 * i < 15 * f.iMax
  let cold := f.scanMax.any (fun t => t < f.throttleT - 80) && 4 * i < 3 * f.iMax
  let warm := f.scanMax.any (fun t => f.throttleT - 16 ≤ t) || 15 * f.iMax ≤ 16 * i
  let free := f.settling.isNone
  if hotOrHigh then max f.limits.dutyMin (f.d - 1)
  else if cool && f.d < f.planDuty && free then f.d + 1
  else if f.plan.boost && !conf && cold && f.d < f.dutyMax && free then f.d + 1
  else if warm && f.planDuty < f.d then max f.limits.dutyMin (f.d - 1)
  else f.d

/-- The point after a scan.
Marks: log 72 (DEDUCED). -/
def State.scanEnd (s : State) : State :=
  let conf := s.confAny
  let held := s.crs.dim || s.fnc.avsFault
  let many := s.fnc.limits.absentMax < s.fnc.scanAbsent
  let s := s.onFnc fun f =>
    let hot := f.hot && !(f.scanMax.any fun t => t < f.resumeT)
    let d := if hot || held then f.limits.dutyMin else f.scanDuty conf
    let event := !held && !hot && d < f.planDuty && f.planDuty ≤ f.d
    { f with
      hot := hot
      d := d
      cntThrottle := if event then tally f.cntThrottle else f.cntThrottle
      tmax := f.scanMax.elim f.tmax fun t => BitVec.ofInt 12 t
      lastAbsent := many
      scanMax := none
      scanAbsent := 0
      next := 0
      scans := f.scans + 1 }
  if many then s.health 9 .integrity else s

/-! ### Health report (R543) -/

/-- FNC_HEALTH_POP's word. -/
def State.healthPopWord (s : State) : Word :=
  match s.fnc.healthQ with
  | [] => 0
  | e :: _ =>
    putN e.unit 0 4 ||| put e.code.byte 4 ||| put (e.part.getD 0) 12 ||| putB e.part.isSome 18 ||| putB true 31

/-- FNC_HEALTH_POP (R543). -/
def execFncHealthPop (s : State) : Res :=
  ranOn .d1 (fun s => (s.onFnc fun f => { f with healthQ := f.healthQ.drop 1 }).emit (.read s.healthPopWord)) s

/-! ### DIM (R104 to R106) -/

/-- DIM ends for exit trigger `why`: the clocks run, TAP_UP rises with its credits, the watchdog of D5 reloads and the fence
restores the planned point.
Marks: log 20 (DESIGN CHOICE). -/
def State.dimEnd (s : State) (why : Nat) : State :=
  if !s.crs.dim then s
  else
    let s := s.onCrs fun c => { c with dim := false, dimExit := why, ctlCount := (s.reg .crsWdtCtlLoad).toNat }
    let s : State := { s with sme := { s.sme with tapUp := true } }
    (s.emit (.tapCredits 32)).takePoint

/-- A request to a unit of D3 that D3 does not serve completes with BUSY; in DIM it ends DIM (R43, R105).
Marks: log 23 (DEDUCED). -/
def State.refuseD3 (s : State) : State := (s.dimEnd 4).emit (.code .busy)

end Sys2Proof.Machine
end

