-- ==== Sys2Proof/Machine/KeySlots.lean ====
section
/-!
DEFINITION. Machine/KeySlots.lean: one key slot: its attribute word, its integrity code, and what a read of it detects
(R278 to R285).
-/
namespace Sys2Proof.Machine

/-- Slot `i` of the key store. -/
def State.slot (s : State) (i : SlotIx) : Slot := Sparse.get {} s.kst.slots i.toNat

/-- Slot `i` put to `v`. -/
def State.setSlot (s : State) (i : SlotIx) (v : Slot) : State :=
  s.onKst fun k => { k with slots := Sparse.put {} k.slots i.toNat v }

/-- The fields of the attribute word (R279). -/
def Slot.valid (v : Slot) : Bool := bit v.attr 0
def Slot.usage (v : Slot) : BitVec 4 := fld v.attr 1 4
def Slot.part (v : Slot) : PartId := fld v.attr 5 6
def Slot.gateOnly (v : Slot) : Bool := bit v.attr 11
def Slot.endpointOk (v : Slot) : Bool := bit v.attr 12
def Slot.deriveOk (v : Slot) : Bool := bit v.attr 13
def Slot.wrapOk (v : Slot) : Bool := bit v.attr 14
def Slot.testRoot (v : Slot) : Bool := bit v.attr 15
def Slot.warmKeep (v : Slot) : Bool := bit v.attr 16
def Slot.gen (v : Slot) : Gen := fld v.attr 17 8

/-- The attribute word `a` with the GEN field put to `g`. -/
def attrWithGen (a : Word) (g : Gen) : Word := (a &&& ~~~ (ones 17 8)) ||| put g 17

/-- The key as bytes, byte 0 in bits [7:0]. -/
def keyBytes (k : BitVec 256) : Bytes := leBytes 32 k.toNat

/-- A key from its 32 bytes. -/
def keyOf (bs : Bytes) : BitVec 256 := BitVec.ofNat 256 (ofLE (bs.take 32))

/-- The integrity code of a slot (R278). -/
def slotCrc (i : SlotIx) (attr : Word) (key : BitVec 256) : Word :=
  crc32c (leBytes 2 i.toNat ++ leBytes 4 attr.toNat ++ keyBytes key)

/-- A read of the slot finds no fault: its word is correctable and its code matches. A slot that has never been written
since it was last zeroed holds the code of its zeros. -/
def slotSound (i : SlotIx) (v : Slot) : Bool := v == {} || (!v.bad && v.crc == slotCrc i v.attr v.key)

/-- A slot reads unusable: the store has marked it so, or this read detects the fault (R284).
Marks: log 44 (DEDUCED). -/
def State.slotUnusable (s : State) (i : SlotIx) : Bool := (s.slot i).unusable || !slotSound i (s.slot i)

/-- A read of slot `i`: the first read that detects a fault marks the slot, counts it and raises it (R284).
Marks: log 44 (DEDUCED). -/
def State.readSlot (s : State) (i : SlotIx) : State :=
  let v := s.slot i
  if v.unusable || slotSound i v then s
  else
    let s := s.setSlot i { v with unusable := true }
    let s := s.onKst fun k => { k with cntIntegrity := tally k.cntIntegrity }
    (s.onKln fun k => { k with intIntegrity := true }).health 2 .integrity (some v.part)

/-- What SECDED finds in slot `i` as it is read: a corrected word counts, one that cannot be corrected stays bad (R278).
Marks: log 44 (DEDUCED). -/
def State.slotErr (s : State) (i : SlotIx) (e : MemErr) : State :=
  match e with
  | .none => s
  | .corrected => s.onKst fun k => { k with cntCorrected := tally k.cntCorrected }
  | .uncorr => s.setSlot i { s.slot i with bad := true }

/-- A read of slot `i` that meets `e`.
Marks: log 44 (DEDUCED). -/
def State.fetchSlot (s : State) (i : SlotIx) (e : MemErr) : State := (s.slotErr i e).readSlot i

/-- A slot written: GEN advances, the code is computed anew (R278, R283). -/
def State.writeSlot (s : State) (i : SlotIx) (key : BitVec 256) (attr : Word) (lineage : BitVec 7) : State :=
  let a := attrWithGen attr ((s.slot i).gen + 1)
  s.setSlot i { key := key, attr := a, crc := slotCrc i a key, lineage := lineage }

/-- A slot zeroed: VALID and the key clear, GEN kept as `g` (R283). -/
def State.zeroSlot (s : State) (i : SlotIx) (g : Gen) : State :=
  let a := put g 17
  s.setSlot i (if g = 0 then {} else { attr := a, crc := slotCrc i a 0 })

/-- A command's GEN differs from the slot's (R283). -/
def State.slotStale (s : State) (i : SlotIx) (g : Gen) : Bool := (s.slot i).gen != g

/-- The usage codes of R280. -/
def usageSeed : BitVec 4 := 0x1
def usageSession : BitVec 4 := 0x2
def usageShare : BitVec 4 := 0x3
def usageJoint : BitVec 4 := 0x4
def usageKdk : BitVec 4 := 0x5
def usageMem : BitVec 4 := 0x6
def usageLink : BitVec 4 := 0x7
def usageHostbus : BitVec 4 := 0x8
def usageDma : BitVec 4 := 0x9
def usageWindow : BitVec 4 := 0xA

end Sys2Proof.Machine
end

