-- ==== Sys2Proof/Machine/KeyFabric.lean ====
section
/-!
DEFINITION. Machine/KeyFabric.lean: the endpoint table, EMBER revokes, the port queues, and the KFB commands
(10_key_fabric.md).
-/
namespace Sys2Proof.Machine

/-! ### Endpoints and groups -/

/-- The table entry of an endpoint (R315). -/
def State.endpoint (s : State) (e : EndpointId) : Endpoint := Sparse.get {} s.kfb.eps e.toNat

/-- The table entry of an endpoint put to `v`. -/
def State.setEndpoint (s : State) (e : EndpointId) (v : Endpoint) : State :=
  s.onKfb fun k => { k with eps := Sparse.put {} k.eps e.toNat v }

/-- The port that reaches an endpoint (R314). -/
def portOf (e : EndpointId) : Nat := fldN e 9 3

/-- Group `g`: every PRESENT endpoint bound to partition `g` (R316). -/
def State.groupMembers (s : State) (g : PartId) : List EndpointId :=
  (s.kfb.eps.filter fun e => e.2.present && e.2.part == g).map fun e => BitVec.ofNat 12 e.1

/-- The endpoints that a destination addresses: one, the members of a group, or (for DKIND 2) no listed set. -/
def State.addressed (s : State) (dkind : BitVec 2) (dest : BitVec 12) : List EndpointId :=
  if dkind = 0 then [dest] else if dkind = 1 then s.groupMembers (dest.setWidth 6) else []

/-- The ports that serve a list of endpoints, in rising order. -/
def portsOf (eps : List EndpointId) : List Nat := (List.range 8).filter fun p => eps.any fun e => portOf e == p

/-- GEN of a header (R322): the endpoint's EGEN, the partition generation, or zero. -/
def State.headerGen (s : State) (dkind : BitVec 2) (dest : BitVec 12) : Gen :=
  if dkind = 0 then (s.endpoint dest).egen else if dkind = 1 then s.partGen (dest.setWidth 6) else 0

/-- The header beat of a message (R322). -/
def headerBeat (typ : BitVec 4) (cls dkind : BitVec 2) (dest : BitVec 12) (gen : Gen) (usage : BitVec 4)
    (seq : BitVec 32) : BitVec 64 :=
  (typ.setWidth 64 <<< 60) ||| (cls.setWidth 64 <<< 58) ||| (dkind.setWidth 64 <<< 56) ||| (dest.setWidth 64 <<< 44) |||
    (gen.setWidth 64 <<< 36) ||| (usage.setWidth 64 <<< 32) ||| seq.setWidth 64

/-- The message types of R323. -/
def tRevoke : BitVec 4 := 0x1
def tZeroise : BitVec 4 := 0x2
def tRetire : BitVec 4 := 0x3
def tRotate : BitVec 4 := 0x4
def tLoad : BitVec 4 := 0x5
def tBind : BitVec 4 := 0x8
def tGrant : BitVec 4 := 0x9

/-- The class of a message type (R323): 0 EMBER, 1 ROTATE, 2 LOAD, 3 BULK. -/
def classOf (typ : BitVec 4) : BitVec 2 :=
  if typ = tRotate then 1 else if typ = tLoad then 2 else if typ = tBind ∨ typ = tGrant then 3 else 0

/-- The tag in SEQ of a LOAD or a REVOKE: the slot and its generation (R323). -/
def tagSeq (slot : SlotIx) (sgen : Gen) : BitVec 32 := slot.setWidth 32 ||| (sgen.setWidth 32 <<< 14)

/-! ### Ports -/

/-- Port `p`. -/
def State.port (s : State) (p : Nat) : KfPort := s.kfb.ports.getD p {}

/-- Port `p` changed by `f`. -/
def State.onPort (s : State) (p : Nat) (f : KfPort → KfPort) : State :=
  s.onKfb fun k => { k with ports := modAt k.ports p f }

/-- KFB_PORT_CTRL.FREEZE of port `p`. -/
def State.portFrozen (s : State) (p : Nat) : Bool := bit (s.reg .kfbPortCtrl 0 p) 0

/-- The message credits of an endpoint that are out (R329). -/
def State.creditsOut (s : State) (e : EndpointId) : Nat := (s.kfb.owed.filter fun o => o.ep == e).length

/-- Port `p` becomes FAULTED (R335): EMBER beats already sent leave its queue, the fault is flagged and reported. -/
def State.faultPort (s : State) (p : Nat) : State :=
  let s := s.onPort p fun q => { q with faulted := true, ember := q.ember.filter fun m => !m.sent }
  (s.onKfb fun k => { k with intFault := true }).health 3 .integrity

/-! ### Command tickets (R352) -/

/-- A command in flight ends: its completion is posted in KFB_DONE_POP. -/
def State.endTicket (s : State) (t : Nat) (c : Code) : State :=
  s.onKfb fun k => { k with tickets := k.tickets.filter fun x => x.id != t, doneQ := k.doneQ ++ [(t, c)], intDone := true }

/-- The worse of two results: a refusal before DONE, and the lower of two refusals (R337). -/
def worse (a b : Code) : Code := if a = .done then b else if b = .done then a else Code.min a b

/-- `n` endpoints of a command settled with code `c`; the command ends with its last endpoint. -/
def State.settle (s : State) (t n : Nat) (c : Code) : State :=
  match s.kfb.tickets.find? fun x => x.id == t with
  | none => s
  | some x =>
    let code := worse x.code c
    if x.wait ≤ n then s.endTicket t code
    else s.onKfb fun k =>
      { k with tickets := k.tickets.map fun y => if y.id == t then { y with wait := y.wait - n, code := code } else y }

/-- The lowest ticket not in flight.
Marks: log 76 (DESIGN CHOICE). -/
def State.freeTicket (s : State) : Nat :=
  ((List.range 32).find? fun t => s.kfb.tickets.all fun x => x.id != t).getD 0

/-! ### EMBER (R333 to R335) -/

/-- An EMBER message covers a queued LOAD or ROTATE (R324): by type, and every endpoint that the message addresses is
addressed by the revoke too. -/
def State.covers (s : State) (r : EmberReq) (m : KfMsg) : Bool :=
  let byType :=
    if r.typ = tZeroise then m.typ == tLoad || m.typ == tRotate
    else if r.typ = tRetire then m.typ == tRotate || (m.typ == tLoad && !bit m.seq 28)
    else m.typ == tLoad && fld m.seq 0 22 == fld (tagSeq r.slot r.sgen) 0 22
  byType && (r.dkind == 2 || m.eps.all fun e => (s.addressed r.dkind r.dest).contains e)

/-- A queue without the messages that a revoke covers. A message under way loses its remaining beats. -/
def State.uncovered (s : State) (r : EmberReq) (q : List KfMsg) : List KfMsg := q.filter fun m => !s.covers r m

/-- The covered messages of a port whose header has not been sent: their endpoints on that port settle with ABORTED
(R334). -/
def State.abortCovered (s : State) (r : EmberReq) (p : Nat) : State :=
  let q := s.port p
  (q.rotate ++ q.load).foldl (fun s m =>
    match m.ticket with
    | some t => if s.covers r m && m.sent == 0 then s.settle t (m.eps.filter fun e => portOf e == p).length .aborted else s
    | none => s) s

/-- The mirrored key generations that a revoke leaves (R324, R350). -/
def State.mirrorAfter (s : State) (r : EmberReq) : List KeyMirror :=
  s.kfb.mirror.filter fun k =>
    let hit := r.dkind == 2 || (s.addressed r.dkind r.dest).contains k.ep
    let typ :=
      if r.typ = tZeroise then true else if r.typ = tRetire then !k.keep else k.slot == r.slot && k.sgen == r.sgen
    !(hit && typ)

/-- The ports a revoke is sent on (R333): all eight, those with a member of the group, or the endpoint's. -/
def State.emberPorts (s : State) (r : EmberReq) : List Nat :=
  if r.dkind = 2 then List.range 8 else portsOf (s.addressed r.dkind r.dest)

/-- The EMBER beat of a revoke. -/
def State.emberBeat (s : State) (r : EmberReq) : BitVec 64 :=
  let dest := if r.dkind = 2 then 0 else if r.dkind = 1 then r.dest &&& 0x3F else r.dest
  headerBeat r.typ 0 r.dkind dest (s.headerGen r.dkind r.dest) 0 (if r.typ = tRevoke then tagSeq r.slot r.sgen else 0)

/-- A revoke can be committed: KF_UP is high and every port it goes to has room in its EMBER queue (R334). -/
def State.emberRoom (s : State) (r : EmberReq) : Bool :=
  s.kfb.up && (s.emberPorts r).all fun p => (s.port p).ember.length < 64

/-- The commit of a revoke (R334): it enters the EMBER queue of every port it goes to, and covered messages are
cancelled. A revoke that goes to no port has nothing to wait for.
Marks: log 20 (DESIGN CHOICE). -/
def State.commitEmber (s : State) (r : EmberReq) : State :=
  let ports := s.emberPorts r
  let beat := s.emberBeat r
  let mirror := s.mirrorAfter r
  let id := s.kfb.nextId
  let s0 := s
  let s := ports.foldl (fun s p => s.abortCovered r p) s
  let s := ports.foldl (fun s p =>
    let masked := 16 ≤ (s.port p).used
    let s := s.onPort p fun q =>
      { q with
        ember := q.ember ++ [⟨id, beat, false, masked⟩]
        rotate := s0.uncovered r q.rotate
        load := s0.uncovered r q.load }
    if masked then s.onKfb fun k => { k with cntMasked := tally k.cntMasked } else s) s
  let s := s.onKfb fun k => { k with nextId := id + 1, mirror := mirror }
  if ports.isEmpty then
    match r.owner with
    | .ticket t => s.endTicket t .done
    | _ => s
  else s.onKfb fun k => { k with revokes := k.revokes ++ [⟨id, ports, false, r.owner⟩] }

/-- A Kiln command completes with `c`, and KLN_CTX clears (R313). -/
def State.klnComplete (s : State) (c : Code) : State := (s.onKln fun k => { k with code := c, owed := none }).clearReg .klnCtx

/-- A revoke of a Kiln command waits at its source. -/
def State.klnWaits (s : State) : Bool := s.kfb.waiting.any fun r => r.src == .kilnCmd

/-- A Kiln command whose revokes are all committed completes (R334). -/
def State.klnSettle (s : State) : State :=
  match s.kln.owed with
  | none => s
  | some c => if s.klnWaits then s else s.klnComplete c

/-- Every waiting revoke that now finds room is committed, in the order in which they arose.
Marks: log 49 (DEDUCED). -/
def State.drainEmber (s : State) : State :=
  let s0 := s.onKfb fun k => { k with waiting := [] }
  (s.kfb.waiting.foldl (fun s r =>
    if s.emberRoom r then s.commitEmber r else s.onKfb fun k => { k with waiting := k.waiting ++ [r] }) s0).klnSettle

/-- A hardware source raises a revoke: it is committed at once, or waits at its source (R334, R335). -/
def State.raiseEmber (s : State) (r : EmberReq) : State :=
  (s.onKfb fun k => { k with waiting := k.waiting ++ [r] }).drainEmber

/-- Port `p` becomes FAULTED, and the revokes that waited for the room it leaves are committed (R334, R335). -/
def State.portFails (s : State) (p : Nat) : State := (s.faultPort p).drainEmber

/-- A ZEROISE to all endpoints. -/
def zeroiseAll (src : EmberSrc) : EmberReq := ⟨tZeroise, 2, 0, 0, 0, .none, src⟩

/-- A ZEROISE to a group. -/
def zeroiseGroup (p : PartId) (owner : EmberOwner) (src : EmberSrc) : EmberReq :=
  ⟨tZeroise, 1, p.setWidth 12, 0, 0, owner, src⟩

/-- A REVOKE of a slot's keys at all endpoints. -/
def revokeSlot (i : SlotIx) (g : Gen) (src : EmberSrc) : EmberReq := ⟨tRevoke, 2, 0, i, g, .none, src⟩

/-- Some revoke of this owner is still waiting or unacknowledged. -/
def State.emberOpen (s : State) (o : EmberOwner) : Bool :=
  (s.kfb.revokes.any fun r => r.owner == o) || s.kfb.waiting.any fun r => r.owner == o

/-! ### Sending (R327 to R331) -/

/-- A message consumes a credit at each endpoint it addresses (R329). -/
def usesCredit (m : KfMsg) : Bool := m.typ == tRotate || m.typ == tLoad || m.typ == tBind

/-- The endpoints of a message on one port. -/
def KfMsg.onPort (m : KfMsg) (p : Nat) : List EndpointId := m.eps.filter fun e => portOf e == p

/-- The head of a queue may be granted: the port is not frozen, and a header finds a credit at each endpoint. -/
def State.headReady (s : State) (p : Nat) (q : List KfMsg) : Option KfMsg :=
  match q with
  | [] => none
  | m :: _ =>
    if s.portFrozen p then none
    else if m.sent = 0 && usesCredit m && (m.onPort p).any fun e => 2 ≤ s.creditsOut e then none
    else some m

/-- The queue that the arbiter grants next on port `p` (R327): EMBER while it has quota, else the oldest head; equal ages
to the lowest queue. -/
def State.portGrant (s : State) (p : Nat) : Option Nat :=
  let q := s.port p
  if q.used < 16 && q.ember.any fun m => !m.sent then some 0
  else
    let heads := [(1, s.headReady p q.rotate), (2, s.headReady p q.load), (3, s.headReady p q.bulk)]
    let ages := heads.filterMap fun h => h.2.map fun m => (h.1, m.stamp)
    (ages.foldl (fun best c =>
      match best with
      | none => some c
      | some b => if c.2 < b.2 then some c else some b) none).map (·.1)

/-- A downstream beat with its SECDED check bits over DATA, CLASS and HEAD (R318, R347).
Marks: log 91 (DESIGN CHOICE). -/
def downBeat (p : Nat) (head : Bool) (cls : BitVec 2) (data : BitVec 64) : Out :=
  .kfBeat p head cls data (Config.beatEcc (BitVec.ofBool head ++ cls ++ data))

/-- The first unsent EMBER beat of a queue marked sent; on a FAULTED port it leaves the queue. -/
def emberSent (faulted : Bool) : List EmberSlot → List EmberSlot
  | [] => []
  | m :: ms =>
    if m.sent then m :: emberSent faulted ms
    else if faulted then ms else { m with sent := true } :: ms

/-- One EMBER beat granted and sent: a grant of the window's quota; the grant that exhausts it masks what still waits
(R24, R327). -/
def State.sendEmber (s : State) (p : Nat) : State :=
  match (s.port p).ember.find? fun m => !m.sent with
  | none => s
  | some m =>
    let full := (s.port p).used + 1 ≥ 16
    let s := s.onPort p fun q => { q with ember := emberSent q.faulted q.ember, used := q.used + 1 }
    let s := s.onKfb fun k => { k with cntEmber := tally k.cntEmber }
    let fresh := ((s.port p).ember.filter fun m => !m.sent && !m.masked).length
    let s :=
      if full then
        (s.onPort p fun q => { q with ember := q.ember.map fun m => if m.sent then m else { m with masked := true } }).onKfb
          fun k => { k with cntMasked := min sat32 (k.cntMasked + fresh) }
      else s
    s.emit (downBeat p true 0 m.beat)

/-- The beat that a message sends next: its header, then its further beats. -/
def KfMsg.beat (m : KfMsg) : BitVec 64 :=
  if m.sent = 0 then headerBeat m.typ (classOf m.typ) m.dkind m.dest m.gen m.usage m.seq else m.body.getD (m.sent - 1) 0

/-- The key generation that a LOAD's trailer carries. -/
def KfMsg.kgen (m : KfMsg) : Gen := if m.typ = tLoad then fld (m.body.getD 4 0) 0 8 else fld m.seq 0 8

/-- The beat of a LOAD or a ROTATE that carries its END. -/
def KfMsg.endBeat (m : KfMsg) : BitVec 64 := m.body.getLastD 0

/-- What an endpoint owes once a header reaches it. -/
def KfMsg.owedBy (m : KfMsg) (t : Nat) (e : EndpointId) : Owed :=
  ⟨e, t, m.typ, m.usage, m.kgen, fld m.seq 0 14, fld m.seq 14 8, bit m.seq 28, fld m.endBeat 8 16, fld m.endBeat 24 40⟩

/-- A queue after its head sent one beat; a message leaves with its last beat (R331). -/
def beatSent : List KfMsg → List KfMsg
  | [] => []
  | m :: ms => if m.body.length ≤ m.sent then ms else { m with sent := m.sent + 1 } :: ms

/-- One beat of a class queue granted and sent. -/
def State.sendClass (s : State) (p c : Nat) : State :=
  let q := s.port p
  match (if c = 1 then q.rotate else if c = 2 then q.load else q.bulk).head? with
  | none => s
  | some m =>
    let s := s.onPort p fun q =>
      if c = 1 then { q with rotate := beatSent q.rotate }
      else if c = 2 then { q with load := beatSent q.load } else { q with bulk := beatSent q.bulk }
    let s :=
      if m.sent = 0 && usesCredit m then
        s.onKfb fun k => { k with owed := k.owed ++ (m.onPort p).map (m.owedBy (m.ticket.getD 0)) }
      else s
    s.emit (downBeat p (m.sent == 0) (classOf m.typ) m.beat)

/-- One beat of port `p`. -/
def State.sendBeat (s : State) (p : Nat) : State :=
  match s.portGrant p with
  | none => s
  | some 0 => s.sendEmber p
  | some c => s.sendClass p c

/-! ### Acknowledgements of revokes (R335) -/

/-- The oldest EMBER beat sent on a port. -/
def State.oldestSent (s : State) (p : Nat) : Option EmberSlot := (s.port p).ember.find? fun m => m.sent

/-- A revoke acknowledged on port `p`; with its last port it is acknowledged, `age` CLK_B cycles after its commit. -/
def State.ackRevoke (s : State) (p id age : Nat) : State :=
  match s.kfb.revokes.find? fun r => r.id == id with
  | none => s
  | some r =>
    let rest := r.ports.filter fun x => x != p
    if rest.isEmpty then
      let s := s.onKfb fun k =>
        { k with revokes := k.revokes.filter fun x => x.id != id, emberMax := max k.emberMax (min 0xFFFF age) }
      match r.owner with
      | .ticket t => s.endTicket t .done
      | _ => s
    else s.onKfb fun k =>
      { k with revokes := k.revokes.map fun x => if x.id == id then { x with ports := rest } else x }

/-- EACK: one merged pulse (R335). A FAULTED port matches none; a pulse with no sent beat faults the port. -/
def State.eackPulse (s : State) (p age : Nat) : State :=
  if (s.port p).faulted then s
  else
    match s.oldestSent p with
    | none => s.portFails p
    | some m =>
      let s := s.onPort p fun q => { q with ember := q.ember.eraseP fun x => x.id == m.id && x.sent }
      (s.ackRevoke p m.id age).drainEmber

/-- A revoke masked on some port has not been granted there yet, so that its 900 CLK_B cycles have not begun (R24, R335). -/
def State.maskedYet (s : State) (id : Nat) : Bool :=
  s.kfb.ports.any fun p => p.ember.any fun m => m.id == id && m.masked && !m.sent

/-- EMBER_LATE (R335): revoke `id` is unacknowledged when its 900 CLK_B cycles end, and is counted once.
Marks: log 41 (DESIGN CHOICE). -/
def execEmberLate (id : Nat) (s : State) : Res :=
  ranIf ((s.kfb.revokes.any fun r => r.id == id && !r.late) && !s.maskedYet id)
    (fun s => s.onKfb fun k =>
      { k with
        revokes := k.revokes.map fun r => if r.id == id then { r with late := true } else r
        cntLate := tally k.cntLate
        intLate := true }) s

/-- EMBER_TIMEOUT (R335): the port's oldest sent beat is unacknowledged 4,096 CLK_B cycles after it was sent.
Marks: log 41 (DESIGN CHOICE). -/
def execEmberTimeout (port : Fin 8) (s : State) : Res :=
  ranIf (!(s.port port.val).faulted && (s.oldestSent port.val).isSome) (fun s => s.portFails port.val) s

/-! ### Upstream beats (R325, R326, R347) -/

/-- The source endpoint of an upstream beat. -/
def upEp (beat : BitVec 64) : EndpointId := fld beat 48 12
/-- The EGEN of an upstream beat. -/
def upEgen (beat : BitVec 64) : Gen := fld beat 40 8

/-- The KFB drops an upstream beat (R325): its source names another port, its UTYPE is reserved, or its source is not
PRESENT. -/
def State.upDropped (s : State) (p : Nat) (beat : BitVec 64) : Bool :=
  let u := fldN beat 60 4
  portOf (upEp beat) != p || u == 0 || 5 ≤ u || !(s.endpoint (upEp beat)).present

/-- A drop counted in KFB_CNT_UPDROP. -/
def State.countUpdrop (s : State) : State := s.onKfb fun k => { k with cntUpdrop := tally k.cntUpdrop }

/-- The completion code that a byte spells (R13); none for a reserved byte. -/
def codeOf (n : Nat) : Option Code :=
  [Code.done, .busy, .deniedLc, .deniedAttr, .badLength, .notEqual, .supplyWindow, .aborted, .incomplete, .replay,
    .badSignature, .noResource, .integrity, .version, .lengthFault, .staleGen][n]?

/-- A counter cell. -/
def State.cell (s : State) (c : CellId) : CtrCell := Sparse.get {} s.cnt.cells c.toNat

/-- The values of a key's cell have reached its boundary, from which on the key protects no more (R338). -/
def State.keySpent (s : State) (k : KeyMirror) : Bool := k.bound.toNat * 2 ^ 24 ≤ (s.cell k.cell).value.toNat

/-- The mirrored keys of an endpoint and a usage. -/
def KeyMirror.hold (k : KeyMirror) (e : EndpointId) (u : BitVec 4) : Bool := k.ep == e && k.usage == u

/-- The mirror with the switch of R338 in it: where the current key is spent, the next one is current, and the old one
previous.
Marks: log 111 (DEDUCED). -/
def State.mirrorSwitched (s : State) (e : EndpointId) (u : BitVec 4) : List KeyMirror :=
  let m := s.kfb.mirror
  let next := m.any fun k => k.hold e u && k.other && !s.keySpent k
  if next && m.any fun k => k.hold e u && !k.other && s.keySpent k then
    m.map fun k => if k.hold e u then { k with other := !k.other } else k
  else m

/-- The mirror after an endpoint placed a key (R338, R350): the key in the named position replaced.
Marks: log 111 (DEDUCED). -/
def State.mirrorPlaced (s : State) (o : Owed) (other : Bool) : List KeyMirror :=
  (s.mirrorSwitched o.ep o.usage).filter (fun k => !(k.hold o.ep o.usage && k.other == other)) ++
    [⟨o.ep, o.usage, other, o.kgen, o.slot, o.sgen, o.keep, o.cell, o.bound⟩]

/-- The mirror after an endpoint took a ROTATE (R323, R339): the boundary of its current key lowered.
Marks: log 111 (DEDUCED). -/
def State.mirrorRotated (s : State) (o : Owed) : List KeyMirror :=
  (s.mirrorSwitched o.ep o.usage).map fun k =>
    if k.hold o.ep o.usage && !k.other && o.bound < k.bound then { k with bound := o.bound } else k

/-- An ACK matched to the oldest message of its type that the endpoint owes (R325, R329, R337): the credit returns, the
command settles, and a LOAD or BIND with DONE changes what is mirrored. An ACK that matches nothing is counted as a
drop. -/
def State.ackBeat (s : State) (beat : BitVec 64) (c : Code) : State :=
  let hit (o : Owed) : Bool := o.ep == upEp beat && fld o.typ 0 3 == fld beat 20 3
  match s.kfb.owed.find? hit with
  | none => s.countUpdrop
  | some o =>
    let s := s.onKfb fun k =>
      { k with
        owed := k.owed.eraseP hit
        mirror :=
          if c != .done then k.mirror
          else if o.typ = tLoad then s.mirrorPlaced o (bit beat 23)
          else if o.typ = tRotate then s.mirrorRotated o
          else if o.typ = tBind then k.mirror.filter fun x => x.ep != o.ep
          else k.mirror }
    s.settle o.ticket 1 c

/-- A request of an endpoint with this RTAG is outstanding: queued, or its GRANT not yet sent (R341). -/
def State.rtagOut (s : State) (e : EndpointId) (rtag : Bool) : Bool :=
  (s.cnt.queues.any fun q => q.any fun r => r.ep == e && r.rtag == rtag) ||
    s.kfb.ports.any fun p => p.bulk.any fun m => m.typ == tGrant && m.dest == e && bit m.seq 16 == rtag

/-- CNT_REQ queued on its port (R341).
Marks: log 70 (DESIGN CHOICE). -/
def State.queueCntReq (s : State) (p : Nat) (beat : BitVec 64) : State :=
  let e := upEp beat
  let rtag := bit beat 19
  if s.rtagOut e rtag then s.countUpdrop
  else
    let r : CntReq := ⟨e, upEgen beat, fld beat 24 16, fldN beat 20 4, rtag, s.kfb.stamp⟩
    (s.onCnt fun c => { c with queues := modAt c.queues p fun q => q ++ [r] }).onKfb fun k =>
      { k with stamp := k.stamp + 1 }

/-- NEXT_REQ queued in KFB_NEXT_POP, which holds 64 (R338). -/
def State.queueNextReq (s : State) (beat : BitVec 64) : State :=
  if s.kfb.nextQ.length < 64 then
    s.onKfb fun k => { k with nextQ := k.nextQ ++ [(upEp beat, fld beat 36 4, fld beat 28 8)], intNext := true }
  else s.countUpdrop

/-- FAULT from an endpoint: counted, flagged, and STALE_GEN counted in KFB_CNT_STALE (R325, R345). -/
def State.faultBeat (s : State) (beat : BitVec 64) : State :=
  s.onKfb fun k =>
    { k with
      cntEpfault := tally k.cntEpfault
      cntStale := if fldN beat 32 8 = Code.staleGen.num then tally k.cntStale else k.cntStale
      intFault := true }

/-- A beat taken as its UTYPE says (R325). An ACK whose completion code R13 reserves is dropped and counted.
Marks: log 40 (DESIGN CHOICE). -/
def State.upBeat (s : State) (p : Nat) (beat : BitVec 64) : State :=
  match fldN beat 60 4 with
  | 1 => (codeOf (fldN beat 32 8)).elim s.countUpdrop (s.ackBeat beat)
  | 2 => s.queueCntReq p beat
  | 3 => s.queueNextReq beat
  | _ => s.faultBeat beat

/-- An upstream beat received: nothing while KF_UP is low (R36), a corrected error counted, a drop counted, else taken. -/
def State.upstream (s : State) (p : Nat) (beat : BitVec 64) (corrected : Bool) : State :=
  if !s.kfb.up then s
  else
    let s := if corrected then s.onKfb fun k => { k with cntCorrected := tally k.cntCorrected } else s
    if s.upDropped p beat then s.countUpdrop else s.upBeat p beat

/-- ACK (R325, R337). -/
def execKfAck (port : Fin 8) (beat : BitVec 64) (corrected : Bool) (s : State) : Res :=
  ran (fun s => s.upstream port.val beat corrected) s

/-- CNT_REQ (R325, R341). -/
def execKfCntReq (port : Fin 8) (beat : BitVec 64) (corrected : Bool) (s : State) : Res :=
  ran (fun s => s.upstream port.val beat corrected) s

/-- NEXT_REQ (R325, R338). -/
def execKfNextReq (port : Fin 8) (beat : BitVec 64) (corrected : Bool) (s : State) : Res :=
  ran (fun s => s.upstream port.val beat corrected) s

/-- FAULT (R325). -/
def execKfFault (port : Fin 8) (beat : BitVec 64) (corrected : Bool) (s : State) : Res :=
  ran (fun s => s.upstream port.val beat corrected) s

/-- UPSTREAM_DROP (R347, R325): an uncorrectable beat is counted and reported; any other dropped beat is counted. Due only
for a beat that is dropped. -/
def execUpstreamDrop (port : Fin 8) (beat : BitVec 64) (uncorr : Bool) (s : State) : Res :=
  ranIf (!s.kfb.up || uncorr || s.upDropped port.val beat)
    (fun s =>
      if !s.kfb.up then s
      else if uncorr then (s.onKfb fun k => { k with cntUncorr := tally k.cntUncorr }).health 3 .integrity
      else s.countUpdrop) s

/-! ### KFB commands (R336 to R339, R346, R352) -/

/-- The operands of KFB_OP_DEST. -/
def State.opDest (s : State) : BitVec 12 := fld (s.reg .kfbOpDest) 0 12
def State.opDkind (s : State) : BitVec 2 := fld (s.reg .kfbOpDest) 12 2
def State.opUsage (s : State) : BitVec 4 := fld (s.reg .kfbOpDest) 16 4
def State.opKgen (s : State) : Gen := fld (s.reg .kfbOpDest) 24 8

/-- The slot and the GEN of KFB_OP_SLOT. -/
def State.kfbSlot (s : State) : SlotIx := fld (s.reg .kfbOpSlot) 0 14
def State.kfbSlotGen (s : State) : Gen := fld (s.reg .kfbOpSlot) 16 8

/-- END of a LOAD or ROTATE, 40 bits. -/
def State.opEnd (s : State) : BitVec 40 :=
  (fld (s.reg .kfbOpEndHi) 0 8).setWidth 40 <<< 32 ||| (s.reg .kfbOpEndLo).setWidth 40

/-- 32 commands are in flight. -/
def State.kfbFull (s : State) : Bool := 32 ≤ s.kfb.tickets.length

/-- A port that serves one of the endpoints is FAULTED. -/
def State.anyFaulted (s : State) (eps : List EndpointId) : Bool := (portsOf eps).any fun p => (s.port p).faulted

/-- A refused command: its code in KFB_RESULT, no ticket. -/
def State.kfbRefuse (s : State) (c : Code) : State := s.onKfb fun k => { k with resCode := c, resTicket := 0 }

/-- An accepted command: its ticket in KFB_RESULT, waiting for `wait` settlements.
Marks: log 76 (DESIGN CHOICE). -/
def State.kfbAccept (s : State) (wait : Nat) : State :=
  let t := s.freeTicket
  s.onKfb fun k => { k with tickets := k.tickets ++ [⟨t, wait, .done⟩], resCode := .done, resTicket := t }

/-- A command whose written word is refused under R11, or by one of its own cases, or accepted with effect `f` on the
ticket it takes.
Marks: log 26 (DEDUCED). -/
def State.kfbCommand (s : State) (w : Word) (refusals : List (Bool × Code)) (f : State → State) : State :=
  match lowest ((s.kfbFull, .busy) :: (rsvSet .kfbCmd w, .deniedAttr) :: refusals) with
  | some c => s.kfbRefuse c
  | none => f s

/-- A message queued on each port that serves one of its endpoints. -/
def State.queueMsg (s : State) (m : KfMsg) : State :=
  let m := { m with stamp := s.kfb.stamp }
  let s := (portsOf m.eps).foldl (fun s p => s.onPort p fun q =>
    if m.typ = tRotate then { q with rotate := q.rotate ++ [m] }
    else if m.typ = tLoad then { q with load := q.load ++ [m] } else { q with bulk := q.bulk ++ [m] }) s
  s.onKfb fun k => { k with stamp := k.stamp + 1 }

/-- The endpoints that a LOAD of usage `u` addresses (R329, R336). -/
def State.loadTargets (s : State) (u : BitVec 4) : List EndpointId :=
  if s.opDkind = 0 then (if (s.endpoint s.opDest).present then [s.opDest] else [])
  else if s.opDkind = 1 then (s.groupMembers (s.opDest.setWidth 6)).filter fun e => (s.endpoint e).kind == u
  else []

/-- The partition is being shut, so the fabric gives it no key (R455). -/
def State.partBarred (s : State) (p : PartId) : Bool :=
  s.partState p == .quarantined || s.partState p == .releasing

/-- LOAD or ROTATE names a partition that is being shut, or one of its endpoints (R455). -/
def State.destBarred (s : State) : Bool :=
  s.partBarred (if s.opDkind = 0 then (s.endpoint s.opDest).part else s.opDest.setWidth 6)

/-- A usage that the fabric loads (R336). -/
def loadable (u : BitVec 4) : Bool :=
  u == usageMem || u == usageLink || u == usageHostbus || u == usageDma || u == usageWindow

/-- The DENIED_ATTR cases of LOAD (R336, R455). -/
def State.loadDenied (s : State) (v : Slot) : Bool :=
  let e := s.endpoint s.opDest
  let cell := s.cell (fld (s.reg .kfbOpCell) 0 16)
  let single := s.opDkind == 0
  2 ≤ s.opDkind.toNat || !v.endpointOk || !loadable v.usage ||
    (if single then v.part != e.part else v.part != s.opDest.setWidth 6) ||
    (single && (!e.present || !(e.kind == v.usage || (v.usage == usageWindow && e.gate)))) ||
    (v.gateOnly && !(single && e.gate)) || !cell.enable || cell.part != v.part || (s.loadTargets v.usage).isEmpty ||
    s.destBarred

/-- The message of an accepted LOAD (R323): the tag, the flags, the key and the trailer. -/
def State.loadMsg (s : State) (v : Slot) (kgen : Gen) (t : Nat) : KfMsg :=
  let seq := tagSeq s.kfbSlot v.gen ||| (v.part.setWidth 32 <<< 22) ||| putB v.warmKeep 28 ||| putB v.testRoot 29 |||
    putB v.gateOnly 30
  let trailer := kgen.setWidth 64 ||| ((fld (s.reg .kfbOpCell) 0 16).setWidth 64 <<< 8) ||| (s.opEnd.setWidth 64 <<< 24)
  let dest := if s.opDkind = 1 then s.opDest &&& 0x3F else s.opDest
  ⟨tLoad, s.opDkind, dest, s.headerGen s.opDkind s.opDest, v.usage, seq,
    ((List.range 4).map fun i => fld v.key (64 * i) 64) ++ [trailer], s.loadTargets v.usage, 0, 0, some t⟩

/-- The KGEN of a LOAD: the endpoint's, or the group's counter, incremented (R337). -/
def State.nextKgen (s : State) : Gen :=
  if s.opDkind = 0 then (s.endpoint s.opDest).kgen + 1 else s.kfb.groupKgen.getD (fldN s.opDest 0 6) 0 + 1

/-- The counter that a LOAD increments, put to `g`. -/
def State.putKgen (s : State) (g : Gen) : State :=
  if s.opDkind = 0 then s.setEndpoint s.opDest { s.endpoint s.opDest with kgen := g }
  else s.onKfb fun k => { k with groupKgen := setAt k.groupKgen (fldN s.opDest 0 6) g }

/-- LOAD accepted. -/
def State.loadAccepted (s : State) : State :=
  let v := s.slot s.kfbSlot
  let g := s.nextKgen
  let t := s.freeTicket
  let m := s.loadMsg v g t
  ((s.kfbAccept m.eps.length).putKgen g).queueMsg m

/-- LOAD (R336): a read of the slot, unless slot reads are blocked, and the refusals of the table. -/
def State.doLoad (s : State) (w : Word) (e : MemErr) : State :=
  let s := if s.kst.block then s else s.fetchSlot s.kfbSlot e
  let v := s.slot s.kfbSlot
  let stale := s.slotStale s.kfbSlot s.kfbSlotGen
  let refusals := [(s.loadDenied v, Code.deniedAttr), (stale, .staleGen),
    (s.slotUnusable s.kfbSlot || s.anyFaulted (s.loadTargets v.usage), .integrity), (s.kst.block, .aborted)]
  let r := s.kfbCommand w refusals State.loadAccepted
  if r.kfb.resCode = .staleGen && stale then r.onKst fun k => { k with cntStale := tally k.cntStale } else r

/-- LOAD (R336); `err`: what SECDED finds in the slot (R278). -/
def execKfbLoad (w : Word) (err : MemErr) (s : State) : Res := ranOn .d4 (fun s => s.doLoad w err) s

/-- ROTATE accepted: END lowered at one endpoint or a group (R323, R339). -/
def State.rotateAccepted (s : State) : State :=
  let eps := s.addressed s.opDkind s.opDest
  let t := s.freeTicket
  let dest := if s.opDkind = 1 then s.opDest &&& 0x3F else s.opDest
  let seq := if s.opDkind = 0 then s.opKgen.setWidth 32 else 0
  (s.kfbAccept eps.length).queueMsg
    ⟨tRotate, s.opDkind, dest, s.headerGen s.opDkind s.opDest, s.opUsage, seq, [s.opEnd.setWidth 64 <<< 24], eps, 0, 0,
      some t⟩

/-- ROTATE refuses with DENIED_ATTR a DKIND other than 0 or 1, a destination with no PRESENT endpoint, and a partition that
is being shut (R352, R455). -/
def State.rotateDenied (s : State) : Bool :=
  2 ≤ s.opDkind.toNat || !((s.addressed s.opDkind s.opDest).any fun e => (s.endpoint e).present) || s.destBarred

/-- ROTATE (R339, R352). -/
def execKfbRotate (w : Word) (s : State) : Res :=
  ranOn .d4 (fun s => s.kfbCommand w
    [(s.rotateDenied, .deniedAttr), (s.anyFaulted (s.addressed s.opDkind s.opDest), .integrity)]
    State.rotateAccepted) s

/-- A firmware revoke accepted: it is committed, and completes when it is acknowledged (R352). -/
def State.emberAccepted (s : State) (r : EmberReq) : State :=
  let t := s.freeTicket
  (s.kfbAccept 1).commitEmber { r with owner := .ticket t }

/-- The revoke that KFB_OP_DEST names. -/
def State.zeroiseReq (s : State) : EmberReq := ⟨tZeroise, s.opDkind, s.opDest, 0, 0, .none, .kilnCmd⟩

/-- ZEROISE (R324, R352). BUSY also where an EMBER queue it needs is full. -/
def execKfbZeroise (w : Word) (s : State) : Res :=
  ranOn .d4 (fun s => s.kfbCommand w [(s.opDkind == 3, .deniedAttr), (!s.emberRoom s.zeroiseReq, .busy)]
    fun s => s.emberAccepted s.zeroiseReq) s

/-- REVOKE (R324, R352). -/
def execKfbRevoke (w : Word) (s : State) : Res :=
  ranOn .d4 (fun s => s.kfbCommand w [(!s.emberRoom (revokeSlot s.kfbSlot s.kfbSlotGen .kilnCmd), .busy)]
    fun s => s.emberAccepted (revokeSlot s.kfbSlot s.kfbSlotGen .kilnCmd)) s

/-- The partition and the gate flag of KFB_OP_BIND. -/
def State.opBindPart (s : State) : PartId := fld (s.reg .kfbOpBind) 0 6
def State.opBindGate (s : State) : Bool := bit (s.reg .kfbOpBind) 6

/-- The endpoint lies in the range that PRT_GATE_EP names (R444). -/
def State.gateEndpoint (s : State) (e : EndpointId) : Bool :=
  fldN (s.reg .prtGateEp) 0 12 ≤ e.toNat && e.toNat ≤ fldN (s.reg .prtGateEp) 12 12

/-- A KIND that an endpoint may have (R315). -/
def endpointKind (u : BitVec 4) : Bool := u == usageMem || u == usageLink || u == usageHostbus || u == usageDma

/-- The DENIED_ATTR cases of BIND (R352, R444, R315, R455). -/
def State.bindDenied (s : State) : Bool :=
  s.opDkind != 0 || (s.opBindGate && (s.opBindPart == 0 || !s.gateEndpoint s.opDest)) ||
    !s.partDefined s.opBindPart || (s.endpoint s.opDest).present || !endpointKind s.opUsage ||
    s.partBarred s.opBindPart

/-- BIND accepted (R346): the table entry written with EGEN incremented, and BIND sent with the new value. -/
def State.bindAccepted (s : State) : State :=
  let e := s.endpoint s.opDest
  let range := s.reg .kfbOpRange
  let e' : Endpoint :=
    { present := true, kind := s.opUsage, part := s.opBindPart, gate := s.opBindGate, egen := e.egen + 1,
      kgen := e.kgen, cellLo := fld range 0 16, cellHi := fld range 16 16 }
  let t := s.freeTicket
  let seq := s.opBindPart.setWidth 32 ||| ((s.partGen s.opBindPart).setWidth 32 <<< 6) ||| putB s.opBindGate 14
  ((s.kfbAccept 1).setEndpoint s.opDest e').queueMsg
    ⟨tBind, 0, s.opDest, e.egen + 1, s.opUsage, seq, [range.setWidth 64], [s.opDest], 0, 0, some t⟩

/-- BIND (R346, R352). -/
def execKfbBind (w : Word) (s : State) : Res :=
  ranOn .d4 (fun s => s.kfbCommand w [(s.bindDenied, .deniedAttr), (s.anyFaulted [s.opDest], .integrity)] State.bindAccepted) s

/-- What an endpoint owes is settled with ABORTED, since its ACKs are dropped once it is not PRESENT. -/
def State.abandonOwed (s : State) (e : EndpointId) : State :=
  let mine := s.kfb.owed.filter fun o => o.ep == e
  let s := s.onKfb fun k => { k with owed := k.owed.filter fun o => o.ep != e }
  mine.foldl (fun s o => s.settle o.ticket 1 .aborted) s

/-- An endpoint unbound: PRESENT clears, EGEN and KGEN stay (R346). -/
def State.unbind (s : State) (e : EndpointId) : State :=
  (s.setEndpoint e { s.endpoint e with present := false }).abandonOwed e

/-- RELEASE accepted: a ZEROISE to the endpoint, and the endpoint unbound (R346). -/
def State.releaseAccepted (s : State) : State := (s.emberAccepted ⟨tZeroise, 0, s.opDest, 0, 0, .none, .kilnCmd⟩).unbind s.opDest

/-- KFB RELEASE (R346, R352). -/
def execKfbRelease (w : Word) (s : State) : Res :=
  ranOn .d4 (fun s => s.kfbCommand w
    [(s.opDkind != 0 || !(s.endpoint s.opDest).present, .deniedAttr),
      (!s.emberRoom ⟨tZeroise, 0, s.opDest, 0, 0, .none, .kilnCmd⟩, .busy)] State.releaseAccepted) s

/-! ### Queues that a read pops -/

/-- KFB_DONE_POP as it reads (R352). -/
def State.donePopWord (s : State) : Word :=
  match s.kfb.doneQ with
  | [] => 0
  | (t, c) :: _ => putN t 0 5 ||| put c.byte 8 ||| putB true 31

/-- KFB_DONE_POP: a read returns and removes the oldest completion. -/
def execKfbDonePop (s : State) : Res :=
  ranOn .d4 (fun s => (s.onKfb fun k => { k with doneQ := k.doneQ.drop 1 }).emit (.read s.donePopWord)) s

/-- KFB_NEXT_POP as it reads (R338). -/
def State.nextPopWord (s : State) : Word :=
  match s.kfb.nextQ with
  | [] => 0
  | (e, u, g) :: _ => put e 0 ||| put u 12 ||| put g 16 ||| putB true 31

/-- KFB_NEXT_POP: a read returns and removes the oldest NEXT_REQ. -/
def execKfbNextPop (s : State) : Res :=
  ranOn .d4 (fun s => (s.onKfb fun k => { k with nextQ := k.nextQ.drop 1 }).emit (.read s.nextPopWord)) s

/-! ### Reset (R332, R349) -/

/-- Port state, queues, credits and commands lost with D4; the retained array and waiting revokes stay. -/
def Kfb.portReset (k : Kfb) : Kfb :=
  { eps := k.eps, groupKgen := k.groupKgen, mirror := k.mirror, waiting := k.waiting, nextId := k.nextId,
    stamp := k.stamp }

/-- The retained array zeroed by a COLD or POWER episode. -/
def Kfb.arrayReset (k : Kfb) : Kfb := { k with eps := [], groupKgen := List.replicate 64 0, mirror := [] }

/-- D4 released: KF_UP rises, every PRESENT endpoint has its two credits, and waiting revokes are committed. -/
def State.kfbUp (s : State) : State := (s.onKfb fun k => { k with up := true, owed := [] }).drainEmber

/-- The D4 row of R102 for one port: no message queued or partly sent, no EMBER beat awaiting its acknowledgement, no ACK
owed. -/
def State.portIdle (s : State) (p : Nat) : Bool :=
  let q := s.port p
  q.ember.isEmpty && q.rotate.isEmpty && q.load.isEmpty && q.bulk.isEmpty &&
    s.kfb.owed.all fun o => portOf o.ep != p

end Sys2Proof.Machine
end

