-- ==== Sys2Proof/Machine/CounterCells.lean ====
section
/-!
DEFINITION. Machine/CounterCells.lean: the counter cells, their banks and the CNT commands (R341 to R343, R348, R353).
-/
namespace Sys2Proof.Machine

/-- A counter cell put to `v`. -/
def State.setCell (s : State) (c : CellId) (v : CtrCell) : State :=
  s.onCnt fun n => { n with cells := Sparse.put {} n.cells c.toNat v }

/-- The bank of a cell (R342). -/
def bankOf (c : CellId) : Nat := fldN c 0 4

/-- A cell that became EXHAUSTED or FAULTED queued in CNT_EXH_POP, which holds 64. -/
def State.queueExh (s : State) (c : CellId) : State :=
  if s.cnt.exhQ.length < 64 then s.onCnt fun n => { n with exhQ := n.exhQ ++ [c], intExh := true } else s

/-- A cell marked EXHAUSTED, and queued if it was not so already (R342). -/
def State.exhaust (s : State) (c : CellId) : State :=
  if (s.cell c).exhausted then s else (s.setCell c { s.cell c with exhausted := true }).queueExh c

/-- A cell marked FAULTED after a residue mismatch or an uncorrectable word: counted, flagged and reported (R348). -/
def State.faultCell (s : State) (c : CellId) (residue : Bool) : State :=
  let v := s.cell c
  let s := s.setCell c { v with faulted := true }
  let s := if v.faulted then s else s.queueExh c
  let s := s.onCnt fun n =>
    { n with
      intFault := true
      cntResidue := if residue then tally n.cntResidue else n.cntResidue
      cntUncorr := if residue then n.cntUncorr else tally n.cntUncorr }
  s.health 4 .integrity (some v.part)

/-- A corrected error counted. -/
def State.cellCorrected (s : State) (err : CellErr) : State :=
  if err = .corrected then s.onCnt fun n => { n with cntCorrected := tally n.cntCorrected } else s

/-- The increment of a grant fails the residue check of R348: the new value modulo 3 is not the old residue plus the
size modulo 3.
Marks: log 74 (DESIGN CHOICE). -/
def residueBad (v : CtrCell) (size : Nat) : Bool :=
  (v.value.toNat + 2 ^ size) % 3 != (v.res + 2 ^ size % 3) % 3

/-- The refusal of a grant (R342), or none. -/
def State.grantRefusal (s : State) (r : CntReq) (err : CellErr) : Option Code :=
  let v := s.cell r.cell
  let e := s.endpoint r.ep
  let denied := !v.enable || v.part != e.part || r.cell.toNat < e.cellLo.toNat || e.cellHi.toNat < r.cell.toNat
  let spent := v.exhausted || v.faulted || 2 ^ 64 - 1 < v.value.toNat + 2 ^ r.size
  lowest [(denied, .deniedAttr), (spent, .noResource),
    (err == .uncorr || err == .residue || residueBad v r.size, .integrity), (r.egen != e.egen, .staleGen)]

/-- The GRANT message that answers a request (R323, R342). -/
def State.grantMsg (s : State) (r : CntReq) (c : Code) (base : BitVec 64) : KfMsg :=
  ⟨tGrant, 0, r.ep, (s.endpoint r.ep).egen, 0, r.cell.setWidth 32 ||| putB r.rtag 16 ||| put c.byte 24, [base], [r.ep], 0,
    0, none⟩

/-- A grant made: BASE is the cell's value, and the cell moves past the range. -/
def State.grantMade (s : State) (r : CntReq) : State :=
  let v := s.cell r.cell
  let n := v.value.toNat + 2 ^ r.size
  let s := s.setCell r.cell { v with value := BitVec.ofNat 64 n, res := n % 3 }
  (s.onCnt fun n => { n with cntGrants := tally n.cntGrants }).queueMsg (s.grantMsg r .done v.value)

/-- A grant refused: the cell's value stays, and the request is answered with the code. A cell that cannot grant becomes
EXHAUSTED, but for a FAULTED one, which behaves as EXHAUSTED already (R348); a faulty one becomes FAULTED. -/
def State.grantRefused (s : State) (r : CntReq) (err : CellErr) (c : Code) : State :=
  let bad := err == .uncorr || err == .residue || residueBad (s.cell r.cell) r.size
  let s := if c = .noResource && !(s.cell r.cell).faulted then s.exhaust r.cell else s
  let s := if bad then s.faultCell r.cell (err != .uncorr) else s
  let s := if bad then s else s.onCnt fun n => { n with cntDenied := tally n.cntDenied }
  s.queueMsg (s.grantMsg r c 0)

/-- One grant operation on a request. -/
def State.grantOp (s : State) (r : CntReq) (err : CellErr) : State :=
  let s := s.cellCorrected err
  match s.grantRefusal r err with
  | none => s.grantMade r
  | some c => s.grantRefused r err c

/-- The oldest request of a port queue for a bank. -/
def bankHead (q : List CntReq) (b : Nat) : Option CntReq := q.find? fun r => bankOf r.cell == b

/-- The request that bank `b` grants next: the oldest, ties to the lowest port; the CNT command is requester 8 (R328). -/
inductive BankPick where
  | port (p : Nat) (r : CntReq)
  | cmd (c : CntCmd)
  deriving DecidableEq, Repr

/-- The cell that CNT_OP_CELL names. -/
def State.opCell (s : State) : CellId := fld (s.reg .cntOpCell) 0 16

/-- The pick of bank `b`; none while CNT_CTRL.FREEZE is 1 or nothing waits. -/
def State.bankPick (s : State) (b : Nat) : Option BankPick :=
  if bit (s.reg .cntCtrl) 0 then none
  else
    let heads := s.cnt.queues.zipIdx.filterMap fun q => (bankHead q.1 b).map fun r => (r.stamp, BankPick.port q.2 r)
    let cmd := match s.cnt.cmd with
      | some (c, st) => if bankOf s.opCell = b then [(st, BankPick.cmd c)] else []
      | none => []
    ((heads ++ cmd).foldl (fun best c =>
      match best with
      | none => some c
      | some x => if c.1 < x.1 then some c else some x) none).map (·.2)

/-- A CNT command ends with code `c`. -/
def State.cntEnd (s : State) (c : Code) : State := s.onCnt fun n => { n with cmd := none, resCode := c }

/-- The fields of CNT_OP_CELL and CNT_OP_VALUE that CONFIGURE and ADVANCE take. -/
def State.opCellPart (s : State) : PartId := fld (s.reg .cntOpCell) 16 6
def State.opCellEnable (s : State) : Bool := bit (s.reg .cntOpCell) 24
def State.opCellValue (s : State) : BitVec 64 := (s.reg .cntOpValueHi).setWidth 64 <<< 32 ||| (s.reg .cntOpValueLo).setWidth 64

/-- A CNT command executed by its bank (R343, R353).
Marks: log 80 (DESIGN CHOICE). -/
def State.cntCommand (s : State) (c : CntCmd) (err : CellErr) : State :=
  let s := s.cellCorrected err
  let i := s.opCell
  let v := s.cell i
  let bad := err == .uncorr || err == .residue
  match c with
  | .configure =>
    match lowest [(!s.partDefined s.opCellPart || v.exhausted || v.faulted, .deniedAttr)] with
    | some x => s.cntEnd x
    | none => (s.setCell i { v with part := s.opCellPart, enable := s.opCellEnable }).cntEnd .done
  | .read =>
    if bad then (s.faultCell i (err != .uncorr)).cntEnd .integrity
    else (s.onCnt fun n =>
      { n with rdValue := v.value, rdPart := v.part, rdEnable := v.enable, rdExhausted := v.exhausted,
               rdFaulted := v.faulted }).cntEnd .done
  | .advance =>
    let s := if bad then s.faultCell i (err != .uncorr) else s
    match lowest [(v.exhausted || v.faulted, .noResource), (bad, .integrity)] with
    | some x => s.cntEnd x
    | none =>
      let n := max v.value.toNat s.opCellValue.toNat
      (s.setCell i { v with value := BitVec.ofNat 64 n, res := n % 3 }).cntEnd .done
  | .retire => (s.exhaust i).cntEnd .done

/-- One operation of bank `b`: the pick leaves its queue and is executed.
Marks: log 80 (DESIGN CHOICE). -/
def State.bankOp (s : State) (b : Nat) (err : CellErr) : State :=
  match s.bankPick b with
  | none => s
  | some (.cmd c) => s.cntCommand c err
  | some (.port p r) => (s.onCnt fun n => { n with queues := modAt n.queues p fun q => q.erase r }).grantOp r err

/-- CNT_GRANT (R342): due while the bank has something to grant.
Marks: log 74 (DESIGN CHOICE); log 80 (DESIGN CHOICE). -/
def execCntGrant (bank : Fin 16) (err : CellErr) (s : State) : Res :=
  ranIf (s.bankPick bank.val).isSome (fun s => s.bankOp bank.val err) s

/-- A write of CNT_CMD (R353): refused with BUSY while another command runs and under R11; else the command waits for its
bank as requester 8. -/
def State.cntStart (s : State) (w : Word) (c : CntCmd) : State :=
  match lowest [(s.cnt.cmd.isSome, .busy), (rsvSet .cntCmd w, .deniedAttr)] with
  | some x => s.onCnt fun n => { n with resCode := x }
  | none => (s.onCnt fun n => { n with cmd := some (c, s.kfb.stamp) }).onKfb fun k => { k with stamp := k.stamp + 1 }

/-- CONFIGURE (R343). -/
def execCntConfigure (w : Word) (s : State) : Res := ranOn .d4 (fun s => s.cntStart w .configure) s

/-- READ (R353). -/
def execCntRead (w : Word) (s : State) : Res := ranOn .d4 (fun s => s.cntStart w .read) s

/-- ADVANCE (R343). -/
def execCntAdvance (w : Word) (s : State) : Res := ranOn .d4 (fun s => s.cntStart w .advance) s

/-- RETIRE (R343). -/
def execCntRetire (w : Word) (s : State) : Res := ranOn .d4 (fun s => s.cntStart w .retire) s

/-- CNT_EXH_POP as it reads. -/
def State.exhPopWord (s : State) : Word :=
  match s.cnt.exhQ with
  | [] => 0
  | c :: _ => put c 0 ||| putB true 31

/-- CNT_EXH_POP: a read returns and removes the oldest entry (R342). -/
def execCntExhPop (s : State) : Res :=
  ranOn .d4 (fun s => (s.onCnt fun n => { n with exhQ := n.exhQ.drop 1 }).emit (.read s.exhPopWord)) s

/-- What a reset of D4 leaves of the counter cells: the array (R349). -/
def Cnt.portReset (c : Cnt) : Cnt := { cells := c.cells }

/-- No counter-cell request is queued or waiting for its GRANT to be sent (R102, CNT_STATUS.IDLE).
Marks: log 80 (DESIGN CHOICE). -/
def State.cntIdle (s : State) : Bool := s.cnt.queues.all fun q => q.isEmpty

end Sys2Proof.Machine
end

