-- ==== Sys2Proof/Machine/Kiln.lean ====
section
/-!
DEFINITION. Machine/Kiln.lean: the root, the Kiln's commands, key-update messages, confluence records and key destruction
(09_key_store_and_kiln.md).
-/
namespace Sys2Proof.Machine

/-! ### The root and derivation (R272 to R276) -/

/-- The peat store is VALID (R266). -/
def Peat.valid (p : Peat) : Bool := p.secret != 0 && p.secretN == ~~~p.secret

/-- H: the 32 bytes of OTP rows 0x080 to 0x083 (R272, R116). -/
def State.rootHalf (s : State) : Bytes := s.otp.shadowBytes 0x080 4

/-- Which root FORM_ROOT selects (R272). -/
def State.rootSelect (s : State) : RootKind :=
  match s.lcs.state with
  | .raw | .test | .ret => .test
  | .stock | .field => if s.peat.valid && s.otp.rootHalfSet && s.otp.isUsable 1 then .device else .none
  | .ash | .invalid => .none

/-- The 256-bit root of a kind (R272). -/
def State.rootOf (s : State) (k : RootKind) : Bytes :=
  match k with
  | .none => []
  | .test => keyBytes Config.testRoot
  | .device => kmac256 (keyBytes s.peat.secret) s.rootHalf 32 (ascii "icvia-root-v2")

/-- KDF(K, label, ctx) of R276. -/
def kdf (k : Bytes) (label : String) (ctx : Bytes) : Bytes :=
  kmac256 k (beBytes 4 1 ++ ascii label ++ [0] ++ ctx ++ beBytes 4 256) 32 (ascii "icvia-kdf-v2")

/-- The root register is empty (R275). -/
def State.rootless (s : State) : Bool := s.kln.root == .none

/-- The attribute word that a slot is written with: VALID set, GEN 0, reserved bits 0, TEST_ROOT by the root (R274, R276,
R279).
Marks: log 82 (DEDUCED). -/
def childAttr (a : Word) (root : RootKind) : Word :=
  (a &&& 0x17FFE#32) ||| 1 ||| putB (root == .test) 15

/-- An attribute word with a usage, a partition and flag bits. -/
def attrOf (u : BitVec 4) (p : PartId) (flags : Word) : Word := put u 1 ||| put p 5 ||| flags

/-- The ASCII name of a usage, which is its label (R280, R286). -/
def usageName (u : BitVec 4) : String :=
  match u.toNat with
  | 0x1 => "ATTEST_SEED"
  | 0x2 => "SESSION"
  | 0x3 => "SHARE"
  | 0x4 => "JOINT"
  | 0x5 => "KDK"
  | 0x6 => "MEM"
  | 0x7 => "LINK"
  | 0x8 => "HOSTBUS"
  | 0x9 => "DMA"
  | 0xA => "GATE_WINDOW"
  | _ => ""

/-- The usages that a KDK or an endpoint key may have: those that DERIVE and UNWRAP write (R280). -/
def keyUsage (u : BitVec 4) : Bool := u == usageKdk || endpointKind u

/-- The attribute bits of a requested word fit its usage (R280): what must be set is set, and nothing else but what may
be. -/
def attrFits (a : Word) : Bool :=
  let u := fld a 1 4
  let flags := fld a 11 6
  let keep := fld a 5 6 == 0
  let must : BitVec 6 := if u = usageKdk then 0x04 else if u = usageWindow then 0x03 else 0
  let may : BitVec 6 :=
    if u = usageKdk then (if keep then 0x24 else 0x04)
    else if endpointKind u then (if keep then 0x22 else 0x02)
    else if u = usageWindow then 0x03 else 0
  (keyUsage u || u == usageWindow) && (flags &&& must) == must && (flags &&& ~~~may) == 0

/-- Slot `i` may be the destination of a new key: it is not of the Kiln's own, not VALID and not marked unusable (R281,
R282, R284). -/
def State.destFree (s : State) (i : SlotIx) : Bool := 16 ≤ i.toNat && !(s.slot i).valid && !(s.slot i).unusable

/-! ### Commands (R312) -/

/-- A Kiln command runs: FORM_ROOT waits for the PKE, revokes of the last command are not yet committed (R334), or the
partition manager's DESTROY_PARTITION runs (R456).
Marks: log 25 (DEDUCED). -/
def State.klnBusy (s : State) : Bool :=
  s.kln.forming.isSome || (s.prt.rel.any fun r => r.stage == .destroying) || s.klnWaits

/-- The effect of a command is made: it completes with `c`, at once or with the commit of its last revoke (R334).
Marks: log 73 (DEDUCED). -/
def State.klnDone (s : State) (c : Code) : State :=
  if s.klnWaits then s.onKln fun k => { k with owed := some c } else s.klnComplete c

/-- A refusal with STALE_GEN counts in KST_CNT_STALE (R283). -/
def State.countStale (s : State) (c : Code) : State :=
  if c = .staleGen then s.onKst fun k => { k with cntStale := tally k.cntStale } else s

/-- The frame of every Kiln command: ABORTED once halted (R268), BUSY while another runs, the refusals under R14, else its
effect.
Marks: log 26 (DEDUCED); log 73 (DEDUCED); log 88 (DEDUCED). -/
def State.klnCommand (s : State) (w : Word) (refusals : State → List (Bool × Code)) (f : State → State) : State :=
  if s.kln.halted then s.klnDone .aborted
  else if s.klnBusy then (s.onKln fun k => { k with code := .busy }).clearReg .klnCtx
  else
    match lowest ((rsvSet .klnCmd w, Code.deniedAttr) :: refusals s) with
    | some c => (s.countStale c).klnDone c
    | none => f s

/-- The Kiln is at work: it runs a command, or the revokes of an event that it applied are not all committed (R306, R334).
Marks: log 90 (DEDUCED). -/
def State.klnHeld (s : State) : Bool := s.klnBusy || s.kfb.waiting.any fun r => r.src == .kilnEvt

/-- The Kiln has nothing to do: a command would begin at once (R306). -/
def State.klnFree (s : State) : Bool := !s.klnHeld && s.kln.wait.isNone && s.kln.queue.isEmpty

/-- The slot of KLN_OP_SLOT, its expected GEN, and the partition and job of KLN_OP_JOB. -/
def State.klnSlot (s : State) : SlotIx := fld (s.reg .klnOpSlot) 0 14
def State.klnSlotGen (s : State) : Gen := fld (s.reg .klnOpSlot) 16 8
def State.klnPart (s : State) : PartId := fld (s.reg .klnOpJob) 16 6
def State.klnJob (s : State) : JobId := fld (s.reg .klnOpJob) 0 16
def State.klnAddr (s : State) : Nat := fldN (s.reg .klnOpAddr) 0 18
def State.klnDst (s : State) : Nat := fldN (s.reg .klnOpDst) 0 18
def State.klnLen (s : State) : Nat := fldN (s.reg .klnOpLen) 0 13

/-! ### FORM_ROOT (R273) -/

/-- Measurement register `i`, 64 bytes. -/
def State.mr (s : State) (i : Nat) : Bytes := (Sparse.get {} s.mrs i).value

/-- The attributes of slots 0 and 1. -/
def seedAttr (k : RootKind) : Word := childAttr (attrOf usageSeed 0 0) k

/-- Steps 1 to 3: the root is selected, and slots 0 and 1 are derived. -/
def State.formSeeds (s : State) (k : RootKind) : State :=
  let root := s.rootOf k
  let a := seedAttr k
  let derived := kdf root "ALIAS" (leBytes 4 a.toNat ++ (List.range 6).flatMap s.mr)
  let s := s.writeSlot 0 (keyOf (kdf root "DEVID" (leBytes 4 a.toNat))) a 0x7F
  let s := s.writeSlot 1 (keyOf derived) a 0x7F
  s.onKln fun n => { n with forming := some (k, root) }

/-- Steps 1 to 3 of FORM_ROOT; with a root, the Kiln then asks the PKE to expand slot 0 (step 4). -/
def State.formRoot (s : State) : State :=
  let k := s.rootSelect
  let s := s.onKln fun n => { n with formed := true, root := .none, rootKey := [] }
  if k = .none then s.klnDone .done
  else
    let s := s.formSeeds k
    { s with pke := { s.pke with queue := s.pke.queue ++ [{ op := .expand, req := 0, gen := (s.slot 0).gen }] } }

/-- Steps 4 to 6, once the PKE holds the device ID keys, whose digest is `digest`. A failed TRNG gives no nonce (R490). -/
def State.formFinish (s : State) (digest : Bytes) : State :=
  match s.kln.forming with
  | none => s
  | some (k, root) =>
    let nonce := s.draw 32
    if s.trng.fail then (s.onKln fun n => { n with forming := none }).klnDone .integrity
    else ((s.drew 32).onKln fun n =>
      { n with root := k, rootKey := root, forming := none, devid := digest, nonce := nonce }).klnDone .done

/-- Step 4 fails: the PKE could not expand slot 0, and no root is set. -/
def State.formFails (s : State) (c : Code) : State :=
  match s.kln.forming with
  | none => s
  | some _ => (s.onKln fun n => { n with forming := none }).klnDone c

/-! ### DERIVE (R286, R287) -/

/-- KLN_OP_PARENT: the parent is the root; or its slot and expected GEN. -/
def State.fromRoot (s : State) : Bool := bit (s.reg .klnOpParent) 31
def State.parentIx (s : State) : SlotIx := fld (s.reg .klnOpParent) 0 14
def State.parentGen (s : State) : Gen := fld (s.reg .klnOpParent) 16 8

/-- The child usages that a parent of usage `p` may have; `none`: the root (R286). -/
def childAllowed (p : Option (BitVec 4)) (u : BitVec 4) : Bool :=
  match p with
  | none => u == usageKdk
  | some p =>
    if p = usageSession then endpointKind u
    else if p = usageJoint then keyUsage u || u == usageWindow
    else if p = usageKdk then keyUsage u else false

/-- What DERIVE refuses with DENIED_ATTR. -/
def State.deriveDenied (s : State) : Bool :=
  let a := s.reg .klnOpAttr
  let v := s.slot s.parentIx
  let parent := if s.fromRoot then none else some v.usage
  let part := if s.fromRoot then 0 else v.part
  (!s.fromRoot && !v.deriveOk) || !childAllowed parent (fld a 1 4) || fld a 5 6 != part || !attrFits a ||
    !s.destFree s.klnSlot || bit a 15 || fld a 17 8 != 0

/-- The refusals of R287.
Marks: log 69 (DEDUCED). -/
def State.deriveRefusals (s : State) : List (Bool × Code) :=
  [(s.fromRoot && s.rootless, .deniedLc),
   (s.deriveDenied, .deniedAttr),
   (64 < fldN (s.reg .klnOpCtxlen) 0 7, .badLength),
   (!s.fromRoot && s.slotUnusable s.parentIx, .integrity),
   (!s.fromRoot && s.slotStale s.parentIx s.parentGen, .staleGen)]

/-- The child written.
Marks: log 82 (DEDUCED). -/
def State.derive (s : State) : State :=
  let a := childAttr (s.reg .klnOpAttr) s.kln.root
  let c := (s.regBytes .klnCtx 0 16).take (fldN (s.reg .klnOpCtxlen) 0 7)
  let v := s.slot s.parentIx
  let parent := if s.fromRoot then s.kln.rootKey else keyBytes v.key
  let lineage := if s.fromRoot then 0x7F else v.lineage
  let key := kdf parent (usageName (fld a 1 4)) (leBytes 4 a.toNat ++ c)
  (s.writeSlot s.klnSlot (keyOf key) a lineage).klnDone .done

/-- The parent read, unless the command is refused before any read. -/
def State.readParent (s : State) (e : MemErr) : State :=
  if s.kln.halted || s.klnBusy || s.fromRoot then s else s.fetchSlot s.parentIx e

/-! ### Sessions (R288, R289) -/

/-- The session of an ID. -/
def State.session (s : State) (sid : Word) : Option Session := s.kln.sessions.find? fun e => e.sid == sid

/-- A session changed by `f`. -/
def State.onSession (s : State) (sid : Word) (f : Session → Session) : State :=
  s.onKln fun k => { k with sessions := k.sessions.map fun e => if e.sid == sid then f e else e }

/-- The refusals of SESSION_OPEN.
Marks: log 69 (DEDUCED). -/
def State.sessionRefusals (s : State) : List (Bool × Code) :=
  [(s.rootless, .deniedLc),
   (!s.destFree s.klnSlot || (s.session (s.reg .klnOpSession)).isSome, .deniedAttr),
   (s.pke.ssEcdh.isNone || s.pke.ssKem.isNone, .incomplete),
   (256 ≤ s.kln.sessions.length, .noResource)]

/-- The session key of R288. -/
def sessionKey (kem ecdh th : Bytes) (sid : Word) (p : PartId) : Bytes :=
  kmac256 kem (ecdh ++ th ++ leBytes 4 sid.toNat ++ [p.setWidth 8]) 32 (ascii "icvia-sess-v2")

/-- The secrets taken, the slot written, the table entry made. -/
def State.sessionOpen (s : State) : State :=
  let sid := s.reg .klnOpSession
  let p := s.klnPart
  let key := sessionKey (s.pke.ssKem.getD []) (s.pke.ssEcdh.getD []) ((s.regBytes .klnCtx 0 16).take 48) sid p
  let a := childAttr (attrOf usageSession p (putB true 13 ||| putB true 14)) s.kln.root
  let s := { s with pke := { s.pke with ssEcdh := none, ssKem := none } }
  let s := s.writeSlot s.klnSlot (keyOf key) a 0x7F
  (s.onKln fun k =>
    { k with sessions := k.sessions ++ [{ sid := sid, slot := s.klnSlot, gen := (s.slot s.klnSlot).gen, part := p }] }
    ).klnDone .done

/-- SESSION_OPEN issued. -/
def State.doSessionOpen (s : State) (w : Word) : State := s.klnCommand w State.sessionRefusals State.sessionOpen

/-! ### Destruction (R283, R304, R309) -/

/-- A slot destroyed: a VALID slot with ENDPOINT_OK is revoked everywhere (R333), the slot is zeroed, its GEN kept, and a
session that uses it is removed. -/
def State.destroySlot (s : State) (i : SlotIx) (src : EmberSrc) : State :=
  let v := s.slot i
  let s := (s.zeroSlot i v.gen).onKln fun k => { k with sessions := k.sessions.filter fun e => e.slot != i }
  if v.valid && v.endpointOk then s.raiseEmber (revokeSlot i v.gen src) else s

/-- Slots destroyed one after another. -/
def State.destroySlots (s : State) (l : List SlotIx) (src : EmberSrc) : State :=
  l.foldl (fun s i => s.destroySlot i src) s

/-- The slots that satisfy `p`, in rising order. -/
def State.slotsWhere (s : State) (p : Slot → Bool) : List SlotIx :=
  (s.kst.slots.filter fun e => e.1 < 0x4000 && p e.2).map fun e => BitVec.ofNat 14 e.1

/-- DESTROY issued: an unusable slot makes no GEN check (R284), a slot that is not VALID completes at once. -/
def State.doDestroy (s : State) (w : Word) (e : MemErr) : State :=
  let s := if s.kln.halted || s.klnBusy then s else s.fetchSlot s.klnSlot e
  s.klnCommand w
    (fun s =>
      [(s.klnSlot.toNat < 16, .deniedAttr),
       ((s.slot s.klnSlot).valid && !s.slotUnusable s.klnSlot && s.slotStale s.klnSlot s.klnSlotGen, .staleGen)])
    (fun s =>
      (if (s.slot s.klnSlot).valid || s.slotUnusable s.klnSlot then s.destroySlot s.klnSlot .kilnCmd else s).klnDone .done)

/-- Every slot, record and session of a partition destroyed, and the group ZEROISE raised (R309). The ZEROISE covers the
slots' keys, so no slot is revoked by itself (R333). -/
def State.destroyPart (s : State) (p : PartId) (owner : EmberOwner) (src : EmberSrc) : State :=
  let s := (s.slotsWhere fun v => v.part == p && (v.valid || v.unusable)).foldl (fun s i => s.zeroSlot i (s.slot i).gen) s
  let s := s.onKln fun k =>
    { k with
      sessions := k.sessions.filter fun e => e.part != p
      recs := k.recs.filter fun e => (e.2.map fun r => r.part == p) != some true }
  s.raiseEmber (zeroiseGroup p owner src)

/-! ### Messages (R290 to R295, R553) -/

/-- A key-update or data message as the Kiln reads it: the bytes it may read, and the header with absent bytes 0
(R553). -/
structure KuMsg where
  raw : Bytes
  head : Bytes

/-- The message at KLN_OP_ADDR. -/
def State.klnMsg (s : State) : KuMsg :=
  let raw := s.psramBytes s.klnAddr s.klnLen
  ⟨raw, padTo 160 raw⟩

/-- A field of a message header. -/
def KuMsg.num (m : KuMsg) (off n : Nat) : Nat := ofLE (slice m.head off n)
def KuMsg.kind (m : KuMsg) : Nat := m.num 0x06 1
def KuMsg.owner (m : KuMsg) : Nat := m.num 0x07 1
def KuMsg.sid (m : KuMsg) : Word := BitVec.ofNat 32 (m.num 0x08 4)
def KuMsg.plen (m : KuMsg) : Nat := m.num 0x0C 2
def KuMsg.keyctr (m : KuMsg) : Nat := m.num 0x0E 2
def KuMsg.counter (m : KuMsg) : BitVec 64 := BitVec.ofNat 64 (m.num 0x10 8)
def KuMsg.attr (m : KuMsg) : Word := BitVec.ofNat 32 (m.num 0x18 4)
def KuMsg.target (m : KuMsg) : Nat := m.num 0x1C 2
def KuMsg.part (m : KuMsg) : Nat := m.num 0x1E 1
def KuMsg.job (m : KuMsg) : JobId := BitVec.ofNat 16 (m.num 0x20 2)
def KuMsg.bind (m : KuMsg) : Bytes := slice m.head 0x60 64
def KuMsg.devid (m : KuMsg) : Bytes := slice m.head 0x30 48
def KuMsg.payload (m : KuMsg) : Bytes := slice m.raw 0xA0 m.plen
def KuMsg.tag (m : KuMsg) : Bytes := slice m.raw (0xA0 + m.plen) 32

/-- KE and KA of a protecting key W (R292). -/
def kumKey (w : Bytes) (label : String) (sid : Word) : Bytes := kdf w label (leBytes 4 sid.toNat)

/-- The payload encrypted or decrypted under W (R292). -/
def kumCrypt (w : Bytes) (sid : Word) (head text : Bytes) : Bytes :=
  List.zipWith (· ^^^ ·) text (kmac256 (kumKey w "KUM-ENC" sid) head text.length (ascii "icvia-kum-ks"))

/-- The tag of a header and its payload under W (R292). -/
def kumTag (w : Bytes) (sid : Word) (head payload : Bytes) : Bytes :=
  kmac256 (kumKey w "KUM-AUTH" sid) (head ++ payload) 32 (ascii "icvia-kum-tag")

/-- KEK(v) (R292). -/
def State.kek (s : State) (v : Nat) : Bytes := kdf s.kln.rootKey "PROVKEK" (leBytes 2 v)

/-- A message built under W (R290, R292). -/
def buildMsg (w : Bytes) (kind : Nat) (sid : Word) (keyctr : Nat) (counter : BitVec 64) (attr : Word) (target part : Nat)
    (devid text : Bytes) : Bytes :=
  let head :=
    leBytes 4 0x554B4349 ++ leBytes 2 2 ++ leBytes 1 kind ++ leBytes 1 0 ++ leBytes 4 sid.toNat ++
      leBytes 2 text.length ++ leBytes 2 keyctr ++ leBytes 8 counter.toNat ++ leBytes 4 attr.toNat ++ leBytes 2 target ++
      leBytes 1 part ++ leBytes 17 0 ++ padTo 48 devid ++ leBytes 64 0
  let payload := kumCrypt w sid head text
  head ++ payload ++ kumTag w sid head payload

/-- The slot index that a message's TARGET_SLOT names. -/
def KuMsg.targetIx (m : KuMsg) : SlotIx := BitVec.ofNat 14 m.target

/-- A LOAD or PROVISION may replace the VALID slot it names (R294). -/
def State.replaceable (s : State) (m : KuMsg) : Bool :=
  let v := s.slot m.targetIx
  (m.kind == 1 || m.kind == 2) && v.valid && !v.unusable && v.usage == fld m.attr 1 4 && v.part == fld m.attr 5 6

/-- ATTR and TARGET_SLOT of a key message break R280, R281 or R282, or its partition is not the message's. -/
def State.keyMsgDenied (s : State) (m : KuMsg) : Bool :=
  let a := m.attr
  !bit a 0 || fld a 17 15 != 0 || bit a 15 || !attrFits a || !keyUsage (fld a 1 4) || fldN a 5 6 != m.part ||
    m.target < 16 || 0x4000 ≤ m.target || !(s.destFree m.targetIx || s.replaceable m)

/-- The record of a partition and job, with its index. -/
def State.record (s : State) (p : Nat) (j : JobId) : Option (Nat × KRecord) :=
  s.kln.recs.findSome? fun e =>
    match e.2 with
    | some r => if r.part.toNat = p ∧ r.job = j then some (e.1, r) else none
    | none => none

/-- A SHARE breaks R300, but for the share that has already arrived. -/
def State.shareDenied (s : State) (m : KuMsg) : Bool :=
  !s.destFree s.klnSlot || 16 ≤ m.owner ||
    match s.record m.part m.job with
    | none => true
    | some (_, r) =>
      r.state != .collecting || !r.mask.getLsbD m.owner || r.bind != m.bind ||
        r.shares.any fun h => h.sid == m.sid && h.owner != m.owner

/-- The owner's share has already arrived (R300). -/
def State.shareTwice (s : State) (m : KuMsg) : Bool :=
  match s.record m.part m.job with
  | none => false
  | some (_, r) => r.shares.any fun h => h.owner == m.owner

/-- The header breaks R290 for its kind, or names another die. -/
def State.headDenied (s : State) (m : KuMsg) : Bool :=
  m.num 0 4 != 0x554B4349 || m.num 4 2 != 2 || m.num 0x1F 1 != 0 || m.num 0x22 14 != 0 || m.devid != padTo 48 s.kln.devid ||
    (m.kind != 3 && (m.owner != 0 || m.job != 0 || m.bind.any fun b => b != 0)) ||
    (m.kind != 2 && m.kind != 4 && m.keyctr != 0) ||
    (m.kind != 1 && m.kind != 2 && m.kind != 4 && (m.attr != 0 || m.target != 0))

/-- The session that protects a message; none for PERSIST. -/
def State.msgSession (s : State) (m : KuMsg) : Option Session := if m.kind = 4 then none else s.session m.sid

/-- The protecting key W, where the Kiln can form it (R291, R553). -/
def State.msgKey (s : State) (m : KuMsg) : Option Bytes :=
  if s.rootless then none
  else if m.kind = 4 then some (s.kek m.keyctr)
  else
    match s.session m.sid with
    | none => none
    | some e =>
      if s.slotUnusable e.slot || s.slotStale e.slot e.gen then none else some (keyBytes (s.slot e.slot).key)

/-- The tag does not verify, where BAD_SIGNATURE applies (R553). -/
def State.badTag (s : State) (m : KuMsg) : Bool :=
  match s.msgKey m with
  | none => false
  | some w => 0xA0 + m.plen + 32 ≤ m.raw.length && kumTag w m.sid m.head m.payload != m.tag

/-- LEN does not fit the kind. -/
def KuMsg.badLen (m : KuMsg) : Bool :=
  if 1 ≤ m.kind ∧ m.kind ≤ 4 then m.plen != 32 else m.plen < 16 || 4096 < m.plen || m.plen % 16 != 0

/-- REPLAY applies (R293). -/
def State.msgReplay (s : State) (m : KuMsg) : Bool :=
  (match s.msgSession m with
   | none => false
   | some e => m.counter.toNat ≤ e.inCtr.toNat) || (m.kind == 3 && s.shareTwice m)

/-- The DENIED_ATTR cases of R293 for UNWRAP or UNSEAL, R313's for the destination among them.
Marks: log 73 (DEDUCED). -/
def State.msgDenied (s : State) (isData : Bool) (m : KuMsg) : Bool :=
  s.headDenied m || (if isData then m.kind != 5 else m.kind == 0 || 4 < m.kind) ||
    (m.kind != 4 &&
      match s.session m.sid with
      | none => true
      | some e => e.part.toNat != m.part) ||
    ((m.kind == 1 || m.kind == 2 || m.kind == 4) && s.keyMsgDenied m) || (m.kind == 3 && s.shareDenied m) ||
    (m.kind == 2 && !psramRange s.klnDst 224) || (isData && !psramRange s.klnDst m.plen)

/-- The refusals of R293. A message that lies outside the private SRAM is not read.
Marks: log 69 (DEDUCED). -/
def State.msgRefusals (s : State) (isData : Bool) : List (Bool × Code) :=
  if !psramRange s.klnAddr s.klnLen then [(s.rootless, .deniedLc), (true, .deniedAttr)]
  else
    let m := s.klnMsg
    let prov := m.kind == 2 || m.kind == 4
    [(s.rootless || (prov && s.lcs.state != .stock && s.lcs.state != .field), .deniedLc),
     (s.msgDenied isData m, .deniedAttr),
     (m.badLen || s.klnLen != 192 + m.plen, .badLength),
     (s.msgReplay m, .replay),
     (s.badTag m, .badSignature),
     ((s.msgSession m).any fun e => s.slotUnusable e.slot, .integrity),
     (prov && m.keyctr != s.otp.keyctr, .version),
     ((s.msgSession m).any fun e => s.slotStale e.slot e.gen, .staleGen)]

/-- A refused message counts in KLN_CNT_AUTH and KLN_CNT_REPLAY where those refusals apply (R553). -/
def State.countMsg (s : State) : State :=
  if s.kln.halted || s.klnBusy || s.rootless || !psramRange s.klnAddr s.klnLen then s
  else
    let m := s.klnMsg
    s.onKln fun k =>
      { k with
        cntAuth := if s.badTag m then tally k.cntAuth else k.cntAuth
        cntReplay := if s.msgReplay m then tally k.cntReplay else k.cntReplay }

/-- The session slot of the message read, where it is read at all. -/
def State.readMsgSession (s : State) (e : MemErr) : State :=
  if s.kln.halted || s.klnBusy || s.rootless || !psramRange s.klnAddr s.klnLen then s
  else
    match s.msgSession s.klnMsg with
    | none => s
    | some x => s.fetchSlot x.slot e

/-- The plaintext of an accepted message. -/
def State.plain (s : State) (m : KuMsg) : Bytes := kumCrypt ((s.msgKey m).getD []) m.sid m.head m.payload

/-- The session's inbound counter advances (R294). -/
def State.countIn (s : State) (m : KuMsg) : State :=
  if m.kind = 4 then s else s.onSession m.sid fun e => { e with inCtr := m.counter }

/-- The key of a LOAD, PROVISION or PERSIST written; a replaced slot with ENDPOINT_OK is revoked (R294, R333). -/
def State.putKey (s : State) (m : KuMsg) (key : Bytes) : State :=
  let i := m.targetIx
  let v := s.slot i
  let s := s.writeSlot i (keyOf key) (childAttr m.attr s.kln.root) 0x7F
  if v.valid && v.endpointOk then s.raiseEmber (revokeSlot i v.gen .kilnCmd) else s

/-- The PERSIST message that a PROVISION leaves in private SRAM (R294). -/
def State.putPersist (s : State) (m : KuMsg) (key : Bytes) : State :=
  if m.kind = 2 then
    s.psramPut s.klnDst
      (buildMsg (s.kek m.keyctr) 4 m.sid m.keyctr m.counter m.attr m.target m.part s.kln.devid key)
  else s

/-! ### Confluence (R297 to R306) -/

/-- Record `i` put to `r`. -/
def State.setRecord (s : State) (i : Nat) (r : Option KRecord) : State :=
  s.onKln fun k => { k with recs := Sparse.put none k.recs i r }

/-- A share slot of the record that still carries the GEN recorded for it (R304). -/
def State.ownShare (s : State) (h : Share) : Bool := (s.slot h.slot).gen == h.gen

/-- The record's share slots destroyed. -/
def State.destroyShares (s : State) (r : KRecord) (src : EmberSrc) : State :=
  s.destroySlots ((r.shares.filter s.ownShare).map fun h => h.slot) src

/-- Every slot of the lineage of record `i`.
Marks: log 81 (DEDUCED). -/
def State.lineageSlots (s : State) (i : Nat) : List SlotIx :=
  s.slotsWhere fun v => v.lineage.toNat == i && (v.valid || v.unusable)

/-- A record becomes FAILED (R301, R304).
Marks: log 81 (DEDUCED). -/
def State.failRecord (s : State) (i : Nat) (r : KRecord) (src : EmberSrc) : State :=
  let s := s.destroyShares r src
  let s := if r.state = .formed then s.destroySlots (r.joint :: s.lineageSlots i) src else s
  (s.setRecord i (some { r with state := .failed })).onKln fun k => { k with intFailed := true }

/-- A record becomes FAULTED (R304). -/
def State.faultRecord (s : State) (i : Nat) (r : KRecord) (src : EmberSrc) : State :=
  ((s.destroyShares r src).setRecord i (some { r with state := .faulted })).onKln fun k => { k with intFailed := true }

/-- Every owner bit and every EQUAL bit of a COLLECTING record is set (R302). -/
def KRecord.complete (r : KRecord) : Bool :=
  r.state == .collecting && (r.streams.all fun t => t.equal) &&
    (List.range 16).all fun o => !r.mask.getLsbD o || r.shares.any fun h => h.owner == o

/-- The streams of a record by rising stream ID. -/
def insertStream (t : ReqStream) : List ReqStream → List ReqStream
  | [] => [t]
  | u :: l => if t.sid.toNat < u.sid.toNat then t :: u :: l else u :: insertStream t l
def sortStreams (l : List ReqStream) : List ReqStream := l.foldr insertStream []

/-- The share of an owner in CI: its index, then the key of its slot. -/
def State.ciShare (s : State) (r : KRecord) (o : Nat) : Bytes :=
  match r.shares.find? fun h => h.owner == o with
  | none => []
  | some h => leBytes 1 o ++ keyBytes (s.slot h.slot).key

/-- A required stream in CI. -/
def ciStream (t : ReqStream) : Bytes :=
  let b := t.bound.getD (0, 0)
  leBytes 2 t.sid.toNat ++ leBytes 2 b.2.toNat ++ leBytes 1 b.1.toNat

/-- The confluence input CI (R302). -/
def State.confluence (s : State) (r : KRecord) : Bytes :=
  leBytes 1 r.part.toNat ++ leBytes 1 r.pgen.toNat ++ leBytes 2 r.job.toNat ++ leBytes 2 r.mask.toNat ++
    leBytes 2 r.streams.length ++ padTo 64 r.bind ++
    ((List.range 16).filter fun o => r.mask.getLsbD o).flatMap (s.ciShare r) ++ (sortStreams r.streams).flatMap ciStream

/-- The joint key (R302). -/
def State.jointKey (s : State) (r : KRecord) : Bytes :=
  let rj := kdf s.kln.rootKey "JOINTBASE" (leBytes 1 r.part.toNat ++ leBytes 1 r.pgen.toNat ++ leBytes 2 r.job.toNat)
  kmac256 rj (s.confluence r) 32 (ascii "icvia-joint-v2")

/-- A share slot counts as unusable during formation (R304). -/
def State.badShare (s : State) (r : KRecord) (h : Share) : Bool :=
  let v := s.slot h.slot
  s.slotUnusable h.slot || !v.valid || v.usage != usageShare || v.part != r.part || v.gen != h.gen

/-- Formation of record `i`, or the FAULTED record it ends in (R302, R304).
Marks: log 20 (DESIGN CHOICE); log 92 (DEDUCED). -/
def State.formRecord (s : State) (i : Nat) (r : KRecord) (src : EmberSrc) : State :=
  let s := (r.shares.filter s.ownShare).foldl (fun s h => s.readSlot h.slot) s
  if (r.shares.any (s.badShare r)) || (s.slot r.joint).valid || s.slotUnusable r.joint then s.faultRecord i r src
  else
    let a := childAttr (attrOf usageJoint r.part (putB true 13)) s.kln.root
    let s := s.writeSlot r.joint (keyOf (s.jointKey r)) a (BitVec.ofNat 7 i)
    ((s.destroyShares r src).setRecord i (some { r with state := .formed })).onKln fun k => { k with intFormed := true }

/-- Record `i` put to `r`, and formed at once if that completes it (R302). -/
def State.updateRecord (s : State) (i : Nat) (r : KRecord) (src : EmberSrc) : State :=
  if r.complete then (s.setRecord i (some r)).formRecord i r src else s.setRecord i (some r)

/-- An accepted SHARE (R300). -/
def State.putShare (s : State) (m : KuMsg) (key : Bytes) : State :=
  match s.record m.part m.job with
  | none => s
  | some (i, r) =>
    let slot := s.klnSlot
    let s := s.writeSlot slot (keyOf key) (childAttr (attrOf usageShare r.part 0) s.kln.root) 0x7F
    s.updateRecord i { r with shares := r.shares ++ [⟨m.owner, slot, (s.slot slot).gen, m.sid⟩] } .kilnCmd

/-- An accepted UNWRAP.
Marks: log 73 (DEDUCED). -/
def State.unwrap (s : State) : State :=
  let m := s.klnMsg
  let key := s.plain m
  let s := s.countIn m
  ((if m.kind = 3 then s.putShare m key else (s.putKey m key).putPersist m key)).klnDone .done

/-- UNWRAP issued. -/
def State.doUnwrap (s : State) (w : Word) (e : MemErr) : State :=
  (s.readMsgSession e).countMsg.klnCommand w (fun s => s.msgRefusals false) State.unwrap

/-- An accepted UNSEAL (R295). -/
def State.unsealMsg (s : State) : State :=
  let m := s.klnMsg
  ((s.countIn m).psramPut s.klnDst (s.plain m)).klnDone .done

/-- UNSEAL issued. -/
def State.doUnseal (s : State) (w : Word) (e : MemErr) : State :=
  (s.readMsgSession e).countMsg.klnCommand w (fun s => s.msgRefusals true) State.unsealMsg

/-- The refusals of SEAL (R295, R313). -/
def State.sealRefusals (s : State) : List (Bool × Code) :=
  let n := s.klnLen
  let e := s.session (s.reg .klnOpSession)
  [(s.rootless, .deniedLc),
   (e.isNone || !psramRange s.klnAddr n || !psramRange s.klnDst (192 + n), .deniedAttr),
   (n < 16 || 4096 < n || n % 16 != 0, .badLength),
   (e.any fun e => s.slotUnusable e.slot, .integrity)]

/-- An accepted SEAL. -/
def State.sealMsg (s : State) : State :=
  match s.session (s.reg .klnOpSession) with
  | none => s
  | some e =>
    let text := s.psramBytes s.klnAddr s.klnLen
    let msg := buildMsg (keyBytes (s.slot e.slot).key) 6 e.sid 0 e.outCtr 0 0 e.part.toNat s.kln.devid text
    ((s.psramPut s.klnDst msg).onSession e.sid fun e => { e with outCtr := e.outCtr + 1 }).klnDone .done

/-- The session slot of SEAL read. -/
def State.readSealSession (s : State) (e : MemErr) : State :=
  if s.kln.halted || s.klnBusy then s
  else
    match s.session (s.reg .klnOpSession) with
    | none => s
    | some x => s.fetchSlot x.slot e

/-- SEAL issued. -/
def State.doSeal (s : State) (w : Word) (e : MemErr) : State :=
  (s.readSealSession e).klnCommand w State.sealRefusals State.sealMsg

/-- The required list of JOB_CREATE: entries of two bytes, little-endian. -/
def State.jobList (s : State) : List Nat :=
  let bs := s.psramBytes s.klnAddr s.klnLen
  (List.range (s.klnLen / 2)).map fun k => ofLE (slice bs (2 * k) 2)

/-- No entry stands twice. -/
def noRepeat : List Nat → Bool
  | [] => true
  | x :: l => !l.contains x && noRepeat l

/-- The lowest record not in use.
Marks: log 119 (DESIGN CHOICE). -/
def State.freeRecord (s : State) : Option Nat := (List.range 64).find? fun i => (Sparse.get none s.kln.recs i).isNone

/-- The refusals of JOB_CREATE (R298, R427).
Marks: log 69 (DEDUCED). -/
def State.jobRefusals (s : State) : List (Bool × Code) :=
  let inside := psramRange s.klnAddr s.klnLen
  let l := s.jobList
  [(!s.up .d4, .busy),
   (s.rootless, .deniedLc),
   (s.klnPart = 0 || !s.partDefined s.klnPart || s.klnJob = 0 || fld (s.reg .klnOpMask) 0 16 = 0 ||
      !s.destFree s.klnSlot || (s.record s.klnPart.toNat s.klnJob).isSome || !inside ||
      (inside && (!noRepeat l || l.any fun e => 0x1000 ≤ e)), .deniedAttr),
   (s.klnLen = 0 || 2048 < s.klnLen || s.klnLen % 2 != 0, .badLength),
   (s.freeRecord.isNone, .noResource)]

/-- The record made. -/
def State.jobCreate (s : State) : State :=
  let r : KRecord :=
    { part := s.klnPart, pgen := s.partGen s.klnPart, job := s.klnJob, mask := fld (s.reg .klnOpMask) 0 16,
      bind := s.regBytes .klnCtx 0 16, joint := s.klnSlot,
      streams := s.jobList.map fun e => { sid := BitVec.ofNat 12 e } }
  (s.setRecord (s.freeRecord.getD 0) (some r)).klnDone .done

/-! ### Events (R299 to R301) -/

/-- An event dropped and counted. -/
def State.dropEvent (s : State) : State := s.onKln fun k => { k with cntDrop := tally k.cntDrop, intDrop := true }

/-- Stream `t` of a record replaced. -/
def KRecord.putStream (r : KRecord) (t : ReqStream) : KRecord :=
  { r with streams := r.streams.map fun u => if u.sid == t.sid then t else u }

/-- An event applied to the record and stream it names (R301). -/
def State.applyTo (s : State) (e : SmeEvent) (i : Nat) (r : KRecord) (t : ReqStream) : State :=
  let current := (t.bound.map fun b => b.1) == some e.gen
  match r.state, e.kind with
  | .collecting, .bind =>
    s.updateRecord i (r.putStream { t with bound := some (e.gen, e.entry), equal := false }) .kilnEvt
  | .collecting, .token =>
    if current then s.updateRecord i (r.putStream { t with equal := true }) .kilnEvt else s.dropEvent
  | .collecting, .fail => if current then s.failRecord i r .kilnEvt else s.dropEvent
  | .formed, .token => s.dropEvent
  | .formed, _ => s.failRecord i r .kilnEvt
  | .failed, _ => s.dropEvent
  | .faulted, _ => s.dropEvent

/-- The next event taken and applied.
Marks: log 83 (DEDUCED). -/
def State.applyEvent (s : State) : State :=
  match s.kln.queue with
  | [] => s
  | e :: rest =>
    let s := s.onKln fun k => { k with queue := rest }
    match s.record e.part.toNat e.job with
    | none => s.dropEvent
    | some (i, r) =>
      match r.streams.find? fun t => t.sid == e.sid with
      | none => s.dropEvent
      | some t => s.applyTo e i r t

/-- KLN_EVENT_APPLY (R301): due while an event waits and the Kiln is neither at work nor halted (R306).
Marks: log 83 (DEDUCED). -/
def execKlnEventApply (s : State) : Res :=
  ranIf (!s.kln.queue.isEmpty && !s.kln.halted && !s.klnHeld) State.applyEvent s

/-! ### The commands -/

/-- FORM_ROOT issued (R273). -/
def State.doFormRoot (s : State) (w : Word) : State :=
  s.klnCommand w (fun s => [(s.kln.formed || 5 ≤ s.boot.stage, .deniedAttr)]) State.formRoot

/-- DERIVE issued (R286). -/
def State.doDerive (s : State) (w : Word) (e : MemErr) : State :=
  (s.readParent e).klnCommand w State.deriveRefusals State.derive

/-- DESTROY_PARTITION issued (R309). -/
def State.doDestroyPart (s : State) (w : Word) : State :=
  s.klnCommand w (fun s => [(s.klnPart = 0, .deniedAttr)])
    (fun s => (s.destroyPart s.klnPart .none .kilnCmd).klnDone .done)

/-- JOB_CREATE issued (R298). -/
def State.doJobCreate (s : State) (w : Word) : State := s.klnCommand w State.jobRefusals State.jobCreate

/-- JOB_DESTROY issued (R305).
Marks: log 81 (DEDUCED). -/
def State.doJobDestroy (s : State) (w : Word) : State :=
  s.klnCommand w (fun s => [((s.record s.klnPart.toNat s.klnJob).isNone, .deniedAttr)])
    (fun s =>
      match s.record s.klnPart.toNat s.klnJob with
      | none => s
      | some (i, r) =>
        let s := s.destroyShares r .kilnCmd
        ((s.destroySlots (r.joint :: s.lineageSlots i) .kilnCmd).setRecord i none).klnDone .done)

/-- SALT_LOAD issued (R310): the salt derived and delivered to the SME. -/
def State.doSaltLoad (s : State) (w : Word) : State :=
  s.klnCommand w
    (fun s =>
      [(!s.d3Serves || !s.up .d4, .busy), (s.rootless, .deniedLc), (!s.partDefined s.klnPart, .deniedAttr)])
    (fun s =>
      let p := s.klnPart
      let salt := kdf s.kln.rootKey "SALT" (leBytes 1 p.toNat ++ leBytes 1 (s.partGen p).toNat ++ s.kln.nonce)
      { s with sme := { s.sme with salts := Sparse.put none s.sme.salts p.toNat (some salt) } }.klnDone .done)

/-- The command of code `c.code` (R312) runs. -/
def State.klnRun (s : State) (c : KlnWait) : State :=
  match c.code with
  | 0x1 => s.doFormRoot c.w
  | 0x2 => s.doDerive c.w c.err
  | 0x3 => s.doSessionOpen c.w
  | 0x4 => s.doUnwrap c.w c.err
  | 0x5 => s.doUnseal c.w c.err
  | 0x6 => s.doSeal c.w c.err
  | 0x7 => s.doDestroy c.w c.err
  | 0x8 => s.doDestroyPart c.w
  | 0x9 => s.doJobCreate c.w
  | 0xA => s.doJobDestroy c.w
  | 0xB => s.doSaltLoad c.w
  | _ => s.klnCommand c.w (fun _ => [(true, .deniedAttr)]) id

/-! ### Commands and events in turn (R306) -/

/-- The events that wait are applied, as far as no revoke of one holds the Kiln up.
Marks: log 90 (DEDUCED). -/
def State.klnTurn (s : State) : State :=
  s.kln.queue.foldl (fun s _ => if s.kln.halted || s.klnHeld then s else s.applyEvent) s

/-- A command takes its turn: the events that came before it are applied first, and it waits while one of them holds the
Kiln up. An event that comes while it runs waits behind it alone.
Marks: log 90 (DEDUCED). -/
def State.klnStart (s : State) (c : KlnWait) : State :=
  let s := s.klnTurn
  if s.kln.halted || (!s.klnHeld && s.kln.queue.isEmpty) then s.klnRun c else s.onKln fun k => { k with wait := some c }

/-- The command that waits takes its turn once the Kiln is free, or is halted. -/
def State.klnResume (s : State) : State :=
  match s.kln.wait with
  | none => s
  | some c => if s.klnBusy then s else (s.onKln fun k => { k with wait := none }).klnStart c

/-- A write of KLN_CMD: BUSY while another command runs or waits (R312).
Marks: log 26 (DEDUCED). -/
def State.klnWrite (s : State) (c : KlnWait) : State :=
  if !s.kln.halted && (s.klnBusy || s.kln.wait.isSome) then
    (s.onKln fun k => { k with code := .busy }).clearReg .klnCtx
  else s.klnStart c

/-- A write of KLN_CMD with command code `n`: the access is served, and the command takes its turn; `e`: what SECDED finds in
the slot that it reads. -/
def ranKln (n : Nat) (w : Word) (e : MemErr) (s : State) : Res := ranOn .d2 (fun s => s.klnWrite ⟨n, w, e⟩) s

/-- FORM_ROOT (R273). -/
def execFormRoot (w : Word) (s : State) : Res := ranKln 0x1 w .none s
/-- DERIVE (R286); `err`: what SECDED finds in the parent's slot (R278).
Marks: log 74 (DESIGN CHOICE). -/
def execKlnDerive (w : Word) (err : MemErr) (s : State) : Res := ranKln 0x2 w err s
/-- SESSION_OPEN (R288). -/
def execSessionOpen (w : Word) (s : State) : Res := ranKln 0x3 w .none s
/-- UNWRAP (R293); `err`: what SECDED finds in the session's slot.
Marks: log 73 (DEDUCED); log 74 (DESIGN CHOICE). -/
def execKlnUnwrap (w : Word) (err : MemErr) (s : State) : Res := ranKln 0x4 w err s
/-- UNSEAL (R295); `err`: what SECDED finds in the session's slot. -/
def execKlnUnseal (w : Word) (err : MemErr) (s : State) : Res := ranKln 0x5 w err s
/-- SEAL (R295); `err`: what SECDED finds in the session's slot. -/
def execKlnSeal (w : Word) (err : MemErr) (s : State) : Res := ranKln 0x6 w err s
/-- DESTROY (R309); `err`: what SECDED finds in the slot. -/
def execKlnDestroy (w : Word) (err : MemErr) (s : State) : Res := ranKln 0x7 w err s
/-- DESTROY_PARTITION (R309). -/
def execDestroyPartition (w : Word) (s : State) : Res := ranKln 0x8 w .none s
/-- JOB_CREATE (R298). -/
def execJobCreate (w : Word) (s : State) : Res := ranKln 0x9 w .none s
/-- JOB_DESTROY (R305).
Marks: log 81 (DEDUCED). -/
def execJobDestroy (w : Word) (s : State) : Res := ranKln 0xA w .none s
/-- SALT_LOAD (R310). -/
def execSaltLoad (w : Word) (s : State) : Res := ranKln 0xB w .none s

/-! ### Destruction as a whole (R307) -/

/-- Every slot, record and session destroyed, GEN of each slot kept: step 4 of R153 and OPEN_DEBUG (R307). -/
def State.destroyKeys (s : State) : State :=
  let s := (s.slotsWhere fun v => v.valid || v.unusable).foldl (fun s i => s.zeroSlot i (s.slot i).gen) s
  s.onKln fun k => { k with sessions := [], recs := [] }

end Sys2Proof.Machine
end

