-- ==== Sys2Proof/Machine/Measure.lean ====
section
/-!
DEFINITION. Machine/Measure.lean: the stream measurement engine: taps, lanes, combine lanes, results, the expected-digest
table, the measurement registers and their extension unit, and the SME commands (07_stream_measurement.md).
-/
namespace Sys2Proof.Machine

/-! ### Access to its state -/

/-- The SME changed by `f`. -/
def State.onSme (s : State) (f : Sme → Sme) : State := { s with sme := f s.sme }

/-- The context of a stream ID. -/
def State.stream (s : State) (sid : StreamId) : Stream := Sparse.get {} s.sme.streams sid.toNat

/-- A stream context put to `v`. -/
def State.setStream (s : State) (sid : StreamId) (v : Stream) : State :=
  s.onSme fun m => { m with streams := Sparse.put {} m.streams sid.toNat v }

/-- A stream context changed by `f`. -/
def State.onStream (s : State) (sid : StreamId) (f : Stream → Stream) : State := s.setStream sid (f (s.stream sid))

/-- Fen lane `l`. -/
def State.lane (s : State) (l : Nat) : FenLane := Sparse.get {} s.sme.lanes l

/-- Fen lane `l` put to `v`. -/
def State.setLane (s : State) (l : Nat) (v : FenLane) : State :=
  s.onSme fun m => { m with lanes := Sparse.put {} m.lanes l v }

/-- Expected-digest entry `i`. -/
def State.exp (s : State) (i : Nat) : ExpEntry := Sparse.get {} s.sme.exps i

/-- Expected-digest entry `i` put to `v`. -/
def State.setExp (s : State) (i : Nat) (v : ExpEntry) : State :=
  s.onSme fun m => { m with exps := Sparse.put {} m.exps i v }

/-- Measurement register `i`. -/
def State.mreg (s : State) (i : Nat) : MReg := Sparse.get {} s.mrs i

/-- Measurement register `i` put to `v`. -/
def State.setMreg (s : State) (i : Nat) (v : MReg) : State := { s with mrs := Sparse.put {} s.mrs i v }

/-- A command block. -/
def State.smeBlk (s : State) : Blk → SmeBlk
  | .s => s.sme.blkS
  | .c => s.sme.blkC

/-- A command block changed by `f`. -/
def State.onSmeBlk (s : State) (b : Blk) (f : SmeBlk → SmeBlk) : State :=
  match b with
  | .s => s.onSme fun m => { m with blkS := f m.blkS }
  | .c => s.onSme fun m => { m with blkC := f m.blkC }

/-- What SECDED found counted and, where it is uncorrectable, flagged in both blocks and reported (R234), with the partition
of the stream that it belongs to, where there is one (R543). -/
def State.smeErr (s : State) (e : MemErr) (part : Option PartId) : State :=
  match e with
  | .none => s
  | .corrected => s.onSme fun m => { m with cntCorrected := tally m.cntCorrected }
  | .uncorr =>
    (s.onSme fun m =>
      { m with
        cntUncorr := tally m.cntUncorr
        blkS := { m.blkS with intIntegrity := true }
        blkC := { m.blkC with intIntegrity := true } }).health 0 .integrity part

/-- The partition of a stream whose context is in use. -/
def State.streamPart (s : State) (sid : StreamId) : Option PartId :=
  if (s.stream sid).st = .free then none else some (s.stream sid).part

/-- An uncorrectable error met in a stream's context: its outcome will be INTEGRITY, and that of a CLOSED stream becomes it,
its digest gone (R234). -/
def State.spoilStream (s : State) (sid : StreamId) : State :=
  match (s.stream sid).st with
  | .free => s
  | .open | .closing => s.onStream sid fun v => { v with bad := true, lost := true }
  | .closed => s.onStream sid fun v => { v with outcome := .integrity, digest := [] }

/-- What SECDED finds in a stream's context: counted and reported, and uncorrectable it spoils the stream (R234). -/
def State.ctxErr (s : State) (e : MemErr) (sid : StreamId) : State :=
  let s := s.smeErr e (s.streamPart sid)
  if e = .uncorr then s.spoilStream sid else s

/-- A partition is confidential. -/
def State.partConf (s : State) (p : PartId) : Bool := s.partDefined p && (s.partEntry p).conf

/-- A partition's policy permits chunk export; partition 0's does (R426). -/
def State.chunkOk (s : State) (p : PartId) : Bool := p = 0 || (s.partEntry p).chunk

/-- The salt of a partition, where it is loaded. -/
def State.salt (s : State) (p : PartId) : Option Bytes := Sparse.get none s.sme.salts p.toNat

/-! ### Events to the Kiln (R215, R216, R299) -/

/-- An event sent: into the Kiln's queue if it has room and nothing waits before it, else into the stream's context. -/
def State.sendEvent (s : State) (e : SmeEvent) : State :=
  if s.sme.events.isEmpty && s.kln.queue.length < 64 && s.up .d2 then s.onKln fun k => { k with queue := k.queue ++ [e] }
  else s.onSme fun m => { m with events := m.events ++ [e] }

/-- The event of a stream. -/
def Stream.event (v : Stream) (sid : StreamId) (k : EvKind) : SmeEvent := ⟨k, sid, v.gen, v.part, v.job, v.entry⟩

/-- A release token of the stream is still waiting. -/
def State.tokenPending (s : State) (sid : StreamId) : Bool := s.sme.events.any fun e => e.sid == sid && e.kind == .token

/-- SME_EVENT_SEND (R216): due while an event waits and the Kiln's queue has room. -/
def execSmeEventSend (s : State) : Res :=
  ranIf (!s.sme.events.isEmpty && s.kln.queue.length < 64 && s.up .d2)
    (fun s =>
      match s.sme.events with
      | [] => s
      | e :: rest => (s.onSme fun m => { m with events := rest }).onKln fun k => { k with queue := k.queue ++ [e] }) s

/-! ### Taps (R50 to R53, R200 to R204) -/

/-- STREAM_FAULT raised for a beat that the SME drops; its credit returns at once (R53, R201, R204).
Marks: log 20 (DESIGN CHOICE). -/
def State.dropBeat (s : State) (tap : Nat) (sid : StreamId) : State :=
  let v := s.stream sid
  let s := s.onSme fun m => { m with cntSfault := tally m.cntSfault }
  let s := if v.st = .free then s else s.onSmeBlk v.blk fun b => { b with intSfault := true }
  (s.emit (.tapFault tap sid)).emit (.tapCredit tap)

/-- A stream moves to CLOSING. -/
def Stream.close (v : Stream) : Stream := { v with st := .closing }

/-- A beat of an OPEN stream on its tap (R201 to R203). -/
def State.openBeat (s : State) (tap : Nat) (sid : StreamId) (bytes : Bytes) (first last : Bool) : State :=
  let v := s.stream sid
  if v.tooLong || v.len < v.got + bytes.length then
    let v := { v with tooLong := true }
    (s.setStream sid (if last then v.close else v)).dropBeat tap sid
  else if (v.got = 0 && !first) || (0 < v.got && first) then s.dropBeat tap sid
  else
    let v := { v with got := v.got + bytes.length }
    (s.setStream sid (if last then v.close else v)).onSme fun m =>
      { m with taps := modAt m.taps tap fun q => q ++ [⟨sid, bytes⟩] }

/-- TAP_BEAT (R53). While TAP_UP is low the port is void (R36). A beat that the host die sends without a credit, which R51
does not let it do, is dropped, as if it had not come. The stream's context is read, with what SECDED finds in it (R234).
Marks: log 40 (DESIGN CHOICE). -/
def execTapBeat (tap : Fin 16) (data : BitVec 1024) (sid : StreamId) (first last : Bool) (nbm1 : BitVec 7) (err : MemErr)
    (s : State) : Res :=
  ran (fun s =>
    if !s.sme.tapUp || 32 ≤ (s.sme.taps.getD tap.val []).length then s
    else
      let s := s.ctxErr err sid
      let v := s.stream sid
      if v.st = .open ∧ v.tap = tap.val then
        s.openBeat tap.val sid ((leBytes 128 data.toNat).take (nbm1.toNat + 1)) first last
      else s.dropBeat tap.val sid) s

/-! ### Lanes (R210, R211) -/

/-- The lanes of group `g`. -/
def groupLanes (g : Nat) : List Nat := (List.range 12).map fun j => 12 * g + j

/-- The lane of the stream's group whose buffer holds the leaf that is still filling. -/
def State.fillingLane (s : State) (sid : StreamId) : Option Nat :=
  (groupLanes (s.stream sid).group).find? fun l => (s.lane l).bufs.any fun f => f.sid == sid && f.bytes.length < 8192

/-- The lowest lane of the group with a free buffer. -/
def State.freeLane (s : State) (g : Nat) : Option Nat := (groupLanes g).find? fun l => (s.lane l).bufs.length < 2

/-- Bytes put into the filling leaf of a lane. -/
def State.fillLeaf (s : State) (l : Nat) (sid : StreamId) (bs : Bytes) : State :=
  s.setLane l { s.lane l with
    bufs := (s.lane l).bufs.map fun f =>
      if f.sid == sid && f.bytes.length < 8192 then { f with bytes := f.bytes ++ bs } else f }

/-- A leaf of the stream begun on a lane with its first bytes. -/
def State.beginLeaf (s : State) (l : Nat) (sid : StreamId) (bs : Bytes) : State :=
  let v := s.stream sid
  (s.setLane l { s.lane l with bufs := (s.lane l).bufs ++ [⟨sid, v.leaves, bs⟩] }).setStream sid
    { v with leaves := v.leaves + 1 }

/-- The bytes that the filling leaf of lane `l` still takes of the stream. -/
def State.leafRoom (s : State) (l : Nat) (sid : StreamId) : Nat :=
  8192 - ((s.lane l).bufs.find? fun f => f.sid == sid && f.bytes.length < 8192).elim 0 fun f => f.bytes.length

/-- A beat's bytes entered into leaf buffers, with what finds no buffer yet; none where nothing of it finds one. Bytes fill
a buffer as they arrive, so a beat that straddles two leaves ends the first even where the second must wait (R210, R211). -/
def State.intake (s : State) (b : TapBeat) : Option (State × Bytes) :=
  match s.fillingLane b.sid with
  | none => (s.freeLane (s.stream b.sid).group).map fun l => (s.beginLeaf l b.sid b.bytes, [])
  | some l =>
    let t := s.fillLeaf l b.sid (b.bytes.take (s.leafRoom l b.sid))
    match b.bytes.drop (s.leafRoom l b.sid), t.freeLane (t.stream b.sid).group with
    | [], _ => some (t, [])
    | rest, some m => some (t.beginLeaf m b.sid rest, [])
    | rest, none => some (t, rest)

/-- The front beat of a tap entered: its credit is returned with its last byte (R204). -/
def State.intakeTap (s : State) (tap : Nat) : Option State :=
  match s.sme.taps.getD tap [] with
  | [] => none
  | b :: rest =>
    match s.intake b with
    | none => none
    | some (s, []) => some ((s.onSme fun m => { m with taps := setAt m.taps tap rest }).emit (.tapCredit tap))
    | some (s, left) => some (s.onSme fun m => { m with taps := setAt m.taps tap ({ b with bytes := left } :: rest) })

/-- BEAT_INTAKE (R204): due while the front beat of the tap finds a buffer for some of its bytes. -/
def execBeatIntake (tap : Fin 16) (s : State) : Res :=
  ranIf (s.intakeTap tap.val).isSome (fun s => (s.intakeTap tap.val).getD s) s

/-- A beat of the stream still waits in a tap's buffer. -/
def State.beatWaits (s : State) (sid : StreamId) : Bool := s.sme.taps.any fun q => q.any fun b => b.sid == sid

/-- A leaf has all its bytes: it is full, or its stream accepts no more. -/
def State.leafWhole (s : State) (f : Leaf) : Bool :=
  f.bytes.length = 8192 || ((s.stream f.sid).st == .closing && !s.beatWaits f.sid)

/-- The leaf value z_i (R189, R190). -/
def State.leafValue (s : State) (f : Leaf) : Bytes :=
  let v := s.stream f.sid
  if v.chunk then cshake256 f.bytes 64 [] ((s.salt v.part).getD []) else shake256 f.bytes 64

/-- A lane finishes its first leaf (R211); in chunk-digest mode the chunk digest is written (R231), unless the leaf or the
context, which holds the base, was lost (R234). -/
def State.finishLeaf (s : State) (l : Nat) (e : MemErr) : State :=
  match (s.lane l).bufs with
  | [] => s
  | f :: rest =>
    let v := s.stream f.sid
    let bad := e = .uncorr
    let z := if bad then List.replicate 64 0 else s.leafValue f
    let s := (s.smeErr e (some v.part)).setLane l { bufs := rest, slot := some { f with bytes := z } }
    if bad || v.lost || (v.chunk && s.gateBound v.ctx) then s.onStream f.sid fun v => { v with bad := true }
    else if v.chunk then
      (s.onStream f.sid fun v => { v with writes := v.writes + 1 }).mpIssue true (v.base + 64 * f.ix) 1 v.part v.ctx z
        (.chunk f.sid v.gen)
    else s

/-- LEAF_DONE (R211): due for a lane whose first leaf is whole and whose output slot is empty, and whose chunk digest, if
any, finds room on the memory port. -/
def execLeafDone (lane : Fin 192) (err : MemErr) (s : State) : Res :=
  ranIf
    (match (s.lane lane.val).bufs with
     | [] => false
     | f :: _ =>
       s.leafWhole f && (s.lane lane.val).slot.isNone && (!(s.stream f.sid).chunk || err == .uncorr || s.mpRoom))
    (fun s => s.finishLeaf lane.val err) s

/-! ### Combine lanes (R212, R213) -/

/-- The customisation string of the final node (R189, R190). -/
def State.customOf (s : State) (v : Stream) : Bytes :=
  if v.chunk then (s.salt v.part).getD [] else ascii "icvia-measure-v2"

/-- The lane of combine lane `c` whose slot may pass its value next, the lowest of them: every earlier leaf of its stream has
passed (R212).
Marks: log 99 (DESIGN CHOICE). -/
def State.readySlot (s : State) (c : Nat) : Option (Nat × Leaf) :=
  ((List.range 48).map fun j => 48 * c + j).findSome? fun l =>
    match (s.lane l).slot with
    | none => none
    | some f => if f.ix = (s.stream f.sid).passed then some (l, f) else none

/-- The digest of a stream whose leaf values are all absorbed (R213). -/
def Stream.final (v : Stream) : Bytes :=
  (v.sum.add 136 (rightEncode v.leaves ++ rightEncode 512)).finish 136 0x04 64

/-- The stream is CLOSING and nothing of it is still on the way to its context. -/
def State.streamDone (s : State) (sid : StreamId) : Bool :=
  let v := s.stream sid
  v.st == .closing && !s.beatWaits sid && v.passed == v.leaves && v.writes == 0

/-- The outcome that needs no comparison, or DONE (R203, R218).
Marks: log 100 (DEDUCED). -/
def Stream.fault (v : Stream) : Code :=
  if v.bad then .integrity else if v.aborted then .aborted
  else if v.tooLong || v.got != v.len then .lengthFault else .done

/-- A stream waits for the comparator slice of combine lane `c`. -/
def State.wantsSlice (s : State) (c : Nat) (sid : StreamId) : Bool :=
  let v := s.stream sid
  v.group / 4 == c && !v.fallback && v.equal == none && s.streamDone sid && v.fault == .done

/-- The comparator slice of combine lane `c` takes the lowest stream that waits for it (R214, R258).
Marks: log 99 (DESIGN CHOICE). -/
def State.feedSlice (s : State) (c : Nat) : State :=
  if (s.cmp.slices.getD c none).isSome then s
  else
    match ((s.sme.streams.map fun e => BitVec.ofNat 12 e.1).find? fun sid => s.wantsSlice c sid) with
    | none => s
    | some sid =>
      let v := s.stream sid
      { s with cmp := { s.cmp with
          slices := setAt s.cmp.slices c (some ⟨.stream sid, v.final, (s.exp v.entry.toNat).digest⟩) } }

/-- COMBINE_ABSORB (R212): due while an output slot may pass its value. The context that absorbs it is read, with what SECDED
finds in it (R234). -/
def execCombineAbsorb (lane : Fin 4) (err : MemErr) (s : State) : Res :=
  ranIf (s.readySlot lane.val).isSome
    (fun s =>
      match s.readySlot lane.val with
      | none => s
      | some (l, f) =>
        (((s.ctxErr err f.sid).setLane l { s.lane l with slot := none }).onStream f.sid fun v =>
          { v with sum := v.sum.add 136 f.bytes, passed := v.passed + 1 }).feedSlice lane.val) s

/-! ### Extension (R221 to R223) -/

/-- Extensions queued (R223). -/
def State.queueExt (s : State) (r : ExtReq) : State := s.onSme fun m => { m with ext := m.ext ++ [r] }

/-- A command block's command completes: its code, and OP_DIGEST clears (R227).
Marks: log 88 (DEDUCED). -/
def State.smeDone (s : State) (b : Blk) (c : Code) : State :=
  (s.onSmeBlk b fun x => { x with code := c }).clearReg .smeOpDigest (blkIx b)

/-! ### Results (R214 to R220) -/

/-- A result posted to the block that opened the stream (R220). -/
def State.postResult (s : State) (b : Blk) (r : StreamResult) : State :=
  if (s.smeBlk b).resQ.length < 256 then s.onSmeBlk b fun x => { x with resQ := x.resQ ++ [r] }
  else
    (s.onSmeBlk b fun x => { x with intOverflow := true }).onSme fun m => { m with cntOverflow := tally m.cntOverflow }

/-- The outcome of a stream that is done: its fault, INTEGRITY for an error met now or a register that holds one, or what
the comparator returned. -/
def State.outcomeOf (s : State) (v : Stream) (e : MemErr) : Code :=
  if e = .uncorr then .integrity
  else if v.fault ≠ .done then v.fault
  else if v.fallback then (if (s.mreg v.mr).bad then .integrity else .done)
  else if v.equal = some true then .done else .notEqual

/-- The event of a compare-path stream's close (R215, R299). -/
def State.closeEvent (s : State) (v : Stream) (sid : StreamId) (c : Code) : State :=
  if v.fallback || v.job == 0 then s
  else if c = .done then s.sendEvent (v.event sid .token)
  else if c = .notEqual ∨ c = .lengthFault then s.sendEvent (v.event sid .fail)
  else s

/-- The extension of a fallback stream's close (R217). -/
def State.closeExt (s : State) (v : Stream) (sid : StreamId) (c : Code) (digest : Bytes) : State :=
  if !v.fallback || v.noExt || (s.mreg v.mr).bad then s
  else s.queueExt ⟨v.mr, if c = .done then digest else List.replicate 64 0xFF, .stream sid v.gen⟩

/-- A PURGE of the partition runs. -/
def State.purgeOf (s : State) : Option PartId :=
  match s.sme.run with
  | some (.purge p) => some p
  | some (.purgePrt p) => some p
  | _ => none

/-- A partition has a CLOSING stream. -/
def State.closingIn (s : State) (p : PartId) : Bool := s.sme.streams.any fun e => e.2.part == p && e.2.st == .closing

/-- Step 4 of PURGE, once no stream of the partition is CLOSING: its waiting tokens are discarded (R233). -/
def State.purgeTokens (s : State) (p : PartId) : State :=
  if s.closingIn p then s
  else s.onSme fun m => { m with events := m.events.filter fun e => !(e.part == p && e.kind == .token) }

/-- A stream's result: outcome, entry, event, extension and post (R214 to R220). -/
def State.closeStream (s : State) (sid : StreamId) (e : MemErr) : State :=
  let v := s.stream sid
  let c := s.outcomeOf v e
  let digest := if v.fallback && c = .done then v.final else []
  let s := s.smeErr e (some v.part)
  let s := s.setStream sid { v with st := .closed, outcome := c, digest := digest, sum := {}, equal := none }
  let s :=
    if v.fallback then s
    else
      let x := s.exp v.entry.toNat
      s.setExp v.entry.toNat { x with inUse := false, last := c.byte }
  let s := ((s.closeEvent v sid c).closeExt v sid c digest).postResult v.blk ⟨sid, v.gen, c⟩
  match s.purgeOf with
  | none => s
  | some p => s.purgeTokens p

/-- STREAM_RESULT (R219): due once the stream is done, and on the compare path once it has been compared. -/
def execStreamResult (sid : StreamId) (err : MemErr) (s : State) : Res :=
  let v := s.stream sid
  ranIf (s.streamDone sid && (v.fallback || v.fault != .done || v.equal.isSome)) (fun s => s.closeStream sid err) s

/-! ### Commands (R197, R237) -/

/-- Operands of a command block. -/
def State.opStream (s : State) (b : Blk) : Word := s.reg .smeOpStream (blkIx b)
def State.opSid (s : State) (b : Blk) : StreamId := fld (s.opStream b) 0 12
def State.opPart (s : State) (b : Blk) : PartId := fld (s.opStream b) 20 6
def State.opGroup (s : State) (b : Blk) : Nat := fldN (s.opStream b) 16 4
def State.opChunk (s : State) (b : Blk) : Bool := bit (s.opStream b) 26
def State.opJob (s : State) (b : Blk) : JobId := fld (s.reg .smeOpJob (blkIx b)) 0 16
def State.opMr (s : State) (b : Blk) : Nat := fldN (s.reg .smeOpJob (blkIx b)) 16 6
def State.opLen (s : State) (b : Blk) : Nat :=
  fldN (s.reg .smeOpLenLo (blkIx b)) 0 32 + 2 ^ 32 * fldN (s.reg .smeOpLenHi (blkIx b)) 0 16
def State.opBase (s : State) (b : Blk) : Nat :=
  fldN (s.reg .smeOpChunkLo (blkIx b)) 0 32 + 2 ^ 32 * fldN (s.reg .smeOpChunkHi (blkIx b)) 0 16
def State.opCtx (s : State) (b : Blk) : EndpointId := fld (s.reg .smeOpChunkHi (blkIx b)) 16 12
def State.opIndex (s : State) (b : Blk) : Nat := fldN (s.reg .smeOpIndex (blkIx b)) 0 10

/-- The armed entry of a partition, job and stream ID. -/
def State.armedEntry (s : State) (p : PartId) (j : JobId) (sid : StreamId) : Option Nat :=
  (s.sme.exps.find? fun e => e.2.armed && e.2.part == p && e.2.job == j && e.2.sid == sid).map (·.1)

/-- Register `i` may be the fallback register of partition `p` (R222). -/
def State.fallbackOk (s : State) (i : Nat) (p : PartId) : Bool :=
  if i < 6 then false else if i < 16 then p == 0 else p != 0 && (s.mreg i).owner == some p

/-- A lane group admits a partition (R207, R208). -/
def State.admits (s : State) (g : Nat) (p : PartId) : Bool :=
  let a := s.sme.groups.getD g {}
  if a.mode = 1 then !s.partConf p else if a.mode = 2 then a.part == p else false

/-- Streams in a state. -/
def State.openOn (s : State) (g : Nat) : Nat := (s.sme.streams.filter fun e => e.2.st == .open && e.2.group == g).length

/-- The tap holds an OPEN or CLOSING stream that a confidential partition may not share with (R436). -/
def State.tapShared (s : State) (tap : Nat) (p : PartId) : Bool :=
  s.sme.streams.any fun e =>
    let v := e.2
    (v.st == .open || v.st == .closing) && v.tap == tap && v.part != p && (s.partConf p || s.partConf v.part)

/-- A PURGE of the partition runs, or it is in quarantine or being released (R233, R455). -/
def State.partShut (s : State) (p : PartId) : Bool :=
  s.purgeOf == some p || s.partState p == .quarantined || s.partState p == .releasing

/-- The refusals of OPEN (R197, R436, R445, R455).
Marks: log 78 (DEDUCED); log 97 (DEDUCED). -/
def State.openRefusals (s : State) (b : Blk) : List (Bool × Code) :=
  let sid := s.opSid b
  let p := s.opPart b
  let v := s.stream sid
  let armed := (s.armedEntry p (s.opJob b) sid).isSome
  let req := bit (s.opStream b) 27
  let chunk := s.opChunk b
  [(v.st = .open || v.st = .closing || s.tokenPending sid || s.partShut p, .busy),
   (!s.partDefined p || !s.admits (s.opGroup b) p || ((chunk || !armed) && !s.fallbackOk (s.opMr b) p) ||
      (chunk && (!s.chunkOk p || req || s.opBase b % 4096 != 0 || s.gateBound (s.opCtx b))) ||
      s.tapShared (fldN (s.opStream b) 12 4) p, .deniedAttr),
   (s.opLen b = 0, .badLength),
   (12 ≤ s.openOn (s.opGroup b) || (req && !armed) || (chunk && (s.salt p).isNone), .noResource)]

/-- RES_STREAM of a stream. -/
def State.resStream (s : State) (sid : StreamId) : Word :=
  let v := s.stream sid
  let st := match v.st with
    | .free => 0
    | .open => 1
    | .closing => 2
    | .closed => 3
  putN st 0 3 ||| putB v.fallback 3 ||| putB v.chunk 4 ||| putB (s.tokenPending sid) 5 ||| put v.gen 6 |||
    put v.outcome.byte 14 ||| put v.entry 22

/-- RES_STREAM and RES_BYTES loaded (R554), and RES_DIGEST where a digest is: else it keeps what it holds, but that in block
C it returns 0 for a stream of a partition other than 0 (R235). -/
def State.loadStream (s : State) (b : Blk) (sid : StreamId) (digest : Option Bytes) : State :=
  let w := s.resStream sid
  s.onSmeBlk b fun x =>
    { x with
      stream := w
      bytes := (s.stream sid).got
      digest := if b = .c ∧ (s.stream sid).part ≠ 0 then [] else digest.getD x.digest }

/-- OPEN (R194, R195): the path chosen, the generation advanced, the entry bound, BIND sent. -/
def State.openStream (s : State) (b : Blk) : State :=
  let sid := s.opSid b
  let p := s.opPart b
  let armed := s.armedEntry p (s.opJob b) sid
  let fallback := s.opChunk b || armed.isNone
  let v : Stream :=
    { st := .open, gen := (s.stream sid).gen + 1, blk := b, tap := fldN (s.opStream b) 12 4, group := s.opGroup b, part := p,
      chunk := s.opChunk b, job := s.opJob b, mr := s.opMr b, len := s.opLen b, base := s.opBase b, ctx := s.opCtx b,
      fallback := fallback, entry := BitVec.ofNat 10 (if fallback then 0 else armed.getD 0) }
  let v := { v with sum := (cshakeStart (ascii "ParallelHash") (s.customOf v)).add 136 (leftEncode 8192) }
  let s := s.setStream sid v
  let s := if fallback then s else s.setExp v.entry.toNat { s.exp v.entry.toNat with inUse := true }
  let s := if !fallback && v.job != 0 then s.sendEvent (v.event sid .bind) else s
  (s.loadStream b sid none).smeDone b .done

/-- The extension of a register is permitted to a requester (R222): block S, else a control core. -/
def State.extendOk (s : State) (sec : Bool) (i : Nat) : Bool :=
  if 64 ≤ i then false else if i < 6 then sec && s.boot.stage < 5 else if i < 16 then true else sec

/-- The command of digest context `c` completes and the context is FREE: its state, window and expected digest are
zeroed, and its last holder may read the result (R255). -/
def State.endCtx (s : State) (c : Nat) (code : Code) (digest : Bytes) (aux : Word) : State :=
  let s : State :=
    { s with dge := { s.dge with
        ctxs := modAt s.dge.ctxs c fun x =>
          { gen := x.gen, code := code, resGen := x.gen, digest := digest, aux := aux, lastHolder := x.holder } } }
  (s.clearReg .dgeCtxData c).clearReg .dgeCtxExpect c

/-- Register `i` zeroed: queued extensions are dropped, and fallback streams that name it make none (R217, R223). -/
def State.zeroMreg (s : State) (i : Nat) (owner : Option PartId) : State :=
  let s := s.setMreg i { owner := owner, bad := (s.mreg i).bad }
  let dropped := s.sme.ext.filter fun r => r.mr == i
  let s := s.onSme fun m =>
    { m with
      ext := m.ext.filter fun r => r.mr != i
      streams := Sparse.mapAll {} (fun _ v =>
        if v.fallback && v.mr == i && (v.st == .open || v.st == .closing) then { v with noExt := true } else v) m.streams }
  dropped.foldl (fun s r =>
    match r.src with
    | .stream _ _ => s
    | .blk b => (s.smeDone b .aborted).onSme fun m => { m with run := if m.run = some (.extend b) then none else m.run }
    | .ctx c => s.endCtx c .aborted [] 0) s

/-- A register is the fallback register of an OPEN fallback stream (R224). -/
def State.fallbackOpen (s : State) (i : Nat) : Bool :=
  s.sme.streams.any fun e => e.2.st == .open && e.2.fallback && e.2.mr == i

/-- MR_ASSIGN (R224). `rsv`: a reserved bit of CMD was written as 1 (R11), here and below. -/
def State.mrAssign (s : State) (b : Blk) (rsv : Bool) : State :=
  let i := s.opIndex b
  let p := s.opPart b
  let assign := bit (s.reg .smeOpIndex (blkIx b)) 16
  let owner := (s.mreg i).owner
  let denied := rsv || b = .c || i < 16 || 64 ≤ i ||
    (assign && (p == 0 || !s.partDefined p || (owner.isSome && owner != some p)))
  match lowest [(s.fallbackOpen i, .busy), (denied, .deniedAttr)] with
  | some c => s.smeDone b c
  | none =>
    if assign then (s.zeroMreg i (some p)).smeDone b .done
    else if owner.isSome then (s.zeroMreg i none).smeDone b .done
    else s.smeDone b .done

/-- MR_READ (R225). -/
def State.mrRead (s : State) (b : Blk) (rsv : Bool) (e : MemErr) : State :=
  let i := s.opIndex b
  if rsv || 64 ≤ i || (b = .c && 16 ≤ i) then s.smeDone b .deniedAttr
  else
    let s := s.smeErr e none
    let s := if e = .uncorr then s.setMreg i { s.mreg i with bad := true } else s
    let r := s.mreg i
    if r.bad then s.smeDone b .integrity
    else
      (s.onSmeBlk b fun x =>
        { x with
          digest := r.value
          info := put (r.owner.getD 0) 12 ||| putB (i < 16 || r.owner.isSome) 22
          aux := r.count }).smeDone b .done

/-- MR_EXTEND (R222): queued, and the block stays busy until it is applied. -/
def State.mrExtend (s : State) (b : Blk) (rsv : Bool) : State :=
  let i := s.opIndex b
  if rsv || !s.extendOk (b = .s) i then s.smeDone b .deniedAttr
  else
    (s.queueExt ⟨i, s.regBytes .smeOpDigest (blkIx b) 16, .blk b⟩).onSme fun m => { m with run := some (.extend b) }

/-- STATUS (R554). An uncorrectable error of the context spoils the stream (R234). -/
def State.smeStatus (s : State) (b : Blk) (rsv : Bool) (e : MemErr) : State :=
  let sid := s.opSid b
  if rsv then s.smeDone b .deniedAttr
  else if e = .uncorr then (s.ctxErr e sid).smeDone b .integrity
  else
    let s := s.ctxErr e sid
    let v := s.stream sid
    (s.loadStream b sid (if v.st = .closed ∧ v.fallback ∧ v.outcome = .done then some v.digest else none)).smeDone b .done

/-- The stream that an expected-digest entry in use is bound to, while it has not closed. -/
def State.boundStream (s : State) (i : Nat) : Option StreamId :=
  (s.sme.streams.find? fun e =>
    (e.2.st == .open || e.2.st == .closing) && !e.2.fallback && e.2.entry.toNat == i && (s.exp i).inUse).map
      fun e => BitVec.ofNat 12 e.1

/-- What SECDED finds in an expected-digest entry (R234): the affected stream is the one bound to it. -/
def State.expErr (s : State) (e : MemErr) (i : Nat) : State :=
  match s.boundStream i with
  | some sid => s.ctxErr e sid
  | none => s.smeErr e none

/-- EXP_WRITE (R227). -/
def State.expWrite (s : State) (b : Blk) (rsv : Bool) (e : MemErr) : State :=
  let i := s.opIndex b
  let sid := s.opSid b
  let p := s.opPart b
  let x := s.exp i
  let s := if b = .c ∨ rsv then s else s.expErr e i
  let denied := rsv || b = .c || x.armed || (s.armedEntry p (s.opJob b) sid).isSome
  match lowest [(denied, .deniedAttr), (e = .uncorr, .integrity)] with
  | some c => s.smeDone b c
  | none =>
    (s.setExp i
      { digest := s.regBytes .smeOpDigest 0 16, sid := sid, part := p, job := s.opJob b,
        owner := fld (s.reg .smeOpIndex (blkIx b)) 10 4, armed := true }).smeDone b .done

/-- EXP_CLEAR (R228). -/
def State.expClear (s : State) (b : Blk) (rsv : Bool) : State :=
  let i := s.opIndex b
  match lowest [((s.exp i).inUse, .busy), (rsv || b = .c, .deniedAttr)] with
  | some c => s.smeDone b c
  | none => (s.setExp i {}).smeDone b .done

/-- EXP_READ (R226). -/
def State.expRead (s : State) (b : Blk) (rsv : Bool) (e : MemErr) : State :=
  let x := s.exp (s.opIndex b)
  if rsv then s.smeDone b .deniedAttr
  else if e = .uncorr then (s.expErr e (s.opIndex b)).smeDone b .integrity
  else
    ((s.expErr e (s.opIndex b)).onSmeBlk b fun y =>
      { y with
        info := put x.sid 0 ||| put x.part 12 ||| put x.owner 18 ||| putB x.armed 22 ||| putB x.inUse 23 ||| put x.last 24
        aux := put x.job 0 }).smeDone b .done

/-- ABORT (R199). -/
def State.smeAbort (s : State) (b : Blk) (rsv : Bool) : State :=
  let sid := s.opSid b
  let v := s.stream sid
  match lowest [(v.st = .closing, .busy), (rsv || v.st = .free || v.st = .closed, .deniedAttr)] with
  | some c => s.smeDone b c
  | none => (s.setStream sid { v with st := .closing, aborted := true }).smeDone b .done

/-- Steps 1, 2 and, where nothing is CLOSING, 4 of PURGE (R233). -/
def State.purgeStart (s : State) (p : PartId) (run : SmeRun) : State :=
  (s.onSme fun m =>
    { m with
      run := some run
      streams := Sparse.mapAll {} (fun _ v =>
        if v.part == p && v.st == .open then { v with st := .closing, aborted := true, noExt := true } else v) m.streams
    }).purgeTokens p

/-- Steps 3 and 4 of PURGE are over: nothing of the partition is CLOSING or waits for the Kiln. -/
def State.purgeReady (s : State) (p : PartId) : Bool := !s.closingIn p && !s.sme.events.any fun e => e.part == p

/-- Steps 5 to 8 of PURGE. -/
def State.purgeEnd (s : State) (p : PartId) : State :=
  let s := s.onSme fun m =>
    { m with
      streams := Sparse.mapAll {} (fun _ v => if v.part == p then { gen := v.gen } else v) m.streams
      exps := Sparse.keep (fun _ x => !(x.armed && x.part == p)) m.exps
      salts := Sparse.put none m.salts p.toNat none }
  (List.range 64).foldl (fun s i => if (s.mreg i).owner = some p then s.zeroMreg i none else s) s

/-- OPEN (R197). -/
def State.smeOpen (s : State) (b : Blk) (rsv : Bool) : State :=
  match lowest ((rsv, .deniedAttr) :: s.openRefusals b) with
  | some c => s.smeDone b c
  | none => s.openStream b

/-- PURGE issued by a block (R233). -/
def State.smePurge (s : State) (b : Blk) (rsv : Bool) : State :=
  let p := s.opPart b
  if rsv ∨ b = .c ∨ p = 0 then s.smeDone b .deniedAttr
  else
    let s := s.purgeStart p (.purge p)
    if s.purgeReady p then ((s.purgeEnd p).onSme fun m => { m with run := none }).smeDone b .done else s

/-- A command of a block runs (R237), with the operands that its registers hold now. A reserved bit of the written word is
one of its refusals (R11, R14). -/
def State.smeRun (s : State) (b : Blk) (code : Nat) (w : Word) (e : MemErr) : State :=
  let rsv := rsvSet .smeCmd w
  match code with
  | 0x1 => s.smeOpen b rsv
  | 0x2 => s.smeAbort b rsv
  | 0x3 => s.smeStatus b rsv e
  | 0x4 => s.expWrite b rsv e
  | 0x5 => s.expClear b rsv
  | 0x6 => s.expRead b rsv e
  | 0x7 => s.mrExtend b rsv
  | 0x8 => s.mrAssign b rsv
  | 0x9 => s.mrRead b rsv e
  | 0xA => s.smePurge b rsv
  | _ => s.smeDone b .deniedAttr

/-- The command that waits in a block. -/
def State.smeWaits (s : State) : Blk → Option SmeWait
  | .s => s.sme.waitS
  | .c => s.sme.waitC

/-- RESULT.BUSY of a block.
Marks: log 25 (DEDUCED). -/
def State.smeBusy (s : State) (b : Blk) : Bool :=
  (s.smeWaits b).isSome ||
    match s.sme.run, b with
    | some (.extend x), b => x == b
    | some (.purge _), .s => true
    | _, _ => false

/-- The SME is free: a waiting command runs, the security core's first (R198).
Marks: log 98 (DESIGN CHOICE). -/
def State.smeNext (s : State) : State :=
  let s :=
    match s.sme.run, s.sme.waitS with
    | none, some x => (s.onSme fun m => { m with waitS := none }).smeRun .s x.code x.w x.err
    | _, _ => s
  match s.sme.run, s.sme.waitC with
  | none, some x => (s.onSme fun m => { m with waitC := none }).smeRun .c x.code x.w x.err
  | _, _ => s

/-- A write of CMD (R198): BUSY for a block whose RESULT.BUSY reads 1, a wait while the SME executes another command. D3
serves, or the access completes with BUSY (R43, R236). An OPEN of block C written while block S's PURGE of its partition
runs waits too, and runs after it.
Marks: log 26 (DEDUCED); log 98 (DESIGN CHOICE). -/
def State.smeCommand (s : State) (b : Blk) (code : Nat) (w : Word) (e : MemErr) : State :=
  if !s.d3Serves then s.refuseD3
  else if s.smeBusy b then s.onSmeBlk b fun x => { x with code := .busy }
  else if s.sme.run.isSome then
    match b with
    | .s => s.onSme fun m => { m with waitS := some ⟨code, w, e⟩ }
    | .c => s.onSme fun m => { m with waitC := some ⟨code, w, e⟩ }
  else s.smeRun b code w e

/-- OPEN (R197). -/
def execSmeOpen (b : Blk) (w : Word) (s : State) : Res := ran (fun s => s.smeCommand b 0x1 w .none) s
/-- ABORT (R199). -/
def execSmeAbort (b : Blk) (w : Word) (s : State) : Res := ran (fun s => s.smeCommand b 0x2 w .none) s
/-- STATUS (R237). -/
def execSmeStatus (b : Blk) (w : Word) (err : MemErr) (s : State) : Res := ran (fun s => s.smeCommand b 0x3 w err) s
/-- EXP_WRITE (R227). -/
def execExpWrite (b : Blk) (w : Word) (err : MemErr) (s : State) : Res := ran (fun s => s.smeCommand b 0x4 w err) s
/-- EXP_CLEAR (R228). -/
def execExpClear (b : Blk) (w : Word) (s : State) : Res := ran (fun s => s.smeCommand b 0x5 w .none) s
/-- EXP_READ (R226). -/
def execExpRead (b : Blk) (w : Word) (err : MemErr) (s : State) : Res := ran (fun s => s.smeCommand b 0x6 w err) s
/-- MR_EXTEND (R222). -/
def execMrExtend (b : Blk) (w : Word) (s : State) : Res := ran (fun s => s.smeCommand b 0x7 w .none) s
/-- MR_ASSIGN (R224). -/
def execMrAssign (b : Blk) (w : Word) (s : State) : Res := ran (fun s => s.smeCommand b 0x8 w .none) s
/-- MR_READ (R225). -/
def execMrRead (b : Blk) (w : Word) (err : MemErr) (s : State) : Res := ran (fun s => s.smeCommand b 0x9 w err) s
/-- PURGE (R233). -/
def execSmePurge (b : Blk) (w : Word) (s : State) : Res := ran (fun s => s.smeCommand b 0xA w .none) s

/-- Two assignments differ (R207): PART is part of a DEDICATED one alone.
Marks: log 79 (DEDUCED). -/
def LaneGroup.differs (a b : LaneGroup) : Bool := a.mode != b.mode || (a.mode == 2 && a.part != b.part)

/-- The assignments that the SME_LG_CFG registers stage.
Marks: log 79 (DEDUCED). -/
def State.stagedGroups (s : State) : List LaneGroup :=
  (List.range 16).map fun n => ⟨fld (s.reg .smeLgCfg 0 n) 8 2, fld (s.reg .smeLgCfg 0 n) 0 6⟩

/-- SME_COMMIT (R209): the staged assignments applied, or refused.
Marks: log 79 (DEDUCED). -/
def State.smeCommit (s : State) : State :=
  let staged := s.stagedGroups
  let changed (n : Nat) : Bool := (staged.getD n {}).differs (s.sme.groups.getD n {})
  let busy := (List.range 16).any fun n => changed n && 0 < s.openOn n
  let held (n : Nat) : Bool :=
    let g := s.sme.groups.getD n {}
    g.mode == 2 && s.partConf g.part && !s.sme.released.getLsbD n
  let denied := (staged.any fun g => g.mode == 3) || (List.range 16).any fun n => changed n && held n
  match lowest [(busy, .busy), (denied, .deniedAttr)] with
  | some c => s.onSme fun m => { m with commitCode := c }
  | none =>
    let moved := BitVec.ofNat 16 (bitsToNat ((List.range 16).map changed))
    s.onSme fun m => { m with groups := staged, released := m.released &&& ~~~ moved, commitCode := .done }

/-- SME_COMMIT (R209): only a write with COMMIT = 1 commits. -/
def execSmeCommit (w : Word) (s : State) : Res :=
  ran (fun s => if !s.d3Serves then s.refuseD3 else if bit w 0 then s.smeCommit else s) s

/-- RES_POP's word. -/
def State.resPopWord (s : State) (b : Blk) : Word :=
  match (s.smeBlk b).resQ with
  | [] => 0
  | r :: _ => put r.sid 0 ||| put r.gen 12 ||| put r.outcome.byte 20 ||| putB true 31

/-- RES_POP (R220). -/
def execResPop (b : Blk) (s : State) : Res :=
  ran (fun s =>
    if !s.d3Serves then s.refuseD3
    else (s.onSmeBlk b fun x => { x with resQ := x.resQ.drop 1 }).emit (.read (s.resPopWord b))) s

end Sys2Proof.Machine
end

