-- ==== Sys2Proof/Machine/Digest.lean ====
section
/-!
DEFINITION. Machine/Digest.lean: the small digest engine and the constant-time comparator (08_digest_and_compare.md), with
the extension unit that they share with the SME (R223).
-/
namespace Sys2Proof.Machine

/-! ### Access to its state -/

/-- The small digest engine changed by `f`. -/
def State.onDge (s : State) (f : Dge → Dge) : State := { s with dge := f s.dge }
/-- The comparator changed by `f`. -/
def State.onCmp (s : State) (f : Cmp → Cmp) : State := { s with cmp := f s.cmp }

/-- Digest context `c`. -/
def State.ctx (s : State) (c : Nat) : DgeCtx := s.dge.ctxs.getD c {}

/-- Digest context `c` put to `x`. -/
def State.setCtx (s : State) (c : Nat) (x : DgeCtx) : State := s.onDge fun d => { d with ctxs := setAt d.ctxs c x }

/-- The requester ID of R241; ICP requests have none. -/
def dgeId : Req → Option Nat
  | .sec => some 0
  | .ctl k => some (k.val + 1)
  | .att => some 9
  | .icp _ => none

/-- An algorithm runs on the SHA-2 core. -/
def onSha2 (alg : BitVec 2) : Bool := alg.toNat < 2

/-- The block length of an algorithm (R238). -/
def dgeBlock (alg : BitVec 2) : Nat := if onSha2 alg then 128 else if alg = 2 then 104 else 72

/-- The digest length of an algorithm (R238). -/
def dgeLen (alg : BitVec 2) : Nat := if alg = 0 ∨ alg = 2 then 48 else 64

/-- The padding of a message whose open block is `x.part` (R253). -/
def DgeCtx.padding (x : DgeCtx) : Bytes :=
  if onSha2 x.alg then sha512Pad x.count
  else
    let b := dgeBlock x.alg
    let n := b - x.part.length
    if n = 1 then [0x86] else 0x06 :: (List.replicate (n - 2) 0 ++ [0x80])

/-- One block absorbed. -/
def DgeCtx.block (x : DgeCtx) : DgeCtx :=
  let b := dgeBlock x.alg
  if onSha2 x.alg then { x with chain := sha512Block x.chain (x.part.take b), part := x.part.drop b }
  else { x with sponge := x.sponge.absorbBlock (x.part.take b), part := x.part.drop b }

/-- The digest of a message whose padding is absorbed. -/
def DgeCtx.value (x : DgeCtx) : Bytes :=
  if onSha2 x.alg then (x.chain.flatMap fun h => beBytes 8 h.toNat).take (dgeLen x.alg) else x.sponge.out (dgeLen x.alg)

/-- A context has a full block for its core. -/
def DgeCtx.blockWaits (x : DgeCtx) : Bool :=
  (x.st == .held) && x.run.isSome && x.run != some .deliver && dgeBlock x.alg ≤ x.part.length

/-- A core processes a block of context `c`. -/
def State.onCore (s : State) (c : Nat) : Bool := s.dge.core2 == some c || s.dge.coreK == some c

/-- The context that has waited longest for the SHA-2 (`sha2`) or the KECCAK core (R240). -/
def State.longest (s : State) (sha2 : Bool) : Option Nat :=
  ((List.range 4).filter fun c => (s.ctx c).blockWaits && onSha2 (s.ctx c).alg == sha2).foldl
    (fun best c =>
      match best with
      | none => some c
      | some d => if (s.ctx c).since < (s.ctx d).since then some c else some d) none

/-- Idle cores take a waiting block. -/
def State.feedCores (s : State) : State :=
  let s := if s.dge.core2.isNone then s.onDge fun d => { d with core2 := s.longest true } else s
  if s.dge.coreK.isNone then s.onDge fun d => { d with coreK := s.longest false } else s

/-! ### Device-memory reads (R248) -/

/-- The whole lines of the next read of an UPDATE at `addr` with `left` bytes to come: at most 16 beats, within 4 KiB
(R45, R46). -/
def readBeats (addr left : Nat) : Nat :=
  let line := addr / 64
  min (min 16 (64 - line % 64)) ((addr + left + 63) / 64 - line)

/-- The next read of context `c` issued, if one is due and the port takes it. PCTX is taken as it stands now, at each read;
where it names a gate endpoint nothing is sent, and the UPDATE ends with DENIED_ATTR (R445).
Marks: log 112 (DESIGN CHOICE). -/
def State.readNext (s : State) (c : Nat) : State :=
  let x := s.ctx c
  match x.run with
  | some (.update addr left) =>
    let pctx : EndpointId := fld (s.reg .dgeCtxSrcHi c) 16 12
    if left = 0 ∨ x.reads ≠ 0 ∨ x.abandon.isSome ∨ !s.mpRoom then s
    else if s.gateBound pctx then s.setCtx c { x with run := none, code := .deniedAttr, resGen := x.gen }
    else
      (s.setCtx c { x with reads := 1 }).mpIssue false (addr / 64 * 64) (readBeats addr left) 0 pctx [] (.dge c x.gen)
  | _ => s

/-! ### Completion and abandonment -/

/-- A comparison for slice 4 raised. -/
def State.askSlice (s : State) (r : CmpReq) : State := s.onCmp fun m => { m with reqs := m.reqs ++ [r] }

/-- The digest of context `c` goes to its destination (R253); DGE_CTX_EXPECT is taken now.
Marks: log 112 (DESIGN CHOICE). -/
def State.deliver (s : State) (c : Nat) (dest : DgeDest) : State :=
  let x := s.ctx c
  let v := x.value
  match dest with
  | .read => s.endCtx c .done (padTo 64 v) 0
  | .compare =>
    (s.setCtx c { x with run := some .deliver }).askSlice ⟨.ctx c, v, (s.regBytes .dgeCtxExpect c 16).take v.length⟩
  | .extend mr => (s.setCtx c { x with run := some .deliver }).queueExt ⟨mr, padTo 64 v, .ctx c⟩

/-- Context `c` has no full block left: its UPDATE completes, or its FINAL delivers. -/
def State.dgeProgress (s : State) (c : Nat) : State :=
  let x := s.ctx c
  if s.onCore c || x.blockWaits then s
  else
    match x.run with
    | some (.update _ 0) => s.setCtx c { x with run := none, code := .done, resGen := x.gen }
    | some (.final dest) => s.deliver c dest
    | _ => s

/-- Context `c` is abandoned now: it is FREE, or ABANDONING while device-memory reads are outstanding (R246). -/
def State.abandonNow (s : State) (c : Nat) : State :=
  let s := s.onCmp fun m =>
    { m with
      reqs := m.reqs.filter fun r => r.src != .ctx c
      slices := m.slices.map fun o => o.map fun r => if r.src = .ctx c then { r with src := .gone } else r }
  let s := s.onSme fun m => { m with ext := m.ext.filter fun r => r.src != .ctx c }
  let x := s.ctx c
  let code := x.abandon.getD x.code
  if x.reads = 0 then s.endCtx c code [] 0
  else
    s.setCtx c
      { st := .abandoning, alg := x.alg, holder := x.holder, gen := x.gen, code := code, resGen := x.gen,
        reads := x.reads }

/-- Context `c` is to be abandoned, its command in progress completing with `code`: at once, or at the end of the block on
its core. What the holder is refused until then does not change that code (R246). -/
def State.abandonCtx (s : State) (c : Nat) (code : Code) : State :=
  let x := s.ctx c
  if x.st = .free ∨ x.st = .abandoning then s
  else
    let s := s.setCtx c { x with abandon := some code }
    if s.onCore c then s else s.abandonNow c

/-- A forced abandonment (R246): a command in progress completes with ABORTED. -/
def State.forceAbandon (s : State) (c : Nat) : State :=
  s.abandonCtx c (if (s.ctx c).run.isSome then .aborted else (s.ctx c).code)

/-- An uncorrectable error of context `c`, or a failed read: its command completes with INTEGRITY and it is FAULTED (R252,
R262). -/
def State.faultCtx (s : State) (c : Nat) : State :=
  let x := s.ctx c
  s.setCtx c { x with st := .faulted, run := none, code := .integrity, resGen := x.gen, part := [] }

/-- What SECDED finds in the DGE or the comparator (R262). -/
def State.dgeErr (s : State) (e : MemErr) : State :=
  match e with
  | .none => s
  | .corrected => s.onDge fun d => { d with cntCorrected := tally d.cntCorrected }
  | .uncorr => (s.onDge fun d => { d with cntUncorr := tally d.cntUncorr }).health 1 .integrity

/-- A device-memory read of context `c` is answered (R49, R252); the data of an abandoned context is discarded. -/
def State.dgeReadDone (s : State) (c : Nat) (gen : Gen) (data : Bytes) (err : Bool) : State :=
  let x := s.ctx c
  if x.gen ≠ gen ∨ x.reads = 0 then s
  else
    let x := { x with reads := 0 }
    let s := s.setCtx c x
    if x.st = .abandoning then s.endCtx c x.code [] 0
    else if x.abandon.isSome then s
    else if err then s.faultCtx c
    else
      match x.run with
      | some (.update addr left) =>
        let got := (data.drop (addr % 64)).take left
        let s := s.onDge fun d => { d with stamp := d.stamp + 1 }
        let fresh := !x.blockWaits
        let x := { x with
          part := x.part ++ got
          run := some (.update (addr + got.length) (left - got.length))
          since := if fresh then s.dge.stamp else x.since }
        ((s.setCtx c x).readNext c).feedCores.dgeProgress c
      | _ => s

/-! ### Contexts: acquisition (R241 to R247) -/

/-- DGE_ACQUIRE written by a requester.
Marks: log 70 (DESIGN CHOICE). -/
def State.dgeAcquire (s : State) (q : Req) (w : Word) : State :=
  if isIcp q then s.emit (.code .deniedAttr)
  else if !s.d3Serves then s.refuseD3
  else
    match dgeId q with
    | none => s.emit (.code .deniedAttr)
    | some i =>
      let who : BitVec 4 := BitVec.ofNat 4 i
      let s := s.onDge fun d => { d with acq := modAt d.acq i fun a => { a with granted := false } }
      if !bit w 0 then s.onDge fun d => { d with reqs := d.reqs.filter fun r => r.who != who }
      else if s.dge.reqs.any fun r => r.who == who then s
      else s.onDge fun d => { d with reqs := d.reqs ++ [⟨who, fld w 1 2⟩] }

/-- DGE_ACQUIRE_REQ (R242): a request with REQ = 1. -/
def execDgeAcquireReq (q : Req) (w : Word) (s : State) : Res := ran (fun s => s.dgeAcquire q w) s
/-- DGE_ACQUIRE_WITHDRAW (R243): a write with REQ = 0. -/
def execDgeAcquireWithdraw (q : Req) (w : Word) (s : State) : Res := ran (fun s => s.dgeAcquire q w) s

/-- The request that the arbiter grants (R242, R327): the security core's within its quota, else the oldest other. -/
def State.dgeWinner (s : State) : Option DgeReq :=
  match (s.dge.reqs.find? fun r => r.who == 0), decide (s.dge.used < 2) with
  | some r, true => some r
  | _, _ => s.dge.reqs.find? fun r => r.who != 0

/-- The lowest free context. -/
def State.freeCtx (s : State) : Option Nat := (List.range 4).find? fun c => (s.ctx c).st == .free

/-- DGE_ARB.FREEZE. -/
def State.dgeFreeze (s : State) : Bool := bit (s.reg .dgeArb) 0

/-- DGE_GRANT is due (R242, R245). -/
def State.dgeGrantDue (s : State) : Bool := !s.dgeFreeze && s.freeCtx.isSome && s.dgeWinner.isSome && s.up .d3

/-- A free context granted (R242): its generation advances and it is zeroed. -/
def State.dgeGrant (s : State) : State :=
  match s.dgeWinner, s.freeCtx with
  | some r, some c =>
    let gen := (s.ctx c).gen + 1
    let init : List (BitVec 64) := if r.alg = 0 then sha384Init else if r.alg = 1 then sha512Init else []
    let s := s.setCtx c { st := .held, alg := r.alg, holder := r.who, gen := gen, chain := init, lastHolder := r.who }
    let s := (s.clearReg .dgeCtxData c).clearReg .dgeCtxExpect c
    s.onDge fun d =>
      { d with
        reqs := d.reqs.filter fun x => x.who != r.who
        acq := setAt d.acq r.who.toNat ⟨true, c, gen⟩
        used := if r.who = 0 then d.used + 1 else d.used }
  | _, _ => s

/-- DGE_ARB written: FREEZE stored (R245), each context whose ABANDON bit is 1 abandoned (R246). -/
def State.arbWrite (s : State) (w : Word) : State :=
  (List.range 4).foldl (fun s c => if bit w (4 + c) then s.forceAbandon c else s) (s.setReg .dgeArb (w &&& 1))

/-- A reset episode that reaches the domain of requesters `p` (R247). -/
def State.dgeAbandonHolders (s : State) (p : BitVec 4 → Bool) : State :=
  let s := s.onDge fun d => { d with reqs := d.reqs.filter fun r => !p r.who }
  (List.range 4).foldl (fun s c => if (s.ctx c).st != .free && p (s.ctx c).holder then s.forceAbandon c else s) s

/-! ### Context commands (R244, R248 to R254, R264) -/

/-- The core is core 7 in gate mode (R449). -/
def State.gateReq (s : State) (who : BitVec 4) : Bool := who == 8 && s.prt.gate.active

/-- The bytes that UPDATE takes: DGE_CTX_LEN. -/
def State.updLen (s : State) (c : Nat) : Nat := (s.reg .dgeCtxLen c).toNat

/-- The refusals of UPDATE beside BUSY (R248, R249). A range of device memory that runs past address 2^48 is none of them: its
reads go on at address 0.
Marks: log 112 (DESIGN CHOICE). -/
def State.updateRefusals (s : State) (c : Nat) (w : Word) : List (Bool × Code) :=
  let who := (s.ctx c).holder
  let n := s.updLen c
  let a := (s.reg .dgeCtxSrcLo c).toNat
  let src := fldN w 4 2
  let denied :=
    if src = 0 then false
    else if src = 1 then
      if who = 0 then 0x1000000 < a + n else !ctlRange (s.gateReq who) a n
    else if src = 2 then who != 0 || s.gateBound (fld (s.reg .dgeCtxSrcHi c) 16 12)
    else true
  let long := if src = 0 then 136 < n else if src = 1 then 0x1000000 < n else false
  [(denied, .deniedAttr), (n = 0 || long || 2 ^ 48 ≤ (s.ctx c).count + n, .badLength)]

/-- UPDATE accepted (R248, R250). -/
def State.updateStart (s : State) (c : Nat) (w : Word) : State :=
  let x := s.ctx c
  let n := s.updLen c
  let a := (s.reg .dgeCtxSrcLo c).toNat
  let src := fldN w 4 2
  let s := s.onDge fun d => { d with stamp := d.stamp + 1 }
  if src = 2 then
    let addr := a + 2 ^ 32 * fldN (s.reg .dgeCtxSrcHi c) 0 16
    (s.setCtx c { x with run := some (.update addr n), count := x.count + n, since := s.dge.stamp }).readNext c
  else
    let bs := if src = 0 then (s.regBytes .dgeCtxData c 34).take n else s.csramBytes a n
    let x := { x with part := x.part ++ bs, count := x.count + n, run := some (.update 0 0), since := s.dge.stamp }
    (s.setCtx c x).feedCores.dgeProgress c

/-- The destination that a FINAL names, none where it is reserved. -/
def finalDest (w : Word) : Option DgeDest :=
  match fldN w 6 2 with
  | 0 => some .read
  | 1 => some .compare
  | 2 => some (.extend (fldN w 8 6))
  | _ => none

/-- The holder may deliver to the destination (R254). -/
def State.destOk (s : State) (who : BitVec 4) : DgeDest → Bool
  | .extend mr => who != 9 && s.extendOk (who == 0) mr
  | _ => true

/-- FINAL accepted: the padding joins the open block. -/
def State.finalStart (s : State) (c : Nat) (dest : DgeDest) : State :=
  let s := s.onDge fun d => { d with stamp := d.stamp + 1 }
  let x := s.ctx c
  (s.setCtx c { x with part := x.part ++ x.padding, run := some (.final dest), since := s.dge.stamp }).feedCores

/-- A command of the holder completes at once with code `code`. -/
def State.ctxCode (s : State) (c : Nat) (code : Code) : State :=
  s.setCtx c { s.ctx c with code := code, resGen := (s.ctx c).gen }

/-- Reserved fields of DGE_CTX_CMD are nonzero (R11). -/
def ctxRsv (w : Word) : Bool := rsvSet .dgeCtxCmd w

/-- A command of requester `q` on context `c` (R244). One that does not hold it is refused and leaves the context as it
is. -/
def State.ctxCommand (s : State) (q : Req) (c : Nat) (f : State → State) : State :=
  if isIcp q then s.emit (.code .deniedAttr)
  else if !s.d3Serves then s.refuseD3
  else
    let x := s.ctx c
    match dgeId q with
    | none => s.emit (.code .deniedAttr)
    | some i =>
      if x.st = .free ∨ x.holder.toNat ≠ i then s.emit (.code .deniedAttr) else f s

/-- The GEN field of the command is stale. -/
def State.ctxStale (s : State) (c : Nat) (w : Word) : Bool := fld w 16 8 != (s.ctx c).gen

/-- A refusal of a context command; one for its generation is counted (R244). -/
def State.ctxRefuse (s : State) (c : Nat) (k : Code) : State :=
  let s := if k = .staleGen then s.onDge fun d => { d with cntStale := tally d.cntStale } else s
  s.ctxCode c k

/-- A command of context `c` that meets an uncorrectable error in its window or its expected digest: it completes with
INTEGRITY, and the context, whose state is sound, stays as it is (R262).
Marks: log 84 (DEDUCED). -/
def State.ctxSpoilt (s : State) (c : Nat) : State := (s.dgeErr .uncorr).ctxCode c .integrity

/-- UPDATE (R248, R249). What SECDED finds in the window counts where the window is the source (R262). A FAULTED context
refuses it with INTEGRITY, an ABANDONING one with BUSY.
Marks: log 112 (DESIGN CHOICE). -/
def State.dgeUpdate (s : State) (c : Nat) (w : Word) (e : MemErr) : State :=
  let x := s.ctx c
  match lowest (s.updateRefusals c w ++
      [(x.run.isSome || x.st == .abandoning, .busy), (ctxRsv w, .deniedAttr), (x.st == .faulted, .integrity),
       (s.ctxStale c w, .staleGen)]) with
  | some k => s.ctxRefuse c k
  | none =>
    if fldN w 4 2 ≠ 0 then s.updateStart c w
    else if e = .uncorr then s.ctxSpoilt c
    else (s.dgeErr e).updateStart c w

/-- UPDATE. -/
def execDgeUpdate (q : Req) (c : Fin 4) (w : Word) (err : MemErr) (s : State) : Res :=
  ran (fun s => s.ctxCommand q c.val fun s => s.dgeUpdate c.val w err) s

/-- FINAL (R253, R254). What SECDED finds in DGE_CTX_EXPECT counts for COMPARE, which reads it (R262). A FAULTED context
refuses it with INTEGRITY, an ABANDONING one with BUSY.
Marks: log 112 (DESIGN CHOICE). -/
def State.dgeFinal (s : State) (c : Nat) (w : Word) (e : MemErr) : State :=
  let x := s.ctx c
  let dest := finalDest w
  let denied := dest.elim true fun d => !s.destOk x.holder d
  match lowest
      [(x.run.isSome || x.st == .abandoning, .busy), (ctxRsv w || denied, .deniedAttr),
       (x.st == .faulted, .integrity), (s.ctxStale c w, .staleGen)] with
  | some k => s.ctxRefuse c k
  | none =>
    match dest with
    | none => s
    | some d =>
      if d ≠ .compare then s.finalStart c d
      else if e = .uncorr then s.ctxSpoilt c
      else (s.dgeErr e).finalStart c d

/-- FINAL. -/
def execDgeFinal (q : Req) (c : Fin 4) (w : Word) (err : MemErr) (s : State) : Res :=
  ran (fun s => s.ctxCommand q c.val fun s => s.dgeFinal c.val w err) s

/-- ABANDON (R264): the holder's own. -/
def State.dgeAbandon (s : State) (c : Nat) (w : Word) : State :=
  if ctxRsv w then s.ctxRefuse c .deniedAttr
  else if s.ctxStale c w then s.ctxRefuse c .staleGen
  else s.abandonCtx c .done

/-- A core has finished a block of context `c` (R240). -/
def State.blockDone (s : State) (c : Nat) (e : MemErr) : State :=
  let x := s.ctx c
  let s := s.onDge fun d =>
    { d with
      core2 := if d.core2 = some c then none else d.core2
      coreK := if d.coreK = some c then none else d.coreK
      stamp := d.stamp + 1 }
  let s := s.dgeErr e
  let s :=
    if x.abandon.isSome then s.abandonNow c
    else if e = .uncorr then s.faultCtx c
    else (s.setCtx c { x.block with since := s.dge.stamp }).dgeProgress c
  s.feedCores

/-! ### The comparator (R258 to R261) -/

/-- The result code of a block put to `k`. -/
def State.cmpCode (s : State) (b : Blk) (k : Code) : State :=
  match b with
  | .s => s.onCmp fun m => { m with codeS := k }
  | .c => s.onCmp fun m => { m with codeC := k }

/-- A CMP command completes: its code, and its operands clear (R261).
Marks: log 88 (DEDUCED). -/
def State.cmpDone (s : State) (b : Blk) (k : Code) : State :=
  ((s.cmpCode b k).clearReg .cmpA (blkIx b)).clearReg .cmpB (blkIx b)

/-- A comparison of the block is pending or running. -/
def State.cmpBusy (s : State) (b : Blk) : Bool :=
  s.cmp.reqs.any (fun r => r.src == .blk b) || ((s.cmp.slices.getD 4 none).any fun r => r.src == .blk b)

/-- CMP_CMD written (R261). -/
def State.cmpCommand (s : State) (b : Blk) (w : Word) : State :=
  let n := fldN w 4 7
  if !s.d3Serves then s.refuseD3
  else if s.cmpBusy b then s.cmpDone b .busy
  else
    match lowest [(rsvSet .cmpCmd w || fldN w 0 4 != 1, .deniedAttr), (n = 0 || 64 < n, .badLength)] with
    | some k => s.cmpDone b k
    | none =>
      s.askSlice ⟨.blk b, (s.regBytes .cmpA (blkIx b) 16).take n, (s.regBytes .cmpB (blkIx b) 16).take n⟩

/-- COMPARE (R261). -/
def execCmpCompare (b : Blk) (w : Word) (s : State) : Res := ran (fun s => s.cmpCommand b w) s

/-- The request for slice 4 that the arbiter grants (R258): block S within its quota, else the oldest other. -/
def State.cmpWinner (s : State) : Option CmpReq :=
  match (s.cmp.reqs.find? fun r => r.src == .blk .s), decide (s.cmp.used < 4) with
  | some r, true => some r
  | _, _ => s.cmp.reqs.find? fun r => r.src != .blk .s

/-- CMP_SLICE_GRANT (R258): due while slice 4 is free and a request is eligible. -/
def execCmpSliceGrant (s : State) : Res :=
  ranIf ((s.cmp.slices.getD 4 none).isNone && s.cmpWinner.isSome)
    (fun s =>
      match s.cmpWinner with
      | none => s
      | some r =>
        s.onCmp fun m =>
          { m with
            reqs := m.reqs.erase r
            slices := setAt m.slices 4 (some r)
            used := if r.src = .blk .s then m.used + 1 else m.used }) s

/-- A comparison's result reaches who waits for it (R259, R262). -/
def State.cmpResult (s : State) (r : CmpReq) (e : MemErr) : State :=
  let equal : Bool := r.a == r.b
  let code : Code := if e = .uncorr then .integrity else if equal then .done else .notEqual
  match r.src with
  | .stream sid =>
    let s := s.smeErr e (some (s.stream sid).part)
    s.onStream sid fun v => { v with equal := some equal, bad := v.bad || e == .uncorr }
  | .ctx c => (s.dgeErr e).endCtx c code [] 0
  | .blk b => (s.dgeErr e).cmpDone b code
  | .gone => s.dgeErr e

/-- COMPARISON_DONE (R259): due for a slice that compares. A slice of a combine lane takes its next stream at once. -/
def execComparisonDone (slice : Fin 5) (err : MemErr) (s : State) : Res :=
  ranIf (s.cmp.slices.getD slice.val none).isSome
    (fun s =>
      match s.cmp.slices.getD slice.val none with
      | none => s
      | some r =>
        let s := (s.onCmp fun m => { m with slices := setAt m.slices slice.val none }).cmpResult r err
        if slice.val < 4 then s.feedSlice slice.val else s) s

/-! ### The extension unit (R221 to R223, R234) -/

/-- A fallback stream whose extension meets an uncorrectable register: its outcome is INTEGRITY, in its context and in its
result where that is still queued (R218, R234).
Marks: log 85 (DEDUCED). -/
def State.spoilResult (s : State) (sid : StreamId) (gen : Gen) : State :=
  let v := s.stream sid
  let spoil (q : List StreamResult) : List StreamResult :=
    q.map fun r => if r.sid == sid && r.gen == gen then { r with outcome := .integrity } else r
  let s := if v.gen = gen ∧ v.st = .closed then s.setStream sid { v with outcome := .integrity, digest := [] } else s
  s.onSme fun m =>
    { m with blkS := { m.blkS with resQ := spoil m.blkS.resQ }, blkC := { m.blkC with resQ := spoil m.blkC.resQ } }

/-- An extension applied, or refused by a register that holds an uncorrectable error; its requester completes. -/
def State.applyExt (s : State) (r : ExtReq) : State :=
  let m := s.mreg r.mr
  let code : Code := if m.bad then .integrity else .done
  let m' : MReg := if m.bad then m else { m with value := sha3_512 (m.value ++ r.value), count := m.count + 1 }
  let s := s.setMreg r.mr m'
  match r.src with
  | .stream sid gen => if m.bad then s.spoilResult sid gen else s
  | .ctx c => s.endCtx c code [] (if m.bad then 0 else m'.count)
  | .blk b => ((s.smeDone b code).onSme fun x => { x with run := if x.run = some (.extend b) then none else x.run }).smeNext

/-- The next queued extension taken and applied. -/
def State.extensionStep (s : State) (err : MemErr) : State :=
  match s.sme.ext with
  | [] => s
  | r :: rest =>
    let s := (s.onSme fun m => { m with ext := rest }).smeErr err none
    let s := if err = .uncorr then s.setMreg r.mr { s.mreg r.mr with bad := true } else s
    s.applyExt r

end Sys2Proof.Machine
end

