-- ==== Sys2Proof/Machine/Partitions.lean ====
section
/-!
DEFINITION. Machine/Partitions.lean: the partition manager: the partition table and its commit, regions, job digests, the
release gate, quarantine and the change of hands (13_partitions_and_release_gate.md).
-/
namespace Sys2Proof.Machine

/-- The partition manager changed by `f`. -/
def State.onPrt (s : State) (f : Prt → Prt) : State := { s with prt := f s.prt }

/-- A partition's entry put to `v`. -/
def State.setPart (s : State) (p : PartId) (v : PartEntry) : State :=
  s.onPrt fun t => { t with parts := Sparse.put {} t.parts p.toNat v }

/-- Region entry `i`. -/
def State.region (s : State) (i : Nat) : Region := Sparse.get {} s.prt.regions i

/-- Region entry `i` put to `v`. -/
def State.setRegion (s : State) (i : Nat) (v : Region) : State :=
  s.onPrt fun t => { t with regions := Sparse.put {} t.regions i v }

/-- The region entries of a partition, in rising order. -/
def State.regionsOf (s : State) (p : PartId) : List Nat :=
  (s.prt.regions.filter fun e => e.2.kind != 0 && e.2.part == p).map (·.1)

/-- A partition's entry holds array `i`. -/
def State.hasArray (s : State) (p : PartId) (i : Nat) : Bool := s.partDefined p && (s.partEntry p).arrays.getLsbD i

/-- Partitions 1 to 63 that are defined and hold array `i`. -/
def State.holders (s : State) (i : Nat) : Nat :=
  (s.prt.parts.filter fun e => e.2.st != .free && e.2.arrays.getLsbD i).length

/-- The arrays of a partition; partition 0 holds those of the boot record that no other partition holds (R426). -/
def State.arraysOf (s : State) (p : PartId) : BitVec 256 :=
  if p = 0 then
    BitVec.ofNat 256 (bitsToNat ((List.range 256).map fun i => decide (i < s.boot.arrays) && s.holders i == 0))
  else (s.partEntry p).arrays

/-- Some region is ORPHAN. -/
def State.orphans (s : State) : Bool := s.prt.regions.any fun e => e.2.orphan

/-- A RELEASE or SCRUB_ORPHANS runs. -/
def State.prtBackground (s : State) : Bool := s.prt.rel.isSome || s.prt.orphans.isSome

/-- A SCRUB_REGION runs: PRT_RESULT.BUSY.
Marks: log 25 (DEDUCED). -/
def State.prtBusy (s : State) : Bool := s.prt.fill.any fun f => !f.orphan

/-- The phase of a partition that is being released (R425, R456). -/
def State.partPhase (s : State) (p : PartId) : Nat :=
  match s.prt.rel with
  | none => 0
  | some r =>
    if r.part ≠ p then 0
    else
      match r.stage with
      | .drain => 1
      | .scrub => 3
      | .awaitFw => 4
      | _ => 2

/-! ### Definition of a partition (R428 to R433) -/

/-- The first byte of a region and the byte after its last. -/
def Region.lo (r : Region) : Nat := r.base.toNat
def Region.hi (r : Region) : Nat := r.base.toNat + 4096 * r.pages.toNat

/-- Two regions share a byte. -/
def Region.meets (a b : Region) : Bool := a.lo < b.hi && b.lo < a.hi

/-- PRT_STG: the partition to define, and its staged fields. -/
def State.stgPart (s : State) : PartId := fld (s.reg .prtStg) 0 6
def State.stgConf (s : State) : Bool := bit (s.reg .prtStg) 8
def State.stgChunk (s : State) : Bool := bit (s.reg .prtStg) 9
def State.stgArrays (s : State) : BitVec 256 := BitVec.ofNat 256 (ofLE (s.regBytes .prtStgArrays 0 8))

/-- The staged regions that name partition `p`, with their entries. -/
def State.stagedRegions (s : State) (p : PartId) : List (Nat × Region) :=
  (s.prt.staged.filter fun e => e.2.part == p && e.2.kind != 0).map fun e =>
    (e.1, { part := p, kind := e.2.kind, base := e.2.base, pages := e.2.pages })

/-- A staged region breaks R433 by itself or beside the others that are staged. -/
def regionBad (all : List (Nat × Region)) (e : Nat × Region) : Bool :=
  let r := e.2
  r.base.toNat % 4096 != 0 || r.pages == 0 || 2 ^ 48 < r.hi || all.any fun c => c.1 != e.1 && r.meets c.2

/-- A staged region meets a committed one (R433), or would replace one of another partition (R429). -/
def State.regionTaken (s : State) (e : Nat × Region) : Bool :=
  (s.region e.1).kind != 0 || s.prt.regions.any fun c => c.2.kind != 0 && e.2.meets c.2

/-- The partition would hold more than one region of a privileged kind. -/
def kindTwice (all : List (Nat × Region)) (k : BitVec 2) : Bool := 1 < (all.filter fun e => e.2.kind == k).length

/-- Array `i` of the mask is not present. -/
def State.maskPast (s : State) (m : BitVec 256) : Bool := (List.range 256).any fun i => m.getLsbD i && s.boot.arrays ≤ i

/-- The mask names an array that two partitions hold already. -/
def State.maskHeld (s : State) (m : BitVec 256) : Bool := (List.range 256).any fun i => m.getLsbD i && 2 ≤ s.holders i

/-- The refusals of a commit that what is staged brings, without a look at a table. -/
def State.commitEarly (s : State) : List (Bool × Code) :=
  let p := s.stgPart
  let all := s.stagedRegions p
  [(s.prtBackground || s.orphans || !s.up .d4, .busy),
   (p == 0 || !(s.groupMembers p).isEmpty || s.maskPast s.stgArrays || all.any (regionBad all) || kindTwice all 2 ||
      kindTwice all 3, .deniedAttr)]

/-- The refusals of a commit that the tables bring. -/
def State.commitRefusals (s : State) : List (Bool × Code) :=
  [(s.partDefined s.stgPart || s.maskHeld s.stgArrays || (s.stagedRegions s.stgPart).any s.regionTaken, .deniedAttr)]

/-- The lane groups DEDICATED to a partition (R207). -/
def State.groupsOf (s : State) (p : PartId) : BitVec 16 :=
  BitVec.ofNat 16 (bitsToNat (s.sme.groups.map fun g => g.mode == 2 && g.part == p))

/-- A partition defined (R428, R431): its generation advances, and a confidential one closes the debug gate (R163) and ends
boost (R538). What R456 marked as released was of the partition's last life (R209).
Marks: log 77 (DEDUCED); log 79 (DEDUCED). -/
def State.define (s : State) : State :=
  let p := s.stgPart
  let gen := s.partGen p + 1
  let s := s.onSme fun m => { m with released := m.released &&& ~~~ s.groupsOf p }
  let s := s.setPart p { st := .active, conf := s.stgConf, chunk := s.stgChunk, arrays := s.stgArrays }
  let s := (s.stagedRegions p).foldl (fun s e => s.setRegion e.1 e.2) s
  let s := s.onPrt fun t => { t with gens := Sparse.put 0 t.gens p.toNat gen, epoch := t.epoch + 1 }
  if s.stgConf then ((s.onLcs fun l => { l with confClosed := true }).closeDebug).boostOff else s

/-- The code with which a command of the partition manager is refused: the lowest of those that need no table (`early`), and
of those that its tables bring, in whose place an uncorrectable error of a table puts INTEGRITY (R14, R461).
Marks: log 86 (DEDUCED). -/
def prtRefusal (early refusals : List (Bool × Code)) (err : MemErr) : Option Code :=
  lowest (early ++ if err = .uncorr then [(true, .integrity)] else refusals)

/-- A refusal of INTEGRITY goes to the health report (R461, R543). -/
def State.prtHealth (s : State) (c : Code) : State := if c = .integrity then s.health 6 .integrity else s

/-- PRT_COMMIT: the staged partition is defined, or the commit is refused. -/
def State.prtCommit (s : State) (err : MemErr) : State :=
  match prtRefusal s.commitEarly s.commitRefusals err with
  | some c => (s.prtHealth c).onPrt fun t => { t with commitCode := c }
  | none => s.define.onPrt fun t => { t with commitCode := .done }

/-- PRT_COMMIT (R428): only a write with COMMIT = 1 commits. -/
def execPrtCommit (w : Word) (err : MemErr) (s : State) : Res :=
  ranOn .d2 (fun s => if bit w 0 then s.prtCommit err else s) s

/-! ### Commands (R462) -/

/-- PRT_OP. -/
def State.prtPart (s : State) : PartId := fld (s.reg .prtOp) 0 6
def State.prtIndex (s : State) : Nat := fldN (s.reg .prtOp) 8 6
def State.prtJob (s : State) : JobId := fld (s.reg .prtOp) 16 16

/-- A command ends with `c`: the digest operands clear, at every completion (R462).
Marks: log 88 (DEDUCED). -/
def State.prtDone (s : State) (c : Code) : State :=
  ((s.onPrt fun t => { t with code := c }).clearReg .prtOpGate).clearReg .prtOpPolicy

/-- The frame of every command: BUSY while SCRUB_REGION runs, R11, its own refusals without and with a look at its tables,
what SECDED finds in these, else its effect.
Marks: log 26 (DEDUCED). -/
def State.prtCommand (s : State) (w : Word) (err : MemErr) (early refusals : List (Bool × Code)) (f : State → State) : State :=
  match prtRefusal ((s.prtBusy, .busy) :: (rsvSet .prtCmd w, .deniedAttr) :: early) refusals err with
  | some c => (s.prtHealth c).prtDone c
  | none => f s

/-! ### Job digests (R440) -/

/-- The job digest entry of a partition and job. -/
def State.jobDigest (s : State) (p : PartId) (j : JobId) : Option (Nat × JobDigest) :=
  s.prt.jobs.findSome? fun e => e.2.bind fun d => if d.part == p && d.job == j then some (e.1, d) else none

/-- The lowest free entry.
Marks: log 119 (DESIGN CHOICE). -/
def State.freeJob (s : State) : Option Nat := (List.range 64).find? fun i => (Sparse.get none s.prt.jobs i).isNone

/-- Job digest entry `i` put to `v`. -/
def State.setJob (s : State) (i : Nat) (v : Option JobDigest) : State :=
  s.onPrt fun t => { t with jobs := Sparse.put none t.jobs i v }

/-- JOB_RECORD (R440). -/
def execJobRecord (w : Word) (err : MemErr) (s : State) : Res :=
  ranOn .d2 (fun s => s.prtCommand w err []
    [(s.partState s.prtPart != .active || (s.jobDigest s.prtPart s.prtJob).isSome, .deniedAttr),
      (s.freeJob.isNone, .noResource)]
    (fun s =>
      (s.setJob (s.freeJob.getD 0)
        (some ⟨s.prtPart, s.prtJob, s.regBytes .prtOpGate 0 16, s.regBytes .prtOpPolicy 0 16⟩)).prtDone .done)) s

/-- JOB_FORGET (R440): DENIED_ATTR where no entry matches. -/
def execJobForget (w : Word) (err : MemErr) (s : State) : Res :=
  ranOn .d2 (fun s => s.prtCommand w err [] [((s.jobDigest s.prtPart s.prtJob).isNone, .deniedAttr)]
    (fun s =>
      match s.jobDigest s.prtPart s.prtJob with
      | none => s
      | some (i, _) => (s.setJob i none).prtDone .done)) s

/-! ### The release gate (R448 to R450) -/

/-- The gate scratch area zeroed.
Marks: log 42 (DESIGN CHOICE). -/
def State.zeroScratch (s : State) : State :=
  { s with csram := s.csram.filter fun e => !(0x0EC0000 ≤ e.1 && e.1 < 0x0EF0000) }

/-- A PRESENT gate endpoint of the partition holds a key. -/
def State.gateKeyed (s : State) (p : PartId) : Bool :=
  s.kfb.mirror.any fun k =>
    let e := s.endpoint k.ep
    e.present && e.gate && e.part == p

/-- A partition has a region of kind `k`. -/
def State.hasRegion (s : State) (p : PartId) (k : BitVec 2) : Bool := (s.regionsOf p).any fun i => (s.region i).kind == k

/-- The refusals of GATE_ENTER that need no table of the partition manager (R448, R427). -/
def State.gateEarly (s : State) : List (Bool × Code) :=
  let p := s.prtPart
  let formed := (s.record p.toNat s.prtJob).any fun e => e.2.state == .formed
  [(s.prt.gate.active || s.prt.gate.held || !s.up .d4, .busy),
   (!formed || (s.mreg s.prtIndex).owner != some p || !s.gateKeyed p, .deniedAttr)]

/-- The refusals of GATE_ENTER that its tables bring (R448). -/
def State.gateRefusals (s : State) : List (Bool × Code) :=
  let p := s.prtPart
  [(s.partState p != .active || (s.jobDigest p s.prtJob).isNone || !s.hasRegion p 2 || !s.hasRegion p 3, .deniedAttr)]

/-- An activation withholds GATE_ENTER (R512, step 1): the security firmware does not give it from then until PHASE 4 ends.
Marks: log 63 (DESIGN CHOICE). -/
def State.gateWithheld (s : State) : Bool :=
  s.upd.any fun u =>
    match u.step with
    | .gate | .copy _ | .meet | .request | .idle | .block | .serve | .finish => true
    | .ask _ | .absorb _ _ _ | .compare _ _ _ | .sector _ _ _ => false

/-- GATE_ENTER (R448): core 7 restarts in gate mode, the scratch area zeroed and the budget loaded. -/
def execGateEnter (w : Word) (err : MemErr) (s : State) : Res :=
  ranOn .d2 (fun s => if s.gateWithheld then s else s.prtCommand w err s.gateEarly s.gateRefusals
    (fun s =>
      let s := s.zeroScratch
      let g : Gate :=
        { active := true, part := s.prtPart, mr := s.prtIndex, job := s.prtJob,
          budget := (s.reg .prtGateBudget).toNat }
      (s.onPrt fun t => { t with gate := g }).prtDone .done)) s

/-- Core 7 leaves gate mode and is held (R450).
Marks: log 48 (DEDUCED). -/
def State.gateLeave (s : State) (why : GateReason) : State :=
  if s.prt.gate.active then
    s.onPrt fun t => { t with gate := { t.gate with active := false, held := true, reason := why }, intGate := true }
  else s

/-- GATE_EXIT (R450): the scratch area and the caches zeroed, core 7 restored. -/
def execGateExit (w : Word) (s : State) : Res :=
  ranOn .d2 (fun s => s.prtCommand w .none [(!s.prt.gate.held, .deniedAttr)] []
    (fun s => (s.zeroScratch.onPrt fun t => { t with gate := {} }).prtDone .done)) s

/-- PRT_GATE_YIELD (R450, R461): core 7's write while in gate mode; any other access is refused. -/
def execGateYield (w : Word) (s : State) : Res :=
  ranOn .d2 (fun s =>
    if !s.prt.gate.active then s.emit (.code .deniedAttr) else if bit w 0 then s.gateLeave .yield else s) s

/-- GATE_BUDGET_EXPIRE (R450): the budget counter of a gate run reaches zero.
Marks: log 1 (DESIGN CHOICE). -/
def execGateBudgetExpire (s : State) : Res :=
  ranIf s.prt.gate.active (fun s => s.gateLeave .budget) s

/-! ### Quarantine (R454) -/

/-- The gate run of partition `p` ends. -/
def State.gateStop (s : State) (p : PartId) (why : GateReason) : State :=
  if s.prt.gate.part = p then s.gateLeave why else s

/-- QUARANTINE (R454, R426). -/
def execPrtQuarantine (w : Word) (err : MemErr) (s : State) : Res :=
  ranOn .d2 (fun s => s.prtCommand w err
    [(!s.up .d4, .busy), (s.prtPart == 0, .deniedAttr)] [(s.partState s.prtPart != .active, .deniedAttr)]
    (fun s =>
      let p := s.prtPart
      let s := s.setPart p { s.partEntry p with st := .quarantined }
      let s := (s.raiseEmber (zeroiseGroup p .none .prt)).gateStop p .quarantine
      (s.onPrt fun t => { t with cntQuar := tally t.cntQuar }).prtDone .done)) s

/-! ### Change of hands (R456 to R459) -/

/-- PRT_SCRUB_ADDR. -/
def State.scrubAddr (s : State) : Nat :=
  (s.reg .prtScrubAddrLo).toNat + 2 ^ 32 * fldN (s.reg .prtScrubAddrHi) 0 16

/-- The scrub descriptor of region `r` (R458). -/
def State.scrubDescriptor (s : State) (r : Region) : Bytes :=
  ascii "ICSC" ++ leBytes 2 0x0002 ++ leBytes 1 r.part.toNat ++ leBytes 1 (s.partGen r.part).toNat ++
    leBytes 8 r.base.toNat ++ leBytes 4 r.pages.toNat ++ List.replicate 44 0

/-- The scrub descriptor of region entry `i` sent: a raw write of one line (R435). -/
def State.sendScrub (s : State) (i : Nat) : State :=
  s.mpIssue true s.scrubAddr 1 0 rawCtx (s.scrubDescriptor (s.region i)) (.scrub i)

/-- Stage of the running RELEASE changed. -/
def State.relTo (s : State) (st : RelStage) : State :=
  s.onPrt fun t => { t with rel := t.rel.map fun r => { r with stage := st } }

/-- Step 8: every endpoint of the partition unbound, every cell of it disabled. -/
def State.relUnbind (s : State) (p : PartId) : State :=
  let s := (s.groupMembers p).foldl (fun s e => s.unbind e) s
  s.onCnt fun n =>
    { n with cells := Sparse.mapAll {} (fun _ c => if c.part == p then { c with enable := false } else c) n.cells }

/-- Step 9: its job digests freed, its DEDICATED lane groups marked released.
Marks: log 79 (DEDUCED). -/
def State.relJobs (s : State) (p : PartId) : State :=
  let s := s.onPrt fun t => { t with jobs := t.jobs.filter fun e => (e.2.map fun d => d.part) != some p }
  s.onSme fun m => { m with released := m.released ||| s.groupsOf p }

/-- The end of the partition manager's PURGE: steps 8 and 9, and the start of step 10. -/
def State.relPurged (s : State) (p : PartId) : State :=
  let s := ((s.purgeEnd p).onSme fun m => { m with run := none }).smeNext
  let s := (s.relUnbind p).relJobs p
  let data := (s.regionsOf p).filter fun i => (s.region i).kind == 1
  s.onPrt fun t => { t with rel := t.rel.map fun r => { r with stage := .scrub, todo := data } }

/-- Step 12: the regions freed, the partition FREE. -/
def State.relEnd (s : State) (p : PartId) : State :=
  let s := (s.regionsOf p).foldl (fun s i => s.setRegion i {}) s
  (s.setPart p {}).onPrt fun t =>
    { t with rel := none, intReleased := true, cntRelease := tally t.cntRelease }

/-- The next step of the running RELEASE, where nothing holds it back. -/
def State.relStep (s : State) : Option State :=
  match s.prt.rel with
  | none => none
  | some r =>
    let p := r.part
    match r.stage with
    | .drain => if r.wait = 0 then some ((s.relTo .revoke).raiseEmber (zeroiseGroup p .release .prt)) else none
    | .revoke => if s.emberOpen .release then none else some (s.relTo .destroy)
    | .destroy => if !s.klnFree || s.kln.halted then none else some ((s.relTo .destroying).destroyPart p .none .prt)
    | .destroying => if s.kfb.waiting.any fun e => e.src == .prt then none else some (s.relTo .purge)
    | .purge =>
      if s.sme.run.isSome || !s.up .d3 then none
      else
        let s := ((s.dimEnd 4).relTo .purging).purgeStart p (.purgePrt p)
        some (if s.purgeReady p then s.relPurged p else s)
    | .purging => none
    | .scrub =>
      match r.todo with
      | i :: rest =>
        if s.mpRoom then
          some ((s.sendScrub i).onPrt fun t => { t with rel := t.rel.map fun r => { r with todo := rest } })
        else none
      | [] =>
        if (s.regionsOf p).any fun i => (s.region i).kind == 1 && !(s.region i).scrubbed then none
        else if s.hasRegion p 2 || s.hasRegion p 3 || (s.prt.gate.held && s.prt.gate.part == p) then
          some ((s.relTo .awaitFw).onPrt fun t => { t with intScrubWait := true })
        else some (s.relEnd p)
    | .awaitFw => none

/-- The running RELEASE taken as far as it goes, at most `n` steps. -/
def State.relRun : Nat → State → State
  | 0, s => s
  | n + 1, s =>
    match s.relStep with
    | none => s
    | some t => State.relRun n t

/-- The next write of the running zero fill, one of 16 beats at a time. -/
def State.fillStep (s : State) : State :=
  match s.prt.fill with
  | none => s
  | some f =>
    if (s.mp.any fun r => r.owner == .fill f.region) || !s.mpRoom then s
    else
      s.mpIssue true ((s.region f.region).lo + f.next) 16 0 rawCtx (List.replicate 1024 0) (.fill f.region)

/-- The next region of SCRUB_ORPHANS begun, where it has not yet: a descriptor for a DATA region, a zero fill for the
others. -/
def State.orphanStep (s : State) : State :=
  match s.prt.orphans with
  | none => s
  | some [] =>
    s.onPrt fun t =>
      { t with orphans := none, intOrphans := t.intOrphans || !s.orphans, code := if s.orphans then .integrity else t.code }
  | some (i :: _) =>
    if (s.region i).kind = 1 then
      if (s.mp.any fun r => r.owner == .scrub i) || !s.mpRoom then s else s.sendScrub i
    else if s.prt.fill.isSome then s
    else s.onPrt fun t => { t with fill := some ⟨i, 0, true⟩ }

/-- The partition manager's own work taken as far as it goes. -/
def State.prtGoOn (s : State) : State := (State.relRun 80 s).orphanStep.fillStep

/-- A region of SCRUB_ORPHANS is done: freed if it was scrubbed, else left ORPHAN. -/
def State.orphanDone (s : State) (i : Nat) (ok : Bool) : State :=
  let s := if ok then s.setRegion i {} else s
  s.onPrt fun t => { t with orphans := t.orphans.map fun l => l.drop 1 }

/-- A RELEASE whose scrub descriptor met an error completes with INTEGRITY (R49): its partition stays RELEASING, its
regions unscrubbed, and of its other descriptors nobody takes the acknowledgement.
Marks: log 94 (DEDUCED). -/
def State.relFail (s : State) : State :=
  let s := s.onPrt fun t => { t with rel := none, code := .integrity }
  { s with mp := s.mp.map fun r =>
      match r.owner with
      | .scrub _ => { r with owner := .void }
      | _ => r }

/-- A scrub descriptor is acknowledged (R456, R434).
Marks: log 94 (DEDUCED). -/
def State.scrubAcked (s : State) (i : Nat) (err : Bool) : State :=
  if s.prt.orphans.isSome then (s.orphanDone i !err).prtGoOn
  else if err then s.relFail.prtGoOn
  else (s.setRegion i { s.region i with scrubbed := true }).prtGoOn

/-- A write of the zero fill is acknowledged (R459, R434). -/
def State.fillAcked (s : State) (i : Nat) (err : Bool) : State :=
  match s.prt.fill with
  | none => s
  | some f =>
    let ended := err || 4096 * (s.region i).pages.toNat ≤ f.next + 1024
    if !ended then (s.onPrt fun t => { t with fill := some { f with next := f.next + 1024 } }).prtGoOn
    else
      let s := s.onPrt fun t => { t with fill := none }
      if f.orphan then (s.orphanDone i !err).prtGoOn
      else if err then s.prtDone .integrity
      else (s.setRegion i { s.region i with scrubbed := true }).prtDone .done

/-- Steps 1 to 3 of RELEASE. -/
def State.relStart (s : State) (p : PartId) : State :=
  let e := s.partEntry p
  let s := s.setPart p { e with st := .releasing }
  let s := s.gateStop p .release
  let s := (s.regionsOf p).foldl (fun s i => s.setRegion i { s.region i with scrubbed := false }) s
  let s := s.onPrt fun t => { t with rel := some ⟨p, .drain, e.arrays, []⟩ }
  (List.range 256).foldl
    (fun s i => if e.arrays.getLsbD i then s.emit (.drain i p (s.partGen p)) else s) s

/-- RELEASE (R456): complete at acceptance. -/
def execPrtRelease (w : Word) (err : MemErr) (s : State) : Res :=
  ranOn .d2 (fun s => s.prtCommand w err
    [(s.prtBackground || !s.up .d4, .busy), (s.prtPart == 0, .deniedAttr)]
    [(s.partState s.prtPart != .active && s.partState s.prtPart != .quarantined, .deniedAttr)]
    (fun s => ((s.relStart s.prtPart).prtDone .done).prtGoOn)) s

/-- SCRUB_REGION (R459). -/
def execScrubRegion (w : Word) (err : MemErr) (s : State) : Res :=
  ranOn .d2 (fun s => s.prtCommand w err
    [(!s.up .d4, .busy), (s.partPhase s.prtPart != 4, .deniedAttr)]
    [((s.region s.prtIndex).part != s.prtPart || ((s.region s.prtIndex).kind != 2 && (s.region s.prtIndex).kind != 3),
      .deniedAttr)]
    (fun s => (s.onPrt fun t => { t with fill := some ⟨s.prtIndex, 0, false⟩ }).prtGoOn)) s

/-- SCRUB_DONE (R459): the running RELEASE completes. -/
def execScrubDone (w : Word) (err : MemErr) (s : State) : Res :=
  ranOn .d2 (fun s => s.prtCommand w err
    [(!s.up .d4, .busy), (s.partPhase s.prtPart != 4 || (s.prt.gate.held && s.prt.gate.part == s.prtPart), .deniedAttr)]
    [((s.regionsOf s.prtPart).any fun i => (s.region i).kind != 1 && !(s.region i).scrubbed, .deniedAttr)]
    (fun s => (s.relEnd s.prtPart).prtDone .done)) s

/-- SCRUB_ORPHANS (R434): complete at acceptance. -/
def execScrubOrphans (w : Word) (err : MemErr) (s : State) : Res :=
  ranOn .d2 (fun s => s.prtCommand w err [(s.prtBackground || !s.up .d4, .busy)] []
    (fun s =>
      let l := (s.prt.regions.filter fun e => e.2.orphan).map (·.1)
      ((s.onPrt fun t => { t with orphans := some l }).prtDone .done).prtGoOn)) s

/-- DRAIN_TOKEN (R83): a token that no drain request of this generation awaits is dropped and counted. While D2 or D4 is
in reset no one takes it. -/
def execDrainToken (array : BitVec 8) (part : PartId) (gen : Gen) (s : State) : Res :=
  ran (fun s =>
    if !s.up .d2 || !s.up .d4 then s
    else
      let awaited := s.prt.rel.any fun r =>
        r.stage == .drain && r.part == part && r.wait.getLsbD array.toNat && s.partGen part == gen
      if awaited then
        (s.onPrt fun t =>
          { t with rel := t.rel.map fun r => { r with wait := r.wait &&& ~~~ (1#256 <<< array.toNat) } }).prtGoOn
      else s.onPrt fun t => { t with cntTokdrop := tally t.cntTokdrop, intTokdrop := true }) s

/-! ### Events of other units that a RELEASE may wait for -/

/-- EACK (R335); while KF_UP is low the pulse is dropped (R36). A RELEASE that waits for its revoke goes on. -/
def execEack (port : Fin 8) (age : Nat) (s : State) : Res :=
  ran (fun s => if s.kfb.up then (s.eackPulse port.val age).prtGoOn else s) s

/-- KF_BEAT_SEND (R327): due while some queue of the port may be granted. -/
def execKfBeatSend (port : Fin 8) (s : State) : Res :=
  ranIf (s.portGrant port.val).isSome (fun s => (s.sendBeat port.val).drainEmber.prtGoOn) s

/-- EXTENSION_APPLY (R223): due while an extension is queued. -/
def execExtensionApply (err : MemErr) (s : State) : Res :=
  ranIf (!s.sme.ext.isEmpty && s.up .d2) (fun s => (s.extensionStep err).prtGoOn) s

/-- A PURGE that waited goes on. -/
def State.purgeResume (s : State) : State :=
  match s.sme.run with
  | some (.purge p) => (((s.purgeEnd p).onSme fun m => { m with run := none }).smeDone .s .done).smeNext.prtGoOn
  | some (.purgePrt p) => (s.relPurged p).prtGoOn
  | _ => s

/-- PURGE_RESUME (R233): due while a PURGE runs and nothing of its partition is CLOSING or waits for the Kiln. -/
def execPurgeResume (s : State) : Res :=
  ranIf (s.purgeOf.any fun p => s.purgeReady p) State.purgeResume s

end Sys2Proof.Machine
end

