-- ==== Sys2Proof/Machine/Curve.lean ====
section
/-!
DEFINITION. Machine/Curve.lean: P-384 and the ECDSA and ECDH operations over it (R354, FIPS 186-5, SP 800-56A), with the
key expansion and the nonce that R357 and R359 fix. The curve's constants are those of FIPS 186-5.
-/
namespace Sys2Proof.Machine

/-- The prime of the field. -/
def p384 : Nat := 2 ^ 384 - 2 ^ 128 - 2 ^ 96 + 2 ^ 32 - 1

/-- The coefficient b; a is -3. -/
def p384b : Nat :=
  0xb3312fa7e23ee7e4988e056be3f82d19181d9c6efe8141120314088f5013875ac656398d8a2ed19d2a85c8edd3ec2aef

/-- The order n of the base point. -/
def p384n : Nat :=
  0xffffffffffffffffffffffffffffffffffffffffffffffffc7634d81f4372ddf581a0db248b0a77aecec196accc52973

/-- A point of the curve; none is the point at infinity. -/
abbrev Point := Option (Nat × Nat)

/-- The base point G. -/
def p384G : Point :=
  some
    (0xaa87ca22be8b05378eb1c71ef320ad746e1d3b628ba79b9859f741e082542a385502f25dbf55296c3a545e3872760ab7,
     0x3617de4a96262c6f5d9e98bf9292dc29f8f41dbd289a147ce9da3113b5f0b8c00a60b1ce1d7e819d7a431d7c90ea0e5f)

/-- `a` to the power that the lowest `fuel` bits of `e` spell, modulo `m`. -/
def powMod (m : Nat) : Nat → Nat → Nat → Nat
  | 0, _, _ => 1 % m
  | fuel + 1, a, e => (if e % 2 = 1 then a else 1) * powMod m fuel (a * a % m) (e / 2) % m

/-- The inverse modulo the prime `m` of 384 bits. -/
def invMod (m a : Nat) : Nat := powMod m 384 (a % m) (m - 2)

/-- The difference modulo `m` of residues. -/
def subMod (m a b : Nat) : Nat := (a + (m - b % m)) % m

/-- A point from the slope of its line. -/
def lineSum (l x1 y1 x2 : Nat) : Point :=
  let x := subMod p384 (subMod p384 (l * l % p384) x1) x2
  some (x, subMod p384 (l * subMod p384 x1 x % p384) y1)

/-- The sum of two points. -/
def Point.add : Point → Point → Point
  | none, q => q
  | p, none => p
  | some (x1, y1), some (x2, y2) =>
    if x1 = x2 then
      if (y1 + y2) % p384 = 0 then none
      else lineSum (subMod p384 (3 * x1 * x1) 3 * invMod p384 (2 * y1) % p384) x1 y1 x2
    else lineSum (subMod p384 y2 y1 * invMod p384 (subMod p384 x2 x1) % p384) x1 y1 x2

/-- The multiple of a point by the number that the lowest `fuel` bits of `k` spell. -/
def Point.mulBits : Nat → Nat → Point → Point
  | 0, _, _ => none
  | fuel + 1, k, p => Point.add (if k % 2 = 1 then p else none) (Point.mulBits fuel (k / 2) (Point.add p p))

/-- The multiple of a point by a scalar of 384 bits. -/
def Point.mul (k : Nat) (p : Point) : Point := Point.mulBits 384 k p

/-- A finite point from its 96 bytes, where it passes full public-key validation: the order of the curve is prime, so a
point on it is of order n. -/
def pointOf (bs : Bytes) : Point :=
  let x := ofBE (bs.take 48)
  let y := ofBE (slice bs 48 48)
  if x < p384 ∧ y < p384 ∧ y * y % p384 = (x * x % p384 * x + 3 * (p384 - x) + p384b) % p384 then some (x, y) else none

/-- The 96 bytes X ‖ Y of a point. -/
def Point.bytes : Point → Bytes
  | none => List.replicate 96 0
  | some (x, y) => beBytes 48 x ++ beBytes 48 y

/-- The x-coordinate of a point. -/
def Point.x : Point → Nat
  | none => 0
  | some (x, _) => x

/-- The public key of a private scalar. -/
def ecPublic (d : Nat) : Bytes := (Point.mul d p384G).bytes

/-- ECDSA verification over the 48-byte digest `e`; a malformed key or signature fails (R363).
Marks: log 9 (DESIGN CHOICE). -/
def ecdsaVerify (key e sig : Bytes) : Bool :=
  let r := ofBE (sig.take 48)
  let t := ofBE (slice sig 48 48)
  match pointOf key with
  | none => false
  | some q =>
    if r = 0 ∨ p384n ≤ r ∨ t = 0 ∨ p384n ≤ t then false
    else
      let w := invMod p384n t
      match Point.add (Point.mul (ofBE e * w % p384n) p384G) (Point.mul (r * w % p384n) (some q)) with
      | none => false
      | some (x, _) => x % p384n == r

/-- A scalar from 56 bytes: the integer they spell, modulo n - 1, plus 1 (R357, R359). -/
def scalarOf (bs : Bytes) : Nat := ofBE bs % (p384n - 1) + 1

/-- The ECDSA private scalar of a slot's seed (R357). -/
def ecScalar (seed : Bytes) : Nat := scalarOf (kmac256 seed (ascii "EC-P384") 56 (ascii "icvia-pke-v2"))

/-- The ML-DSA seed ξ of a slot's seed (R357). -/
def mldsaSeed (seed : Bytes) : Bytes := kmac256 seed (ascii "ML-DSA-87") 32 (ascii "icvia-pke-v2")

/-- An ECDSA signature over the 48-byte digest `e` with 32 fresh bytes `rnd` (R359). -/
def ecdsaSign (d : Nat) (e rnd : Bytes) : Bytes :=
  let k := scalarOf (kmac256 (beBytes 48 d) (rnd ++ e) 56 (ascii "icvia-ecdsa-k"))
  let r := (Point.mul k p384G).x % p384n
  beBytes 48 r ++ beBytes 48 (invMod p384n k * (ofBE e + r * d) % p384n)

/-- The ECDH shared secret with a peer point: its x-coordinate (R354).
Marks: log 9 (DESIGN CHOICE). -/
def ecdhShared (d : Nat) (q : Nat × Nat) : Bytes := beBytes 48 (Point.mul d (some q)).x

end Sys2Proof.Machine
end

