-- ==== Sys2Proof/Machine/Lattice.lean ====
section
/-!
DEFINITION. Machine/Lattice.lean: polynomials of 256 coefficients modulo a prime, as ML-KEM and ML-DSA share them (FIPS 203,
FIPS 204): the transform, packing of coefficients in bytes, and sampling from a squeezed sponge. The spec names the two
standards (R354), and their content is taken from them.
-/
namespace Sys2Proof.Machine

/-- A polynomial: its 256 coefficients, lowest degree first, each below the modulus. -/
abbrev Poly := List Nat

/-- The polynomial 0. -/
def Poly.zero : Poly := List.replicate 256 0

/-- Sum and difference of residues, coefficient by coefficient. -/
def polyAdd (q : Nat) (a b : Poly) : Poly := List.zipWith (fun x y => (x + y) % q) a b
def polySub (q : Nat) (a b : Poly) : Poly := List.zipWith (subMod q) a b

/-- The lowest `n` bits of `v` in reverse order. -/
def revBits : Nat → Nat → Nat
  | 0, _ => 0
  | n + 1, v => v % 2 * 2 ^ n + revBits n (v / 2)

/-- The transform of the node `k` of the butterfly tree, `d` levels above its leaves: the halves of `f`, the upper one
turned by `turn k`, added and subtracted, go to the nodes 2k and 2k + 1. -/
def nttNode (q : Nat) (turn : Nat → Nat) : Nat → Nat → Poly → Poly
  | 0, _, f => f
  | d + 1, k, f =>
    let h := f.length / 2
    let hi := (f.drop h).map fun x => x * turn k % q
    nttNode q turn d (2 * k) (polyAdd q (f.take h) hi) ++ nttNode q turn d (2 * k + 1) (polySub q (f.take h) hi)

/-- What undoes `nttNode`: `back k` is half the inverse of the turn of node `k`. -/
def nttBack (q : Nat) (back : Nat → Nat) : Nat → Nat → Poly → Poly
  | 0, _, f => f
  | d + 1, k, f =>
    let h := f.length / 2
    let a := nttBack q back d (2 * k) (f.take h)
    let b := nttBack q back d (2 * k + 1) (f.drop h)
    (polyAdd q a b).map (fun x => x * ((q + 1) / 2) % q) ++ (polySub q a b).map fun x => x * back k % q

/-- Coefficients of `d` bits each packed in bytes, the first in the lowest bits. -/
def packBits (d : Nat) (l : List Nat) : Bytes := leBytes (l.length * d / 8) (l.foldr (fun a n => a % 2 ^ d + 2 ^ d * n) 0)

/-- `n` coefficients of `d` bits each read from a number, the first from the lowest bits. -/
def unpackNat (d : Nat) : Nat → Nat → List Nat
  | 0, _ => []
  | n + 1, v => v % 2 ^ d :: unpackNat d n (v / 2 ^ d)

/-- The 256 coefficients of `d` bits each that stand in a byte string. -/
def unpackBits (d : Nat) (bs : Bytes) : List Nat := unpackNat d 256 (ofLE (bs.take (32 * d)))

/-- A padded sponge at `rate` over `m` under the SHAKE suffix, ready to be squeezed. -/
def xofStart (rate : Nat) (m : Bytes) : Sponge :=
  let h := ({} : Absorb).add rate m
  h.st.absorbBlock (h.lastBlock rate 0x1F)

/-- `n` values gathered from the blocks of a sponge, each of which gives what `pick` accepts of it; `fuel` bounds the
blocks. -/
def gather (rate n : Nat) (pick : Bytes → List Nat) : Nat → Sponge → List Nat → List Nat
  | 0, _, acc => acc
  | fuel + 1, a, acc =>
    let acc := acc ++ pick (a.out rate)
    if n ≤ acc.length then acc.take n else gather rate n pick fuel (keccakF a) acc

/-- What `f` makes of a byte string three bytes at a time; `n` bounds the groups. -/
def triples (f : Nat → Nat → Nat → List Nat) : Nat → Bytes → List Nat
  | n + 1, a :: b :: c :: l => f a.toNat b.toNat c.toNat ++ triples f n l
  | _, _ => []

/-- The matrix product of rows and a column of transformed polynomials, under the product `mul`. -/
def rowsTimes (q : Nat) (mul : Poly → Poly → Poly) (m : List (List Poly)) (v : List Poly) : List Poly :=
  m.map fun row => (List.zipWith mul row v).foldl (polyAdd q) Poly.zero

/-- `n` consecutive pieces of `len` bytes. -/
def pieces (len : Nat) : Nat → Bytes → List Bytes
  | 0, _ => []
  | n + 1, bs => bs.take len :: pieces len n (bs.drop len)

end Sys2Proof.Machine
end

