-- ==== Sys2Proof/Machine/Mldsa.lean ====
section
/-!
DEFINITION. Machine/Mldsa.lean: ML-DSA-87 (R354, FIPS 204): key generation from a seed, hedged signing with at most 1,024
attempts (R370), and verification, each over a message M′ that is formed already (R355). The content is the standard's.
-/
namespace Sys2Proof.Machine

/-- The modulus q of ML-DSA. -/
def dsaQ : Nat := 8380417

/-- γ1, γ2 and β of ML-DSA-87. -/
def dsaG1 : Nat := 524288
def dsaG2 : Nat := 261888
def dsaBeta : Nat := 120

/-- The power of 1753, a 512th root of unity modulo q, that node `k` turns by. -/
def dsaTurn (k : Nat) : Nat := powMod dsaQ 9 1753 (revBits 8 k)

/-- The transform and its inverse, over all eight levels. -/
def dsaNtt (f : Poly) : Poly := nttNode dsaQ dsaTurn 8 1 f
def dsaInvNtt (f : Poly) : Poly :=
  nttBack dsaQ (fun k => (dsaQ + 1) / 2 * powMod dsaQ 9 1753 (512 - revBits 8 k) % dsaQ) 8 1 f

/-- The product of transformed polynomials. -/
def dsaMul (a b : Poly) : Poly := List.zipWith (fun x y => x * y % dsaQ) a b

/-- The 23-bit number of three bytes, where it is below q. -/
def dsaPick (a b c : Nat) : List Nat := [a + 256 * b + 65536 * (c % 128)].filter fun x => x < dsaQ

/-- The matrix A of a public seed: row r, column s. -/
def dsaMatrix (rho : Bytes) : List (List Poly) :=
  (List.range 8).map fun r => (List.range 7).map fun c =>
    gather 168 256 (triples dsaPick 56) 65536 (xofStart 168 (rho ++ leBytes 1 c ++ leBytes 1 r)) []

/-- The coefficients from -2 to 2 that the half bytes of a block give; 15 gives none. -/
def dsaSmall (bs : Bytes) : List Nat :=
  (bs.flatMap fun b => [b.toNat % 16, b.toNat / 16]).filterMap fun v =>
    if v < 15 then some ((dsaQ + 2 - v % 5) % dsaQ) else none

/-- Polynomial `n` of the short secrets of a seed. -/
def dsaShort (seed : Bytes) (n : Nat) : Poly := gather 136 256 dsaSmall 65536 (xofStart 136 (seed ++ leBytes 2 n)) []

/-- The residue `x` as an integer between -q/2 and q/2. -/
def dsaCentre (x : Nat) : Int := if dsaQ / 2 < x then (x : Int) - dsaQ else x

/-- The least absolute value of the residue `x`. -/
def dsaAbs (x : Nat) : Nat := if dsaQ / 2 < x then dsaQ - x else x

/-- The greatest absolute value in a column. -/
def dsaNorm (v : List Poly) : Nat := v.foldl (fun m p => p.foldl (fun m x => max m (dsaAbs x)) m) 0

/-- The high part of a residue over 2^13, and what is left, modulo q. -/
def dsaRound (x : Nat) : Nat × Nat :=
  let hi := (x + 4095) / 8192
  (hi, subMod dsaQ x (hi * 8192))

/-- The high part of a residue over 2 γ2, one of sixteen, and its signed low part. -/
def dsaSplit (x : Nat) : Nat × Int :=
  let lo : Int := if dsaG2 < x % (2 * dsaG2) then (x % (2 * dsaG2) : Nat) - (2 * dsaG2 : Nat) else (x % (2 * dsaG2) : Nat)
  if (x : Int) - lo = (dsaQ : Int) - 1 then (0, lo - 1) else (((x : Int) - lo).toNat / (2 * dsaG2), lo)

/-- The high part corrected by a hint. -/
def dsaUseHint (h : Bool) (x : Nat) : Nat :=
  let s := dsaSplit x
  if !h then s.1 else if 0 < s.2 then (s.1 + 1) % 16 else (s.1 + 15) % 16

/-- A column's high parts in bytes. -/
def dsaHighs (w : List Poly) : Bytes := w.flatMap fun p => packBits 4 (p.map fun x => (dsaSplit x).1)

/-- One swap of the ball's shuffle: place `i` takes what stands at `j`, and a sign goes there. -/
def ballSwap (c : Poly) (i j : Nat) (neg : Bool) : Poly :=
  (c.set i (c.getD j 0)).set j (if neg then dsaQ - 1 else 1)

/-- The challenge polynomial with 60 signs: from place `i` on with `n` signs to come, over the stream `bs`. -/
def ballFrom (signs : Nat) : Nat → Nat → Bytes → Poly → Poly
  | 0, _, _, c => c
  | n + 1, i, bs, c =>
    match bs.dropWhile fun b => i < b.toNat with
    | [] => c
    | b :: rest => ballFrom signs n (i + 1) rest (ballSwap c i b.toNat (signs.testBit (i - 196)))

/-- The challenge polynomial of a 64-byte string. -/
def dsaBall (seed : Bytes) : Poly :=
  let bs := shake256 seed 8192
  ballFrom (ofLE (bs.take 8)) 60 196 (bs.drop 8) Poly.zero

/-- A key pair: ρ, K, the short secrets, t0, the encoded public key and its hash tr. -/
structure DsaKeys where
  rho : Bytes
  k : Bytes
  s1 : List Poly
  s2 : List Poly
  t0 : List Poly
  pub : Bytes
  tr : Bytes

/-- KeyGen_internal of a 32-byte seed. -/
def dsaKeys (xi : Bytes) : DsaKeys :=
  let h := shake256 (xi ++ [8#8, 7#8]) 128
  let rho := h.take 32
  let s1 := (List.range 7).map (dsaShort (slice h 32 64))
  let s2 := (List.range 8).map fun r => dsaShort (slice h 32 64) (7 + r)
  let as1 := (rowsTimes dsaQ dsaMul (dsaMatrix rho) (s1.map dsaNtt)).map dsaInvNtt
  let t := List.zipWith (polyAdd dsaQ) as1 s2
  let pub := rho ++ t.flatMap fun p => packBits 10 (p.map fun x => (dsaRound x).1)
  { rho := rho, k := slice h 96 32, s1 := s1, s2 := s2, t0 := t.map fun p => p.map fun x => (dsaRound x).2, pub := pub,
    tr := shake256 pub 64 }

/-- pkEncode of the key pair of a seed (R357).
Marks: log 101 (PRESUMED). -/
def mldsaPublic (xi : Bytes) : Bytes := (dsaKeys xi).pub

/-- The mask column of an attempt: `kappa` counts polynomials. -/
def dsaMask (seed : Bytes) (kappa : Nat) : List Poly :=
  (List.range 7).map fun r =>
    (unpackBits 20 (shake256 (seed ++ leBytes 2 (kappa + r)) 640)).map fun v => subMod dsaQ dsaG1 v

/-- The places of the ones of a hint, row by row. -/
def hintPlaces (h : List (List Bool)) : List (List Nat) := h.map fun p => (List.range 256).filter fun i => p.getD i false

/-- A hint in bytes: the places, filled to 75, then the running count of each row. -/
def hintBytes (rows : List (List Nat)) : Bytes :=
  let counts := (List.range 8).map fun i => ((rows.take (i + 1)).map List.length).foldl (· + ·) 0
  padTo 75 (rows.flatten.map (BitVec.ofNat 8)) ++ counts.map (BitVec.ofNat 8)

/-- One attempt at a signature. -/
def dsaAttempt (key : DsaKeys) (a : List (List Poly)) (mu seed : Bytes) (kappa : Nat) : Option Bytes :=
  let y := dsaMask seed kappa
  let w := (rowsTimes dsaQ dsaMul a (y.map dsaNtt)).map dsaInvNtt
  let ct := shake256 (mu ++ dsaHighs w) 64
  let c := dsaNtt (dsaBall ct)
  let times (v : List Poly) : List Poly := v.map fun p => dsaInvNtt (dsaMul c (dsaNtt p))
  let z := List.zipWith (polyAdd dsaQ) y (times key.s1)
  let r := List.zipWith (polySub dsaQ) w (times key.s2)
  let ct0 := times key.t0
  let low := r.any fun p => p.any fun x => dsaG2 - dsaBeta ≤ (dsaSplit x).2.natAbs
  let rows := hintPlaces (List.zipWith (List.zipWith fun x e =>
    (dsaSplit x).1 != (dsaSplit ((x + e) % dsaQ)).1) r ct0)
  if dsaG1 - dsaBeta ≤ dsaNorm z || low || dsaG2 ≤ dsaNorm ct0 || 75 < rows.flatten.length then none
  else some (ct ++ z.flatMap (fun p => packBits 20 (p.map fun x => subMod dsaQ dsaG1 x)) ++ hintBytes rows)

/-- At most `n` attempts. -/
def dsaAttempts (key : DsaKeys) (a : List (List Poly)) (mu seed : Bytes) : Nat → Nat → Option Bytes
  | 0, _ => none
  | n + 1, kappa =>
    match dsaAttempt key a mu seed kappa with
    | some s => some s
    | none => dsaAttempts key a mu seed n (kappa + 7)

/-- sigEncode of the hedged signature over `m` under the key pair of seed `xi`, with randomness `rnd`; none after 1,024
attempts (R370).
Marks: log 101 (PRESUMED). -/
def mldsaSign (xi m rnd : Bytes) : Option Bytes :=
  let key := dsaKeys xi
  let mu := shake256 (key.tr ++ m) 64
  dsaAttempts key (dsaMatrix key.rho) mu (shake256 (key.k ++ rnd ++ mu) 64) 1024 0

/-- The places of one hint row, `lo` to `hi` of the list, where they rise strictly. -/
def hintRow (ps : List Nat) (lo hi : Nat) : Option (List Nat) :=
  let l := (ps.drop lo).take (hi - lo)
  if hi < lo || 75 < hi || !(List.zipWith (fun a b => decide (a < b)) l (l.drop 1)).all id then none else some l

/-- The rows of an encoded hint, `n` of them from running count `lo` on; none where the encoding is malformed. -/
def hintRows (ps : List Nat) : List Nat → Nat → Option (List (List Nat))
  | [], lo => if (ps.drop lo).all fun x => x == 0 then some [] else none
  | hi :: l, lo =>
    match hintRow ps lo hi, hintRows ps l hi with
    | some r, some rs => some (r :: rs)
    | _, _ => none

/-- Verification of `sig` over `m` under an encoded public key.
Marks: log 101 (PRESUMED). -/
def mldsaVerify (key m sig : Bytes) : Bool :=
  let hs := ((sig.drop 4544).take 83).map fun b => b.toNat
  match hintRows (hs.take 75) (hs.drop 75) 0 with
  | none => false
  | some rows =>
    let ct := sig.take 64
    let z := (pieces 640 7 (sig.drop 64)).map fun bs => (unpackBits 20 bs).map fun v => subMod dsaQ dsaG1 v
    let t1 := (pieces 320 8 (key.drop 32)).map fun bs => dsaNtt ((unpackBits 10 bs).map fun x => x * 8192)
    let c := dsaNtt (dsaBall ct)
    let az := rowsTimes dsaQ dsaMul (dsaMatrix (key.take 32)) (z.map dsaNtt)
    let w := List.zipWith (fun x t => dsaInvNtt (polySub dsaQ x (dsaMul c t))) az t1
    let high := (List.zipWith (fun p r => packBits 4 (p.zipIdx.map fun e => dsaUseHint (r.contains e.2) e.1)) w rows).flatten
    let mu := shake256 (shake256 key 64 ++ m) 64
    sig.length == 4627 && key.length == 2592 && dsaNorm z < dsaG1 - dsaBeta && shake256 (mu ++ high) 64 == ct

end Sys2Proof.Machine
end

