-- ==== Sys2Proof/Machine/Mlkem.lean ====
section
/-!
DEFINITION. Machine/Mlkem.lean: ML-KEM-1024 (R354, FIPS 203): keys from 64 bytes of randomness, the input check of an
encapsulation key, encapsulation, and decapsulation with implicit rejection. The content is the standard's.
-/
namespace Sys2Proof.Machine

/-- The modulus q of ML-KEM. -/
def kemQ : Nat := 3329

/-- The power of 17, a 256th root of unity modulo q, that node `k` turns by. -/
def kemTurn (k : Nat) : Nat := powMod kemQ 8 17 (revBits 7 k)

/-- The transform and its inverse: seven levels, down to pairs of coefficients. -/
def kemNtt (f : Poly) : Poly := nttNode kemQ kemTurn 7 1 f
def kemInvNtt (f : Poly) : Poly := nttBack kemQ (fun k => 1665 * powMod kemQ 8 17 (256 - revBits 7 k) % kemQ) 7 1 f

/-- Products of pairs modulo X² - γ, where pair `i` has γ = 17 to the power 2 · rev(i) + 1. -/
def kemPairs : Nat → Poly → Poly → Poly
  | i, a0 :: a1 :: a, b0 :: b1 :: b =>
    let g := powMod kemQ 8 17 (2 * revBits 7 i + 1)
    (a0 * b0 + a1 * b1 % kemQ * g) % kemQ :: (a0 * b1 + a1 * b0) % kemQ :: kemPairs (i + 1) a b
  | _, _, _ => []

/-- The product of transformed polynomials. -/
def kemMul (a b : Poly) : Poly := kemPairs 0 a b

/-- The two 12-bit numbers of three bytes, where they are below q. -/
def kemPick (a b c : Nat) : List Nat := [a + 256 * (b % 16), b / 16 + 16 * c].filter fun x => x < kemQ

/-- A transformed polynomial sampled from 34 bytes. -/
def kemUniform (seed : Bytes) : Poly := gather 168 256 (triples kemPick 56) 65536 (xofStart 168 seed) []

/-- The matrix A of a public seed: row i, column j; `t` for its transpose. -/
def kemMatrix (t : Bool) (rho : Bytes) : List (List Poly) :=
  (List.range 4).map fun i => (List.range 4).map fun j =>
    kemUniform (rho ++ (if t then leBytes 1 i ++ leBytes 1 j else leBytes 1 j ++ leBytes 1 i))

/-- A polynomial of the centred binomial distribution with η = 2, from seed and counter. -/
def kemNoise (seed : Bytes) (n : Nat) : Poly :=
  (unpackBits 4 (shake256 (seed ++ leBytes 1 n) 128)).map fun v =>
    (v % 2 + v / 2 % 2 + kemQ - v / 4 % 2 - v / 8 % 2) % kemQ

/-- Four noise polynomials from counter `n` on. -/
def kemNoises (seed : Bytes) (n : Nat) : List Poly := (List.range 4).map fun i => kemNoise seed (n + i)

/-- A residue rounded to `d` bits, and back. -/
def kemCompress (d x : Nat) : Nat := (2 ^ (d + 1) * x + kemQ) / (2 * kemQ) % 2 ^ d
def kemDecompress (d y : Nat) : Nat := (2 * kemQ * y + 2 ^ d) / 2 ^ (d + 1)

/-- The inner product of two columns. -/
def kemDot (a b : List Poly) : Poly := (List.zipWith kemMul a b).foldl (polyAdd kemQ) Poly.zero

/-- The key pair of K-PKE from 32 bytes: the encapsulation key and the transformed secret. -/
def kpkeKeys (d : Bytes) : Bytes × List Poly :=
  let g := sha3_512 (d ++ [4#8])
  let s := (kemNoises (slice g 32 32) 0).map kemNtt
  let e := (kemNoises (slice g 32 32) 4).map kemNtt
  let t := List.zipWith (polyAdd kemQ) (rowsTimes kemQ kemMul (kemMatrix false (g.take 32)) s) e
  (t.flatMap (packBits 12) ++ g.take 32, s)

/-- The columns of an encapsulation key. -/
def kemColumns (key : Bytes) : List Poly := (pieces 384 4 key).map fun bs => (unpackBits 12 bs).map fun x => x % kemQ

/-- K-PKE encryption of 32 bytes with 32 bytes of randomness. -/
def kpkeEncrypt (key m r : Bytes) : Bytes :=
  let y := (kemNoises r 0).map kemNtt
  let rho := slice key 1536 32
  let u := List.zipWith (polyAdd kemQ) ((rowsTimes kemQ kemMul (kemMatrix true rho) y).map kemInvNtt) (kemNoises r 4)
  let mu := (unpackBits 1 m).map (kemDecompress 1)
  let v := polyAdd kemQ (polyAdd kemQ (kemInvNtt (kemDot (kemColumns key) y)) (kemNoise r 8)) mu
  u.flatMap (fun p => packBits 11 (p.map (kemCompress 11))) ++ packBits 5 (v.map (kemCompress 5))

/-- K-PKE decryption. -/
def kpkeDecrypt (s : List Poly) (c : Bytes) : Bytes :=
  let u := (pieces 352 4 c).map fun bs => (unpackBits 11 bs).map (kemDecompress 11)
  let v := (unpackBits 5 (c.drop 1408)).map (kemDecompress 5)
  packBits 1 ((polySub kemQ v (kemInvNtt (kemDot s (u.map kemNtt)))).map (kemCompress 1))

/-- The encapsulation key of the key pair that 64 bytes of randomness, d ‖ z, give.
Marks: log 101 (PRESUMED). -/
def kemPublic (dz : Bytes) : Bytes := (kpkeKeys (dz.take 32)).1

/-- The input check of an encapsulation key: its length, and coefficients below q.
Marks: log 101 (PRESUMED). -/
def kemKeyValid (key : Bytes) : Bool :=
  key.length == 1568 && (pieces 384 4 key).all fun bs => (unpackBits 12 bs).all fun x => x < kemQ

/-- The shared secret and the randomness of an encapsulation of `m` to `key`. -/
def kemHash (key m : Bytes) : Bytes := sha3_512 (m ++ sha3_256 key)

/-- The shared secret that encapsulation to a key with 32 bytes of randomness gives.
Marks: log 101 (PRESUMED). -/
def kemSecret (key m : Bytes) : Bytes := (kemHash key m).take 32

/-- The ciphertext of that encapsulation.
Marks: log 101 (PRESUMED). -/
def kemCipher (key m : Bytes) : Bytes := kpkeEncrypt key m (slice (kemHash key m) 32 32)

/-- The secret that decapsulation gives: that of the message, or the pseudo-random one of a ciphertext that is not its
encryption.
Marks: log 101 (PRESUMED). -/
def kemDecaps (dz c : Bytes) : Bytes :=
  let keys := kpkeKeys (dz.take 32)
  let m := kpkeDecrypt keys.2 c
  if kemCipher keys.1 m = c then kemSecret keys.1 m else shake256 (slice dz 32 32 ++ c) 32

end Sys2Proof.Machine
end

