-- ==== Sys2Proof/Machine/PublicKey.lean ====
section
/-!
DEFINITION. Machine/PublicKey.lean: the public-key engine: its commands, its queue and what an operation answers
(11_public_key_engine.md). The attestation unit and the Kiln, which take an operation's answer inside the block, follow in
Attestation.lean.
-/
namespace Sys2Proof.Machine

/-- The engine changed by `f`. -/
def State.onPke (s : State) (f : Pke → Pke) : State := { s with pke := f s.pke }

/-- The requester number of a command block (R360). -/
def pkeId : Blk → Nat
  | .s => 2
  | .c => 3

/-- The command block of a requester number. -/
def pkeBlk (r : Nat) : Option Blk := if r = 2 then some .s else if r = 3 then some .c else none

/-- A requester has a command pending or running.
Marks: log 25 (DEDUCED). -/
def State.pkeBusy (s : State) (r : Nat) : Bool := (s.pke.queue.any fun c => c.req == r) || s.pke.running.any fun c => c.req == r

/-- PKE_CTRL.FREEZE. -/
def State.pkeFreeze (s : State) : Bool := bit (s.reg .pkeCtrl) 0

/-- The result code of a block. -/
def State.pkeCode (s : State) (b : Blk) (k : Code) : State :=
  match b with
  | .s => s.onPke fun p => { p with resS := k }
  | .c => s.onPke fun p => { p with resC := k }

/-! ### Requester memory (R362) -/

/-- A range of `n` bytes from offset `a` is permitted to a block. -/
def State.pkeRange (s : State) (b : Blk) (write : Bool) (a n : Nat) : Bool :=
  match b with
  | .s => psramRange a n
  | .c => a % 4 == 0 && ctlRange s.prt.gate.active a n && !(write && (s.imageLocked a n || inApplet a n))

/-- `n` bytes of the memory of requester `r`. -/
def State.pkeRead (s : State) (r a n : Nat) : Bytes := if r = 3 then s.csramBytes a n else s.psramBytes a n

/-- Bytes written to the memory of requester `r`. -/
def State.pkeWrite (s : State) (r a : Nat) (bs : Bytes) : State := if r = 3 then s.csramPut a bs else s.psramPut a bs

/-! ### Commands (R361 to R363) -/

/-- The byte ranges that a command reads, and the bytes it writes. -/
def pkeReads (op : PkeOp) (c : PkeCmd) : List (Nat × Nat) :=
  match op with
  | .ecVerify => [(c.key, 96), (c.sig, 96)]
  | .mldsaVerify => [(c.msg, c.len), (c.key, 2592), (c.sig, 4627)]
  | .hybVerify => [(c.msg, c.len), (c.key, 2688), (c.sig, 4723)]
  | .ecdhDerive => [(c.key, 96)]
  | .kemDecaps => [(c.sig, 1568)]
  | .kemEncaps => [(c.key, 1568)]
  | .hybSign | .pubkey | .ecdhKeygen | .kemKeygen | .expand => []

/-- How many bytes a command writes to memory. -/
def pkeOutLen (op : PkeOp) (toKiln : Bool) : Nat :=
  match op with
  | .pubkey => 2688
  | .ecdhKeygen => 96
  | .kemKeygen => 1568
  | .kemEncaps => if toKiln then 1568 else 1600
  | .hybSign | .ecVerify | .mldsaVerify | .hybVerify | .ecdhDerive | .kemDecaps | .expand => 0

/-- A command reads OP_MSG, OP_LEN and OP_CTX. -/
def pkeHasMsg (op : PkeOp) : Bool := op == .mldsaVerify || op == .hybVerify

/-- The operands of block `b` as they stand now, with the written word `w`. -/
def State.pkeOperands (s : State) (b : Blk) (op : PkeOp) (w : Word) : PkeCmd :=
  let k := blkIx b
  { op := op, req := pkeId b, slot := fld (s.reg .pkeOpSlot k) 0 14, gen := fld (s.reg .pkeOpSlot k) 16 8,
    digest := s.regBytes .pkeOpDigest k 12,
    ctx := (s.regBytes .pkeOpCtx k 16).take (fldN (s.reg .pkeOpCtxlen k) 0 7), msg := fldN (s.reg .pkeOpMsg k) 0 24,
    key := fldN (s.reg .pkeOpKey k) 0 24, sig := fldN (s.reg .pkeOpSig k) 0 24, out := fldN (s.reg .pkeOpOut k) 0 24,
    len := fldN (s.reg .pkeOpLen k) 0 21, toKiln := bit w 4, gate := b == .c && s.prt.gate.active }

/-- The requester may issue the command (R361). -/
def pkeAllowed (b : Blk) (op : PkeOp) (toKiln : Bool) : Bool :=
  match op with
  | .ecVerify | .mldsaVerify | .hybVerify | .pubkey => !toKiln
  | .ecdhKeygen | .ecdhDerive | .kemKeygen | .kemDecaps => b == .s && !toKiln
  | .kemEncaps => b == .s || !toKiln
  | .hybSign | .expand => false

/-- Slot 0 or 1, VALID, an attestation seed. -/
def State.seedSlot (s : State) (i : SlotIx) : Bool := i.toNat < 2 && (s.slot i).valid && (s.slot i).usage == usageSeed

/-- The refusals of R363. -/
def State.pkeRefusals (s : State) (b : Blk) (op : PkeOp) (w : Word) : List (Bool × Code) :=
  let c := s.pkeOperands b op w
  let ranges :=
    (pkeReads op c).all (fun r => s.pkeRange b false r.1 r.2) &&
      (pkeOutLen op c.toKiln = 0 || s.pkeRange b true c.out (pkeOutLen op c.toKiln))
  let empty := (op == .ecdhDerive && s.pke.ephEc.isNone) || (op == .kemDecaps && s.pke.ephKem.isNone)
  let slot := op == .pubkey
  [(s.pkeBusy (pkeId b) || s.pkeFreeze, .busy),
   (rsvSet .pkeCmd w || !pkeAllowed b op c.toKiln || !ranges || empty || (slot && !s.seedSlot c.slot), .deniedAttr),
   (pkeHasMsg op && (1048576 < c.len || 64 < fldN (s.reg .pkeOpCtxlen (blkIx b)) 0 7), .badLength),
   (slot && c.slot.toNat < 2 && s.slotUnusable c.slot, .integrity),
   (slot && c.slot.toNat < 2 && s.slotStale c.slot c.gen, .staleGen)]

/-- CMD written by a block (R363). Once halted, every command completes with ABORTED (R366).
Marks: log 26 (DEDUCED). -/
def State.pkeCommand (s : State) (b : Blk) (op : PkeOp) (w : Word) (e : MemErr := .none) : State :=
  if s.pke.halted then s.pkeCode b .aborted
  else
    let i := (s.pkeOperands b op w).slot
    let s := if op == .pubkey && i.toNat < 2 then s.fetchSlot i e else s
    match lowest (s.pkeRefusals b op w) with
    | some k => (s.countStale k).pkeCode b k
    | none => s.onPke fun p => { p with queue := p.queue ++ [s.pkeOperands b op w] }

/-- EC_VERIFY (R361). -/
def execEcVerify (b : Blk) (w : Word) (s : State) : Res := ranOn .d2 (fun s => s.pkeCommand b .ecVerify w) s
/-- MLDSA_VERIFY (R361). -/
def execMldsaVerify (b : Blk) (w : Word) (s : State) : Res := ranOn .d2 (fun s => s.pkeCommand b .mldsaVerify w) s
/-- HYB_VERIFY (R371). -/
def execHybVerify (b : Blk) (w : Word) (s : State) : Res := ranOn .d2 (fun s => s.pkeCommand b .hybVerify w) s
/-- ECDH_KEYGEN (R361). -/
def execEcdhKeygen (b : Blk) (w : Word) (s : State) : Res := ranOn .d2 (fun s => s.pkeCommand b .ecdhKeygen w) s
/-- ECDH_DERIVE (R361). -/
def execEcdhDerive (b : Blk) (w : Word) (s : State) : Res := ranOn .d2 (fun s => s.pkeCommand b .ecdhDerive w) s
/-- KEM_KEYGEN (R361). -/
def execKemKeygen (b : Blk) (w : Word) (s : State) : Res := ranOn .d2 (fun s => s.pkeCommand b .kemKeygen w) s
/-- KEM_DECAPS (R361). -/
def execKemDecaps (b : Blk) (w : Word) (s : State) : Res := ranOn .d2 (fun s => s.pkeCommand b .kemDecaps w) s
/-- KEM_ENCAPS (R361). -/
def execKemEncaps (b : Blk) (w : Word) (s : State) : Res := ranOn .d2 (fun s => s.pkeCommand b .kemEncaps w) s

/-! ### The queue (R360, R364) -/

/-- The pending command that the arbiter grants: the attestation unit's within its quota, else the oldest other. -/
def State.pkeWinner (s : State) : Option PkeCmd :=
  match (s.pke.queue.find? fun c => c.req == 1), decide (s.pke.used < 2) with
  | some c, true => some c
  | _, _ => s.pke.queue.find? fun c => c.req != 1

/-- The command granted; the ephemeral key that it consumes is taken (R364). -/
def State.pkeGrant (s : State) (c : PkeCmd) : State :=
  s.onPke fun p =>
    { p with
      queue := p.queue.erase c
      used := if c.req = 1 then p.used + 1 else p.used
      running := some { c with ec := p.ephEc.getD 0, kem := p.ephKem.getD [] }
      ephEc := if c.op = .ecdhDerive then none else p.ephEc
      ephKem := if c.op = .kemDecaps then none else p.ephKem }

/-- PKE_GRANT (R360): due while the engine is idle, not frozen, and a command is eligible. -/
def execPkeGrant (s : State) : Res :=
  ranIf (s.pke.running.isNone && !s.pkeFreeze && s.pkeWinner.isSome)
    (fun s => s.pkeWinner.elim s fun c => s.pkeGrant c) s

/-! ### Slots' keys (R357, R358) -/

/-- The cache entry of a slot. -/
def State.pkeCache (s : State) (i : SlotIx) : Option PkeEntry := if i = 0 then s.pke.cache0 else s.pke.cache1

/-- The cache entry of a slot put to `e`. -/
def State.setCache (s : State) (i : SlotIx) (e : Option PkeEntry) : State :=
  s.onPke fun p => if i = 0 then { p with cache0 := e } else { p with cache1 := e }

/-- The keys that a slot's seed expands to (R357). -/
def State.expandSlot (s : State) (i : SlotIx) : PkeEntry :=
  let seed := keyBytes (s.slot i).key
  ⟨(s.slot i).gen, ecScalar seed, mldsaSeed seed⟩

/-- The entry of a slot, filled first where it is empty or of another GEN (R358). -/
def State.pkeEntry (s : State) (i : SlotIx) : PkeEntry :=
  match s.pkeCache i with
  | some e => if e.gen = (s.slot i).gen then e else s.expandSlot i
  | none => s.expandSlot i

/-- The state with that entry filled. -/
def State.fillCache (s : State) (i : SlotIx) : State := s.setCache i (some (s.pkeEntry i))

/-- The EC public key, then the ML-DSA public key, of an entry. -/
def PkeEntry.public (e : PkeEntry) : Bytes := ecPublic e.d ++ mldsaPublic e.xi

/-- M′ of the pure form (R355). -/
def mPrime (ctx m : Bytes) : Bytes := 0x00 :: BitVec.ofNat 8 ctx.length :: (ctx ++ m)

/-- A hybrid verification: both legs must verify (R371). -/
def hybridOk (key digest ctx m sig : Bytes) : Bool :=
  let ec := ecdsaVerify (key.take 96) digest (sig.take 96)
  let ml := mldsaVerify (slice key 96 2592) (mPrime ctx m) (slice sig 96 4627)
  ec && ml

/-! ### Operations (R361 to R372) -/

/-- An operation draws from the TRNG (R356). -/
def pkeDraws (op : PkeOp) : Bool := op == .hybSign || op == .ecdhKeygen || op == .kemKeygen || op == .kemEncaps

/-- An operation uses a cache entry that is filled already. -/
def pkeCached (op : PkeOp) : Bool := op == .hybSign || op == .pubkey

/-- The ephemeral and shared-secret registers that the operation read or would have written, zeroed (R375). -/
def State.zeroTouched (s : State) (c : PkeCmd) : State :=
  s.onPke fun p =>
    match c.op with
    | .ecdhKeygen => { p with ephEc := none }
    | .ecdhDerive => { p with ephEc := none, ssEcdh := none }
    | .kemKeygen => { p with ephKem := none }
    | .kemDecaps => { p with ephKem := none, ssKem := none }
    | .kemEncaps => if c.toKiln then { p with ssKem := none } else p
    | _ => p

/-- A signature that fails its self-check is counted, and enters the health report (R372, R543). -/
def State.selfFail (s : State) : State :=
  (s.onPke fun p => { p with cntSelfcheck := tally p.cntSelfcheck }).health 5 .integrity

/-- A verification's code. -/
def verified (ok : Bool) : Code := if ok then .done else .badSignature

/-- What an operation does when it meets no fault: the state, its code, and the bytes that the Kiln or the attestation
unit takes. Operands in memory are read as they stand now. -/
def State.pkeCompute (s : State) (c : PkeCmd) : State × Code × Bytes :=
  let mem := fun a n => s.pkeRead c.req a n
  match c.op with
  | .ecVerify => (s, verified (ecdsaVerify (mem c.key 96) c.digest (mem c.sig 96)), [])
  | .mldsaVerify =>
    (s, verified (mldsaVerify (mem c.key 2592) (mPrime c.ctx (mem c.msg c.len)) (mem c.sig 4627)), [])
  | .hybVerify => (s, verified (hybridOk (mem c.key 2688) c.digest c.ctx (mem c.msg c.len) (mem c.sig 4723)), [])
  | .hybSign =>
    let e := s.pkeEntry c.slot
    let ec := ecdsaSign e.d c.digest (s.draw 32)
    let t := (s.fillCache c.slot).drew 64
    match mldsaSign e.xi (mPrime c.ctx c.attMsg) ((s.drew 32).draw 32) with
    | none => (t, .aborted, [])
    | some ml =>
      if hybridOk e.public c.digest c.ctx c.attMsg (ec ++ ml) then (t, .done, ec ++ ml) else (t.selfFail, .integrity, [])
  | .pubkey =>
    let out := (s.pkeEntry c.slot).public
    let s := s.fillCache c.slot
    (if c.req = 1 then s else s.pkeWrite c.req c.out out, .done, out)
  | .ecdhKeygen =>
    let d := scalarOf (s.draw 56)
    (((s.drew 56).onPke fun p => { p with ephEc := some d }).pkeWrite c.req c.out (ecPublic d), .done, [])
  | .ecdhDerive =>
    match pointOf (mem c.key 96) with
    | none => (s, .deniedAttr, [])
    | some q => (s.onPke fun p => { p with ssEcdh := some (ecdhShared c.ec q) }, .done, [])
  | .kemKeygen =>
    let dz := s.draw 64
    (((s.drew 64).onPke fun p => { p with ephKem := some dz }).pkeWrite c.req c.out (kemPublic dz),
      .done, [])
  | .kemDecaps =>
    (s.onPke fun p => { p with ssKem := some (kemDecaps c.kem (mem c.sig 1568)) }, .done, [])
  | .kemEncaps =>
    let key := mem c.key 1568
    if !kemKeyValid key then (s, .deniedAttr, [])
    else
      let m := s.draw 32
      let secret := kemSecret key m
      let cipher := kemCipher key m
      let s := s.drew 32
      if c.toKiln then ((s.onPke fun p => { p with ssKem := some secret }).pkeWrite c.req c.out cipher, .done, [])
      else (s.pkeWrite c.req c.out (cipher ++ secret), .done, [])
  | .expand => (s.setCache c.slot (some (s.expandSlot c.slot)), .done, sha3_384 (s.expandSlot c.slot).public)

/-- A fault that an operation can meet. An EXPAND that meets none has a row of its own. -/
def pkeFaultFits (c : PkeCmd) (f : PkeFault) : Bool :=
  match f with
  | .none => c.op != .expand
  | .corrected => true
  | .residue | .uncorr => true
  | .selfCheck => c.op == .hybSign
  | .cache => pkeCached c.op

/-- What a running operation answers, with the fault it met (R356, R358, R370, R372, R375). -/
def State.pkeResult (s : State) (c : PkeCmd) (f : PkeFault) : State × Code × Bytes :=
  match f with
  | .residue =>
    (((s.onPke fun p => { p with cntResidue := tally p.cntResidue }).zeroTouched c).health 5 .integrity, .integrity, [])
  | .uncorr =>
    (((s.onPke fun p => { p with cntUncorr := tally p.cntUncorr }).zeroTouched c).health 5 .integrity, .integrity, [])
  | .selfCheck =>
    ((s.fillCache c.slot).selfFail, .integrity, [])
  | .cache => ((s.setCache c.slot none).health 5 .integrity, .integrity, [])
  | .none => if pkeDraws c.op && s.trng.fail then (s, .integrity, []) else s.pkeCompute c
  | .corrected =>
    let s := s.onPke fun p => { p with cntCorrected := tally p.cntCorrected }
    if pkeDraws c.op && s.trng.fail then (s, .integrity, []) else s.pkeCompute c

/-- The running operation ends with code `k`: the engine is idle, and a block's result is set and its OP_DIGEST and OP_CTX
clear (R377). -/
def State.pkeEnd (s : State) (c : PkeCmd) (k : Code) : State :=
  let s := s.onPke fun p => { p with running := none }
  match pkeBlk c.req with
  | none => s
  | some b => ((s.pkeCode b k).clearReg .pkeOpDigest (blkIx b)).clearReg .pkeOpCtx (blkIx b)

end Sys2Proof.Machine
end

