-- ==== Sys2Proof/Machine/Reports.lean ====
section
/-!
DEFINITION. Machine/Reports.lean: what the attestation unit says: the report maps (R390 to R393, R420), their COSE
structures (R386, R387), the composite tree (R419) and the strings that SIGN_BIND signs (R404).
-/
namespace Sys2Proof.Machine

/-- TOP_VERSION (R1). -/
def topVersion : Word := 0x00020100

/-- The code of KLN_STATUS.ROOT. -/
def RootKind.code : RootKind → Nat
  | .none => 0
  | .test => 1
  | .device => 2

/-- A digest as a register shows it before anything is there: zero bytes. -/
def orZero (n : Nat) (bs : Bytes) : Bytes := padTo n bs

/-- The device ID digest; zero while the root register is empty (R381). -/
def State.devidDigest (s : State) : Bytes := if s.rootless then List.replicate 48 0 else orZero 48 s.kln.devid

/-- The alias digest; zero until the certificates are built, and while the root register is empty (R381). -/
def State.aliasDigest (s : State) : Bytes :=
  if s.rootless || s.att.certs.isNone then List.replicate 48 0 else sha3_384 s.att.aliasKeys

/-- The flags of key 7. -/
def State.reportFlags (s : State) (c : AttCmd) : Nat :=
  bitsToNat
    [c.deferred, !s.att.mainReady, s.crs.blockPending.isSome, s.kln.root == .test, s.lcs.debugOpen, s.boot.testSigner]

/-- The keys of R390. -/
def State.reportHead (s : State) (c : AttCmd) (kind : Nat) : List (Nat × Bytes) :=
  [(1, cborUint kind), (2, cborBytes c.nonce), (3, cborBytes s.devidDigest), (4, cborBytes (orZero 32 s.att.bootId)),
    (5, cborUint s.att.seq), (6, cborUint s.att.epoch), (7, cborUint (s.reportFlags c))]

/-! ### Platform report (R391) -/

/-- Key 13: the valid entries of the committed record. -/
def FwRecord.cbor (r : FwRecord) : Bytes :=
  cborArray ((r.entries.filter fun e => e.valid).map fun e =>
    cborMap [(1, cborUint e.typ.toNat), (2, cborUint e.version.toNat), (3, cborUint e.svn.toNat), (4, cborBytes e.digest)])

/-- Key 16: MR0 to MR15. -/
def State.mrsCbor (s : State) : Bytes :=
  cborArray ((List.range 16).map fun i => cborArray [cborBytes (s.mreg i).value, cborUint (s.mreg i).count.toNat])

/-- A set of flags as a number. -/
def State.finalBits (s : State) : Nat := bitsToNat ((List.range 4).map s.otp.finalised)

/-- At least one row or entry is marginal (R119). -/
def State.anyMarginal (s : State) : Bool := !s.otp.margMain.isEmpty || s.otp.margSpare != 0 || s.otp.margEntry != 0

/-- Key 17: the OTP array. -/
def State.otpCbor (s : State) : Bytes :=
  let digest (f : Nat) : Bytes := cborBytes (if s.otp.finalised f then s.otp.storedDigest f else [])
  cborMap
    [(1, cborUint s.finalBits), (2, cborUint s.otp.usable.toNat), (3, cborArray ((List.range 4).map digest)),
      (4, cborArray ((List.range 4).map fun i => cborUint (s.otp.svn i))), (5, cborUint s.otp.keyctr),
      (6, cborUint s.otp.redir.length), (7, cborBool s.anyMarginal)]

/-- Key 18: the life-cycle state. -/
def State.lcCbor (s : State) : Bytes :=
  cborMap [(1, cborUint s.lcs.state.code), (2, cborUint s.lcs.copyValid.toNat), (3, cborBool s.lcs.ashMark)]

/-- The lane groups DEDICATED to a partition, as a mask. -/
def State.groupMask (s : State) (p : PartId) : Nat := bitsToNat (s.sme.groups.map fun g => g.mode == 2 && g.part == p)

/-- The measurement registers assigned to a partition, as a mask. -/
def State.mrMask (s : State) (p : PartId) : Nat :=
  bitsToNat ((List.range 64).map fun i => (s.mreg i).owner == some p)

/-- Key 21: the defined partitions. -/
def State.partsCbor (s : State) : Bytes :=
  let ids : List PartId := ((List.range 64).map fun i => BitVec.ofNat 6 i).filter s.partDefined
  cborArray (ids.map fun p =>
    cborMap
      [(1, cborUint p.toNat), (2, cborUint (s.partGen p).toNat), (3, cborBool (s.partConf p)),
        (4, cborUint (s.groupMask p)), (5, cborUint (s.mrMask p)), (6, cborBool (s.chunkOk p)),
        (7, cborBytes (leBytes 32 (s.arraysOf p).toNat))])

/-- Key 22: the fence. -/
def State.fenceCbor (s : State) : Bytes :=
  cborMap
    [(1, cborUint s.fnc.planV), (2, cborUint s.fnc.floor), (3, cborUint s.fnc.ceil), (4, cborUint s.fncCore.count),
      (5, cborUint s.fnc.cntThrottle), (6, cborUint s.fnc.plan.wear)]

/-- An array's self-test result as key 23 holds it. -/
def AstState.code : AstState → Nat
  | .pass => 0
  | .fail => 1
  | .absent => 2
  | .notRun | .owed => 3

/-- Key 23: two bits per array. -/
def State.selfTestBytes (s : State) : Bytes :=
  (List.range 64).map fun i =>
    let c (k : Nat) : Nat := (Sparse.get .notRun s.ast (4 * i + k)).code
    BitVec.ofNat 8 (c 0 + 4 * c 1 + 16 * c 2 + 64 * c 3)

/-- The keys of R391. -/
def State.platformKeys (s : State) : List (Nat × Bytes) :=
  [(10, cborUint topVersion.toNat), (11, cborUint s.crs.strap.role.toNat), (12, cborUint s.att.record.release.toNat),
    (13, s.att.record.cbor), (14, cborBytes (orZero 64 s.boot.recDigest)), (15, cborBytes (orZero 64 s.boot.manDigest)),
    (16, s.mrsCbor), (17, s.otpCbor), (18, s.lcCbor), (19, cborUint s.kln.root.code), (20, cborBool s.lcs.confClosed),
    (21, s.partsCbor), (22, s.fenceCbor), (23, cborBytes s.selfTestBytes)]

/-! ### Job report (R392, R393) -/

/-- The code of a record's state in key 33. -/
def RecState.code : RecState → Nat
  | .collecting => 1
  | .formed => 2
  | .failed => 3
  | .faulted => 4

/-- Key 35: the owners of the mask. -/
def KRecord.ownersCbor (r : KRecord) : Bytes :=
  cborArray (((List.range 16).filter fun o => r.mask.getLsbD o).map fun o =>
    let h := r.shares.find? fun h => h.owner == o
    cborMap [(1, cborUint o), (2, cborBool h.isSome), (3, cborOpt (fun h => cborUint h.sid.toNat) h)])

/-- One entry of key 36. -/
def State.streamCbor (s : State) (r : KRecord) (t : ReqStream) : Bytes :=
  let entry : Option ExpEntry := t.bound.bind fun b =>
    let x := s.exp b.2.toNat
    if x.armed && x.part == r.part && x.job == r.job && x.sid == t.sid then some x else none
  let result : Nat := if t.equal then 0 else entry.elim 0xFF fun x => x.last.toNat
  cborMap
    [(1, cborUint t.sid.toNat), (2, cborOpt (fun b => cborUint b.1.toNat) t.bound),
      (3, cborOpt (fun b => cborUint b.2.toNat) t.bound), (4, cborOpt (fun x => cborUint x.owner.toNat) entry),
      (5, cborOpt (fun x => cborBytes (orZero 64 x.digest)) entry), (6, cborUint result)]

/-- The registers assigned to a partition. -/
def State.ownMrs (s : State) (p : PartId) : List Nat := (List.range 64).filter fun i => (s.mreg i).owner == some p

/-- The keys of R392. -/
def State.jobKeys (s : State) (r : KRecord) : List (Nat × Bytes) :=
  let d := (s.jobDigest r.part r.job).map (·.2)
  [(30, cborUint r.part.toNat), (31, cborUint r.pgen.toNat), (32, cborUint r.job.toNat), (33, cborUint r.state.code),
    (34, cborBytes (orZero 64 r.bind)), (35, r.ownersCbor), (36, cborArray ((sortStreams r.streams).map (s.streamCbor r))),
    (37, cborArray ((s.ownMrs r.part).map fun i =>
      cborArray [cborUint i, cborBytes (s.mreg i).value, cborUint (s.mreg i).count.toNat])),
    (38, cborOpt (fun x => cborBytes (orZero 64 x.gate)) d), (39, cborOpt (fun x => cborBytes (orZero 64 x.policy)) d)]

/-! ### Composite report (R419, R420) -/

/-- One entry of a leaf list. -/
structure LeafEntry where
  worker : Nat
  status : Nat
  rsv : Byte
  release : Nat
  leaf : Bytes
  deriving DecidableEq, Repr

/-- Entry `i` of the leaf list at `a`. -/
def State.leafEntry (s : State) (a i : Nat) : LeafEntry :=
  let b := s.csramBytes (a + 56 * i) 56
  { worker := ofLE (slice b 0 2), status := ofLE (slice b 2 1), rsv := b.getD 3 0, release := ofLE (slice b 4 4), leaf := slice b 8 48 }

/-- The leaf list of a command. -/
def State.leafList (s : State) (a n : Nat) : List LeafEntry := (List.range n).map (s.leafEntry a)

/-- Worker IDs rise strictly. -/
def workersRise : List LeafEntry → Bool
  | [] => true
  | [_] => true
  | x :: y :: l => decide (x.worker < y.worker) && workersRise (y :: l)

/-- A leaf list that COMPOSITE takes. -/
def leafListOk (l : List LeafEntry) : Bool := workersRise l && l.all fun e => e.status < 2 && e.rsv == 0

/-- The leaf of an entry. -/
def LeafEntry.value (e : LeafEntry) : Bytes := if e.status = 1 then sha3_384 (0x02 :: leBytes 2 e.worker) else e.leaf

/-- One level of the tree. -/
def treeLevel : List Bytes → List Bytes
  | x :: y :: l => sha3_384 (0x01 :: (x ++ y)) :: treeLevel l
  | l => l

/-- The root over a level, at most `n` levels high. -/
def treeRoot : Nat → List Bytes → Bytes
  | 0, l => l.headD []
  | n + 1, l =>
    match l with
    | [] => []
    | [x] => x
    | l => treeRoot n (treeLevel l)

/-- The keys of R420. -/
def compositeKeys (reqgen : Nat) (l : List LeafEntry) : List (Nat × Bytes) :=
  let answered := l.filter fun e => e.status == 0
  [(40, cborUint reqgen), (41, cborUint answered.length), (42, cborBytes (treeRoot 13 (l.map LeafEntry.value))),
    (43, cborArray ((l.filter fun e => e.status == 1).map fun e => cborUint e.worker)),
    (44, cborArray (answered.map fun e => cborArray [cborUint e.worker, cborUint e.release]))]

/-! ### The sample (R394) -/

/-- The payload that a report takes in its sample cycle, or the code with which it fails: DENIED_ATTR where its record is
gone or its leaf list is refused, INTEGRITY where a register it reads holds an uncorrectable error (R423). -/
def State.sample (s : State) (c : AttCmd) : Except Code Bytes :=
  let badMr (l : List Nat) : Bool := l.any fun i => (s.mreg i).bad
  match c.op with
  | .platform =>
    if badMr (List.range 16) then .error .integrity else .ok (cborMap (s.reportHead c 0 ++ s.platformKeys))
  | .job =>
    match s.record c.part.toNat c.job with
    | none => .error .deniedAttr
    | some (_, r) =>
      if badMr (s.ownMrs r.part) then .error .integrity else .ok (cborMap (s.reportHead c 1 ++ s.jobKeys r))
  | .composite =>
    let l := s.leafList c.list c.count
    if !leafListOk l then .error .deniedAttr
    else if badMr (List.range 16) then .error .integrity
    else .ok (cborMap (s.reportHead c 2 ++ s.platformKeys ++ compositeKeys c.reqgen l))
  | .signBind | .certRead => .error .deniedAttr

/-! ### COSE (R386, R387) -/

/-- The body protected header, {3: 60}. -/
def coseBody : Bytes := cborMap [(3, cborUint 60)]

/-- The protected header of a signature: {1: alg, 4: alias digest}; alg −35 or −50. -/
def coseSigner (ec : Bool) (kid : Bytes) : Bytes := cborMap [(1, cborNeg (if ec then 34 else 49)), (4, cborBytes kid)]

/-- The Sig_structure of an entry. -/
def coseTbs (ec : Bool) (kid payload : Bytes) : Bytes :=
  cborArray [cborText "Signature", cborBytes coseBody, cborBytes (coseSigner ec kid), cborBytes [], cborBytes payload]

/-- The report: COSE_Sign under tag 98. -/
def coseSign (kid payload ec ml : Bytes) : Bytes :=
  let entry (leg : Bool) (sig : Bytes) : Bytes := cborArray [cborBytes (coseSigner leg kid), cborMap [], cborBytes sig]
  cborTag 98 (cborArray [cborBytes coseBody, cborMap [], cborBytes payload, cborArray [entry true ec, entry false ml]])

/-- The length of a report's COSE_Sign. -/
def coseLength (kid payload : Bytes) : Nat := (coseSign kid payload (List.replicate 96 0) (List.replicate 4627 0)).length

/-! ### SIGN_BIND (R404) -/

/-- Four copies of a text. -/
def fourTimes (t : String) : Bytes := ascii t ++ ascii t ++ ascii t ++ ascii t

/-- The signed string M of a purpose and a hash. -/
def bindString (purpose : Nat) (h : Bytes) : Bytes :=
  let pre := if purpose = 3 then fourTimes "icvia-pq-offer-2" else fourTimes "dmtf-spdm-v1.3.*"
  let text :=
    ascii (if purpose = 0 then "responder-challenge_auth signing"
      else if purpose = 1 then "responder-key_exchange_rsp signing"
      else if purpose = 2 then "responder-measurements signing" else "icvia pq offer signing")
  pre ++ List.replicate (36 - text.length) 0 ++ text ++ h

/-- The ML-DSA context of SIGN_BIND. -/
def bindContext : Bytes := ascii "icvia-spdm-v2"

end Sys2Proof.Machine
end

