-- ==== Sys2Proof/Machine/Attestation.lean ====
section
/-!
DEFINITION. Machine/Attestation.lean: the attestation unit: its commands, its record and its certificates
(12_attestation.md), and the grants and completions of the DGE and the PKE, whose answers it and the Kiln take inside the
block.
-/
namespace Sys2Proof.Machine

/-- The attestation unit changed by `f`. -/
def State.onAtt (s : State) (f : Att → Att) : State := { s with att := f s.att }

/-! ### Completion -/

/-- The edge that a block's falling BUSY leaves at the interrupt controller (R470). -/
def State.attEdge (s : State) (b : Blk) : State :=
  { s with top := match b with
    | .s => { s.top with edgeSec := true }
    | .c => { s.top with edgeAtt := true } }

/-- The end of a command as the firmware that gave it finds it. -/
def FwTask.told (c : Code) (len : Nat) (t : FwTask) : FwTask := if t.done.isSome then t else { t with done := some (c, len) }

/-- A block's command ends with `c` and `len` bytes written; OP_NONCE and OP_HASH clear (R424). The firmware that gave it
finds its end. -/
def State.attDone (s : State) (b : Blk) (c : Code) (len : Nat) : State :=
  let s := s.onAtt fun a =>
    match b with
    | .s => { a with resS := c, lenS := len }
    | .c => { a with resC := c, lenC := len }
  let s := s.onFw fun w =>
    match b with
    | .s => { w with attS := w.attS.map (FwTask.told c len) }
    | .c => { w with attC := w.attC.map (FwTask.told c len) }
  (s.clearReg .attOpNonce (blkIx b)).clearReg .attOpHash (blkIx b)

/-- The running command ends. -/
def State.attEnd (s : State) (c : AttCmd) (k : Code) (len : Nat) : State :=
  ((s.onAtt fun a => { a with run := none }).attDone c.blk k len).attEdge c.blk

/-- One more command refused. -/
def State.attRefused (s : State) : State := s.onAtt fun a => { a with cntRefused := tally a.cntRefused }

/-- Bytes written to the requester's memory (R424). -/
def State.attWrite (s : State) (b : Blk) (a : Nat) (bs : Bytes) : State :=
  match b with
  | .s => s.psramPut a bs
  | .c => s.csramPut a bs

/-! ### Issue (R423, R424) -/

/-- A range of the requester's memory (R424, R362). -/
def State.attRange (s : State) (b : Blk) (write : Bool) (a n : Nat) : Bool :=
  match b with
  | .s => psramRange a n
  | .c => a % 4 == 0 && ctlRange false a n && !(write && (s.imageLocked a n || inApplet a n))

/-- The command that waits in a block. -/
def State.attPend (s : State) : Blk → Option AttCmd
  | .s => s.att.pendS
  | .c => s.att.pendC

/-- RESULT.BUSY of a block.
Marks: log 25 (DEDUCED). -/
def State.attBusy (s : State) (b : Blk) : Bool :=
  (s.attPend b).isSome || s.att.run.any fun r => r.cmd.any fun c => c.blk == b

/-- The operands of a block as they stand now. -/
def State.attOperands (s : State) (b : Blk) (op : AttOp) : AttCmd :=
  let k := blkIx b
  { blk := b, op := op, nonce := s.regBytes .attOpNonce k 8, hash := s.regBytes .attOpHash k 12,
    out := fldN (s.reg .attOpOut k) 0 24, max := fldN (s.reg .attOpMax k) 0 18, job := fld (s.reg .attOpJob k) 0 16,
    part := fld (s.reg .attOpJob k) 16 6, sel := fldN (s.reg .attOpSel k) 0 3, list := fldN (s.reg .attOpList k) 0 24,
    count := fldN (s.reg .attOpCount k) 0 13, reqgen := fldN (s.reg .attOpCount k) 13 8,
    deferred := s.att.handover && (op == .platform || op == .job || op == .composite) }

/-- A command that makes a report. -/
def AttOp.isReport (op : AttOp) : Bool := op == .platform || op == .job || op == .composite

/-- The DENIED_ATTR cases of a command (R404, R419, R423, R424). -/
def State.attDenied (s : State) (c : AttCmd) : Bool :=
  let sized := 131072 < c.max || !s.attRange c.blk true c.out c.max
  match c.op with
  | .platform => sized
  | .job => sized || (s.record c.part.toNat c.job).isNone
  | .signBind => !s.attRange c.blk true c.out 4723 || 4 ≤ c.sel || (c.sel == 3 && c.blk == .c)
  | .certRead => sized || 2 ≤ c.sel
  | .composite =>
    sized || c.blk == .s || s.crs.strap.role != 2 || c.count == 0 || 4096 < c.count ||
      !s.attRange .c false c.list (56 * c.count) || !leafListOk (s.leafList c.list c.count)

/-- The refusals of a command when it is written. -/
def State.attRefusals (s : State) (c : AttCmd) (w : Word) : List (Bool × Code) :=
  [(s.attBusy c.blk, .busy), (s.rootless && c.op != .platform, .deniedLc),
   (rsvSet .attCmd w || s.attDenied c, .deniedAttr), (c.op.isReport && s.att.epoch == 0, .incomplete)]

/-! ### Work -/

/-- Output written, or BAD_LENGTH where it would exceed OP_MAX. -/
def State.attOutput (s : State) (c : AttCmd) (bs : Bytes) (k : Code) : State :=
  if c.max < bs.length then s.attRefused.attEnd c .badLength 0
  else (s.attWrite c.blk c.out bs).attEnd c k bs.length

/-- The unit's request for a context raised, where it needs one and D3 can take it (R387, R241). -/
def State.attAsk (s : State) : State :=
  let needs := s.att.run.any fun r => r.phase == .context
  if needs && s.up .d3 && !s.dge.reqs.any fun r => r.who == 9 then
    (s.dimEnd 4).onDge fun d => { d with reqs := d.reqs ++ [⟨9, 0⟩] }
  else s

/-- The running work changed. -/
def State.attRunTo (s : State) (r : AttRun) : State := s.onAtt fun a => { a with run := some r }

/-- A report's command meets a handover: it waits, and is counted once as deferred (R413). -/
def State.attDefer (s : State) (r : AttRun) (c : AttCmd) : State :=
  let s := s.onAtt fun a =>
    let a := if c.deferred then a else { a with cntDeferred := tally a.cntDeferred }
    match c.blk with
    | .s => { a with defS := true }
    | .c => { a with defC := true }
  s.attRunTo { r with cmd := some { c with deferred := true }, phase := .sample }

/-- The payload of the sample cycle, with what SECDED finds in what the unit reads: expected-digest entries for a job
report, the leaf list for a composite (R234, R423). -/
def State.sampled (s : State) (c : AttCmd) (err : MemErr) : State × Except Code Bytes :=
  let t := if c.op = .job then s.smeErr err (some c.part) else s
  (t, if err = .uncorr then .error .integrity else s.sample c)

/-- The sample cycle (R394): the payload taken, or the command ends. With no root the bare payload is written (R396). -/
def State.attSample (s : State) (r : AttRun) (c : AttCmd) (err : MemErr) : State :=
  let x := s.sampled c err
  let s := x.1
  match x.2 with
  | .error k => s.attRefused.attEnd c k 0
  | .ok p =>
    if s.rootless then s.attOutput c p .deniedLc
    else if c.max < coseLength s.aliasDigest p then s.attRefused.attEnd c .badLength 0
    else (s.attRunTo { r with phase := .context, payload := some p }).attAsk

/-- A command begins. -/
def State.attBegin (s : State) (c : AttCmd) : State :=
  let r : AttRun := { cmd := some c, phase := .context }
  match c.op with
  | .signBind =>
    let m := bindString c.sel c.hash
    s.attRunTo { r with phase := .sign, digest := sha384 m, msg := m, ctx := bindContext }
  | .certRead =>
    let pair := s.att.certs.getD ([], [])
    (s.attRunTo r).attOutput c (if c.sel = 0 then pair.1 else pair.2) .done
  | _ =>
    if s.att.handover then s.attDefer r c
    else if s.rootless then s.attRunTo { r with phase := .sample }
    else (s.attRunTo r).attAsk

/-- What the waiting commands need is there: the certificates, while a root is set (R385). -/
def State.attOpen (s : State) : Bool := s.att.run.isNone && (s.rootless || s.att.certs.isSome)

/-- The next waiting command begins, block S first (R397). -/
def State.attNext (s : State) : State :=
  let s :=
    match s.att.pendS with
    | some c => if s.attOpen then (s.onAtt fun a => { a with pendS := none }).attBegin c else s
    | none => s
  match s.att.pendC with
  | some c => if s.attOpen then (s.onAtt fun a => { a with pendC := none }).attBegin c else s
  | none => s

/-- The unit's own work taken as far as it goes: a command that ends at once lets the next begin. -/
def State.attGoOn (s : State) : State := s.attNext.attNext.attAsk

/-- A command of a block refused with `k`; BUSY leaves the pending command's length and DEFERRED alone (R423). Every
completion clears OP_NONCE and OP_HASH (R424). -/
def State.attRefuse (s : State) (b : Blk) (k : Code) : State :=
  if k = .busy then
    let s := s.attRefused.onAtt fun a =>
      match b with
      | .s => { a with resS := .busy }
      | .c => { a with resC := .busy }
    (s.clearReg .attOpNonce (blkIx b)).clearReg .attOpHash (blkIx b)
  else
    (s.attRefused.attDone b k 0).onAtt fun a =>
      match b with
      | .s => { a with defS := false }
      | .c => { a with defC := false }

/-- CMD written by a block (R423).
Marks: log 26 (DEDUCED). -/
def State.attCommand (s : State) (b : Blk) (op : AttOp) (w : Word) : State :=
  let c := s.attOperands b op
  match lowest (s.attRefusals c w) with
  | some k => s.attRefuse b k
  | none =>
    (s.onAtt fun a =>
      let a := if c.deferred then { a with cntDeferred := tally a.cntDeferred } else a
      match b with
      | .s => { a with pendS := some c, defS := c.deferred }
      | .c => { a with pendC := some c, defC := c.deferred }).attGoOn

/-- PLATFORM_REPORT (R391). -/
def execPlatformReport (b : Blk) (w : Word) (s : State) : Res := ranOn .d2 (fun s => s.attCommand b .platform w) s
/-- JOB_REPORT (R392). -/
def execJobReport (b : Blk) (w : Word) (s : State) : Res := ranOn .d2 (fun s => s.attCommand b .job w) s
/-- SIGN_BIND (R404). -/
def execSignBind (b : Blk) (w : Word) (s : State) : Res := ranOn .d2 (fun s => s.attCommand b .signBind w) s
/-- CERT_READ (R423). -/
def execCertRead (b : Blk) (w : Word) (s : State) : Res := ranOn .d2 (fun s => s.attCommand b .certRead w) s
/-- COMPOSITE (R419). -/
def execAttComposite (b : Blk) (w : Word) (s : State) : Res := ranOn .d2 (fun s => s.attCommand b .composite w) s

/-! ### Samples and contexts -/

/-- REPORT_SAMPLE (R413): due once the handover that a report waits for is over, and for a report with no root, which needs
no context; `err`: what SECDED finds in what it reads. -/
def execReportSample (err : MemErr) (s : State) : Res :=
  ranIf ((s.att.run.any fun r => r.phase == .sample) && !s.att.handover)
    (fun s =>
      match s.att.run with
      | none => s
      | some r =>
        match r.cmd with
        | none => s
        | some c => (s.attSample r c err).attGoOn) s

/-- The unit absorbs ToBeSigned of the ECDSA entry on context `c`, which it holds until its FINAL READ completes (R387,
R244). -/
def State.attHash (s : State) (c : Nat) (r : AttRun) (p : Bytes) : State :=
  let bs := coseTbs true s.aliasDigest p
  let s := s.attRunTo { r with phase := .hashing, payload := some p, msg := coseTbs false s.aliasDigest p }
  (s.setCtx c { s.ctx c with part := bs, count := bs.length }).finalStart c .read

/-- The unit gives up a context that it needs no longer. -/
def State.attYield (s : State) (c : Nat) : State := s.endCtx c .done [] 0

/-- The unit takes context `c`, which it was granted: the sample is taken unless a handover began or it is taken already, and
the ECDSA digest begins (R387, R394).
Marks: log 89 (DEDUCED). -/
def State.attTake (s : State) (c : Nat) (err : MemErr) : State :=
  match s.att.run with
  | none => s.attYield c
  | some r =>
    match r.cmd, r.payload with
    | none, _ => s.attYield c
    | some _, some p => s.attHash c r p
    | some a, none =>
      if s.att.handover then (s.attYield c).attDefer r a
      else
        let x := s.sampled a err
        let s := x.1
        match x.2 with
        | .error k => ((s.attYield c).attRefused.attEnd a k 0).attGoOn
        | .ok p =>
          if a.max < coseLength s.aliasDigest p then ((s.attYield c).attRefused.attEnd a .badLength 0).attGoOn
          else s.attHash c r p

/-- DGE_GRANT (R242): due while a request and a free context meet and FREEZE is 0; `err`: what SECDED finds in what the
attestation unit samples with its context. -/
def execDgeGrant (err : MemErr) (s : State) : Res :=
  ranIf s.dgeGrantDue
    (fun s =>
      match s.dgeWinner, s.freeCtx with
      | some r, some c => if r.who = 9 then (s.dgeGrant).attTake c err else s.dgeGrant
      | _, _ => s) s

/-- The context that the unit was last granted. -/
def State.attCtx (s : State) : Nat := (s.dge.acq.getD 9 {}).ctx

/-- The unit's digest as the DGE leaves it: complete, the signature is asked for; the context abandoned, the command ends
with ABORTED; faulted, with INTEGRITY, and the unit abandons the context (R246, R262, R423).
Marks: log 89 (DEDUCED). -/
def State.attHashed (s : State) : State :=
  match s.att.run with
  | none => s
  | some r =>
    let x := s.ctx s.attCtx
    if r.phase ≠ .hashing ∨ (x.st ≠ .free ∧ x.st ≠ .faulted) then s
    else if x.st = .free ∧ x.code = .done ∧ x.digest ≠ [] then s.attRunTo { r with phase := .sign, digest := x.digest.take 48 }
    else
      let s := if x.st = .faulted then s.attYield s.attCtx else s
      match r.cmd with
      | none => s
      | some c => (s.attEnd c (if x.st = .faulted then .integrity else .aborted) 0).attGoOn

/-- DGE_FORCE_ABANDON (R246): DGE_ARB written. -/
def execDgeForceAbandon (w : Word) (s : State) : Res :=
  ran (fun s => if !s.d3Serves then s.refuseD3 else (s.arbWrite w).attHashed) s

/-- ABANDON (R264). -/
def execDgeAbandon (q : Req) (c : Fin 4) (w : Word) (s : State) : Res :=
  ran (fun s => s.ctxCommand q c.val fun s => (s.dgeAbandon c.val w).attHashed) s

/-- DGE_BLOCK_DONE (R240): due for the context whose block a core processes. -/
def execDgeBlockDone (c : Fin 4) (err : MemErr) (s : State) : Res :=
  ranIf (s.onCore c.val) (fun s => (s.blockDone c.val err).attHashed) s

/-! ### Certificates (R385) -/

/-- CERT_BUILD (R385): due once the ROM has handed over and a root is set. The alias keys are asked for first. -/
def execCertBuild (s : State) : Res :=
  ranIf (s.boot.stage == 5 && !s.rootless && s.att.certs.isNone && s.att.run.isNone)
    (fun s => s.attRunTo { cmd := none, phase := .pubkey }) s

/-- What the certificates say, with the alias keys `keys`. -/
def State.certInfo (s : State) (keys : Bytes) : CertInfo :=
  { devid := orZero 48 s.kln.devid, aliasKeys := sha3_384 keys, mrs := (List.range 6).map fun i => (s.mreg i).value,
    svns := s.boot.svns, testRoot := s.kln.root == .test, debugOpen := s.lcs.debugOpen }

/-- The alias keys have come: both TBSCertificates are built, and the signature is asked for with slot 0. -/
def State.certKeys (s : State) (r : AttRun) (keys : Bytes) : State :=
  let i := s.certInfo keys
  let tbs := certTbs i true keys
  let s := s.onAtt fun a => { a with aliasKeys := keys }
  s.attRunTo { r with phase := .sign, slot := 0, digest := sha384 tbs, msg := certTbs i false keys, tbs := tbs }

/-! ### Answers of the PKE -/

/-- A signature has come: the certificates are whole, a report is written and numbered (R398), or SIGN_BIND's output is
written. -/
def State.attSigned (s : State) (r : AttRun) (sig : Bytes) : State :=
  let ec := sig.take 96
  let ml := slice sig 96 4627
  match r.cmd with
  | none =>
    (s.onAtt fun a => { a with run := none, certs := some (certOf true r.tbs ec, certOf false r.msg ml) }).attGoOn
  | some c =>
    match r.payload with
    | some p =>
      let out := coseSign s.aliasDigest p ec ml
      let s := s.onAtt fun a => { a with seq := a.seq + 1, cntReports := tally a.cntReports }
      ((s.attWrite c.blk c.out out).attEnd c .done out.length).attGoOn
    | none => ((s.attWrite c.blk c.out sig).attEnd c .done sig.length).attGoOn

/-- The PKE has answered the unit. BUSY leaves the work as it is, to be issued again; a failure ends the command, and a
failed build begins anew. -/
def State.attAnswer (s : State) (k : Code) (out : Bytes) : State :=
  match s.att.run with
  | none => s
  | some r =>
    if k = .busy then s
    else if k = .done then
      match r.phase with
      | .keys => s.certKeys r out
      | .signing => s.attSigned r out
      | _ => s
    else
      match r.cmd with
      | none => s.onAtt fun a => { a with run := none }
      | some c => (s.attEnd c k 0).attGoOn

/-- The code of an operation of block S as the security firmware finds it, where a step of its leg waits for one (R407). -/
def PqWork.told (k : Code) (q : PqWork) : PqWork := if q.asked && q.code.isNone then { q with code := some k } else q

/-- The answer of an operation taken by whoever asked for it: the Kiln, the attestation unit, or a block, whose BUSY falls
(R470). -/
def State.pkeAnswer (s : State) (c : PkeCmd) (k : Code) (out : Bytes) : State :=
  let s := s.pkeEnd c k
  match c.req with
  | 0 => if k = .done then s.formFinish out else s.formFails k
  | 1 => s.attAnswer k out
  | 2 =>
    let s := s.onFw fun w => { w with pq := w.pq.map (PqWork.told k) }
    { s with top := { s.top with edgeSec := true } }
  | _ => { s with top := { s.top with edgePke := true } }

/-- PKE_OP_DONE (R367): due while an operation runs that can meet this fault. -/
def execPkeOpDone (fault : PkeFault) (s : State) : Res :=
  ranIf (s.pke.running.any fun c => pkeFaultFits c fault)
    (fun s =>
      match s.pke.running with
      | none => s
      | some c =>
        let r := s.pkeResult c fault
        r.1.pkeAnswer c r.2.1 r.2.2) s

/-- EXPAND (R358): due while the Kiln's EXPAND of this slot runs; it fills the cache entry. -/
def execPkeExpand (slot : Fin 2) (s : State) : Res :=
  ranIf (s.pke.running.any fun c => c.op == .expand && c.slot.toNat == slot.val)
    (fun s =>
      match s.pke.running with
      | none => s
      | some c =>
        let r := s.pkeResult c .none
        r.1.pkeAnswer c r.2.1 r.2.2) s

/-- The running operation stops with ABORTED (R378): nothing more is written. -/
def State.pkeAbandon (s : State) : State :=
  match s.pke.running with
  | none => s
  | some c => s.pkeAnswer c .aborted []

/-- PKE_ABANDON (R378): PKE_CTRL written. -/
def execPkeAbandon (w : Word) (s : State) : Res :=
  ranOn .d2 (fun s =>
    let s := s.setReg .pkeCtrl (w &&& 1)
    if bit w 1 then s.pkeAbandon else s) s

/-! ### Commands that the unit itself issues to the PKE -/

/-- The unit's command enters the queue, or is refused as R363 and R366 say.
Marks: log 89 (DEDUCED). -/
def State.attIssue (s : State) (op : PkeOp) (next : AttPhase) (e : MemErr) : State :=
  match s.att.run with
  | none => s
  | some r =>
    let slot : SlotIx := if op = .pubkey then 1 else r.slot
    if s.pke.halted then s.attAnswer .aborted []
    else
      let s := s.fetchSlot slot e
      match lowest [(s.pkeFreeze, .busy), (!s.seedSlot slot, .deniedAttr), (s.slotUnusable slot, .integrity)] with
      | some k => s.attAnswer k []
      | none =>
        let c : PkeCmd :=
          { op := op, req := 1, slot := slot, gen := (s.slot slot).gen, digest := r.digest, ctx := r.ctx, attMsg := r.msg,
            len := r.msg.length }
        (s.attRunTo { r with phase := next }).onPke fun p => { p with queue := p.queue ++ [c] }

/-- The unit waits to issue a command: its phase is `p`. -/
def State.attReady (s : State) (p : AttPhase) : Bool := s.att.run.any fun r => r.phase == p

/-- HYB_SIGN (R372): the attestation unit's; refused to the blocks (R361); `err`: what SECDED finds in the slot (R278). -/
def execHybSign (b : PkeReq) (w : Word) (err : MemErr) (s : State) : Res :=
  match b with
  | .att => ranIf (s.attReady .sign) (fun s => s.attIssue .hybSign .signing err) s
  | .s => ranOn .d2 (fun s => s.pkeCommand .s .hybSign w) s
  | .c => ranOn .d2 (fun s => s.pkeCommand .c .hybSign w) s

/-- PUBKEY (R361); `err`: what SECDED finds in the slot (R278). -/
def execPkePubkey (b : PkeReq) (w : Word) (err : MemErr) (s : State) : Res :=
  match b with
  | .att => ranIf (s.attReady .pubkey) (fun s => s.attIssue .pubkey .keys err) s
  | .s => ranOn .d2 (fun s => s.pkeCommand .s .pubkey w err) s
  | .c => ranOn .d2 (fun s => s.pkeCommand .c .pubkey w err) s

/-! ### The firmware record (R412) -/

/-- The types of the valid entries rise strictly. -/
def typesRise : List FwEntry → Bool
  | [] => true
  | [_] => true
  | x :: y :: l => decide (x.typ.toNat < y.typ.toNat) && typesRise (y :: l)

/-- A record that a commit may apply. -/
def FwRecord.ok (r : FwRecord) : Bool :=
  let valid := r.entries.takeWhile fun e => e.valid
  let gap := (r.entries.drop valid.length).any fun e => e.valid
  !gap && typesRise valid && [1, 2, 3, 4].all fun t => valid.any fun e => e.typ.toNat == t

/-- ATT_COMMIT with COMMIT = 1 (R412, R492). -/
def State.attCommit (s : State) : State :=
  if !s.att.staged.ok then s.onAtt fun a => { a with commitCode := .deniedAttr }
  else
    let s := s.onAtt fun a =>
      { a with record := a.staged, epoch := a.epoch + 1, handover := false, commitCode := .done }
    { s with top := { s.top with fwDigest := s.regBytes .topFwStage 0 16 } }

/-- ATT_COMMIT (R412).
Marks: log 56 (DEDUCED). -/
def execAttCommit (w : Word) (s : State) : Res := ranOn .d2 (fun s => if bit w 0 then s.attCommit else s) s

/-- ATT_CTRL.HANDOVER written by the security core: 1 sets it; 0 clears it and discards the staged record (R412). -/
def State.setHandover (s : State) (w : Word) : State :=
  s.onAtt fun a => if bit w 0 then { a with handover := true } else { a with handover := false, staged := a.record }

/-- HANDOVER_SET (R412). -/
def execHandoverSet (w : Word) (s : State) : Res := ranOn .d2 (fun s => s.setHandover w) s

/-- HANDOVER_CLEAR (R412). -/
def execHandoverClear (w : Word) (s : State) : Res := ranOn .d2 (fun s => s.setHandover w) s

/-- MAIN_READY (R415): the control cluster's write of ATT_CTRL. -/
def execMainReady (w : Word) (s : State) : Res :=
  ranOn .d2 (fun s => s.onAtt fun a => { a with mainReady := a.mainReady || bit w 1 }) s

end Sys2Proof.Machine
end

