-- ==== Sys2Proof/Machine/Access.lean ====
section
/-!
DEFINITION. Machine/Access.lean: the access maps of the cores and the access faults that they take (R449, R463, R465, R466,
R468, R469, R542).
-/
namespace Sys2Proof.Machine

/-! ### Kinds and spaces of TOP_AFAULT_INFO -/

/-- The RISC-V cause of an access fault (R468).
Marks: log 35 (DEDUCED). -/
def accCause : AccKind → Nat
  | .fetch => 1
  | .load => 5
  | .store | .amo => 7

/-- The KIND code.
Marks: log 35 (DEDUCED). -/
def accCode : AccKind → Nat
  | .fetch => 0
  | .load => 1
  | .store | .amo => 2

/-- The access changes what it names. -/
def accWrites (k : AccKind) : Bool := k == .store || k == .amo

/-- A physical address of device memory (R465).
Marks: log 35 (DEDUCED). -/
def deviceAddr (a : Nat) : Bool := 2 ^ 48 ≤ a && a < 2 ^ 49

/-- The SPACE code.
Marks: log 35 (DEDUCED). -/
def spaceCode (sp : AccSpace) (a : Nat) : Nat :=
  match sp with
  | .csram => 0
  | .reg => 1
  | .psram => 3
  | .other => if deviceAddr a then 2 else 3

/-! ### Maps -/

/-- `a` lies in `lo` to `hi`. -/
def within (a lo hi : Nat) : Bool := lo ≤ a && a ≤ hi

/-- R466: a control core's access to control SRAM offset `a`. SENSORTAB and the copy of the boot record are there to be read
alone, although R179 speaks of fetches from the locked ranges too.
Marks: log 115 (DEDUCED). -/
def State.csramAllowed (s : State) (k : AccKind) (a : Nat) : Bool :=
  if within a 0x000000 0xBFFFFF then !(accWrites k && s.imageLocked a 1)
  else if within a 0xC00000 0xDFFFFF then k != .fetch
  else if within a 0xE00000 0xE3FFFF then !accWrites k
  else if within a 0xE40000 0xE4FFFF then k == .load
  else if within a 0xE50000 0xE7FFFF then k != .fetch
  else if within a 0xE80000 0xEBFFFF then k == .load
  else if within a 0xEC0000 0xEEFFFF then false
  else if within a 0xEF0000 0xEFCFFF then k != .fetch
  else if within a 0xEFD000 0xEFFFFF then k == .load
  else false

/-- `a` lies in a region of kind `k` of the gate's partition. -/
def State.gateRegion (s : State) (k : BitVec 2) (a : Nat) : Bool :=
  (s.regionsOf s.prt.gate.part).any fun i => (s.region i).kind == k && (s.region i).lo ≤ a && a < (s.region i).hi

/-- The registers that core 7 reaches in gate mode (R449): block C of the PKE and of the comparator, the DGE, and the
partition manager's gate registers. -/
def gateReg (r : Reg) (blk : Nat) (write : Bool) : Bool :=
  match r with
  | .pkeCmd | .pkeResult | .pkeOpSlot | .pkeOpMsg | .pkeOpKey | .pkeOpSig | .pkeOpOut | .pkeOpLen | .pkeOpCtxlen
  | .pkeOpDigest | .pkeOpCtx | .cmpCmd | .cmpResult | .cmpA | .cmpB => blk == 1
  | .dgeAcquire | .dgeAcqStatus | .dgeCtxCmd | .dgeCtxResult | .dgeCtxStatus | .dgeCtxAux | .dgeCtxSrcLo | .dgeCtxSrcHi
  | .dgeCtxLen | .dgeCtxData | .dgeCtxExpect | .dgeCtxDigest => true
  | .prtGateStatus | .prtJobGate | .prtJobPolicy => !write
  | .prtGateYield => true
  | _ => false

/-- R449: core 7's access in gate mode.
Marks: log 33 (DEDUCED). -/
def State.gateAllowed (s : State) (k : AccKind) (a : Nat) : Bool :=
  if within a 0xE00000 0xE3FFFF || within a 0xE80000 0xEBFFFF then !accWrites k
  else if within a 0xEC0000 0xEEFFFF then k != .fetch
  else if within a 0x1000000 0x17FFFFF then
    k != .fetch && (decodeReg (a - 0x1000000)).any fun p => gateReg p.reg p.blk (accWrites k)
  else if deviceAddr a then
    (k == .load && s.gateRegion 2 (a - 2 ^ 48)) || (k == .store && s.gateRegion 3 (a - 2 ^ 48))
  else false

/-- R465: control core `core`'s access at physical address `a`; `machine`: in M-mode, which alone reaches the interrupt
controller. -/
def State.ctlAllowed (s : State) (core : Nat) (k : AccKind) (machine : Bool) (a : Nat) : Bool :=
  if core = 7 ∧ s.prt.gate.active = true then s.gateAllowed k a
  else if a ≤ 0xFFFFFF then s.csramAllowed k a
  else
    k != .fetch && (within a 0x1000000 0x17FFFFF || (machine && within a 0xC000000 0xFFFFFFF) || deviceAddr a)

/-- An access that meets what memory holds: every one but a store. -/
def accReads (k : AccKind) : Bool := k != .store

/-- R463: the security core's access of `2 ^ size` bytes at physical address `a`. The window takes what is naturally
aligned (R548), and serves while D5 is held.
Marks: log 35 (DEDUCED). -/
def secAllowed (k : AccKind) (size a : Nat) : Bool :=
  if within a 0x00000000 0x0001FFFF then !accWrites k
  else if within a 0x10000000 0x1003FFFF then true
  else if within a 0x20000000 0x207FFFFF then k != .fetch
  else if within a 0x20800000 0x20FFFFFF then k != .fetch && a % 2 ^ size == 0
  else false

/-- `a` lies in the security-gated window, in the security core's map (R463). -/
def inWindow (a : Nat) : Bool := within a 0x20800000 0x20FFFFFF

/-- The access meets the zeroing of control SRAM (R550). -/
def State.meetsZeroing (s : State) (a : Nat) : Bool := s.crs.zeroing && inWindow a

/-- Where the security core can meet an uncorrectable error: its private SRAM and the window (R469, R550). -/
def secMemory (a : Nat) : Bool := within a 0x10000000 0x1003FFFF || inWindow a

/-! ### Faults -/

/-- An access fault recorded unless one is recorded already, and counted (R468, R469).
Marks: log 35 (DEDUCED). -/
def State.recordFault (s : State) (f : Afault) : State :=
  { s with top :=
      { s.top with
        afault := if s.top.afault.valid then s.top.afault else f
        cntAfault := tally s.top.cntAfault } }

/-- Control core `core` takes an access fault; in gate mode core 7 leaves it (R449, R468).
Marks: log 35 (DEDUCED). -/
def State.coreFault (s : State) (core : Nat) (k : AccKind) (space : Nat) (a : BitVec 64) : State :=
  let gate := core == 7 && s.prt.gate.active
  let s := s.recordFault { valid := true, core := core, kind := accCode k, space := space, gate := gate, addr := a }
  let s := s.emit (.exception (some core) (accCause k))
  if gate then s.gateLeave .access else s

/-- The security core takes an access fault (R469).
Marks: log 35 (DEDUCED). -/
def State.secFault (s : State) (k : AccKind) (space : Nat) (a : BitVec 32) : State :=
  let s := s.recordFault { valid := true, kind := accCode k, space := space, sec := true, addr := a.setWidth 64 }
  s.emit (.exception none (accCause k))

/-- A control core's access meets an uncorrectable error of control SRAM or of a cache that holds its bytes (R542). -/
def State.ctlUncorr (s : State) (core : Nat) (k : AccKind) (machine : Bool) (a : Nat) : Bool :=
  s.ctlAllowed core k machine a && accReads k && decide (a ≤ 0xFFFFFF)

/-- The security core's access meets an uncorrectable error (R469, R550). -/
def secUncorr (k : AccKind) (size a : Nat) : Bool := secAllowed k size a && accReads k && secMemory a

/-- ACCESS_FAULT (R468, R542): due for an access that the maps forbid or, with `uncorr`, one that meets an uncorrectable
error.
Marks: log 35 (DEDUCED). -/
def execAccessFault (core : Fin 8) (kind : AccKind) (space : AccSpace) (addr : BitVec 64) (machine uncorr : Bool)
    (s : State) : Res :=
  let a := addr.toNat
  let err := uncorr && s.ctlUncorr core.val kind machine a
  ranIf (s.up .d5 && (err || !s.ctlAllowed core.val kind machine a))
    (fun s =>
      let s := if err then s.health 7 .integrity else s
      s.coreFault core.val kind (spaceCode space a) addr) s

/-- SEC_ACCESS_FAULT (R469, R542, R548, R550): due for an access of `2 ^ size` bytes that R463 or R548 forbids or, with
`uncorr`, one that meets an uncorrectable error; also, while control SRAM is being zeroed, for one through the window.
Marks: log 35 (DEDUCED); log 42 (DESIGN CHOICE). -/
def execSecAccessFault (kind : AccKind) (space : AccSpace) (size : Fin 3) (addr : BitVec 32) (uncorr : Bool)
    (s : State) : Res :=
  let a := addr.toNat
  let err := uncorr && secUncorr kind size.val a
  ranIf (s.up .d2 && (err || !secAllowed kind size.val a || s.meetsZeroing a))
    (fun s =>
      let s := if err && !s.meetsZeroing a then s.health 7 .integrity else s
      s.secFault kind (spaceCode space a) addr) s

/-! ### Requesters of registers -/

/-- Control core 7 is in gate mode, where it reaches few registers (R449). -/
def State.gateCore (s : State) (q : Req) : Bool := s.prt.gate.active && q == .ctl 7

/-- An access of core 7 in gate mode to register-space address `a`, outside its map: an access fault (R449). -/
def State.gateTrap (s : State) (k : AccKind) (a : Nat) : State :=
  s.coreFault 7 k 1 (BitVec.ofNat 64 (0x1000000 + a))

end Sys2Proof.Machine
end

