-- ==== Sys2Proof/Machine/Mailbox.lean ====
section
/-!
DEFINITION. Machine/Mailbox.lean: the four mailboxes (R471 to R477, R493), as their slots: direction A to B of mailbox `m`
is slot 2m, B to A is slot 2m + 1.
-/
namespace Sys2Proof.Machine

/-- The mailboxes changed by `f`. -/
def State.onMbx (s : State) (f : Mbx → Mbx) : State := { s with mbx := f s.mbx }

/-- The slot of a mailbox's direction. -/
def slotIx (m : Nat) (d : MbxDir) : Nat :=
  match d with
  | .ab => 2 * m
  | .ba => 2 * m + 1

/-- A direction's slot. -/
def State.mslot (s : State) (i : Nat) : MbxSlot := s.mbx.slots.getD i {}

/-- A direction's slot put to `v`. -/
def State.setMslot (s : State) (i : Nat) (v : MbxSlot) : State := s.onMbx fun x => { x with slots := setAt x.slots i v }

/-- A direction's slot changed by `f`. -/
def State.onMslot (s : State) (i : Nat) (f : MbxSlot → MbxSlot) : State := s.setMslot i (f (s.mslot i))

/-! ### Sides (R471) -/

/-- The requester is the control cluster outside gate mode.
Marks: log 38 (DESIGN CHOICE). -/
def State.cluster (s : State) (q : Req) : Bool :=
  match q with
  | .ctl _ => !s.gateCore q
  | _ => false

/-- The requester owns side A, or side B where `b`, of mailbox `m`. The two engines are no requesters. -/
def State.ownsSide (s : State) (q : Req) (m : Nat) (b : Bool) : Bool :=
  match m, b with
  | 0, false => q == .icp 0
  | 0, true => if s.att.mainReady then s.cluster q else q == .sec
  | 1, false => q == .sec
  | 1, true => s.cluster q
  | 2, false => false
  | 2, true => s.cluster q
  | 3, false => false
  | _, _ => q == .sec

/-- The requester sends in direction `d` of mailbox `m`. -/
def State.mbxSender (s : State) (q : Req) (m : Nat) (d : MbxDir) : Bool := s.ownsSide q m (d == .ba)

/-- The requester receives in direction `d` of mailbox `m`. -/
def State.mbxReceiver (s : State) (q : Req) (m : Nat) (d : MbxDir) : Bool := s.ownsSide q m (d == .ab)

/-- The domain of side B, or A, of a mailbox; the host side of MBX0 is in none.
Marks: log 71 (DEDUCED). -/
def State.sideDom (s : State) (m : Nat) (b : Bool) : Option Dom :=
  match m, b with
  | 0, false => none
  | 0, true => some (if s.att.mainReady then .d5 else .d2)
  | 1, false => some .d2
  | 1, true => some .d5
  | 2, false => some .d6
  | 2, true => some .d5
  | 3, false => some .d6
  | _, _ => some .d2

/-- The receiver's domain is released. -/
def State.receiverUp (s : State) (i : Nat) : Bool := (s.sideDom (i / 2) (i % 2 == 0)).all s.up

/-! ### Messages (R472, R473) -/

/-- The refusals of SEND (R473). -/
def State.sendRefusals (s : State) (i n : Nat) : List (Bool × Code) :=
  let v := s.mslot i
  [(v.full || (!v.aborted && !s.receiverUp i), .busy), (n = 0 || 16 < n, .badLength), (v.aborted, .aborted)]

/-- A message of `n` words posted: FULL sets, LEN is recorded, SEQ advances, CODE is DONE. -/
def State.post (s : State) (i n : Nat) : State :=
  s.onMslot i fun v => { v with full := true, len := n, seq := v.seq + 1, code := .done }

/-- SEND with LEN `n` in slot `i`; `ok` is what the receiving engine finds of the descriptor (R479, R504). -/
def State.sendSlot (s : State) (i n : Nat) (ok : Bool) : State × Bool :=
  match lowest (s.sendRefusals i n) with
  | some c => (s.onMslot i fun v => { v with code := c }, false)
  | none => if ok then (s.post i n, true) else (s.onMslot i fun v => { v with code := .aborted }, false)

/-- What a read of POP returns. -/
def MbxSlot.popWord (v : MbxSlot) : Word :=
  if v.full then putN v.len 0 5 ||| put v.seq 8 ||| putB true 31 else 0

/-- What a read of TX_STATUS returns. -/
def MbxSlot.status (v : MbxSlot) : Word :=
  putB v.full 0 ||| putB v.aborted 1 ||| putN v.len 2 5 ||| put v.seq 8 ||| putN v.code.num 16 8

/-- The pending message taken: FULL clears. -/
def State.take (s : State) (i : Nat) : State := s.onMslot i fun v => { v with full := false }

/-- A message that an engine or the firmware posts: its words, the rest 0. -/
def State.postMsg (s : State) (i : Nat) (ws : List Word) : State :=
  (s.onMslot i fun v => { v with msg := ws ++ List.replicate (16 - ws.length) 0 }).post i ws.length

/-- POP (R472, R473). -/
def execMbxPop (q : Req) (m : Fin 4) (d : MbxDir) (s : State) : Res :=
  ran (fun s =>
    let i := slotIx m.val d
    if s.gateCore q then s.gateTrap .load (Reg.mbxPop.row.addr i 0)
    else if !s.mbxReceiver q m.val d && (isIcp q || s.serves .d6) then s.emit (.code .deniedAttr)
    else if !s.serves .d6 then s.emit (.code .busy)
    else (s.emit (.read (s.mslot i).popWord)).take i) s

/-! ### Doorbells (R474, R477) -/

/-- Doorbell bits set in slot `i`. A host-to-firmware doorbell of MBX0 ends DIM (R105). -/
def State.ring (s : State) (i : Nat) (w : Word) : State :=
  let s := s.onMslot i fun v => { v with db := v.db ||| w }
  if i = 0 ∧ w ≠ 0 then s.dimEnd 1 else s

/-- DB_SET (R474): bit 31 has no effect.
Marks: log 38 (DESIGN CHOICE). -/
def execDbSet (q : Req) (m : Fin 4) (d : MbxDir) (w : Word) (s : State) : Res :=
  ran (fun s =>
    if s.gateCore q then s.gateTrap .store (Reg.mbxDbSet.row.addr (slotIx m.val d) 0)
    else if !s.mbxSender q m.val d && (isIcp q || s.serves .d6) then s.emit (.code .deniedAttr)
    else if !s.serves .d6 then s.emit (.code .busy)
    else s.ring (slotIx m.val d) (w &&& 0x7FFFFFFF#32)) s

/-- The rings of a write of MBX_RINGDB: the pending bit and doorbell 30 (R477). -/
def State.ringBell (s : State) (w : Word) : State :=
  (s.onMbx fun x => { x with ringPend := x.ringPend ||| (1#64 <<< fldN w 0 6) }).ring 0 (1#32 <<< 30)

/-- MBX_RINGDB (R477). -/
def execMbxRingdb (w : Word) (s : State) : Res :=
  ran (fun s => if !s.serves .d6 then s.emit (.code .busy) else s.ringBell w) s

/-! ### Resets (R475) -/

/-- A slot emptied: FULL and the doorbells clear; the mask, SEQ and MSG_IE stand. -/
def MbxSlot.cleared (v : MbxSlot) : MbxSlot := { v with full := false, db := 0, msg := List.replicate 16 0 }

/-- What the surviving side B, or A, of mailbox `m` finds: ABORTED in its sending and doorbell 31 in its receiving
direction.
Marks: log 71 (DEDUCED). -/
def State.sideSurvives (s : State) (m : Nat) (b : Bool) : State :=
  let sends := if b then 2 * m + 1 else 2 * m
  let gets := if b then 2 * m else 2 * m + 1
  let s := s.onMslot sends fun v => { v with aborted := true }
  s.onMslot gets fun v => { v with db := v.db ||| 1#32 <<< 31 }

/-- Side B, or A, of mailbox `m` is reset: both directions clear, and the other side survives.
Marks: log 71 (DEDUCED). -/
def State.sideReset (s : State) (m : Nat) (b : Bool) : State :=
  let s := (s.onMslot (2 * m) MbxSlot.cleared).onMslot (2 * m + 1) MbxSlot.cleared
  s.sideSurvives m !b

/-- Every mailbox side in domain `d` is reset (R475). -/
def State.sidesReset (s : State) (d : Dom) : State :=
  (List.range 4).foldl (fun s m =>
    [false, true].foldl (fun s b => if s.sideDom m b = some d then s.sideReset m b else s) s) s

/-- At a release of D6: every mailbox with a side in a domain that the episode did not reset; the host side of MBX0 is in
none.
Marks: log 71 (DEDUCED). -/
def State.mailboxesUp (s : State) (reached : Dom → Bool) : State :=
  (List.range 4).foldl (fun s m =>
    [false, true].foldl (fun s b =>
      let survivor := !((s.sideDom m b).any fun d => d == .d6 || reached d)
      if survivor then s.sideSurvives m b else s) s) { s with mbx := {} }

/-! ### Interrupts (R470, R476) -/

/-- A direction's receiver has a message pending under MSG_IE or an unmasked doorbell. -/
def MbxSlot.pending (v : MbxSlot) : Bool := (v.full && v.msgIe) || (v.db &&& v.mask) != 0

/-- INT_HOST0 to INT_HOST3 (R476): low while D6 is held in reset (R30). -/
def State.intHost (s : State) : BitVec 4 :=
  let v := s.mslot 1
  let d := v.db &&& v.mask
  if !s.up .d6 then 0
  else BitVec.ofNat 4 (bitsToNat
    [fld d 0 8 != 0, fld d 8 8 != 0, fld d 16 8 != 0, fld d 24 8 != 0 || (v.full && v.msgIe)])

end Sys2Proof.Machine
end

