-- ==== Sys2Proof/Machine/Cores.lean ====
section
/-!
DEFINITION. Machine/Cores.lean: the interrupt sources of the cores (R470) and the random numbers for software (R490).
-/
namespace Sys2Proof.Machine

/-! ### Interrupt status of the units -/

/-- INT_STATUS of an SME block. -/
def State.smeInt (s : State) (b : Blk) : Word :=
  let x := match b with
    | .s => s.sme.blkS
    | .c => s.sme.blkC
  putB (!x.resQ.isEmpty) 0 ||| putB x.intOverflow 1 ||| putB x.intSfault 2 ||| putB x.intIntegrity 3

/-- KLN_INT_STATUS. -/
def State.klnInt (s : State) : Word :=
  putB s.kln.intFormed 0 ||| putB s.kln.intFailed 1 ||| putB s.kln.intDrop 2 ||| putB s.kln.intIntegrity 3

/-- KFB_INT_STATUS: DONE and NEXT read 0 while their queue is empty. -/
def State.kfbInt (s : State) : Word :=
  putB (s.kfb.intDone && !s.kfb.doneQ.isEmpty) 0 ||| putB (s.kfb.intNext && !s.kfb.nextQ.isEmpty) 1 |||
    putB s.kfb.intFault 2 ||| putB s.kfb.intLate 3

/-- CNT_INT_STATUS: EXHAUSTED reads 0 while its queue is empty. -/
def State.cntInt (s : State) : Word := putB (s.cnt.intExh && !s.cnt.exhQ.isEmpty) 0 ||| putB s.cnt.intFault 1

/-- PRT_INT_STATUS. -/
def State.prtInt (s : State) : Word :=
  putB s.prt.intReleased 0 ||| putB s.prt.intGate 1 ||| putB s.prt.intScrubWait 2 ||| putB s.prt.intOrphans 3 |||
    putB s.prt.intTokdrop 4

/-- Source `n` of R470 is pending.
Marks: log 39 (PRESUMED). -/
def State.sourcePending (s : State) (n : Nat) : Bool :=
  match n with
  | 1 => s.att.mainReady && (s.mslot 0).pending
  | 2 => (s.mslot 2).pending
  | 3 => (s.mslot 4).pending
  | 4 => (s.smeInt .c &&& s.reg .smeIntMask 1) != 0
  | 5 => s.top.edgePke
  | 6 => s.top.edgeAtt
  | 7 => s.top.afault.valid && !s.top.afault.sec
  | 17 => !s.att.mainReady && (s.mslot 0).pending
  | 18 => (s.mslot 3).pending
  | 19 => (s.mslot 6).pending
  | 20 => (s.smeInt .s &&& s.reg .smeIntMask 0) != 0
  | 21 => (s.klnInt &&& s.reg .klnIntMask) != 0
  | 22 => (s.kfbInt &&& s.reg .kfbIntMask) != 0
  | 23 => (s.cntInt &&& s.reg .cntIntMask) != 0
  | 24 => (s.prtInt &&& s.reg .prtIntMask) != 0
  | 25 => s.top.edgeSec
  | 26 => s.top.afault.valid
  | _ => false

/-! ### The cluster interrupt controller -/

/-- The cluster interrupt controller changed by `f`. -/
def State.onPlic (s : State) (f : Plic → Plic) : State := { s with plic := f s.plic }

/-- The enable bits of context `c`. -/
def Plic.enabled (p : Plic) (c : Nat) : Word := p.enable.getD c 0

/-- Source `n` of the cluster's side can be claimed: it is pending, and no context holds it since an earlier claim.
Marks: log 39 (PRESUMED). -/
def State.claimable (s : State) (n : Nat) : Bool := n ≤ 7 && s.sourcePending n && !bit s.plic.claimed n

/-- What a claim by context `c` answers: of the enabled sources that can be claimed the one of the highest priority, the
lowest of several; 0 where there is none. A source of priority 0 is never claimed.
Marks: log 39 (PRESUMED). -/
def State.plicBest (s : State) (c : Nat) : Nat :=
  let prio (n : Nat) : Nat := s.plic.prio.getD n 0
  (List.range 8).foldl
    (fun best n => if s.claimable n && bit (s.plic.enabled c) n && prio best < prio n then n else best) 0

/-- The external interrupt of context `c`: a source that it enables can be claimed and is above its threshold.
Marks: log 39 (PRESUMED). -/
def State.plicNotifies (s : State) (c : Nat) : Bool :=
  (List.range 8).any fun n =>
    s.claimable n && bit (s.plic.enabled c) n && decide (s.plic.threshold.getD c 0 < s.plic.prio.getD n 0)

/-- The registers of the interrupt controller, by offset from 0x0C00_0000.
Marks: log 39 (PRESUMED). -/
inductive PlicReg where
  | prio (n : Nat) | pending | enable (c : Nat) | threshold (c : Nat) | claim (c : Nat) | none

/-- The register at offset `o`.
Marks: log 39 (PRESUMED). -/
def plicReg (o : Nat) : PlicReg :=
  if o % 4 ≠ 0 then .none
  else if o < 0x80 then .prio (o / 4)
  else if o = 0x1000 then .pending
  else if 0x2000 ≤ o ∧ o < 0x2800 ∧ o % 0x80 = 0 then .enable ((o - 0x2000) / 0x80)
  else if 0x200000 ≤ o ∧ o < 0x210000 ∧ o % 0x1000 = 0 then .threshold ((o - 0x200000) / 0x1000)
  else if 0x200000 ≤ o ∧ o < 0x210000 ∧ o % 0x1000 = 4 then .claim ((o - 0x200000) / 0x1000)
  else .none

/-- A write of one of its registers; a write of the claim register completes the source that it names, where the context
enables it.
Marks: log 39 (PRESUMED). -/
def State.plicWrite (s : State) (o : Nat) (w : Word) : State :=
  match plicReg o with
  | .prio n => if n = 0 then s else s.onPlic fun p => { p with prio := setAt p.prio n (fldN w 0 3) }
  | .enable c => s.onPlic fun p => { p with enable := setAt p.enable c (w &&& ~~~1#32) }
  | .threshold c => s.onPlic fun p => { p with threshold := setAt p.threshold c (fldN w 0 3) }
  | .claim c =>
    let n := w.toNat
    if n < 32 ∧ bit (s.plic.enabled c) n = true then
      s.onPlic fun p => { p with claimed := p.claimed &&& ~~~(1#32 <<< n) }
    else s
  | .pending | .none => s

/-- What a read of one of its registers but the claim register returns.
Marks: log 39 (PRESUMED). -/
def State.plicRead (s : State) (o : Nat) : Word :=
  match plicReg o with
  | .prio n => BitVec.ofNat 32 (s.plic.prio.getD n 0)
  | .pending => BitVec.ofNat 32 (bitsToNat ((List.range 8).map s.claimable))
  | .enable c => s.plic.enabled c
  | .threshold c => BitVec.ofNat 32 (s.plic.threshold.getD c 0)
  | .claim _ | .none => 0

/-- A claim takes source `n`: what an edge raised is no longer pending. -/
def State.clearEdge (s : State) (n : Nat) : State :=
  { s with top :=
      { s.top with
        edgePke := s.top.edgePke && n != 5
        edgeAtt := s.top.edgeAtt && n != 6
        edgeSec := s.top.edgeSec && n != 25 } }

/-- A control core's claim: its answer, which the context holds until it completes it. -/
def State.plicClaim (s : State) (c : Nat) : State :=
  let n := s.plicBest c
  let s := s.emit (.read (BitVec.ofNat 32 n))
  if n = 0 then s else (s.clearEdge n).onPlic fun p => { p with claimed := p.claimed ||| 1#32 <<< n }

/-- The security core takes the interrupt of source `n` at its vector: the claim answers the source if it is pending.
Marks: log 39 (PRESUMED). -/
def State.vectorClaim (s : State) (n : Nat) : State :=
  if 17 ≤ n && n ≤ 26 && s.sourcePending n then (s.emit (.read (BitVec.ofNat 32 n))).clearEdge n else s.emit (.read 0)

/-- INTERRUPT_CLAIM (R470): in gate mode core 7 reaches no interrupt controller (R449).
Marks: log 39 (PRESUMED). -/
def execInterruptClaim (who : Claimer) (s : State) : Res :=
  match who with
  | .cluster c =>
    ranIf (s.up .d5)
      (fun s =>
        if s.gateCore (.ctl (Fin.ofNat 8 (c.val / 2))) then
          s.coreFault 7 .load 3 (BitVec.ofNat 64 (0x0C200004 + 0x1000 * c.val))
        else s.plicClaim c.val) s
  | .security n => ranIf (s.up .d2) (fun s => s.vectorClaim n.val) s

/-! ### Random numbers (R490) -/

/-- The TRNG changed by `f`. -/
def State.onTrng (s : State) (f : Trng → Trng) : State := { s with trng := f s.trng }

/-- The bank of a requester; the control port reaches none. -/
def trngBank : Req → Option Nat
  | .sec => some 0
  | .ctl k => some (k.val + 1)
  | _ => none

/-- A read of TOP_TRNG_DATA by bank `b`: the oldest word, which is removed. -/
def State.trngPop (s : State) (b : Nat) : State :=
  match s.trng.banks.getD b [] with
  | [] => s.emit (.read 0)
  | w :: l => (s.emit (.read w)).onTrng fun t => { t with banks := setAt t.banks b l }

/-- TRNG_READ (R490).
Marks: log 7 (DESIGN CHOICE). -/
def execTrngRead (q : Req) (s : State) : Res :=
  ran (fun s =>
    if s.gateCore q then s.gateTrap .load (Reg.topTrngData.row.addr 0 0)
    else
      match trngBank q with
      | none => s.emit (.code .deniedAttr)
      | some b => if s.serves .d1 then s.trngPop b else s.emit (.code .busy)) s

/-- The word that the TRNG delivers next.
Marks: log 7 (DESIGN CHOICE). -/
def State.trngWord (s : State) : Word := BitVec.ofNat 32 (ofLE (s.draw 4))

/-- TRNG_REFILL (R490): the next bank in turn takes a word, unless it is full. Due while no health test has failed.
Marks: log 7 (DESIGN CHOICE). -/
def execTrngRefill (s : State) : Res :=
  ranIf (s.up .d1 && !s.trng.fail)
    (fun s =>
      let b := s.trng.next
      let turn (s : State) : State := s.onTrng fun t => { t with next := (b + 1) % 9 }
      if (s.trng.banks.getD b []).length < 16 then
        turn ((s.onTrng fun t => { t with banks := modAt t.banks b fun l => l ++ [s.trngWord] }).drew 4)
      else turn s) s

/-- TRNG_HEALTH_FAIL (R490). -/
def execTrngHealthFail (s : State) : Res :=
  ranIf (s.up .d1)
    (fun s => s.onTrng fun t =>
      { t with fail := true, fails := satInc 0xFFFF t.fails, banks := List.replicate 9 [] }) s

/-- The boot ID of this release of D2 drawn from the TRNG (R398). A failed TRNG delivers no word (R490): the ID reads 0 then,
and is drawn once the TRNG resumes.
Marks: log 118 (DESIGN CHOICE). -/
def State.drawBootId (s : State) : State :=
  if s.trng.fail || !s.att.bootId.isEmpty then s
  else (s.onAtt fun a => { a with bootId := s.draw 32 }).drew 32

/-- TRNG_RESUME (R490): the start-up test of a failed TRNG ends; if it passes, FAIL clears. -/
def execTrngResume (pass : Bool) (s : State) : Res :=
  ranIf (s.up .d1 && s.trng.fail)
    (fun s =>
      if !pass then s
      else
        let s := s.onTrng fun t => { t with fail := false }
        if s.up .d2 then s.drawBootId else s) s

end Sys2Proof.Machine
end

