-- ==== Sys2Proof/Machine/Firmware.lean ====
section
/-!
DEFINITION. Machine/Firmware.lean: what the resident firmware does beyond its register accesses: what it writes to device
memory and posts to the host, the commands that it gives the attestation unit and the PKE, and its use of the digest engine
and the comparator.
-/
namespace Sys2Proof.Machine

/-- The pause of an activation (R28, R512): from the handover request to the notice that the new main firmware serves.
Marks: log 83 (DEDUCED). -/
def State.paused (s : State) : Bool :=
  s.upd.any fun u =>
    match u.step with
    | .request => u.started
    | .idle | .block | .serve => true
    | .copy t => t == 3
    | _ => false

/-- The security core's switch to a new SECFW (steps 4 to 6 of R512): the resident loader runs. -/
def State.switching (s : State) : Bool := s.upd.any fun u => u.step == .copy 2 && u.started

/-- The main firmware serves: D5 runs, its SPDM responder has set MAIN_READY (R415), and no activation pauses it. -/
def State.mainServes (s : State) : Bool := s.serves .d5 && s.att.mainReady && !s.paused

/-- The security firmware serves: it runs, and D2 takes commands. -/
def State.secServes (s : State) : Bool := s.boot.stage == 5 && s.serves .d2 && !s.switching

/-- A row of CONFIG; 0 where the region is unusable (R125). -/
def State.configRow (s : State) (n : Nat) : BitVec 64 := if s.otp.isUsable 2 then s.otp.shadow n else 0

/-- Bytes of IDENT rows; 0 where the region is unusable (R125). -/
def State.identBytes (s : State) (a n : Nat) : Bytes :=
  if s.otp.isUsable 1 then s.otp.shadowBytes a n else List.replicate (8 * n) 0

/-! ### Messages -/

/-- A message of the firmware posted in slot `i`, its sender's ABORTED cleared first (R475). -/
def State.fwPost (s : State) (i : Nat) (ws : List Word) : State :=
  (s.onMslot i fun v => { v with aborted := false }).postMsg i ws

/-- A message can be posted in slot `i`. -/
def State.slotFree (s : State) (i : Nat) : Bool := s.serves .d6 && !(s.mslot i).full

/-- A message of `kind` goes through slot `i` of MBX1: it is posted, and its receiver takes it (R407).
Marks: log 68 (DESIGN CHOICE). -/
def State.mbx1Pass (s : State) (i kind : Nat) : State := (s.fwPost i (Config.fwMessage kind)).take i

/-! ### Device memory (R45 to R49, R467)

The port carries whole lines of 64 bytes. The firmware writes whole lines, up to 1 KiB at a time, and of a line that it
writes in part it reads the rest first. -/

/-- The crypto context of the control cores' accesses (R467). -/
def State.coreCtx (s : State) : EndpointId := fld (s.reg .topMpCtx) 0 12

/-- `n` bytes at `a` begin with whole lines. -/
def wholeLines (a n : Nat) : Bool := a % 64 == 0 && 64 ≤ n

/-- How many of `n` bytes at `a` go with one request: whole lines within 1 KiB, or what falls into the first line.
Marks: log 109 (DEDUCED). -/
def lineSpan (a n : Nat) : Nat :=
  if wholeLines a n then min (n / 64 * 64) (1024 - a % 1024) else min n (64 - a % 64)

/-- The line at `a` with `bs` put into it. -/
def patchLine (line : Bytes) (a : Nat) (bs : Bytes) : Bytes :=
  line.take (a % 64) ++ bs ++ line.drop (a % 64 + bs.length)

/-- The operation at the head of the queue put to `g`. -/
def State.ioHead (s : State) (g : FwIo) : State := s.onFw fun w => { w with io := g :: w.io.drop 1 }

/-- The head operation meets `c`: it writes no more (R49).
Marks: log 106 (DEDUCED). -/
def State.ioFail (s : State) (c : Code) : State :=
  match s.fw.io with
  | [] => s
  | g :: _ => (s.ioHead { g with ops := g.ops.drop 1, bad := some (g.bad.getD c) }).onFw fun w => { w with ioOut := false }

/-- A request of the cores on the memory port: partition 0, the context of TOP_MP_CTX (R467).
Marks: log 106 (DEDUCED). -/
def State.coreIssue (s : State) (write : Bool) (addr beats : Nat) (data : Bytes) : State :=
  (s.mpIssue write addr beats 0 s.coreCtx data .core).onFw fun w => { w with ioOut := true }

/-- The next request of a write of `data` at `a`: whole lines, or the line that it changes in part, read first.
Marks: log 106 (DEDUCED); log 109 (DEDUCED). -/
def State.ioWrite (s : State) (a : Nat) (data : Bytes) : State :=
  let n := lineSpan a data.length
  if s.gateBound s.coreCtx then s.ioFail .deniedAttr
  else if !s.mpRoom then s
  else if wholeLines a data.length then s.coreIssue true a (n / 64) (data.take n)
  else s.coreIssue false (a / 64 * 64) 1 []

/-- Word `k` of a message with a completion code put at bit `lo`. -/
def withCode (ws : List Word) (c : Code) (k lo : Nat) : List Word :=
  modAt ws k fun w => (w &&& ~~~ (0xFF#32 <<< lo)) ||| put c.byte lo

/-- The next act of the head operation, where it can be done: what follows a write waits for its acknowledgement (R48). Of an
operation that has failed no write goes out, no doorbell is rung, and a message is posted only if it tells the code.
Marks: log 106 (DEDUCED). -/
def State.ioStep (s : State) : State :=
  match s.fw.io with
  | [] => s
  | g :: rest =>
    let done := s.ioHead { g with ops := g.ops.drop 1 }
    match g.ops with
    | [] => s.onFw fun w => { w with io := rest }
    | .write a data :: _ =>
      if s.fw.ioOut then s
      else if data.isEmpty || g.bad.isSome then done
      else s.ioWrite a data
    | .bell bits :: _ => if g.bad.isSome then done else if s.serves .d6 then done.ring 1 bits else s
    | .post ws at_ :: _ =>
      match g.bad, at_ with
      | some _, none => done
      | some c, some p => if s.slotFree 1 then done.fwPost 1 (withCode ws c p.1 p.2) else s
      | none, _ => if s.slotFree 1 then done.fwPost 1 ws else s

/-- How many acts are queued, with the operations' ends. -/
def ioActs (l : List FwIo) : Nat := (l.map fun g => g.ops.length + 1).sum

/-- The queue taken as far as it goes. -/
def State.ioGo (s : State) : State := (List.range (ioActs s.fw.io)).foldl (fun s _ => s.ioStep) s

/-- An operation queued; `sec`: the security firmware's. -/
def State.ioRun (s : State) (sec : Bool) (ops : List FwOp) : State :=
  (s.onFw fun w => { w with io := w.io ++ [{ sec := sec, ops := ops }] }).ioGo

/-- The main firmware has done what it began on device memory and MBX0, and takes its next work. -/
def State.mainFree (s : State) : Bool := s.mainServes && s.fw.io.all fun g => g.sec

/-- The line that the head write changes in part has been read; with an error nothing of it is written (R49). -/
def State.ioFilled (s : State) (line : Bytes) (err : Bool) : State :=
  match s.fw.io with
  | g :: _ =>
    match g.ops with
    | .write a data :: _ =>
      if err then (s.ioFail .integrity).ioGo
      else
        let n := lineSpan a data.length
        s.coreIssue true (a / 64 * 64) 1 (patchLine line a (data.take n))
    | _ => s
  | [] => s

/-- A write request of the head write is acknowledged (R48, R49). -/
def State.ioAcked (s : State) (err : Bool) : State :=
  match s.fw.io with
  | g :: _ =>
    match g.ops with
    | .write a data :: ops =>
      if err then (s.ioFail .integrity).ioGo
      else
        let n := lineSpan a data.length
        let s := s.onFw fun w => { w with ioOut := false }
        (s.ioHead { g with ops := .write (a + n) (data.drop n) :: ops }).ioGo
    | _ => s
  | [] => s

/-- What the main firmware has queued is lost with D5 (R112); of the request on the port nobody takes the answer. -/
def State.ioLost (s : State) : State :=
  let out := s.fw.ioOut && (s.fw.io.head?.any fun g => !g.sec)
  let s := s.onFw fun w => { w with io := w.io.filter fun g => g.sec, ioOut := w.ioOut && !out, look := none, page := none }
  { s with mp := s.mp.map fun r =>
      if r.owner == .look || (out && r.owner == .core) then { r with owner := .void } else r }

/-! ### Commands to the attestation unit -/

/-- The command that the firmware has given by block `b`. -/
def State.fwTask (s : State) : Blk → Option FwTask
  | .s => s.fw.attS
  | .c => s.fw.attC

/-- That command put to `t`. -/
def State.setTask (s : State) (b : Blk) (t : Option FwTask) : State :=
  s.onFw fun w =>
    match b with
    | .s => { w with attS := t }
    | .c => { w with attC := t }

/-- The firmware of block `b` can give the attestation unit a command: its last one is over, and BUSY reads 0. -/
def State.attIdle (s : State) (b : Blk) : Bool := (s.fwTask b).isNone && !s.attBusy b

/-- Where the firmware has the attestation unit write: its own choice, in the private SRAM and in the general-use range of
R466.
Marks: log 68 (DESIGN CHOICE). -/
def fwOut : Blk → Nat
  | .s => 0x10000
  | .c => 0x0C40000

/-- What a command of `n` bytes has written there. -/
def State.fwOutput (s : State) (b : Blk) (n : Nat) : Bytes :=
  match b with
  | .s => s.psramBytes (fwOut .s) n
  | .c => s.csramBytes (fwOut .c) n

/-- The code of an ATT command (R423). -/
def AttOp.code : AttOp → Word
  | .platform => 1
  | .job => 2
  | .signBind => 3
  | .certRead => 4
  | .composite => 5

/-- CMD written by the firmware, the operands standing; `job`: what the command is for. -/
def State.attGive (s : State) (b : Blk) (op : AttOp) (job : FwJob) : State :=
  let s := s.setReg .attOpOut (BitVec.ofNat 32 (fwOut b)) (blkIx b)
  (s.setTask b (some { job := job })).attCommand b op op.code

/-- The words of a byte string put into consecutive registers from register `k` of `r` on. -/
def State.setWords (s : State) (r : Reg) (b n : Nat) (bs : Bytes) : State :=
  (List.range n).foldl (fun s k => s.setReg r (byteWord bs k) b k) s

/-- A report asked for with a nonce and room for `max` bytes. -/
def State.askReport (s : State) (b : Blk) (op : AttOp) (nonce : Bytes) (max : Nat) (job : FwJob) : State :=
  ((s.setWords .attOpNonce (blkIx b) 8 nonce).setReg .attOpMax (BitVec.ofNat 32 max) (blkIx b)).attGive b op job

/-- SIGN_BIND of `purpose` over a transcript hash asked for. -/
def State.askSign (s : State) (b : Blk) (purpose : Nat) (h : Bytes) (job : FwJob) : State :=
  ((s.setWords .attOpHash (blkIx b) 12 h).setReg .attOpSel (BitVec.ofNat 32 purpose) (blkIx b)).attGive b .signBind job

/-! ### The digest engine and the comparator (R242, R255, R257, R405)

What the firmware computes on the digest engine or gives the comparator goes, where a row of the table names the exchange
that it is part of, with that exchange: it waits until D3 serves and nothing else stands before it. -/

/-- A digest context is free, nothing waits before the firmware for one, and FREEZE is 0. -/
def State.dgeReady (s : State) : Bool := s.d3Serves && !s.dgeFreeze && s.freeCtx.isSome && s.dge.reqs.isEmpty

/-- Requester `who` has acquired a context `n` times and let it complete its FINAL each time; the last one left `v`.
Marks: log 110 (DESIGN CHOICE). -/
def State.dgeTurns (s : State) (who n : Nat) (v : Bytes) : State :=
  match s.freeCtx with
  | none => s
  | some c =>
    let gen := (s.ctx c).gen + BitVec.ofNat 8 n
    let s := s.setCtx c
      { gen := gen, resGen := gen, digest := padTo 64 v, lastHolder := BitVec.ofNat 4 who }
    s.onDge fun d =>
      { d with acq := setAt d.acq who ⟨true, c, gen⟩, used := if who = 0 then d.used + n else d.used }

/-- Slice 4 of the comparator is free, and nothing waits for it. -/
def State.sliceReady (s : State) : Bool := s.d3Serves && (s.cmp.slices.getD 4 none).isNone && s.cmp.reqs.isEmpty

/-- A context and slice 4 are free for a FINAL of requester `who` with DEST = COMPARE; the security core's quota of the
window has room (R242, R257). -/
def State.compareReady (s : State) (who : Nat) : Bool := s.dgeReady && s.sliceReady && (who != 0 || s.dge.used < 2)

/-- Slice 4 of the comparator is free, and block C has no comparison. -/
def State.cmpReady (s : State) : Bool := s.sliceReady && !s.cmpBusy .c

/-- A comparison that the main firmware has block C make (R257, R261).
Marks: log 110 (DESIGN CHOICE). -/
def State.cmpTurn (s : State) (equal : Bool) : State := s.cmpDone .c (if equal then .done else .notEqual)

/-- D3 does not serve what the firmware asks: the access ends DIM (R105), and the firmware tries again. -/
def State.d3Missed (s : State) : State := if s.d3Serves then s else s.dimEnd 4

/-! ### The Kiln and the TRNG -/

/-- Where the security firmware keeps a message for the Kiln, and where it has the Kiln write: its own choice.
Marks: log 68 (DESIGN CHOICE). -/
def fwMsg : Nat := 0x30000
/-- Where it has the Kiln write.
Marks: log 68 (DESIGN CHOICE). -/
def fwDst : Nat := 0x32000

/-- The lowest slot that a command may fill. -/
def State.freeSlot (s : State) : Option SlotIx :=
  ((List.range 16384).map fun i => BitVec.ofNat 14 i).find? s.destFree

/-- DESTROY of a slot under a GEN, issued by the security firmware. -/
def State.destroyNow (s : State) (i : SlotIx) (g : Gen) : State :=
  let w : Word := i.setWidth 32 ||| put g 16
  (s.setReg .klnOpSlot w).doDestroy 0 .none

/-- `n` bytes read by the main firmware through core 0's port of the TRNG (R490): the words of its bank, oldest first, then
the words that refill it; none while the TRNG has failed.
Marks: log 7 (DESIGN CHOICE). -/
def State.fwRandom (s : State) (n : Nat) : Option (State × Bytes) :=
  let words := (n + 3) / 4
  let bank := s.trng.banks.getD 1 []
  let fresh := 4 * (words - bank.length)
  if s.trng.fail then none
  else
    let t := (s.onTrng fun t => { t with banks := setAt t.banks 1 (bank.drop words) }).drew fresh
    some (t, (wordsToBytes (bank.take words) ++ s.draw fresh).take n)

end Sys2Proof.Machine
end

