-- ==== Sys2Proof/Machine/Peers.lean ====
section
/-!
DEFINITION. Machine/Peers.lean: what the main firmware of a manager knows of its workers: their signed reports (R388, R418),
their VERSION_INFO (R421), which of them are compatible (R519), and the protocol level of a job (R520).
-/
namespace Sys2Proof.Machine

/-! ### Reading CBOR -/

/-- The head of the item that begins `bs`: its major type, its argument, and what follows. Lengths are definite (R389). -/
def cborRead (bs : Bytes) : Option (Nat × Nat × Bytes) :=
  match bs with
  | [] => none
  | b :: l =>
    let major := b.toNat / 32
    let info := b.toNat % 32
    let long (n : Nat) : Option (Nat × Nat × Bytes) :=
      if l.length < n then none else some (major, ofBE (l.take n), l.drop n)
    if info < 24 then some (major, info, l)
    else if info = 24 then long 1
    else if info = 25 then long 2
    else if info = 26 then long 4
    else if info = 27 then long 8
    else none

/-- What follows `n` items; `fuel` bounds the heads read. -/
def cborSkip : Nat → Nat → Bytes → Option Bytes
  | _, 0, bs => some bs
  | 0, _ + 1, _ => none
  | fuel + 1, n + 1, bs =>
    match cborRead bs with
    | none => none
    | some (major, v, l) =>
      if major = 2 ∨ major = 3 then if l.length < v then none else cborSkip fuel n (l.drop v)
      else if major = 4 then cborSkip fuel (n + v) l
      else if major = 5 then cborSkip fuel (n + 2 * v) l
      else if major = 6 then cborSkip fuel (n + 1) l
      else cborSkip fuel n l

/-- What follows one item. -/
def cborNext (bs : Bytes) : Option Bytes := cborSkip (bs.length + 1) 1 bs

/-- Where the value of `key` begins among `n` pairs. -/
def cborFind (key : Nat) : Nat → Bytes → Option Bytes
  | 0, _ => none
  | n + 1, bs =>
    match cborRead bs with
    | some (0, k, l) => if k = key then some l else (cborNext l).bind (cborFind key n)
    | _ => none

/-- The value of `key` in the map that begins `bs`. -/
def cborGet (key : Nat) (bs : Bytes) : Option Bytes :=
  match cborRead bs with
  | some (5, n, l) => cborFind key n l
  | _ => none

/-- An unsigned integer. -/
def cborNat (bs : Bytes) : Option Nat :=
  match cborRead bs with
  | some (0, v, _) => some v
  | _ => none

/-- A byte string. -/
def cborStr (bs : Bytes) : Option Bytes :=
  match cborRead bs with
  | some (2, n, l) => if l.length < n then none else some (l.take n)
  | _ => none

/-- The next `n` items read by `f`. -/
def cborEach {α : Type} (f : Bytes → Option α) : Nat → Bytes → Option (List α)
  | 0, _ => some []
  | n + 1, bs => do
    let v ← f bs
    let l ← cborNext bs
    return v :: (← cborEach f n l)

/-! ### Signed reports -/

/-- The payload of a COSE_Sign under tag 98 (R386). -/
def cosePayload (r : Bytes) : Option Bytes :=
  match cborRead r with
  | some (6, 98, l) =>
    match cborRead l with
    | some (4, 4, l) => ((cborNext l).bind cborNext).bind cborStr
    | _ => none
  | _ => none

/-- The nonce of a report (key 2). -/
def reportNonce (r : Bytes) : Option Bytes := ((cosePayload r).bind (cborGet 2)).bind cborStr

/-- RELEASE_VERSION of a report (key 12). -/
def reportRelease (r : Bytes) : Option Nat := ((cosePayload r).bind (cborGet 12)).bind cborNat

/-- The firmware record of a report (key 13): TYPE, SVN and VERSION of each entry. -/
def reportRecord (r : Bytes) : Option (List (BitVec 8 × BitVec 8 × Word)) :=
  match ((cosePayload r).bind (cborGet 13)).bind cborRead with
  | some (4, n, l) =>
    cborEach (fun e => do
      let typ ← (cborGet 1 e).bind cborNat
      let version ← (cborGet 2 e).bind cborNat
      let svn ← (cborGet 3 e).bind cborNat
      return (BitVec.ofNat 8 typ, BitVec.ofNat 8 svn, BitVec.ofNat 32 version)) n l
  | _ => none

/-! ### Which workers take jobs -/

/-- What a worker last told of itself. -/
def State.info (s : State) (w : BitVec 12) : Option WorkerInfo := s.fw.infos.find? fun x => x.worker == w

/-- A worker's last signed report, where it has delivered one. -/
def State.workerReport (s : State) (w : BitVec 12) : Option Bytes := (s.fw.reports.find? fun x => x.1 == w).map (·.2)

/-- The worker's last signed report does not disagree with its last VERSION_INFO (R421). -/
def State.agrees (s : State) (i : WorkerInfo) : Bool :=
  match s.workerReport i.worker with
  | none => true
  | some r => reportRecord r == some (i.entries.map fun e => (e.1, e.2.1, e.2.2.1))

/-- The MIN_PEER_VERSION of the running set's entry of a type. -/
def State.minPeer (s : State) (t : Nat) : Word := ((s.boot.peers.find? fun e => e.1 == t).map fun e => e.2).getD 0

/-- The VERSION of the committed record's entry of a type. -/
def State.ownVersion (s : State) (t : Nat) : Option Word :=
  (s.att.record.entries.find? fun e => e.valid && e.typ.toNat == t).map fun e => e.version

/-- A worker is compatible with the manager (R519): for every part type of both committed records each side's VERSION is at
least the other's MIN_PEER_VERSION. -/
def State.compatible (s : State) (i : WorkerInfo) : Bool :=
  i.entries.all fun e =>
    match s.ownVersion e.1.toNat with
    | none => true
    | some v => decide ((s.minPeer e.1.toNat).toNat ≤ e.2.2.1.toNat) && decide (e.2.2.2.toNat ≤ v.toNat)

/-- The protocol level of a MAINFW version, or the major of its MIN_PEER_VERSION (R520): bits [31:24]. -/
def majorOf (v : Word) : Nat := fldN v 24 8

/-- VERSION and MIN_PEER_VERSION of a worker's MAINFW, part type 3. -/
def WorkerInfo.mainfw (i : WorkerInfo) : Option (Word × Word) :=
  (i.entries.find? fun e => e.1.toNat == 3).map fun e => (e.2.2.1, e.2.2.2)

/-- VERSION and MIN_PEER_VERSION of MAINFW of the manager and of these workers; none where one of them is not known. -/
def State.participants (s : State) (ws : List (BitVec 12)) : Option (List (Word × Word)) := do
  let own ← s.ownVersion 3
  let l ← ws.mapM fun w => (s.info w).bind WorkerInfo.mainfw
  return (own, s.minPeer 3) :: l

/-- The level of a job over the manager and these workers: the lowest among them (R520). -/
def jobLevel (l : List (Word × Word)) : Nat := l.foldl (fun n e => min n (majorOf e.1)) 255

/-- The main firmware of a manager schedules a job over these workers at this level: each is known, agrees with its report
and is compatible, and the level is at least every participant's MIN_PEER_VERSION major (R421, R519, R520).
Marks: log 66 (DEDUCED). -/
def State.spanLevel (s : State) (ws : List (BitVec 12)) : Option Nat :=
  if s.crs.strap.role = 2 ∧ (ws.all fun w => (s.info w).any fun i => s.agrees i && s.compatible i) = true then
    (s.participants ws).bind fun l =>
      if l.all fun e => decide (majorOf e.2 ≤ jobLevel l) then some (jobLevel l) else none
  else none

/-- A worker meets the rule for a job that runs at `level`: it agrees with its report, is compatible, and the level lies
between its MIN_PEER_VERSION major and its own level (R519, R520).
Marks: log 66 (DEDUCED). -/
def State.levelServed (s : State) (w : BitVec 12) (level : Nat) : Bool :=
  (s.info w).any fun i =>
    s.agrees i && s.compatible i &&
      (WorkerInfo.mainfw i).any fun v => decide (majorOf v.2 ≤ level) && decide (level ≤ majorOf v.1)

/-- The jobs that a worker takes part in are checked again, and withdrawn from it where it no longer meets the rule (R520).
Marks: log 66 (DEDUCED). -/
def State.recheckJobs (s : State) (w : BitVec 12) : State :=
  let keeps (j : SpanJob) : Bool := !j.workers.contains w || s.levelServed w j.level
  let lost := s.fw.jobs.filter fun j => !keeps j
  let s := s.onFw fun f =>
    { f with jobs := f.jobs.map fun j => if keeps j then j else { j with workers := j.workers.filter fun x => x != w } }
  lost.foldl (fun s j => s.emit (.jobWithdrawn j.ring w)) s

end Sys2Proof.Machine
end

