-- ==== Sys2Proof/Machine/Aes.lean ====
section
/-!
DEFINITION. Machine/Aes.lean: AES-256 (FIPS 197) and its Galois/Counter Mode (NIST SP 800-38D), which the responder's records
use (R405).
-/
namespace Sys2Proof.Machine

/-! ### The field of the S-box -/

/-- A byte times `x` modulo x^8 + x^4 + x^3 + x + 1. -/
def byteDouble (b : Byte) : Byte := if bit b 7 then (b <<< 1) ^^^ 0x1B#8 else b <<< 1

/-- The product of two bytes of the field. -/
def byteMul (a b : Byte) : Byte :=
  ((List.range 8).foldl (fun (acc : Byte × Byte) i => (if bit b i then acc.1 ^^^ acc.2 else acc.1, byteDouble acc.2))
    (0, a)).1

/-- The power 2^k − 2 of a byte, and its power 2^(k−1): for k = 8 the first is the inverse, with 0 its own. -/
def byteInverse : Nat → Byte → Byte × Byte
  | 0, b => (1, b)
  | k + 1, b =>
    let r := byteInverse k b
    let q := if k = 0 then b else byteMul r.2 r.2
    (if k = 0 then 1 else byteMul r.1 q, q)

/-- SubBytes of one byte: the inverse, and the affine map. -/
def subByte (b : Byte) : Byte :=
  let i := (byteInverse 8 b).1
  i ^^^ i.rotateLeft 1 ^^^ i.rotateLeft 2 ^^^ i.rotateLeft 3 ^^^ i.rotateLeft 4 ^^^ 0x63#8

/-- Two byte strings added. -/
def xorBytes : Bytes → Bytes → Bytes
  | [], _ => []
  | x :: a, k => (x ^^^ k.headD 0) :: xorBytes a k.tail

/-! ### The cipher -/

/-- The key schedule's words from number 8 on, the last eight before them in `w`, the newest last. -/
def aesKeyWords : Nat → Nat → Byte → List Bytes → List Bytes
  | 0, _, _, _ => []
  | n + 1, i, rcon, w =>
    let last := w.getD 7 []
    let t :=
      if i % 8 = 0 then xorBytes ((last.drop 1 ++ last.take 1).map subByte) [rcon, 0, 0, 0]
      else if i % 8 = 4 then last.map subByte
      else last
    let new := xorBytes (w.getD 0 []) t
    new :: aesKeyWords n (i + 1) (if i % 8 = 0 then byteDouble rcon else rcon) (w.drop 1 ++ [new])

/-- The fifteen round keys of a 32-byte key. -/
def aesRoundKeys (key : Bytes) : List Bytes :=
  let first := (List.range 8).map fun k => slice key (4 * k) 4
  let all := (first ++ aesKeyWords 52 8 1 first).flatMap id
  (List.range 15).map fun r => slice all (16 * r) 16

/-- ShiftRows, after SubBytes. -/
def aesShift (st : Bytes) : Bytes :=
  let sub := st.map subByte
  (List.range 16).map fun i => sub.getD ((i + 4 * (i % 4)) % 16) 0

/-- MixColumns. -/
def aesMix (st : Bytes) : Bytes :=
  (List.range 16).map fun i =>
    let at' (k : Nat) : Byte := st.getD (i / 4 * 4 + (i + k) % 4) 0
    byteDouble (at' 0) ^^^ (byteDouble (at' 1) ^^^ at' 1) ^^^ at' 2 ^^^ at' 3

/-- The rounds with the keys that follow the first. -/
def aesRounds : List Bytes → Bytes → Bytes
  | [], st => st
  | [k], st => xorBytes (aesShift st) k
  | k :: l, st => aesRounds l (xorBytes (aesMix (aesShift st)) k)

/-- One block enciphered with the round keys `ks`.
Marks: log 101 (PRESUMED). -/
def aesBlock (ks : List Bytes) (block : Bytes) : Bytes := aesRounds (ks.drop 1) (xorBytes block (ks.headD []))

/-! ### GCM -/

/-- The product of two blocks of GF(2^128), bit 0 the leftmost. -/
def gcmMul (x y : BitVec 128) : BitVec 128 :=
  ((List.range 128).foldl
    (fun (acc : BitVec 128 × BitVec 128) i =>
      (if x.getMsbD i then acc.1 ^^^ acc.2 else acc.1,
        if bit acc.2 0 then (acc.2 >>> 1) ^^^ (0xE1#128 <<< 120) else acc.2 >>> 1))
    (0, y)).1

/-- GHASH with `h` over `n` blocks of a string, its last block filled with zero bytes, from `acc`. -/
def ghash (h : BitVec 128) : Nat → BitVec 128 → Bytes → BitVec 128
  | 0, acc, _ => acc
  | n + 1, acc, bs => ghash h n (gcmMul (acc ^^^ BitVec.ofNat 128 (ofBE (padTo 16 bs))) h) (bs.drop 16)

/-- How many blocks of 16 bytes a string fills. -/
def blocks16 (bs : Bytes) : Nat := (bs.length + 15) / 16

/-- A string in counter mode, from counter `c`. -/
def gcmCounter (ks : List Bytes) (iv : Bytes) : Nat → Nat → Bytes → Bytes
  | 0, _, _ => []
  | n + 1, c, bs => xorBytes (bs.take 16) (aesBlock ks (iv ++ beBytes 4 c)) ++ gcmCounter ks iv n (c + 1) (bs.drop 16)

/-- The tag of a ciphertext with its associated data. -/
def gcmTag (ks : List Bytes) (iv aad c : Bytes) : Bytes :=
  let h := BitVec.ofNat 128 (ofBE (aesBlock ks (List.replicate 16 0)))
  let acc := ghash h (blocks16 c) (ghash h (blocks16 aad) 0 aad) c
  let s := ghash h 1 acc (beBytes 8 (8 * aad.length) ++ beBytes 8 (8 * c.length))
  xorBytes (beBytes 16 s.toNat) (aesBlock ks (iv ++ [0, 0, 0, 1]))

/-- AES-256-GCM: the ciphertext and the 16-byte tag of a plaintext under a key and a 12-byte nonce, with associated data.
Marks: log 101 (PRESUMED). -/
def gcmSeal (key iv aad text : Bytes) : Bytes × Bytes :=
  let ks := aesRoundKeys key
  let c := gcmCounter ks iv (blocks16 text) 2 text
  (c, gcmTag ks iv aad c)

/-- The plaintext of a ciphertext whose tag is right.
Marks: log 101 (PRESUMED). -/
def gcmOpen (key iv aad c tag : Bytes) : Option Bytes :=
  let ks := aesRoundKeys key
  if tag = gcmTag ks iv aad c then some (gcmCounter ks iv (blocks16 c) 2 c) else none

end Sys2Proof.Machine
end

