-- ==== Sys2Proof/Machine/Spdm.lean ====
section
/-!
DEFINITION. Machine/Spdm.lean: the messages of DSP0274 1.3 that the responder reads and writes, its key schedule, and the
records of DSP0277 (R400 to R406). The spec names these standards and prints no layout: the layouts are PRESUMED.
-/
namespace Sys2Proof.Machine

/-! ### Messages -/

/-- An SPDM message: version, code, two parameters, payload.
Marks: log 11 (PRESUMED). -/
def spdmMsg (code p1 p2 : Byte) (payload : Bytes) : Bytes := [0x13, code, p1, p2] ++ payload

/-- A number of `n` bytes at `off` of a message, little-endian. -/
def msgNum (m : Bytes) (off n : Nat) : Nat := ofLE (slice m off n)

/-- The request code of a message. -/
def reqCode (m : Bytes) : Byte := m.getD 1 0

/-- ERROR with its code and no data.
Marks: log 11 (PRESUMED). -/
def errMsg (c : Byte) : Bytes := spdmMsg 0x7F c 0 []

/-- The ERROR codes that the spec names (R401, R402).
Marks: log 11 (PRESUMED). -/
def errUnsupported : Byte := 0x07
def errNegotiation : Byte := 0x0E
/-- The ERROR codes that DSP0274 gives where the spec names none. PRESUMED.
Marks: log 11 (PRESUMED). -/
def errInvalid : Byte := 0x01
def errUnexpected : Byte := 0x04
def errUnspecified : Byte := 0x05
def errDecrypt : Byte := 0x06
def errSessionLimit : Byte := 0x0A
def errVersion : Byte := 0x41

/-- The request codes that the responder serves (R402).
Marks: log 11 (PRESUMED). -/
def servedCodes : List Byte := [0x81, 0x82, 0x83, 0x84, 0xE0, 0xE1, 0xE3, 0xE4, 0xE5, 0xEC, 0xFE]

/-- VERSION: one entry, 1.3 (R400). Its own version field reads 1.0.
Marks: log 11 (PRESUMED). -/
def versionMsg : Bytes := [0x10, 0x04, 0x00, 0x00, 0x00, 0x01, 0x00, 0x13]

/-- The capability flags of R400, at the bits that DSP0274 gives them. PRESUMED: CERT_CAP bit 1, CHAL_CAP bit 2, MEAS_CAP
bits 3 and 4, ENCRYPT_CAP bit 6, MAC_CAP bit 7, KEY_EX_CAP bit 9, ALIAS_CERT_CAP bit 18.
Marks: log 11 (PRESUMED). -/
def spdmFlags : Word := 0x000402D6

/-- DataTransferSize and MaxSPDMmsgSize (R400). -/
def spdmTransferSize : Nat := 8192
def spdmMessageSize : Nat := 8192

/-- CAPABILITIES (R400).
Marks: log 11 (PRESUMED). -/
def capabilitiesMsg : Bytes :=
  spdmMsg 0x61 0 0 ([0, Config.spdmCtExponent, 0, 0] ++ wordBytes spdmFlags ++ leBytes 4 spdmTransferSize ++
    leBytes 4 spdmMessageSize)

/-- A selection of R401: the bit that names it in DSP0274. PRESUMED.
Marks: log 11 (PRESUMED). -/
structure SpdmAlgs where
  measurementSpec : Byte := 0x01
  otherParams : Byte := 0x02
  measurementHash : Word := 0x00000040
  baseAsym : Word := 0x00000080
  baseHash : Word := 0x00000002
  dhe : BitVec 16 := 0x0010
  aead : BitVec 16 := 0x0002
  reqAsym : BitVec 16 := 0x0000
  keySchedule : BitVec 16 := 0x0001
  deriving DecidableEq, Repr

/-- The nine selections of R401: DMTF; ECDSA P-384; SHA-384; SHA3-512; secp384r1; AES-256-GCM; none; SPDM; OpaqueDataFmt1.
Marks: log 11 (PRESUMED). -/
def spdmAlgs : SpdmAlgs := {}

/-- The algorithm tables of a NEGOTIATE_ALGORITHMS request: type and the fixed algorithms offered.
Marks: log 11 (PRESUMED). -/
def algTables : Nat → Bytes → List (Byte × Nat)
  | 0, _ => []
  | n + 1, bs => (bs.getD 0 0, msgNum bs 2 2) :: algTables n (bs.drop (4 + 4 * (msgNum bs 1 1 % 16)))

/-- What a NEGOTIATE_ALGORITHMS request offers as algorithm type `t`. -/
def offeredTable (m : Bytes) (t : Byte) : BitVec 16 :=
  let first := 32 + 4 * (msgNum m 28 1 + msgNum m 29 1)
  BitVec.ofNat 16 (((algTables (msgNum m 2 1) (m.drop first)).find? fun e => e.1 == t).map (·.2) |>.getD 0)

/-- A NEGOTIATE_ALGORITHMS request offers every selection of R401. What the request does not name, the hash of the
measurements, it does not offer; ReqBaseAsymAlg selects none, which every request offers.
Marks: log 11 (PRESUMED). -/
def offersAll (m : Bytes) (a : SpdmAlgs) : Bool :=
  BitVec.ofNat 8 (msgNum m 6 1) &&& a.measurementSpec == a.measurementSpec &&
    BitVec.ofNat 8 (msgNum m 7 1) &&& a.otherParams == a.otherParams &&
    BitVec.ofNat 32 (msgNum m 8 4) &&& a.baseAsym == a.baseAsym &&
    BitVec.ofNat 32 (msgNum m 12 4) &&& a.baseHash == a.baseHash &&
    offeredTable m 2 &&& a.dhe == a.dhe && offeredTable m 3 &&& a.aead == a.aead &&
    offeredTable m 4 &&& a.reqAsym == a.reqAsym && offeredTable m 5 &&& a.keySchedule == a.keySchedule

/-- ALGORITHMS with these selections.
Marks: log 11 (PRESUMED). -/
def algorithmsMsg (a : SpdmAlgs) : Bytes :=
  let table (t : Byte) (v : BitVec 16) : Bytes := [t, 0x20] ++ leBytes 2 v.toNat
  spdmMsg 0x63 4 0
    (leBytes 2 52 ++ [a.measurementSpec, a.otherParams] ++ wordBytes a.measurementHash ++ wordBytes a.baseAsym ++
      wordBytes a.baseHash ++ List.replicate 16 0 ++ table 2 a.dhe ++ table 3 a.aead ++ table 4 a.reqAsym ++
      table 5 a.keySchedule)

/-- The slot 0 chain in the format of DSP0274: its length, two reserved bytes, the digest of its first certificate, the
certificates.
Marks: log 11 (PRESUMED). -/
def spdmChain (certs : List Bytes) : Bytes :=
  let body := sha384 (certs.headD []) ++ certs.flatten
  leBytes 2 (4 + body.length) ++ [0, 0] ++ body

/-- DIGESTS: slot 0 alone.
Marks: log 11 (PRESUMED). -/
def digestsMsg (digest : Bytes) : Bytes := spdmMsg 0x01 1 1 digest

/-- CERTIFICATE: a portion of the slot 0 chain, and how much is left.
Marks: log 11 (PRESUMED). -/
def certificateMsg (part : Bytes) (rest : Nat) : Bytes :=
  spdmMsg 0x02 0 0 (leBytes 2 part.length ++ leBytes 2 rest ++ part)

/-- CHALLENGE_AUTH but for its signature.
Marks: log 11 (PRESUMED). -/
def challengeAuthBody (digest nonce summary ctx : Bytes) : Bytes :=
  spdmMsg 0x03 0 1 (digest ++ nonce ++ summary ++ [0, 0] ++ ctx)

/-- MEASUREMENTS but for its signature: `total` where the number of indices was asked for.
Marks: log 11 (PRESUMED). -/
def measurementsBody (total count : Nat) (blocks nonce ctx : Bytes) : Bytes :=
  spdmMsg 0x60 (BitVec.ofNat 8 total) 0
    ([BitVec.ofNat 8 count] ++ leBytes 3 blocks.length ++ blocks ++ nonce ++ [0, 0] ++ ctx)

/-- The opaque data of KEY_EXCHANGE_RSP: DSP0277 version 1.1 is selected.
Marks: log 11 (PRESUMED). -/
def versionSelection : Bytes := [1, 0, 0, 0, 0, 0, 4, 0, 1, 0, 0x00, 0x11]

/-- KEY_EXCHANGE_RSP up to its signature: no heartbeat, no mutual authentication.
Marks: log 11 (PRESUMED). -/
def keyExchangeBody (rsp : BitVec 16) (random point summary : Bytes) : Bytes :=
  spdmMsg 0x64 0 0
    (leBytes 2 rsp.toNat ++ [0, 0] ++ random ++ point ++ summary ++ leBytes 2 versionSelection.length ++ versionSelection)

/-- A vendor-defined message: StandardID 0x0003, the PCI vendor ID, the payload (R406).
Marks: log 11 (PRESUMED). -/
def vendorMsg (code : Byte) (vendor : BitVec 16) (payload : Bytes) : Bytes :=
  spdmMsg code 0 0 ([0x03, 0x00, 0x02] ++ leBytes 2 vendor.toNat ++ leBytes 2 payload.length ++ payload)

/-- The payload of a VENDOR_DEFINED_REQUEST. -/
def vendorPayload (m : Bytes) : Bytes := slice m 11 (msgNum m 9 2)

/-- The opcode of a VENDOR_DEFINED_REQUEST (R406). -/
def vendorOp (m : Bytes) : Byte := (vendorPayload m).getD 1 0

/-- What follows the version byte and the opcode (R406). -/
def vendorArgs (m : Bytes) : Bytes := (vendorPayload m).drop 2

/-- A VENDOR_DEFINED_REQUEST is of R406: StandardID, vendor, length and version byte. -/
def vendorFits (m : Bytes) (vendor : BitVec 16) : Bool :=
  slice m 4 5 == [0x03, 0x00, 0x02] ++ leBytes 2 vendor.toNat && m.length == 11 + msgNum m 9 2 &&
    (vendorPayload m).headD 0 == 0x02

/-! ### Key schedule -/

/-- BinConcat of DSP0274.
Marks: log 11 (PRESUMED). -/
def binConcat (n : Nat) (label : String) (context : Bytes) : Bytes :=
  leBytes 2 n ++ ascii "spdm1.3 " ++ ascii label ++ context

/-- The handshake secret from the ECDHE secret.
Marks: log 11 (PRESUMED). -/
def handshakeSecret (dhe : Bytes) : Bytes := hkdfExtract (List.replicate 48 0) dhe

/-- The master secret from the handshake secret.
Marks: log 11 (PRESUMED). -/
def masterSecret (hs : Bytes) : Bytes :=
  hkdfExtract (hkdfExpand hs (binConcat 48 "derived" []) 48) (List.replicate 48 0)

/-- The secret of a direction and phase: `label` over a transcript hash.
Marks: log 11 (PRESUMED). -/
def phaseSecret (secret : Bytes) (label : String) (th : Bytes) : Bytes :=
  hkdfExpand secret (binConcat 48 label th) 48

/-- The key and the IV of a direction's secret.
Marks: log 11 (PRESUMED). -/
def recordKey (secret : Bytes) : Bytes := hkdfExpand secret (binConcat 32 "key" []) 32
def recordIv (secret : Bytes) : Bytes := hkdfExpand secret (binConcat 12 "iv" []) 12

/-- The finished key of a direction's secret.
Marks: log 11 (PRESUMED). -/
def finishedKey (secret : Bytes) : Bytes := hkdfExpand secret (binConcat 48 "finished" []) 48

/-- The keys of a phase, from the secrets of the requester and the responder. -/
def phaseKeys (req rsp : Bytes) : SpdmKeys :=
  { reqKey := recordKey req, reqIv := recordIv req, rspKey := recordKey rsp, rspIv := recordIv rsp }

/-- The handshake keys over TH1. -/
def handshakeKeys (hs th1 : Bytes) : SpdmKeys :=
  phaseKeys (phaseSecret hs "req hs data" th1) (phaseSecret hs "rsp hs data" th1)

/-- The application keys over TH2. -/
def applicationKeys (hs th2 : Bytes) : SpdmKeys :=
  phaseKeys (phaseSecret (masterSecret hs) "req app data" th2) (phaseSecret (masterSecret hs) "rsp app data" th2)

/-- ResponderVerifyData over a transcript hash. -/
def rspVerify (hs th1 th : Bytes) : Bytes := hmac384 (finishedKey (phaseSecret hs "rsp hs data" th1)) th

/-- RequesterVerifyData over a transcript hash. -/
def reqVerify (hs th1 th : Bytes) : Bytes := hmac384 (finishedKey (phaseSecret hs "req hs data" th1)) th

/-! ### Records -/

/-- The nonce of record `n`: the IV with the record's number added bit by bit.
Marks: log 11 (PRESUMED). -/
def recordNonce (iv : Bytes) (n : Nat) : Bytes := xorBytes (padTo 12 iv) (padTo 12 (leBytes 8 n))

/-- What a record authenticates beside its content: the session ID and the length that follows.
Marks: log 11 (PRESUMED). -/
def recordHead (id : Word) (len : Nat) : Bytes := wordBytes id ++ leBytes 2 len

/-- Record `n` of a direction for a message: session ID, length, the message with its length encrypted, the tag.
Marks: log 11 (PRESUMED). -/
def sealRecord (key iv : Bytes) (id : Word) (n : Nat) (m : Bytes) : Bytes :=
  let text := leBytes 2 m.length ++ m
  let head := recordHead id (text.length + 16)
  let r := gcmSeal key (recordNonce iv n) head text
  head ++ r.1 ++ r.2

/-- The message of record `n` of a direction, where its head and its tag are right (R405, R257).
Marks: log 11 (PRESUMED). -/
def openRecord (key iv : Bytes) (id : Word) (n : Nat) (r : Bytes) : Option Bytes :=
  let body := r.drop 6
  if r.take 6 ≠ recordHead id body.length ∨ body.length < 18 then none
  else
    (gcmOpen key (recordNonce iv n) (r.take 6) (body.take (body.length - 16)) (body.drop (body.length - 16))).bind
      fun text => if msgNum text 0 2 + 2 ≤ text.length then some (slice text 2 (msgNum text 0 2)) else none

end Sys2Proof.Machine
end

