-- ==== Sys2Proof/Machine/Responder.lean ====
section
/-!
DEFINITION. Machine/Responder.lean: the SPDM responder of the main firmware (R400 to R410) and the key messages it passes
to the security firmware. A request that the firmware cannot serve now waits in the host's DOE mailbox: nothing changes
(R402).
-/
namespace Sys2Proof.Machine

/-! ### Sessions, requests and answers -/

/-- The session of a DSP0277 ID.
Marks: log 12 (DEDUCED). -/
def State.spdmSession (s : State) (id : Word) : Option SpdmSession := s.fw.sessions.find? fun x => x.id == id

/-- A session changed by `f`. -/
def State.onSpdm (s : State) (id : Word) (f : SpdmSession → SpdmSession) : State :=
  s.onFw fun w => { w with sessions := w.sessions.map fun x => if x.id == id then f x else x }

/-- A command of the attestation unit is for session `id`. -/
def FwJob.of (id : Word) : FwJob → Bool
  | .session i | .measure (some i) _ => i == id
  | _ => false

/-- The session's Kiln slot is to be destroyed, under the GEN that it took, and the session is gone (R409); a leg, a PQ_START
or a report of it is dropped. -/
def State.endSpdm (s : State) (id : Word) : State :=
  s.onFw fun w =>
    { w with
      destroys := w.destroys ++ ((w.sessions.find? fun x => x.id == id).bind fun x => x.kiln).toList
      sessions := w.sessions.filter fun x => x.id != id
      leg := if (w.leg.map fun l => l.id) = some id then none else w.leg
      legs := w.legs.filter fun l => l.1 != id
      pq := if (w.pq.map fun q => q.id) = some id then none else w.pq
      attC := w.attC.map fun t => if t.job.of id then { t with job := .void } else t
      compose := if (w.compose.map fun c => c.session) = some id then none else w.compose }

/-- The security firmware issues the DESTROY of each session that has ended, while the Kiln is free (R409).
Marks: log 68 (DESIGN CHOICE). -/
def State.fwDestroys (s : State) : State :=
  s.fw.destroys.foldl (fun s d =>
    if s.secServes && s.klnFree then (s.onFw fun w => { w with destroys := w.destroys.drop 1 }).destroyNow d.1 d.2 else s) s

/-- A message sent in a session, as a record under its keys, or outside. -/
def State.answer (s : State) (ss : Option Word) (m : Bytes) : State :=
  match ss.bind s.spdmSession with
  | some x =>
    (s.onSpdm x.id fun x => { x with sent := x.sent + 1 }).emit
      (.spdm ss m (sealRecord x.keys.rspKey x.keys.rspIv x.id x.sent m))
  | none => s.emit (.spdm none m m)

/-- ERROR in answer to a request. -/
def State.answerError (s : State) (ss : Option Word) (c : Byte) : State := s.answer ss (errMsg c)

/-- What the firmware reads of a request: outside sessions its bytes, in one the message of its record, whose tag the
comparator compares (R257, R405). -/
def State.opened (s : State) (ss : Option Word) (r : Bytes) : Option Bytes :=
  match ss with
  | none => some r
  | some id => (s.spdmSession id).bind fun x => openRecord x.keys.reqKey x.keys.reqIv id x.got r

/-- The PCI vendor ID of row 0x110 (R406). -/
def State.vendor (s : State) : BitVec 16 := fld (s.configRow 0x110) 0 16

/-- The responder answers vendor-defined requests: row 0x110 names a vendor (R406). -/
def State.vendorOn (s : State) : Bool := s.vendor != 0

/-- The row that serves a request: its code, and the opcode of a vendor-defined one; none for a request that no row
serves (R402, R406).
Marks: log 12 (DEDUCED). -/
def State.requestKind (s : State) (m : Bytes) : Option (Byte × Byte) :=
  if reqCode m = 0xFE then
    if vendorFits m s.vendor && 1 ≤ (vendorOp m).toNat && (vendorOp m).toNat ≤ 7 then some (0xFE, vendorOp m) else none
  else if servedCodes.contains (reqCode m) then some (reqCode m, 0)
  else none

/-- The version that a request must name: GET_VERSION goes by 1.0.
Marks: log 11 (PRESUMED). -/
def requestVersion (m : Bytes) : Byte := if reqCode m = 0x84 then 0x10 else 0x13

/-- The transcripts that a request of another kind begins anew: the measurements, and outside sessions the digests and
certificates.
Marks: log 11 (PRESUMED). -/
def State.transcripts (s : State) (ss : Option Word) (code : Byte) : State :=
  let keepL := code == 0xE0
  let keepB := code == 0x81 || code == 0x82 || code == 0x83
  match ss with
  | some id => s.onSpdm id fun x => { x with msgL := if keepL then x.msgL else [] }
  | none => s.onFw fun w => { w with msgL := if keepL then w.msgL else [], msgB := if keepB then w.msgB else [] }

/-- The responder is at a request still: its answer waits for a signature. -/
def State.signing (s : State) : Bool :=
  s.fw.attC.any fun t =>
    match t.job with
    | .challenge _ | .measure _ _ | .exchange _ _ _ _ => true
    | _ => false

/-- The record of a request counts. -/
def State.countRecord (s : State) (ss : Option Word) : State :=
  match ss with
  | none => s
  | some id => s.onSpdm id fun x => { x with got := x.got + 1 }

/-- A request of the kind `mine`, served by `f`. A request of another row is not this row's; one of no row receives ERROR,
UnsupportedRequest, but for a vendor-defined one while no vendor is named, which receives no answer (R402, R406). A message
of an unknown session cannot be read; a record whose tag is wrong ends its session on error. A request waits while the
firmware does not serve or is at another one, and a record while the comparator is not free (R402, R405).
Marks: log 12 (DEDUCED); log 110 (DESIGN CHOICE). -/
def State.spdm (s : State) (ss : Option Word) (r : Bytes) (mine : Byte × Byte) (f : State → Bytes → State) : State :=
  let inside := (ss.bind s.spdmSession).isSome
  if !s.mainServes || s.signing then s
  else if inside && !s.cmpReady then s.d3Missed
  else
    let got := s.opened ss r
    let s := if inside then s.cmpTurn got.isSome else s
    match got with
    | none =>
      match ss.bind s.spdmSession with
      | none => s
      | some x => ((s.endSpdm x.id).answerError none errDecrypt).fwDestroys
    | some m =>
      match s.requestKind m with
      | none => if reqCode m = 0xFE ∧ s.vendorOn = false then s else (s.countRecord ss).answerError ss errUnsupported
      | some k =>
        if k ≠ mine ∨ (k.1 = 0xFE ∧ s.vendorOn = false) then s
        else if m.headD 0 ≠ requestVersion m then (s.countRecord ss).answerError ss errVersion
        else f ((s.countRecord ss).transcripts ss k.1) m

/-- A request outside sessions, once the requester has come to step `n` of the negotiation; inside one it is not
served (R402).
Marks: log 12 (DEDUCED). -/
def State.outside (s : State) (ss : Option Word) (n : Nat) (f : State → State) : State :=
  if ss.isSome then s.answerError ss errUnsupported
  else if s.fw.conn < n then s.answerError ss errUnexpected
  else f s

/-- A request in a session whose handshake is over, or outside.
Marks: log 12 (DEDUCED). -/
def State.anywhere (s : State) (ss : Option Word) (f : State → State) : State :=
  match ss.bind s.spdmSession with
  | none => if s.fw.conn < 3 then s.answerError ss errUnexpected else f s
  | some x => if x.established then f s else s.answerError ss errUnexpected

/-- A request in a session; `late`: one whose handshake is over, else one within it.
Marks: log 12 (DEDUCED). -/
def State.inSession (s : State) (ss : Option Word) (late : Bool) (f : State → SpdmSession → State) : State :=
  match ss.bind s.spdmSession with
  | none => s.answerError ss errUnsupported
  | some x => if x.established = late then f s x else s.answerError ss errUnexpected

/-- A request that is as long as its layout says, or longer; a shorter one is invalid.
Marks: log 11 (PRESUMED). -/
def State.longEnough (s : State) (ss : Option Word) (m : Bytes) (n : Nat) (f : State → State) : State :=
  if m.length < n then s.answerError ss errInvalid else f s

/-! ### Negotiation (R400, R401) -/

/-- A step of the negotiation: the requester has come to step `n`, and both messages join the transcript. -/
def State.negotiated (s : State) (n : Nat) (m rsp : Bytes) : State :=
  (s.onFw fun w => { w with conn := n, vca := w.vca.take (n - 1) ++ [m ++ rsp] }).answer none rsp

/-- GET_VERSION (R400): the negotiation begins anew. -/
def execGetVersion (ss : Option Word) (r : Bytes) (s : State) : Res :=
  ran (fun s => s.spdm ss r (0x84, 0) fun s m => s.outside ss 0 fun s => s.negotiated 1 m versionMsg) s

/-- GET_CAPABILITIES (R400). -/
def execGetCapabilities (ss : Option Word) (r : Bytes) (s : State) : Res :=
  ran (fun s => s.spdm ss r (0xE1, 0) fun s m => s.outside ss 1 fun s => s.longEnough ss m 20 fun s =>
    s.negotiated 2 m capabilitiesMsg) s

/-- NEGOTIATE_ALGORITHMS (R401). -/
def execNegotiateAlgorithms (ss : Option Word) (r : Bytes) (s : State) : Res :=
  ran (fun s => s.spdm ss r (0xE3, 0) fun s m => s.outside ss 2 fun s => s.longEnough ss m 32 fun s =>
    if offersAll m spdmAlgs then s.negotiated 3 m (algorithmsMsg spdmAlgs) else s.answerError ss errNegotiation) s

/-! ### Certificates (R382, R402, R406) -/

/-- Where the certificates that PLATFORM_DATA of the boot record names stand in the NVM (R382).
Marks: log 13 (DEDUCED). -/
def State.certPlaces (s : State) (ec : Bool) : List (Nat × Nat) := Config.certPlaces ec (s.csramBytes 0x0EFD200 0x2100)

/-- The certificates of a leg's chain: those, as they stand in the NVM, and the alias certificate (R382).
Marks: log 13 (DEDUCED). -/
def State.chainCerts (s : State) (ec : Bool) : Option (List Bytes) :=
  if s.rootless then none
  else s.att.certs.map fun c => ((s.certPlaces ec).map fun e => s.nvmBytes e.1 e.2) ++ [if ec then c.1 else c.2]

/-- The certificates fetched over the NVM port (R84). -/
def State.fetchCerts (s : State) (ec : Bool) : State := (s.certPlaces ec).foldl (fun s e => s.nvmFetch e.1 e.2) s

/-- A request that needs a chain, which is fetched; while the certificates are being built it waits. -/
def State.withChain (s old : State) (ss : Option Word) (ec : Bool) (f : State → List Bytes → State) : State :=
  match s.chainCerts ec with
  | some c => f (s.fetchCerts ec) c
  | none => if s.rootless then s.answerError ss errUnspecified else old

/-- The digest and certificate messages outside sessions, which the next CHALLENGE covers. -/
def State.noteB (s : State) (ss : Option Word) (m rsp : Bytes) : State :=
  if ss.isSome then s else s.onFw fun w => { w with msgB := w.msgB ++ m ++ rsp }

/-- GET_DIGESTS (R402). -/
def execGetDigests (ss : Option Word) (r : Bytes) (s : State) : Res :=
  ran (fun old => old.spdm ss r (0x81, 0) fun s m => s.anywhere ss fun s => s.withChain old ss true fun s c =>
    let rsp := digestsMsg (sha384 (spdmChain c))
    (s.noteB ss m rsp).answer ss rsp) s

/-- GET_CERTIFICATE (R402): slot 0 only; a portion fits DataTransferSize.
Marks: log 13 (DEDUCED). -/
def execGetCertificate (ss : Option Word) (r : Bytes) (s : State) : Res :=
  ran (fun old => old.spdm ss r (0x82, 0) fun s m => s.anywhere ss fun s => s.longEnough ss m 8 fun s =>
    s.withChain old ss true fun s c =>
      let chain := spdmChain c
      let off := msgNum m 4 2
      if msgNum m 2 1 % 16 ≠ 0 ∨ chain.length ≤ off then s.answerError ss errInvalid
      else
        let part := slice chain off (min (msgNum m 6 2) (spdmTransferSize - 8))
        let rsp := certificateMsg part (chain.length - off - part.length)
        (s.noteB ss m rsp).answer ss rsp) s

/-! ### Measurements (R403) -/

/-- The type of measurement `i`. -/
def measurementType (i : Nat) : BitVec 8 := if i = 1 then 0x00 else if i = 2 then 0x03 else 0x01

/-- The blocks of measurements: index, type, value. -/
def State.measurements (s : State) (l : List Nat) : List (Nat × BitVec 8 × Bytes) :=
  l.map fun i => (i, measurementType i, s.mr (i - 1))

/-- The bytes of a block in the DMTF measurement specification format. -/
def blockBytes (e : Nat × BitVec 8 × Bytes) : Bytes :=
  [BitVec.ofNat 8 e.1, 0x01] ++ leBytes 2 (3 + e.2.2.length) ++ [e.2.1] ++ leBytes 2 e.2.2.length ++ e.2.2

/-- The indices that a measurement summary hash covers: 0 none, 1 the TCB, 0xFF all; others are not served. -/
def summaryList (t : BitVec 8) : Option (List Nat) :=
  if t = 0 then some []
  else if t = 1 then some ((List.range 6).map (· + 1))
  else if t = 0xFF then some ((List.range 16).map (· + 1))
  else none

/-- The measurement summary hash. -/
def State.summary (s : State) (l : List Nat) : Bytes :=
  if l.isEmpty then [] else sha384 ((s.measurements l).flatMap blockBytes)

/-- One of these measurement registers cannot be read (R234). -/
def State.mrsBad (s : State) (l : List Nat) : Bool := l.any fun i => (s.mreg (i - 1)).bad

/-- Randomness of the responder, or an error. -/
def State.withRandom (s : State) (ss : Option Word) (n : Nat) (f : State → Bytes → State) : State :=
  match s.fwRandom n with
  | some (s, r) => f s r
  | none => s.answerError ss errUnspecified

/-- SIGN_BIND of `purpose` asked for over a transcript (R404); what is answered once it is there, `job` tells. -/
def State.withSignature (s : State) (purpose : Nat) (t : Bytes) (job : FwJob) : State :=
  s.askSign .c purpose (sha384 t) job

/-- The messages of the negotiation. -/
def State.vca (s : State) : Bytes := s.fw.vca.flatten

/-- CHALLENGE (R402, R404): outside sessions, slot 0, a signature of purpose 0 over the negotiation, the digest and
certificate messages, and this exchange; it is answered once the signature is there. -/
def execChallenge (ss : Option Word) (r : Bytes) (s : State) : Res :=
  ran (fun old => old.spdm ss r (0x83, 0) fun s m => s.outside ss 3 fun s => s.longEnough ss m 44 fun s =>
    if !s.attIdle .c then old else s.withChain old ss true fun s c =>
      match summaryList (BitVec.ofNat 8 (msgNum m 3 1)) with
      | none => s.answerError ss errInvalid
      | some l =>
        if msgNum m 2 1 ≠ 0 then s.answerError ss errInvalid
        else if s.mrsBad l then s.answerError ss errUnspecified
        else
          s.withRandom ss 32 fun s mine =>
            let body := challengeAuthBody (sha384 (spdmChain c)) mine (s.summary l) (slice m 36 8)
            s.withSignature 0 (s.vca ++ s.fw.msgB ++ m ++ body) (.challenge body)) s

/-- The measurements exchanged since the last signature, in a session or outside. -/
def State.msgL (s : State) (ss : Option Word) : Bytes :=
  match ss with
  | none => s.fw.msgL
  | some id => ((s.spdmSession id).map fun x => x.msgL).getD []

/-- These measurements put to `l`. -/
def State.setMsgL (s : State) (ss : Option Word) (l : Bytes) : State :=
  match ss with
  | none => s.onFw fun w => { w with msgL := l }
  | some id => s.onSpdm id fun x => { x with msgL := l }

/-- The indices that a GET_MEASUREMENTS asks for: 0 for their number, or 0xFF for all. -/
def measurementList (op : Nat) : List Nat :=
  if op = 0 then [] else if op = 0xFF then (List.range 16).map (· + 1) else [op]

/-- GET_MEASUREMENTS (R403): signed with purpose 2 when requested, and then answered once the signature is there. -/
def execGetMeasurements (ss : Option Word) (r : Bytes) (s : State) : Res :=
  ran (fun old => old.spdm ss r (0xE0, 0) fun s m => s.anywhere ss fun s =>
    let sign := msgNum m 2 1 % 2 == 1
    let op := msgNum m 3 1
    s.longEnough ss m (if sign then 45 else 12) fun s =>
      if sign && !s.attIdle .c then old
      else if (16 < op ∧ op ≠ 0xFF) ∨ (sign = true ∧ msgNum m 36 1 % 16 ≠ 0) then s.answerError ss errInvalid
      else if s.mrsBad (measurementList op) then s.answerError ss errUnspecified
      else
        s.withRandom ss 32 fun s mine =>
          let blocks := s.measurements (measurementList op)
          let body := measurementsBody (if op = 0 then 16 else 0) blocks.length (blocks.flatMap blockBytes) mine
            (slice m (if sign then 37 else 4) 8)
          let l := s.msgL ss ++ m ++ body
          if sign then s.withSignature 2 (s.vca ++ l) (.measure ss body)
          else (s.setMsgL ss l).answer ss body) s

/-! ### Sessions (R402, R405) -/

/-- The DSP0277 ID of a session: RspSessionID in the high half, ReqSessionID in the low one (R407). -/
def sessionId (rsp req : BitVec 16) : Word := (rsp.setWidth 32 <<< 16) ||| req.setWidth 32

/-- The next RspSessionID that no session uses.
Marks: log 10 (DESIGN CHOICE). -/
def State.freshRsp (s : State) : BitVec 16 :=
  let used (r : BitVec 16) : Bool := s.fw.sessions.any fun x => x.id.extractLsb' 16 16 == r
  (((List.range 256).map fun i => s.fw.nextRsp + BitVec.ofNat 16 i).find? fun r => !used r).getD s.fw.nextRsp

/-- The session of an exchange: its transcript up to the signature, its handshake secret. -/
def newSession (id : Word) (th hs : Bytes) : SpdmSession :=
  { id := id, th := th ++ rspVerify hs (sha384 th) (sha384 th), hs := hs, keys := handshakeKeys hs (sha384 th) }

/-- KEY_EXCHANGE (R402, R405): at most 255 sessions; the ECDHE in software with 48 bytes of the TRNG, the exchange signed
with purpose 1. The session begins once the signature is there. -/
def execKeyExchange (ss : Option Word) (r : Bytes) (s : State) : Res :=
  ran (fun old => old.spdm ss r (0xE4, 0) fun s m => s.outside ss 3 fun s =>
    s.longEnough ss m (138 + msgNum m 136 2) fun s =>
      if !s.attIdle .c then old else s.withChain old ss true fun s c =>
        match summaryList (BitVec.ofNat 8 (msgNum m 2 1)), pointOf (slice m 40 96) with
        | some l, some q =>
          if msgNum m 3 1 % 16 ≠ 0 then s.answerError ss errInvalid
          else if 255 ≤ s.fw.sessions.length then s.answerError ss errSessionLimit
          else if s.mrsBad l then s.answerError ss errUnspecified
          else
            s.withRandom ss 80 fun s rnd =>
              let d := scalarOf (rnd.take 48)
              let rsp := s.freshRsp
              let body := keyExchangeBody rsp (slice rnd 48 32) (ecPublic d) (s.summary l)
              let t := s.vca ++ sha384 (spdmChain c) ++ m ++ body
              s.withSignature 1 t
                (.exchange (sessionId rsp (BitVec.ofNat 16 (msgNum m 4 2))) t body (handshakeSecret (ecdhShared d q)))
        | _, _ => s.answerError ss errInvalid) s

/-- The signature of a KEY_EXCHANGE_RSP is there: the session begins. Its key schedule and ResponderVerifyData are nine HMACs
on the digest engine, of two contexts each (R405). -/
def State.exchanged (s : State) (id : Word) (t body hs sig : Bytes) : State :=
  let v := rspVerify hs (sha384 (t ++ sig)) (sha384 (t ++ sig))
  let x := newSession id (t ++ sig) hs
  let s := (s.dgeTurns 1 18 v).onFw fun w => { w with sessions := w.sessions ++ [x], nextRsp := fld id 16 16 + 1 }
  s.answer none (body ++ sig ++ v)

/-- TH1 of a session: the hash of its transcript without ResponderVerifyData. -/
def SpdmSession.th1 (x : SpdmSession) : Bytes := sha384 (x.th.take (x.th.length - 48))

/-- The RequesterVerifyData that a FINISH must carry. -/
def SpdmSession.verifyData (x : SpdmSession) (m : Bytes) : Bytes := reqVerify x.hs x.th1 (sha384 (x.th ++ m.take 4))

/-- The session once its handshake is over: TH2, and the keys that follow from it. -/
def SpdmSession.finished (x : SpdmSession) (m rsp : Bytes) : SpdmSession :=
  let th2 := sha384 (x.th ++ m ++ rsp)
  { x with established := true, th2 := th2, keys := applicationKeys x.hs th2, sent := 0, got := 0 }

/-- What the last HMAC of the application keys leaves on the digest engine. -/
def lastHmac (hs th2 : Bytes) : Bytes :=
  hkdfExpand (phaseSecret (masterSecret hs) "rsp app data" th2) (binConcat 12 "iv" []) 48

/-- FINISH (R402, R405): the handshake of a session ends; where its verify data fails the session ends on error. The verify
data takes two HMACs on the digest engine and a comparison, the application keys eight HMACs. -/
def execFinish (ss : Option Word) (r : Bytes) (s : State) : Res :=
  ran (fun old => old.spdm ss r (0xE5, 0) fun s m => s.inSession ss false fun s x => s.longEnough ss m 52 fun s =>
    if msgNum m 2 1 % 2 = 1 then s.answerError ss errInvalid
    else if !s.dgeReady then old
    else
      let v := x.verifyData m
      let s := (s.dgeTurns 1 4 v).cmpTurn (slice m 4 48 == v)
      if slice m 4 48 = v then
        let rsp := spdmMsg 0x65 0 0 []
        let y := x.finished (m.take 52) rsp
        ((s.dgeTurns 1 16 (lastHmac x.hs y.th2)).answer ss rsp).onSpdm x.id fun x => x.finished (m.take 52) rsp
      else ((s.answerError ss errDecrypt).endSpdm x.id).fwDestroys) s

/-! ### The post-quantum leg (R406 to R408) -/

/-- A vendor-defined answer: the version byte, the opcode of the request, the payload (R406). -/
def State.answerVendor (s : State) (ss : Option Word) (op : Byte) (payload : Bytes) : State :=
  s.answer ss (vendorMsg 0x7E s.vendor ([0x02, op] ++ payload))

/-- A vendor-defined answer that holds a completion code and three reserved bytes. -/
def State.answerCode (s : State) (ss : Option Word) (op : Byte) (c : Code) : State := s.answerVendor ss op [c.byte, 0, 0, 0]

/-- The arguments of a vendor-defined request: `n` bytes, of which those from `used` on are reserved and must be 0.
Marks: log 13 (DEDUCED). -/
def State.withArgs (s : State) (ss : Option Word) (m : Bytes) (n used : Nat) (f : State → Bytes → State) : State :=
  let a := vendorArgs m
  if a.length ≠ n ∨ (a.drop used).any (fun b => b != 0) = true then s.answerError ss errInvalid else f s a

/-- The leg put to `q`. -/
def State.setPq (s : State) (q : Option PqWork) : State := s.onFw fun w => { w with pq := q }

/-- A leg is over: it is answered through MBX1 with code `c`, PQ_OFFER where it has not come to an offer, else PQ_DONE, and
a session that waited for it waits no more (R407, R408).
Marks: log 13 (DEDUCED). -/
def State.pqOver (s : State) (q : PqWork) (op : Byte) (c : Code) : State :=
  let s := (s.onSpdm q.id fun x => { x with waiting := false }).onFw fun w => { w with pq := none, attS := none, leg := none }
  (s.mbx1Pass 2 (if op = 1 then 1 else 6)).answerCode (some q.id) op c

/-- The security firmware gives the PKE the command of a step by block S, its operands standing. One refused with BUSY is
given again (R363). -/
def State.pqCommand (s : State) (q : PqWork) (op : PkeOp) (w : Word) : State :=
  let s := (s.setPq (some { q with asked := true })).pkeCommand .s op w
  if s.pkeBusy 2 then s
  else if s.pke.resS = .busy then s.setPq (some q)
  else s.setPq (some { q with asked := true, code := some s.pke.resS })

/-- SESSION_OPEN of R407, step 12, into slot `i`; KLN_OP_JOB holds the low six bits of p. -/
def State.openNow (s : State) (i : SlotIx) (id : Word) (p : BitVec 8) (th : Bytes) : State :=
  let s := (s.setReg .klnOpSlot (i.setWidth 32)).setReg .klnOpSession id
  let s := s.setReg .klnOpJob (putN p.toNat 16 6)
  (s.setWords .klnCtx 0 12 th).doSessionOpen 0

/-- The command of the leg's present step given, once the unit that it goes to is free: the steps 3 to 6 and 9 to 12 of
R407. -/
def State.pqAsk (s : State) (q : PqWork) : State :=
  match q.step with
  | .ecKey => if s.pkeBusy 2 then s else (s.setReg .pkeOpOut (BitVec.ofNat 32 fwDst) 0).pqCommand q .ecdhKeygen 6
  | .kemKey => if s.pkeBusy 2 then s else (s.setReg .pkeOpOut (BitVec.ofNat 32 fwDst) 0).pqCommand q .kemKeygen 8
  | .sign => if s.attIdle .s then (s.setPq (some { q with asked := true })).askSign .s 3 q.h .offer else s
  | .derive =>
    if s.pkeBusy 2 then s
    else ((s.psramPut fwMsg q.peer).setReg .pkeOpKey (BitVec.ofNat 32 fwMsg) 0).pqCommand q .ecdhDerive 7
  | .decaps =>
    if s.pkeBusy 2 then s
    else ((s.psramPut fwDst q.cipher).setReg .pkeOpSig (BitVec.ofNat 32 fwDst) 0).pqCommand q .kemDecaps 9
  | .openSlot =>
    if !s.klnFree then s
    else
      match s.freeSlot with
      | none => s.setPq (some { q with asked := true, code := some .noResource })
      | some i =>
        let s := s.openNow i q.id q.part (sha384 (q.h ++ q.peer ++ q.cipher))
        let s :=
          if s.kln.code = .done then s.onSpdm q.id fun x => { x with kiln := some (i, (s.slot i).gen) } else s
        s.setPq (some { q with asked := true, code := some s.kln.code })

/-- A step that is over leads to step `st`. -/
def PqWork.next (q : PqWork) (st : PqStep) : PqWork := { q with step := st, asked := false, code := none }

/-- The command of the present step has ended with `k`: the leg goes on, or is answered where the main firmware takes the
answer (R407). -/
def State.pqDone (s : State) (q : PqWork) (k : Code) : State :=
  let told := s.mainServes && s.slotFree 2
  if k ≠ .done then
    if told then
      let op : Byte := match q.step with
        | .ecKey | .kemKey | .sign => 1
        | .derive | .decaps | .openSlot => 2
      s.pqOver q op k
    else s
  else
    match q.step with
    | .ecKey => s.setPq (some { q.next .kemKey with point := s.psramBytes fwDst 96 })
    | .kemKey =>
      let key := s.psramBytes fwDst 1568
      let th2 := ((s.spdmSession q.id).map fun x => x.th2).getD []
      s.setPq (some { q.next .sign with key := key, h := sha384 (th2 ++ [q.part] ++ q.point ++ key) })
    | .sign =>
      if told then
        let s := s.onFw fun w => { w with pq := none, attS := none, leg := some ⟨q.id, q.part, q.h⟩ }
        (s.mbx1Pass 2 1).answerVendor (some q.id) 1 (q.point ++ q.key ++ s.fwOutput .s 4723)
      else s
    | .derive => s.setPq (some (q.next .decaps))
    | .decaps => s.setPq (some (q.next .openSlot))
    | .openSlot => if told then s.pqOver q 2 .done else s

/-- The next PQ_START that waits is taken up, while no leg is open (R408). -/
def State.pqNext (s : State) : State :=
  match s.fw.legs with
  | [] => s
  | l :: rest =>
    if s.fw.leg.isNone && s.fw.pq.isNone && s.secServes then
      s.onFw fun w => { w with legs := rest, pq := some { id := l.1, part := l.2, step := .ecKey } }
    else s

/-- The security firmware goes on with the leg, as far as what it waits for has come.
Marks: log 68 (DESIGN CHOICE). -/
def State.pqGo (s : State) : State :=
  match s.fw.pq with
  | none => s.pqNext
  | some q =>
    if !s.secServes then s
    else
      match q.code with
      | some k => s.pqDone q k
      | none =>
        if !q.asked then s.pqAsk q
        else
          match s.fw.attS with
          | some ⟨.offer, some (k, _)⟩ => if q.step = .sign then s.setPq (some { q with code := some k }) else s
          | _ => s

/-- PQ_START (R407, R408): the request goes to the security firmware through MBX1; while that slot is full it waits.
Marks: log 13 (DEDUCED). -/
def execPqStart (ss : Option Word) (r : Bytes) (s : State) : Res :=
  ran (fun old => old.spdm ss r (0xFE, 1) fun s m => s.inSession ss true fun s x => s.withArgs ss m 4 1 fun s a =>
    if x.kiln.isSome || x.waiting then s.answerCode ss 1 .deniedAttr
    else if !s.slotFree 3 then old
    else
      let s := (s.onSpdm x.id fun x => { x with waiting := true }).mbx1Pass 3 0
      s.onFw fun w => { w with legs := w.legs ++ [(x.id, a.headD 0)] }) s

/-- PQ_ACCEPT (R407, R408): it goes to the security firmware through MBX1, which takes up the steps from 9 on; a leg given
up answers ABORTED. -/
def execPqAccept (ss : Option Word) (r : Bytes) (s : State) : Res :=
  ran (fun old => old.spdm ss r (0xFE, 2) fun s m => s.inSession ss true fun s x => s.withArgs ss m 1664 1664 fun s a =>
    match s.fw.leg with
    | some l =>
      if l.id ≠ x.id then s.answerCode ss 2 .aborted
      else if s.fw.pq.isSome || !s.secServes || !s.slotFree 3 then old
      else
        (s.mbx1Pass 3 5).setPq
          (some { id := l.id, part := l.part, step := .derive, h := l.h, peer := a.take 96, cipher := a.drop 96 })
    | none => s.answerCode ss 2 .aborted) s

/-- PQ_LEG_TIMEOUT (R408): due while a leg is open and its PQ_ACCEPT has not come.
Marks: log 41 (DESIGN CHOICE). -/
def execPqLegTimeout (s : State) : Res :=
  ranIf (s.up .d2 && s.fw.leg.isSome && s.fw.pq.isNone)
    (fun s =>
      match s.fw.leg with
      | some l => (s.onSpdm l.id fun x => { x with waiting := false }).onFw fun w => { w with leg := none }
      | none => s) s

/-- END_SESSION (R402, R409). -/
def execEndSession (ss : Option Word) (r : Bytes) (s : State) : Res :=
  ran (fun s => s.spdm ss r (0xEC, 0) fun s _ => s.inSession ss true fun s x =>
    ((s.answer ss (spdmMsg 0x6C 0 0 [])).endSpdm x.id).fwDestroys) s

/-! ### Pages, key messages, supply check (R406, R410) -/

/-- A page of a byte string, by an offset and a length, then the string's total length. -/
def page (bs a : Bytes) : Bytes := slice bs (msgNum a 0 4) (min (msgNum a 4 2) 4096) ++ leBytes 4 bs.length

/-- PQ_CERT (R406). -/
def execPqCert (ss : Option Word) (r : Bytes) (s : State) : Res :=
  ran (fun old => old.spdm ss r (0xFE, 3) fun s m => s.anywhere ss fun s => s.withArgs ss m 8 6 fun s a =>
    s.withChain old ss false fun s c => s.answerVendor ss 3 (page c.flatten a)) s

/-- GET_PAGE (R406). -/
def execGetPage (ss : Option Word) (r : Bytes) (s : State) : Res :=
  ran (fun s => s.spdm ss r (0xFE, 5) fun s m => s.inSession ss true fun s x => s.withArgs ss m 8 6 fun s a =>
    s.answerVendor ss 5 (page x.report a)) s

/-- The length of the descriptor that these bytes begin (R438). -/
def descriptorLength (d : Bytes) : Nat := 144 + 68 * ofLE (slice d 0x0C 2)

/-- What has come of a job descriptor after one more payload: still to go on, whole, or refused (R438). -/
def joinDescriptor (d p : Bytes) : Option Bytes × Code :=
  let all := d ++ p
  let used := descriptorLength all
  let total := (used + 15) / 16 * 16
  if all.length < total ∧ p.length = 4096 then (some all, .done)
  else if all.length = total ∧ (all.drop used).all (fun b => b == 0) = true then (some (all.take used), .done)
  else (none, .deniedAttr)

/-- UNSEAL of the message in private SRAM, and its answer joined to the session's job descriptor: the code, and the state. -/
def State.dataIn (s : State) (x : SpdmSession) (n : Nat) : State × Code :=
  let s := s.doUnseal 0 .none
  if s.kln.code = .done then
    let whole := x.desc.length == descriptorLength x.desc
    let r := joinDescriptor (if whole then [] else x.desc) (s.psramBytes fwDst (n - 192))
    (s.onSpdm x.id fun x => { x with desc := r.1.getD [] }, r.2)
  else (s, s.kln.code)

/-- SEAL of what the security firmware returns in a session: the DATA_OUT message, where it could be built (R295). -/
def State.dataOut (s : State) (id : Word) (text : Bytes) : State × Bytes :=
  let s := (s.psramPut fwMsg text).setReg .klnOpAddr (BitVec.ofNat 32 fwMsg)
  let s := (s.setReg .klnOpDst (BitVec.ofNat 32 fwDst)).setReg .klnOpLen (BitVec.ofNat 32 text.length)
  let s := (s.setReg .klnOpSession id).doSeal 0 .none
  (s, if s.kln.code = .done then s.psramBytes fwDst (192 + text.length) else [])

/-- KEY_MSG (R406): UNWRAP or UNSEAL of the message by the security firmware, and its code; a DATA_IN joins the session's
job descriptor, and `out` is the DATA_OUT that the security firmware returns. It waits until the Kiln is free, and until a
revoke that the message brings can be committed at once. -/
def execKeyMsg (ss : Option Word) (r : Bytes) (out : Option Bytes) (s : State) : Res :=
  ran (fun old => old.spdm ss r (0xFE, 6) fun s m => s.inSession ss true fun s x =>
    let a := vendorArgs m
    if a.isEmpty || 4288 < a.length then s.answerError ss errInvalid
    else if !s.klnFree || !s.secServes then old
    else
      let s := (s.psramPut fwMsg a).setReg .klnOpAddr (BitVec.ofNat 32 fwMsg)
      let s := (s.setReg .klnOpDst (BitVec.ofNat 32 fwDst)).setReg .klnOpLen (BitVec.ofNat 32 a.length)
      if msgNum a 6 1 = 5 then
        let r := s.dataIn x a.length
        match out with
        | some t => let d := r.1.dataOut x.id t; d.1.answerVendor ss 6 ([r.2.byte] ++ d.2)
        | none => r.1.answerVendor ss 6 [r.2.byte]
      else
        let s := (s.setReg .klnOpSlot ((s.freeSlot.getD 0).setWidth 32)).doUnwrap 0 .none
        if s.klnBusy then old else s.answerVendor ss 6 [s.kln.code.byte]) s

/-- SUPPLY_CHECK (R410): the HMAC takes two contexts of the digest engine, and is waited for. -/
def execSupplyCheck (ss : Option Word) (r : Bytes) (s : State) : Res :=
  ran (fun old => old.spdm ss r (0xFE, 7) fun s m => s.anywhere ss fun s => s.withArgs ss m 32 32 fun s a =>
    let k := (List.range 4).flatMap fun i => leBytes 8 (s.configRow (0x10C + i)).toNat
    if k.all fun b => b == 0 then s.answerError ss errUnsupported
    else if !s.dgeReady then old.d3Missed
    else
      let v := hmac384 k (ascii "icvia-supply-v2" ++ a ++ s.identBytes 0x084 4)
      (s.dgeTurns 1 2 v).answerVendor ss 7 v) s

end Sys2Proof.Machine
end

