-- ==== Sys2Proof/Machine/Rings.lean ====
section
/-!
DEFINITION. Machine/Rings.lean: what the main firmware does with the host driver's messages on MBX0 and with ring
submissions (R478 to R489). The capability area, the control blocks and the queues stand in platform memory, which is the
host die's: the firmware reads and writes them over the memory port (R467), and what follows a write waits for its
acknowledgement (R48).
-/
namespace Sys2Proof.Machine

/-! ### Messages of MBX0 -/

/-- The type of the message that waits in slot `i`.
Marks: log 65 (DEDUCED). -/
def State.msgType (s : State) (i : Nat) : Nat := fldN ((s.mslot i).msg.getD 0 0) 0 8

/-- Word `k` of the message that waits in slot `i`. -/
def State.msgWord (s : State) (i k : Nat) : Word := (s.mslot i).msg.getD k 0

/-- A 64-bit field of that message. -/
def State.msgAddr (s : State) (i k : Nat) : Nat := (s.msgWord i k).toNat + 2 ^ 32 * (s.msgWord i (k + 1)).toNat

/-- The types of R478 that a host sends and the firmware answers. -/
def hostType (n : Nat) : Bool := n == 2 || n == 4 || n == 5 || n == 7

/-- A host message of type `t`, or of a type that no row serves, waits and can be answered.
Marks: log 65 (DEDUCED). -/
def State.hostMsg (s : State) (t : Nat) : Bool :=
  (s.mslot 0).full && (s.msgType 0 == t || !hostType (s.msgType 0)) && !(s.mslot 1).full

/-- The reserved bits of MSG0 are not all 0 (R11, R478). -/
def State.msgReserved (s : State) : Bool := fld (s.msgWord 0 0) 8 24 != 0

/-- The message taken and answered.
Marks: log 65 (DEDUCED). -/
def State.reply (s : State) (ws : List Word) : State := (s.take 0).ioRun false [.post ws none]

/-- A message of type `t` is served by `f`; another is answered with ERROR and DENIED_ATTR, but for an ERROR, which is taken
(R478).
Marks: log 65 (DEDUCED). -/
def State.serveType (s : State) (t : Nat) (f : State → State) : State :=
  let n := s.msgType 0
  if n = t then f s
  else if n = 9 then s.take 0
  else s.reply [9, BitVec.ofNat 32 n, Code.deniedAttr.byte.setWidth 32]

/-! ### Negotiation (R480 to R483) -/

/-- A page of the capability area (R481).
Marks: log 14 (DESIGN CHOICE). -/
def capPage (kind : Nat) (gen : BitVec 8) (lo hi step features period stale : Nat) : Bytes :=
  padTo 1024
    (leBytes 4 0x50434349 ++ leBytes 2 2 ++ leBytes 1 kind ++ [gen] ++ leBytes 2 lo ++ leBytes 2 hi ++ leBytes 4 step ++
      leBytes 32 features ++ leBytes 8 0 ++ leBytes 4 period ++ leBytes 4 stale)

/-- The features of the firmware page: feature 0 is mandatory, features 6 and above are reserved (R482).
Marks: log 14 (DESIGN CHOICE). -/
def fwFeatureBits : Nat := (Config.fwFeatures % 64) ||| 1

/-- The firmware writes bytes of the pages at `off` of the capability area and rings doorbell 30 (R477).
Marks: log 14 (DESIGN CHOICE). -/
def State.pageOps (s : State) (off : Nat) (data : Bytes) : List FwOp :=
  [.write (s.fw.area + off) data, .bell (1#32 <<< 30)]

/-- What the negotiation of generation `gen` over the area at `area` begins with (R483, step 1).
Marks: log 14 (DESIGN CHOICE). -/
def State.capPrepare (s : State) (area : Nat) (gen : BitVec 8) : State :=
  s.onFw fun w =>
    { w with
      capgen := gen
      area := area
      offered := true
      unanswered := true
      capActive := false
      level := 0
      features := 0
      stale := 0 }

/-- Step 1 of R483: CAPGEN advances, the firmware page is written and the others are zeroed, CAP_OFFER is sent.
Marks: log 14 (DESIGN CHOICE). -/
def State.capOffer (s : State) : State :=
  let gen := s.fw.capgen + 1
  let s := s.capPrepare s.fw.area gen
  let page := capPage 0 gen Config.fwProtoMin Config.fwProtoMax Config.fwMaxStep fwFeatureBits 0 0
  let ws := [1, BitVec.ofNat 32 s.fw.area, BitVec.ofNat 32 (s.fw.area / 2 ^ 32), gen.setWidth 32]
  s.ioRun false (s.pageOps 0 (page ++ List.replicate 2048 0) ++ [.post ws none])

/-- A field of a driver page. -/
def pageNum (p : Bytes) (off n : Nat) : Nat := ofLE (slice p off n)

/-- A driver page breaks R481 or R482, or is of another generation. -/
def State.pageBad (s : State) (p : Bytes) : Bool :=
  p.length != 1024 || pageNum p 0 4 != 0x50434349 || pageNum p 4 2 != 2 || pageNum p 6 1 != 1 ||
    pageNum p 7 1 != s.fw.capgen.toNat || pageNum p 0xC 4 != 0 || pageNum p 0x10 32 / 64 != 0 ||
    (p.drop 0x38).any fun b => b != 0

/-- The level in force (R483). -/
def capLevel (p : Bytes) : Nat := min Config.fwProtoMax (pageNum p 0xA 2)

/-- The code of CAP_ACTIVE: an accept answers an open offer.
Marks: log 65 (DEDUCED). -/
def State.capCode (s : State) (p : Bytes) : Code :=
  (lowest
    [(!s.fw.offered || s.msgReserved || s.pageBad p || s.msgWord 0 1 != s.fw.capgen.setWidth 32, .deniedAttr),
     (pageNum p 0x10 32 % 2 == 0, .incomplete),
     (capLevel p < Config.fwProtoMin || capLevel p < pageNum p 8 2, .version)]).getD .done

/-- The features that both pages set. -/
def capFeatures (p : Bytes) : Nat := fwFeatureBits &&& (pageNum p 0x10 32 % 64)

/-- The answer to a CAP_ACCEPT whose driver page reads `page`; none: it could not be read (R49). -/
def State.capAccept (s : State) (page : Option Bytes) : State :=
  let p := page.getD []
  let c := if page.isNone then .integrity else s.capCode p
  let s := (s.take 0).onFw fun w => { w with unanswered := false, page := none }
  let ws : List Word := [3, s.fw.capgen.setWidth 32, c.byte.setWidth 32]
  if c = .done then
    let s := s.onFw fun w => { w with offered := false, capActive := true, level := capLevel p, features := capFeatures p }
    let active := capPage 2 s.fw.capgen (pageNum p 8 2) s.fw.level Config.fwMaxStep s.fw.features Config.fwLivePeriod
      s.fw.stale
    s.ioRun false (s.pageOps 0x800 active ++ [.post ws (some (2, 0))])
  else s.ioRun false [.post ws none]

/-- CAP_ACCEPT (R483): due while it waits and the firmware has read the driver page.
Marks: log 65 (DEDUCED). -/
def execCapAccept (s : State) : Res :=
  ranIf (s.mainFree && s.hostMsg 2 && (s.msgType 0 != 2 || s.fw.page.isSome))
    (fun s => s.serveType 2 fun s => s.capAccept (s.fw.page.getD none)) s

/-- A feature is active. -/
def State.feature (s : State) (i : Nat) : Bool := s.fw.capActive && s.fw.features / 2 ^ i % 2 == 1

/-! ### Rings (R484, R485) -/

/-- A ring. -/
def State.ringOf (s : State) (r : Nat) : Ring := Sparse.get {} s.fw.rings r

/-- A ring put to `v`. -/
def State.setRing (s : State) (r : Nat) (v : Ring) : State :=
  s.onFw fun w => { w with rings := Sparse.put {} w.rings r v }

/-- The code of a ring's state. -/
def RingState.code : RingState → Nat
  | .free => 0
  | .running => 1
  | .parked => 2

/-- The control block's offset in platform memory. -/
def State.ringBlock (s : State) (r : Nat) : Nat := s.fw.area + 0x1000 + 64 * r

/-- The firmware's fields of a control block, as they are written (R484). -/
def State.blockOps (s : State) (r : Nat) : List FwOp :=
  let v := s.ringOf r
  [.write (s.ringBlock r)
      (leBytes 8 v.sqBase ++ leBytes 8 v.cqBase ++
        [BitVec.ofNat 8 v.sqLog, BitVec.ofNat 8 v.cqLog, v.part.setWidth 8, v.gen, BitVec.ofNat 8 v.st.code]),
    .write (s.ringBlock r + 0x1C) (leBytes 4 v.sqHead ++ leBytes 4 v.cqTail)]

/-- RING_STATE (R478). -/
def State.ringWords (s : State) (r : Nat) (c : Code) : List Word :=
  let v := s.ringOf r
  [6, putN r 0 6 ||| put v.gen 8 ||| putN v.st.code 16 3 ||| putN c.num 24 8]

/-- A ring message refused. -/
def State.ringRefuse (s : State) (r : Nat) : State := s.reply (s.ringWords r .deniedAttr)

/-- A ring put to `v`, its control block written, and the message answered. -/
def State.ringPut (s : State) (r : Nat) (v : Ring) : State :=
  let s := (s.take 0).setRing r v
  s.ioRun false (s.blockOps r ++ [.post (s.ringWords r .done) (some (1, 24))])

/-- RING_CREATE is refused (R11, R483, R484, R485).
Marks: log 66 (DEDUCED). -/
def State.ringDenied (s : State) (authorised : Bool) : Bool :=
  let w := s.msgWord 0 1
  let p : PartId := fld w 8 6
  let log (n : Nat) : Bool := 4 ≤ n && n ≤ 12
  s.msgReserved || (w &&& 0xFF00C0C0#32) != 0 || !s.fw.capActive || s.partState p != .active ||
    (s.partConf p && !(authorised && s.feature 2)) || !log (fldN w 16 4) || !log (fldN w 20 4) ||
    s.msgAddr 0 2 % 4096 != 0 || s.msgAddr 0 4 % 4096 != 0

/-- RING_CREATE (R485, R489): due while it waits; `authorised`: the tenant of a confidential partition has authorised the
driver's session.
Marks: log 65 (DEDUCED). -/
def execRingCreate (authorised : Bool) (s : State) : Res :=
  ranIf (s.mainFree && s.hostMsg 4)
    (fun s => s.serveType 4 fun s =>
      let w := s.msgWord 0 1
      let r := fldN w 0 6
      if s.ringDenied authorised then s.ringRefuse r
      else
        s.ringPut r
          { st := .running, gen := (s.ringOf r).gen + 1, part := fld w 8 6, sqBase := s.msgAddr 0 2,
            cqBase := s.msgAddr 0 4, sqLog := fldN w 16 4, cqLog := fldN w 20 4 }) s

/-- RING_DESTROY (R478): due while it waits; the ring is FREE and keeps its GEN.
Marks: log 65 (DEDUCED); log 66 (DEDUCED). -/
def execRingDestroy (s : State) : Res :=
  ranIf (s.mainFree && s.hostMsg 5)
    (fun s => s.serveType 5 fun s =>
      let r := fldN (s.msgWord 0 1) 0 6
      if s.msgReserved || fld (s.msgWord 0 1) 6 26 != 0 then s.ringRefuse r
      else s.ringPut r { gen := (s.ringOf r).gen }) s

/-- The command block that serves a REPORT: C, or S while MAIN_READY reads 0 (R415). -/
def State.reportBlk (s : State) : Blk := if s.att.mainReady then .c else .s

/-- A REPORT can be served: its firmware serves, and the attestation unit takes a command of its block. -/
def State.reportDue (s : State) : Bool :=
  (if s.att.mainReady then s.mainFree else s.secServes) && s.attIdle s.reportBlk

/-- REPORT (R478, R415): due while it waits; block C serves it, block S while MAIN_READY reads 0. The message is taken, and
answered once the report stands in device memory.
Marks: log 65 (DEDUCED). -/
def execHostReport (s : State) : Res :=
  ranIf (s.hostMsg 7 && s.reportDue)
    (fun s => s.serveType 7 fun s =>
      if s.msgReserved then s.reply [8, Code.deniedAttr.byte.setWidth 32, 0]
      else
        let nonce := wordsToBytes ((List.range 8).map fun k => s.msgWord 0 (1 + k))
        (s.take 0).askReport s.reportBlk .platform nonce (min (s.msgWord 0 11).toNat 131072) (.host (s.msgAddr 0 9))) s

/-- The report that a host asked for has ended with `k` and `n` bytes: they are written where it said, and REPORT_DONE is
sent. -/
def State.hostReported (s : State) (b : Blk) (addr : Nat) (k : Code) (n : Nat) : State :=
  let ws : List Word := [8, k.byte.setWidth 32, BitVec.ofNat 32 n]
  let data := s.fwOutput b n
  s.ioRun (b == .s) ((if data.isEmpty then [] else [.write addr data]) ++ [.post ws (some (1, 0))])

/-! ### Submissions and completions (R486, R487) -/

/-- A field of a submission.
Marks: log 66 (DEDUCED). -/
def entryNum (e : Bytes) (off n : Nat) : Nat := ofLE (slice e off n)

/-- A reserved field of a submission's head is not 0 (R11, R486). -/
def entryReserved (e : Bytes) : Bool := 2 ≤ entryNum e 1 1 || entryNum e 6 2 != 0

/-- An opcode of R487. -/
def knownOpcode (n : Nat) : Bool := 1 ≤ n && n ≤ 5

/-- The completion posted, the tail moved, and the interrupt of the ring's group if the entry asks for it (R477): each once
what comes before it is acknowledged. -/
def State.complete (s : State) (r : Nat) (e : Bytes) (c : Code) (result : Bytes) : State :=
  let v := s.ringOf r
  let bytes := slice e 4 2 ++ [v.gen, c.byte, if v.phase then 1 else 0] ++ leBytes 3 0 ++ leBytes 4 v.sqHead ++ padTo 52 result
  let tail := (v.cqTail + 1) % 2 ^ v.cqLog
  let s := s.setRing r { v with cqTail := tail, phase := if tail = 0 then !v.phase else v.phase }
  s.ioRun false
    ([.write (v.cqBase + 64 * v.cqTail) bytes, .write (s.ringBlock r + 0x1C) (leBytes 4 v.sqHead ++ leBytes 4 tail)] ++
      if entryNum e 1 1 % 2 = 1 then [.bell (1#32 <<< (r / 4))] else [])

/-- A submission of the ring's GEN that nothing refuses: its PART is the ring's, its opcode is `op`, its feature is active
and its reserved fields are 0 (R11, R485, R486, R487). -/
def State.entryGood (s : State) (r : Nat) (e : Bytes) (op feature : Nat) : Bool :=
  entryNum e 2 1 == (s.ringOf r).part.toNat && entryNum e 0 1 == op && s.feature feature && !entryReserved e

/-- The submission at the head of a ring, once all of it is read. -/
def RingHead.bytes : RingHead → Option Bytes
  | .whole e | .bad e => some e
  | .none | .entry _ => Option.none

/-- One submission taken: dropped and counted if it is of another GEN, refused if its PART or opcode is wrong or its
feature is not active, INTEGRITY if its descriptor could not be read (R49), else `f` completes it (R485, R487).
Marks: log 66 (DEDUCED). -/
def State.submission (s : State) (r op feature : Nat) (f : State → Bytes → State) : State :=
  let v := s.ringOf r
  let e := v.head.bytes.getD []
  let good := s.entryGood r e op feature
  let s := s.setRing r { v with sqHead := (v.sqHead + 1) % 2 ^ v.sqLog, head := .none }
  if entryNum e 3 1 ≠ v.gen.toNat then
    let s := s.onFw fun w => { w with stale := tally w.stale }
    s.ioRun false (s.pageOps 0x83C (leBytes 4 s.fw.stale))
  else if !good then s.complete r e .deniedAttr []
  else if v.head = .bad e then s.complete r e .integrity []
  else f s e

/-- A submission of this row waits: its ring is RUNNING, all of it is read, and its opcode is the row's or none of the
table's. -/
def State.submitted (s : State) (r op : Nat) : Bool :=
  s.mainFree && (s.ringOf r).st == .running &&
    (s.ringOf r).head.bytes.any fun e => entryNum e 0 1 == op || !knownOpcode (entryNum e 0 1)

/-! ### Reading the rings (R467, R484, R486) -/

/-- A read of device memory by the main firmware: partition 0, the context of TOP_MP_CTX (R467). -/
def State.lookAt (s : State) (x : FwRead) (addr beats : Nat) : State :=
  (s.mpIssue false addr beats 0 s.coreCtx [] .look).onFw fun w => { w with look := some x }

/-- The ring is RUNNING under `gen` still. -/
def State.ringStands (s : State) (r : Nat) (gen : Gen) : Bool := (s.ringOf r).st == .running && (s.ringOf r).gen == gen

/-- The next read of what is left of a step descriptor: up to 16 lines, within 4 KiB (R46). -/
def State.lookDescriptor (s : State) (r : Nat) (gen : Gen) (addr left : Nat) : State :=
  s.lookAt (.descriptor r gen addr left) (addr / 64 * 64) (readBeats addr left)

/-- A ring that the firmware has to look at: RUNNING, rung, its head submission not yet read. -/
def State.ringDue (s : State) (r : Nat) : Bool :=
  let v := s.ringOf r
  v.st == .running && v.head == .none && (v.rung || bit (s.mbx.ringPend >>> r) 0)

/-- The next ring to look at, the one after the last first.
Marks: log 109 (DEDUCED). -/
def State.nextRing (s : State) : Option Nat :=
  ((List.range 64).map fun k => (s.fw.turn + k) % 64).find? s.ringDue

/-- A CAP_ACCEPT waits and can be answered. -/
def State.acceptWaits (s : State) : Bool := s.hostMsg 2 && s.msgType 0 == 2

/-- The main firmware reads what it needs next, where the port takes it and nothing else of it is under way: the driver page
of a CAP_ACCEPT that waits, else the control block of a ring that was rung, whose pending bit it clears (R477).
Marks: log 109 (DEDUCED). -/
def State.lookNext (s : State) : State :=
  let s := if s.acceptWaits then s else s.onFw fun w => { w with page := none }
  if !s.mainFree || s.fw.look.isSome || !s.mpRoom || s.gateBound s.coreCtx then s
  else if s.acceptWaits && s.fw.page.isNone then s.lookAt .page (s.fw.area + 0x400) 16
  else
    match s.nextRing with
    | none => s
    | some r =>
      let v := s.ringOf r
      let s := s.setRing r { v with rung := true }
      let s := s.onMbx fun x => { x with ringPend := x.ringPend &&& ~~~ (1#64 <<< r) }
      (s.onFw fun w => { w with turn := (r + 1) % 64 }).lookAt (.block r v.gen) (s.ringBlock r) 1

/-- The submission at the head of ring `r` is read: a JOB_STEP that nothing refuses names a descriptor, which is read too.
Marks: log 109 (DEDUCED). -/
def State.entryRead (s : State) (r : Nat) (gen : Gen) (e : Bytes) : State :=
  let v := s.ringOf r
  let len := entryNum e 0x10 8
  if entryNum e 3 1 = gen.toNat ∧ s.entryGood r e 2 0 = true ∧ len ≠ 0 then
    (s.setRing r { v with head := .entry e }).lookDescriptor r gen (entryNum e 8 8) len
  else s.setRing r { v with head := .whole e }

/-- The control block of ring `r` is read: an empty submission queue is rung no more; where the completion queue has room,
the submission at its head is read (R484, R486). -/
def State.blockRead (s : State) (r : Nat) (gen : Gen) (b : Bytes) : State :=
  let v := s.ringOf r
  let tail := ofLE (slice b 0x18 4) % 2 ^ v.sqLog
  let full := (v.cqTail + 1) % 2 ^ v.cqLog == ofLE (slice b 0x24 4) % 2 ^ v.cqLog
  if tail = v.sqHead then s.setRing r { v with rung := false }
  else if full then s
  else s.lookAt (.entry r gen) (v.sqBase + 64 * v.sqHead) 1

/-- A read of the main firmware is answered. What it read of a ring that has been taken down since is dropped. A control
block or an entry that could not be read is read again; a descriptor that could not be read fails its submission (R49).
Marks: log 109 (DEDUCED). -/
def State.lookDone (s : State) (data : Bytes) (err : Bool) : State :=
  let s0 := s.onFw fun w => { w with look := none }
  match s.fw.look with
  | none => s
  | some .page => if s.acceptWaits then s0.onFw fun w => { w with page := some (if err then none else some data) } else s0
  | some (.block r gen) => if err || !s.ringStands r gen then s0 else s0.blockRead r gen data
  | some (.entry r gen) => if err || !s.ringStands r gen then s0 else s0.entryRead r gen data
  | some (.descriptor r gen addr left) =>
    let v := s0.ringOf r
    match v.head with
    | .entry e =>
      if !s.ringStands r gen then s0
      else if err then s0.setRing r { v with head := .bad e }
      else
        let n := 64 * readBeats addr left - addr % 64
        if left ≤ n then s0.setRing r { v with head := .whole e } else s0.lookDescriptor r gen (addr + n) (left - n)
    | _ => s0

/-! ### The opcodes of R487 -/

/-- NOP (R487). -/
def execRingNop (ring : BitVec 6) (s : State) : Res :=
  let r := ring.toNat
  ranIf (s.submitted r 1) (fun s => s.submission r 1 0 fun s e => s.complete r e .done []) s

/-- A step of a job of ring `r`: it is scheduled on the partition's arrays, which are the host die's, by the address and the
length (8 bytes each) of its descriptor; where it spans `workers`, at the level that R520 allows, and else it is refused.
Marks: log 66 (DEDUCED). -/
def State.jobStep (s : State) (r : Nat) (e : Bytes) (workers : List (BitVec 12)) : State × Code :=
  let run (s : State) (level : Nat) : State :=
    s.emit (.jobStep (s.ringOf r).part (entryNum e 8 8) (entryNum e 0x10 8) workers level)
  let job (level : Nat) : SpanJob := { ring := r, workers := workers, level := level }
  let s := s.onFw fun w => { w with jobs := w.jobs.filter fun j => j.ring != r }
  if workers.isEmpty then (run s 0, .done)
  else
    match s.spanLevel workers with
    | none => (s, .version)
    | some n => (run (s.onFw fun w => { w with jobs := w.jobs ++ [job n] }) n, .done)

/-- JOB_STEP (R487); `workers`: the workers that its descriptor, which the firmware has read, names beside the manager.
Marks: log 66 (DEDUCED). -/
def execJobStep (ring : BitVec 6) (workers : List (BitVec 12)) (s : State) : Res :=
  let r := ring.toNat
  ranIf (s.submitted r 2)
    (fun s => s.submission r 2 0 fun s e =>
      let t := s.jobStep r e workers
      t.1.complete r e t.2 []) s

/-- The SME OPEN that a STREAM_OPEN issues from block C with the ring's partition. The operands stand at 0x08: stream ID
(2 bytes), tap, lane group, job (2), fallback register, a reserved byte, length (8). -/
def State.ringOpen (s : State) (e : Bytes) (p : PartId) : State :=
  let w := putN (entryNum e 8 2) 0 12 ||| putN (entryNum e 0xA 1) 12 4 ||| putN (entryNum e 0xB 1) 16 4 ||| put p 20
  let s := s.setReg .smeOpStream w 1
  let s := s.setReg .smeOpJob (putN (entryNum e 0xC 2) 0 16 ||| putN (entryNum e 0xE 1) 16 6) 1
  let s := s.setReg .smeOpLenLo (BitVec.ofNat 32 (entryNum e 0x10 4)) 1
  let s := s.setReg .smeOpLenHi (putN (entryNum e 0x14 2) 0 16) 1
  s.smeCommand .c 0x1 1 .none

/-- STREAM_OPEN (R487): CODE is the SME's completion; it waits while the SME executes another command. While D3 does not
serve it is answered BUSY, and ends DIM (R105).
Marks: log 66 (DEDUCED). -/
def execRingStreamOpen (ring : BitVec 6) (s : State) : Res :=
  let r := ring.toNat
  ranIf (s.submitted r 3 && s.sme.run.isNone && s.sme.waitS.isNone && s.sme.waitC.isNone)
    (fun s => s.submission r 3 1 fun s e =>
      if !s.d3Serves then (s.dimEnd 4).complete r e .busy []
      else
        let s := s.ringOpen e (s.ringOf r).part
        s.complete r e s.sme.blkC.code []) s

/-- STREAM_RESULT (R487): one that is taken waits until the stream is CLOSED; RESULT holds its outcome and generation. A
stream of another partition is refused. -/
def execRingStreamResult (ring : BitVec 6) (s : State) : Res :=
  let r := ring.toNat
  let e := (s.ringOf r).head.bytes.getD []
  let v := s.stream (BitVec.ofNat 12 (entryNum e 8 2))
  let foreign := v.st != .free && v.part != (s.ringOf r).part
  let taken := entryNum e 3 1 == (s.ringOf r).gen.toNat && s.entryGood r e 4 1
  ranIf (s.submitted r 4 && (v.st == .closed || foreign || !taken))
    (fun s => s.submission r 4 1 fun s e =>
      if foreign then s.complete r e .deniedAttr [] else s.complete r e .done [v.outcome.byte, v.gen]) s

/-- COPY (R487): the bytes move through a wire endpoint of the partition, by the host die's engines; another endpoint is
refused. The operands stand at 0x08: source, destination, length (8 bytes each), endpoint ID (2).
Marks: log 66 (DEDUCED). -/
def execRingCopy (ring : BitVec 6) (s : State) : Res :=
  let r := ring.toNat
  ranIf (s.submitted r 5)
    (fun s => s.submission r 5 0 fun s entry =>
      let p := (s.ringOf r).part
      let i : EndpointId := BitVec.ofNat 12 (entryNum entry 0x20 2)
      let e := s.endpoint i
      if e.present && e.part == p && e.kind == usageHostbus then
        (s.emit (.wireCopy p i (entryNum entry 8 8) (entryNum entry 0x10 8) (entryNum entry 0x18 8))).complete r entry
          .done []
      else s.complete r entry .deniedAttr []) s

/-! ### The driver gone (R488) -/

/-- Every RUNNING ring is PARKED, its control block written.
Marks: log 48 (DEDUCED). -/
def State.parkRings (s : State) : State :=
  (List.range 64).foldl (fun s r =>
    let v := s.ringOf r
    if v.st = .running then
      let s := s.setRing r { v with st := .parked, head := .none }
      s.ioRun false (s.blockOps r)
    else s) s

/-- A trigger of R488 stands; how long an offer or LIVENESS has stood still is the event's own. -/
def State.driverGone (s : State) (why : GoneCause) : Bool :=
  match why with
  | .hostReset => s.fw.hostReset
  | .offer => s.fw.unanswered
  | .liveness => s.feature 5 && Config.fwLivePeriod != 0

/-- DRIVER_GONE (R488): due at one of the three triggers, while the main firmware serves and CAP_OFFER can be posted. -/
def execDriverGone (why : GoneCause) (s : State) : Res :=
  ranIf (s.mainFree && s.driverGone why && !(s.mslot 1).full)
    (fun s => (s.onFw fun w => { w with hostReset := false }).parkRings.capOffer) s

/-- MBX_HOST_RESET (R475): side A of MBX0 is reset where KEY is 0xC4, and the firmware finds the driver gone (R488). -/
def execMbxHostReset (w : Word) (s : State) : Res :=
  ran (fun s =>
    if !s.serves .d6 then s.emit (.code .busy)
    else if fld w 24 8 = 0xC4#8 then (s.sideReset 0 false).onFw fun f => { f with hostReset := true, page := none }
    else s) s

end Sys2Proof.Machine
end

