-- ==== Sys2Proof/Machine/Worker.lean ====
section
/-!
DEFINITION. Machine/Worker.lean: the worker channel, its engine (R55 to R57, R479) and what the main firmware of a worker and
of a manager does with its messages (R417, R418, R421).
-/
namespace Sys2Proof.Machine

/-- The worker channel changed by `f`. -/
def State.onWcp (s : State) (f : Wcp → Wcp) : State := { s with wcp := f s.wcp }

/-! ### Header beats (R56) -/

/-- A beat. -/
abbrev WBeat := BitVec 128

def hWorker (h : WBeat) : BitVec 12 := fld h 116 12
def hDir (h : WBeat) : Bool := bit h 115
def hRsv (h : WBeat) : BitVec 7 := fld h 108 7
def hType (h : WBeat) : Nat := fldN h 100 8
def hLen (h : WBeat) : Nat := fldN h 92 8
def hGen (h : WBeat) : Gen := fld h 84 8
def hPayload (h : WBeat) : BitVec 84 := fld h 0 84

/-- A header beat. -/
def header (worker : BitVec 12) (dir : Bool) (typ len : Nat) (gen : Gen) (payload : BitVec 84) : WBeat :=
  (worker.setWidth 128 <<< 116) ||| (if dir then 1#128 <<< 115 else 0) ||| (BitVec.ofNat 128 (typ % 256) <<< 100) |||
    (BitVec.ofNat 128 (len % 256) <<< 92) ||| (gen.setWidth 128 <<< 84) ||| payload.setWidth 128

/-- The bytes of a beat. -/
def beatBytes (b : WBeat) : Bytes := leBytes 16 b.toNat

/-- The beats of a byte string, the last one filled with zero bytes. -/
def beatsOf : Nat → Bytes → List WBeat
  | 0, _ => []
  | n + 1, bs => BitVec.ofNat 128 (ofLE (bs.take 16)) :: beatsOf n (bs.drop 16)

/-- Word `k` of a beat. -/
def beatWord (b : WBeat) (k : Nat) : Word := fld b (32 * k) 32

/-- The roles. -/
def State.isWorker (s : State) : Bool := s.crs.strap.role == 1
/-- This die is a manager. -/
def State.isManager (s : State) : Bool := s.crs.strap.role == 2

/-- WCP_UP (R30, R57): D6 is released and the role is worker or manager. -/
def State.wcpUp (s : State) : Bool := s.up .d6 && (s.isWorker || s.isManager)

/-! ### Checks of the engine (R57) -/

/-- The direction that the table of R57 gives a type: CANCEL goes either way. -/
def typeDir (t : Nat) (dir : Bool) : Bool :=
  match t with
  | 1 | 3 => !dir
  | 2 | 4 => dir
  | 5 => true
  | _ => false

/-- A message breaks R57: a reserved type, a reserved field not 0, or a DIR that does not fit; `inbound`: received, else
sent. -/
def State.headerBad (s : State) (h : WBeat) (inbound : Bool) : Bool :=
  hRsv h != 0 || !typeDir (hType h) (hDir h) || hDir h != (s.isManager == inbound)

/-- The request that CANCEL names: TYPE of its payload (R417). -/
def cancelType (h : WBeat) : Nat := fldN (hPayload h) 76 8

/-- The current generation that a message must carry; none where none is current. A worker takes that of each request. -/
def State.wantedGen (s : State) (h : WBeat) : Option Gen :=
  match hType h with
  | 1 | 3 => some (hGen h)
  | 2 => s.wcp.genReport
  | 4 => s.wcp.genVersion
  | _ => if cancelType h == 1 || cancelType h == 2 then s.wcp.genReport else s.wcp.genVersion

/-- The generation of a request, sent or received, becomes current. -/
def State.notesGen (s : State) (h : WBeat) : State :=
  s.onWcp fun c =>
    match hType h with
    | 1 => { c with genReport := some (hGen h) }
    | 3 => { c with genVersion := some (hGen h) }
    | _ => c

/-! ### Receiving (R479) -/

/-- The message goes to the firmware: neither dropped nor stale. -/
def State.wcpKeeps (s : State) (h : WBeat) : Bool := !s.headerBad h true && s.wantedGen h == some (hGen h)

/-- The engine can post in direction A to B of MBX2. -/
def State.wcpRoom (s : State) : Bool := !(s.mslot 4).full && s.receiverUp 4

/-- A kept message: its beats written to control SRAM, its descriptor posted. A message received ends DIM (R105). -/
def State.wcpAccept (s : State) (h : WBeat) (beats : List WBeat) : State :=
  let s := s.dimEnd 2
  let seq := ((s.mslot 4).seq + 1).toNat
  let at' := fldN (s.reg .mbxWcpRxbase) 12 12 * 4096 + 4096 * (seq % 16)
  let s := (s.notesGen h).csramPut at' (beats.flatMap beatBytes)
  s.fwPost 4
    [beatWord h 0, beatWord h 1, beatWord h 2, beatWord h 3, BitVec.ofNat 32 at', BitVec.ofNat 32 beats.length, 0, 0, 0, 0,
      0, 0, 0, 0, 0, 0]

/-- The message of a header and its beats received; every beat's credit is returned. -/
def State.wcpReceive (s : State) (h : WBeat) (beats : List WBeat) : State :=
  let s :=
    if s.headerBad h true then s.onWcp fun c => { c with cntDrop := tally c.cntDrop }
    else if s.wcpKeeps h then s.wcpAccept h beats
    else s.onWcp fun c => { c with cntStale := tally c.cntStale }
  s.emit (.wcpCredits (1 + beats.length))

/-- The engine takes the next message that it holds: one that is kept waits until MBX2 has room. -/
def State.wcpTake (s : State) : State :=
  match s.wcp.rx with
  | [] => s
  | [] :: rest => s.onWcp fun c => { c with rx := rest }
  | (h :: l) :: rest =>
    if s.wcpKeeps h && !s.wcpRoom then s else (s.onWcp fun c => { c with rx := rest }).wcpReceive h l

/-- WCP_RX_MESSAGE (R479): the engine holds the messages that wait for MBX2, in the order in which they came. While WCP_UP is
low the message is void (R36). One that does not hold LEN beats after its header, which R56 does not allow a peer, is
dropped.
Marks: log 40 (DESIGN CHOICE). -/
def execWcpRxMessage (beats : List (BitVec 128)) (s : State) : Res :=
  ran (fun s =>
    if !s.wcpUp || beats.length != 1 + hLen (beats.headD 0) then s
    else (s.onWcp fun c => { c with rx := c.rx ++ [beats] }).wcpTake) s

/-! ### Sending -/

/-- Beats sent while the host die has room.
Marks: log 67 (DESIGN CHOICE). -/
def State.wcpPump : Nat → State → State
  | 0, s => s
  | n + 1, s =>
    match s.wcp.tx with
    | [] => s
    | b :: l =>
      if s.wcp.credits = 0 then s
      else State.wcpPump n ((s.onWcp fun c => { c with tx := l, credits := c.credits - 1 }).emit (.wcp b))

/-- The header beat of the descriptor in words `ws`. -/
def descHeader (ws : List Word) : WBeat :=
  let w (k : Nat) : WBeat := (ws.getD k 0).setWidth 128 <<< (32 * k)
  w 0 ||| w 1 ||| w 2 ||| w 3

/-- The engine takes the descriptor posted in direction B to A of MBX2: the beats read, and as many sent as there are
credits. -/
def State.wcpStart (s : State) : State :=
  let ws := (s.mslot 5).msg
  let h := descHeader ws
  let bytes := s.csramBytes (fldN (ws.getD 4 0) 0 24) (16 * hLen h)
  let s := (s.notesGen h).onWcp fun c => { c with tx := h :: beatsOf (hLen h) bytes, posted := true }
  State.wcpPump 256 s

/-- A manager that sends a REPORT_REQ of a new generation begins a collection; each worker asked is in it (R417, R418). -/
def State.noteCollection (s : State) (h : WBeat) (beats : List WBeat) : State :=
  if !s.isManager || hType h != 1 then s
  else
    let mine : WorkerAnswer := { worker := hWorker h }
    s.onFw fun w =>
      match w.coll with
      | some c =>
        if c.gen = hGen h ∧ c.ended = false then { w with coll := some { c with workers := c.workers ++ [mine] } }
        else { w with coll := some { gen := hGen h, nonce := beats.flatMap beatBytes, workers := [mine] } }
      | none => { w with coll := some { gen := hGen h, nonce := beats.flatMap beatBytes, workers := [mine] } }

/-- SEND of a descriptor in direction B to A of MBX2 (R479). -/
def State.wcpSend (s : State) (n : Nat) : State :=
  let ws := (s.mslot 5).msg
  let h := descHeader ws
  let r := s.sendSlot 5 n (s.wcpUp && !s.headerBad h false)
  if r.2 then
    let bytes := s.csramBytes (fldN (ws.getD 4 0) 0 24) (16 * hLen h)
    (r.1.noteCollection h (beatsOf (hLen h) bytes)).wcpStart
  else r.1

/-- Where the main firmware of a worker keeps the beats of the message it sends: its own choice, in the general-use
range of R466. -/
def fwBeats : Nat := 0x0E50000

/-- The next message that the firmware has queued is posted. -/
def State.wcpNext (s : State) : State :=
  match s.wcp.queue with
  | [] => s
  | m :: q =>
    if (s.mslot 5).full || s.wcp.posted then s
    else
      let h := m.headD 0
      let s := (s.onWcp fun c => { c with queue := q }).csramPut fwBeats (m.tail.flatMap beatBytes)
      (s.fwPost 5
        [beatWord h 0, beatWord h 1, beatWord h 2, beatWord h 3, BitVec.ofNat 32 fwBeats, BitVec.ofNat 32 (m.length - 1),
          0, 0, 0, 0, 0, 0, 0, 0, 0, 0]).wcpStart

/-- Messages queued for the engine. -/
def State.wcpQueue (s : State) (l : List (List WBeat)) : State :=
  (s.onWcp fun c => { c with queue := c.queue ++ l }).wcpNext

/-- WCP_CREDIT (R55): a credit that comes while WCP_UP is low is void.
Marks: log 67 (DESIGN CHOICE). -/
def execWcpCredit (s : State) : Res :=
  ran (fun s => if s.wcpUp then State.wcpPump 1 (s.onWcp fun c => { c with credits := c.credits + 1 }) else s) s

/-- WCP_MESSAGE_SENT (R479): due once the last beat is sent; FULL clears. -/
def execWcpMessageSent (s : State) : Res :=
  ranIf (s.wcp.posted && s.wcp.tx.isEmpty)
    (fun s => ((s.take 5).onWcp fun c => { c with posted := false }).wcpNext) s

/-! ### A worker's firmware (R417, R418, R421) -/

/-- The header of the message that waits in MBX2. -/
def State.wcpHead (s : State) : WBeat := descHeader (s.mslot 4).msg

/-- The bytes that follow it, in control SRAM.
Marks: log 67 (DESIGN CHOICE). -/
def State.wcpBytes (s : State) : Bytes := s.csramBytes (s.msgWord 4 4).toNat (16 * hLen s.wcpHead)

/-- A message of type `t` waits for the main firmware. -/
def State.wcpMsg (s : State) (t : Nat) : Bool := s.mainServes && (s.mslot 4).full && hType s.wcpHead == t

/-- The report parts of a report: 4,080 bytes each. -/
def reportParts (worker : BitVec 12) (gen : Gen) (last : Nat) : Nat → Nat → Bytes → List (List WBeat)
  | 0, _, _ => []
  | n + 1, i, bs =>
    let here := bs.take 4080
    let len := (here.length + 15) / 16
    let payload : BitVec 84 :=
      (BitVec.ofNat 84 i <<< 76) ||| (BitVec.ofNat 84 last <<< 68) ||| (BitVec.ofNat 84 here.length <<< 52)
    (header worker true 2 len gen payload :: beatsOf len here) :: reportParts worker gen last n (i + 1) (bs.drop 4080)

/-- A message breaks R417: its LEN is not `len`, or its PAYLOAD0 from bit `top` down is not 0. -/
def messageBad (h : WBeat) (len top : Nat) : Bool := hLen h != len || fldN (hPayload h) 0 top != 0

/-- REPORT_REQ (R418): due on a worker once it waits and the attestation unit takes a command of block C. It is taken, and
answered once the report is there. A malformed one is dropped (R417).
Marks: log 67 (DESIGN CHOICE). -/
def execReportReq (s : State) : Res :=
  ranIf (s.isWorker && s.wcpMsg 1 && s.attIdle .c)
    (fun s =>
      let h := s.wcpHead
      if messageBad h 2 84 then s.take 4
      else (s.take 4).askReport .c .platform (padTo 32 s.wcpBytes) 131072 (.worker h)) s

/-- A worker's report is there: it goes to the manager in parts. No report, no part. -/
def State.workerReported (s : State) (h : WBeat) (k : Code) (n : Nat) : State :=
  if k = .done then
    let parts := (n + 4079) / 4080
    s.wcpQueue (reportParts (hWorker h) (hGen h) (parts - 1) parts 0 (s.fwOutput .c n))
  else s

/-- The beat of a record entry in VERSION_INFO. -/
def entryBeat (e : FwEntry) (peer : Word) : WBeat :=
  (e.typ.setWidth 128 <<< 120) ||| (e.svn.setWidth 128 <<< 112) ||| (e.version.setWidth 128 <<< 80) |||
    (peer.setWidth 128 <<< 48)

/-- VERSION_REQ (R421): due on a worker once it waits; the answer comes from the committed record. A malformed one is dropped
(R417).
Marks: log 67 (DESIGN CHOICE). -/
def execVersionReq (s : State) : Res :=
  ranIf (s.isWorker && s.wcpMsg 3)
    (fun s =>
      let h := s.wcpHead
      let es := s.att.record.entries.filter fun e => e.valid
      let payload : BitVec 84 := (s.att.record.release.setWidth 84 <<< 52) ||| (BitVec.ofNat 84 es.length <<< 44)
      let m := header (hWorker h) true 4 es.length (hGen h) payload :: es.map fun e => entryBeat e (s.minPeer e.typ.toNat)
      let s := s.take 4
      if 4 ≤ es.length ∧ messageBad h 0 84 = false then s.wcpQueue [m] else s) s

/-! ### A manager's firmware -/

/-- The parts 0 to `last` of an answer, joined, once each has come. -/
def WorkerAnswer.report (a : WorkerAnswer) : Option Bytes :=
  match a.last with
  | none => none
  | some n =>
    let l := (List.range (n + 1)).map fun i => (a.parts.find? fun p => p.1 == i).map (·.2)
    if l.all fun p => p.isSome then some (l.flatMap fun p => p.getD []) else none

/-- The answer of a worker's report passes the manager's checks: a COSE_Sign that carries the nonce (R418). -/
def reportFits (r nonce : Bytes) : Bool := reportNonce r == some nonce

/-- A part joins a worker's answer: parts come in ascending order, of the size they declare. -/
def WorkerAnswer.takes (a : WorkerAnswer) (h : WBeat) (bytes nonce : Bytes) : WorkerAnswer :=
  let p := hPayload h
  let i := fldN p 76 8
  let last := fldN p 68 8
  let n := fldN p 52 16
  let bad := n == 0 || 4080 < n || (n + 15) / 16 != hLen h || fldN p 0 52 != 0 || last < i ||
    i != a.parts.length || (a.last.any fun l => l != last) || (bytes.drop n).any fun b => b != 0
  if bad || a.answered then a
  else
    let a := { a with parts := a.parts ++ [(i, bytes.take n)], last := some last }
    match a.report with
    | some r => if reportFits r nonce then { a with answered := true } else a
    | none => a

/-- A collection in which every worker has answered or is absent ends. -/
def Collection.settle (c : Collection) : Collection :=
  { c with ended := c.ended || c.workers.all fun a => a.answered || a.absent }

/-- The running collection changed by `f`, and ended where that settles it. -/
def State.onColl (s : State) (f : Collection → Collection) : State :=
  s.onFw fun w => { w with coll := w.coll.map fun c => if c.ended then c else (f c).settle }

/-- A worker's report is whole: it is kept, and written to device memory, for a verifier that fetches it (R418).
Marks: log 68 (DESIGN CHOICE). -/
def State.keepReport (s : State) (w : BitVec 12) (r : Bytes) : State :=
  (s.onFw fun f => { f with reports := (f.reports.filter fun x => x.1 != w) ++ [(w, r)] }).ioRun false
    [.write (Config.reportPlace w) r]

/-- What has come of worker `w`'s answer in the running collection. -/
def State.workerAnswer (s : State) (w : BitVec 12) : Option WorkerAnswer :=
  s.fw.coll.bind fun c => if c.ended then none else c.workers.find? fun a => a.worker == w && !a.absent

/-- REPORT_PART (R418): due on a manager once it waits. A part of another generation than the collection's is dropped. -/
def execReportPart (s : State) : Res :=
  ranIf (s.isManager && s.wcpMsg 2)
    (fun s =>
      let h := s.wcpHead
      let w := hWorker h
      let bytes := s.wcpBytes
      let s := s.take 4
      match s.fw.coll, s.workerAnswer w with
      | some c, some a =>
        if c.gen ≠ hGen h then s
        else
          let b := a.takes h bytes c.nonce
          let s := if b.answered && !a.answered then s.keepReport w (b.report.getD []) else s
          s.onColl fun c => { c with workers := c.workers.map fun x => if x = a then b else x }
      | _, _ => s) s

/-- CANCEL (R418): due once it waits; a worker drops the request it names, and a manager counts the worker absent. A
malformed one is dropped (R417).
Marks: log 67 (DESIGN CHOICE). -/
def execWcpCancel (s : State) : Res :=
  ranIf (s.wcpMsg 5)
    (fun s =>
      let h := s.wcpHead
      let s := s.take 4
      if messageBad h 0 76 then s
      else if s.isWorker then
        let named (g : Gen) : Bool := g == hGen h
        let s := s.onFw fun w =>
          { w with attC := w.attC.map fun t =>
              match t.job with
              | .worker x => if named (hGen x) && cancelType h ≤ 2 then { t with job := .void } else t
              | _ => t }
        s.onWcp fun c =>
          { c with queue := c.queue.filter fun m =>
              !(named (hGen (m.headD 0)) && hType (m.headD 0) == (if cancelType h ≤ 2 then 2 else 4)) }
      else
        s.onColl fun c =>
          { c with workers := c.workers.map fun a =>
              if a.worker == hWorker h ∧ c.gen = hGen h then { a with absent := !a.answered } else a }) s

/-- VERSION_INFO (R421): due on a manager once it waits; it replaces what the worker last told, and where that changes the
jobs that the worker takes part in are checked again (R520). A malformed one is dropped. -/
def execVersionInfo (s : State) : Res :=
  ranIf (s.isManager && s.wcpMsg 4)
    (fun s =>
      let h := s.wcpHead
      let p := hPayload h
      let es := beatsOf (hLen h) s.wcpBytes
      let bad := hLen h < 4 || 16 < hLen h || fldN p 44 8 != hLen h || fldN p 0 44 != 0 || es.any fun b => fldN b 0 48 != 0
      let s := s.take 4
      if bad then s
      else
        let info : WorkerInfo :=
          { worker := hWorker h, release := fld p 52 32,
            entries := es.map fun b => (fld b 120 8, fld b 112 8, fld b 80 32, fld b 48 32) }
        let old := s.info info.worker
        let s := s.onFw fun w => { w with infos := (w.infos.filter fun x => x.worker != info.worker) ++ [info] }
        if old = some info then s else s.recheckJobs info.worker) s

/-- COLLECTION_TIMEOUT (R418): due on a manager while a collection runs; a worker that has not delivered every part is
absent.
Marks: log 41 (DESIGN CHOICE). -/
def execCollectionTimeout (s : State) : Res :=
  ranIf (s.isManager && s.mainServes && s.fw.coll.any fun c => !c.ended)
    (fun s => s.onColl fun c =>
      { c with workers := c.workers.map fun a => if a.answered then a else { a with absent := true } }) s

/-! ### Reports for a session (R406, R419) -/

/-- A worker's entry put among entries in ascending worker ID. -/
def insertAnswer (a : WorkerAnswer) : List WorkerAnswer → List WorkerAnswer
  | [] => [a]
  | b :: l => if a.worker.toNat ≤ b.worker.toNat then a :: b :: l else b :: insertAnswer a l

/-- An entry of the leaf list (R419). -/
def WorkerAnswer.leaf (a : WorkerAnswer) : Bytes :=
  let r := a.report.getD []
  if a.answered then
    leBytes 2 a.worker.toNat ++ [0, 0] ++ leBytes 4 ((reportRelease r).getD 0) ++
      sha3_384 ([0] ++ leBytes 2 a.worker.toNat ++ r)
  else leBytes 2 a.worker.toNat ++ [1, 0] ++ leBytes 4 0 ++ List.replicate 48 0

/-- The leaf list of a collection. -/
def Collection.leafList (c : Collection) : Bytes := (c.workers.foldr insertAnswer []).flatMap WorkerAnswer.leaf

/-- Where the main firmware keeps a leaf list: its own choice, in the general-use range of R466.
Marks: log 68 (DESIGN CHOICE). -/
def fwLeaves : Nat := 0x0C00000

/-- A session's report has ended: it is kept for GET_PAGE and answered in its session, or an error (R406). -/
def State.sessionReported (s : State) (id : Word) (n : Nat) : State :=
  if n = 0 then s.answerError (some id) errUnspecified
  else (s.onSpdm id fun x => { x with report := s.fwOutput .c n }).answerVendor (some id) 4 []

/-- The composite that an ended collection prepared is asked for (R419, R420). -/
def State.composeNext (s : State) : State :=
  match s.fw.compose, s.fw.coll with
  | some x, some c =>
    if c.ended && s.mainServes && s.attIdle .c then
      let s := (s.onFw fun w => { w with compose := none }).csramPut fwLeaves c.leafList
      let s := s.setReg .attOpList (BitVec.ofNat 32 fwLeaves) 1
      let s := s.setReg .attOpCount (putN c.workers.length 0 13 ||| put c.gen 13) 1
      s.askReport .c .composite x.nonce 131072 (.session x.session)
    else s
  | _, _ => s

/-- A composite begins (R417, R418): REPORT_REQ under a new generation goes to every worker that has told of itself.
Marks: log 68 (DESIGN CHOICE). -/
def State.beginComposite (s : State) (id : Word) (nonce : Bytes) : State :=
  let gen := s.fw.reqGen + 1
  let workers := s.fw.infos.map fun i => i.worker
  let coll : Collection := { gen := gen, nonce := nonce, workers := workers.map fun w => { worker := w } }
  let s := s.onFw fun w => { w with reqGen := gen, coll := some coll.settle, compose := some ⟨id, nonce⟩ }
  (s.wcpQueue (workers.map fun w => header w false 1 2 gen 0 :: beatsOf 2 nonce)).composeNext

/-- The kinds of REPORT: platform, job, composite. -/
def reportOp (kind : Nat) : Option AttOp :=
  if kind = 0 then some .platform else if kind = 1 then some .job else if kind = 2 then some .composite else none

/-- VDM_REPORT (R406): the report is kept for GET_PAGE, and answered once it is there; in a handover that is after it
(R413). It waits until the attestation unit takes a command, and a composite while another is collected; a composite needs
the manager role. -/
def execVdmReport (ss : Option Word) (r : Bytes) (s : State) : Res :=
  ran (fun old => old.spdm ss r (0xFE, 4) fun s m => s.inSession ss true fun s x => s.withArgs ss m 36 36 fun s a =>
    let nonce := slice a 4 32
    match reportOp (msgNum a 0 1) with
    | none => s.answerError ss errInvalid
    | some .composite =>
      if !s.isManager then s.answerError ss errInvalid
      else if s.fw.compose.isSome || s.fw.coll.any fun c => !c.ended then old
      else s.beginComposite x.id nonce
    | some op =>
      if op = .job ∧ 64 ≤ msgNum a 1 1 then s.answerError ss errUnspecified
      else if !s.attIdle .c then old
      else
        let s := s.setReg .attOpJob (putN (msgNum a 2 2) 0 16 ||| putN (msgNum a 1 1) 16 6) 1
        s.askReport .c op nonce 131072 (.session x.id)) s

/-! ### The firmware goes on -/

/-- A command of the attestation unit that the main firmware waited for is over, and its answer given. -/
def State.attSettled (s : State) (j : FwJob) (k : Code) (n : Nat) : State :=
  let failed (ss : Option Word) : State := s.answerError ss errUnspecified
  let sig := s.fwOutput .c 96
  match j with
  | .host addr => s.hostReported .c addr k n
  | .worker h => s.workerReported h k n
  | .session id => s.sessionReported id n
  | .challenge body =>
    if k = .done then (s.onFw fun w => { w with msgB := [] }).answer none (body ++ sig) else failed none
  | .measure ss body => if k = .done then (s.setMsgL ss []).answer ss (body ++ sig) else failed ss
  | .exchange id t body hs => if k = .done then s.exchanged id t body hs sig else failed none
  | .offer | .void => s

/-- The main firmware takes up a command that is over; a KEY_EXCHANGE that is signed waits for the digest engine (R405). -/
def State.attResumeC (s : State) : State :=
  match s.fw.attC with
  | some ⟨j, some (k, n)⟩ =>
    let dge := match j with
      | .exchange _ _ _ _ => k == .done
      | _ => false
    if !s.mainServes then s
    else if dge && !s.dgeReady then s.d3Missed
    else (s.setTask .c none).attSettled j k n
  | _ => s

/-- The security firmware takes up a command that is over: the host's report, or the signature of an offer that nothing
waits for any more. -/
def State.attResumeS (s : State) : State :=
  match s.fw.attS with
  | some ⟨j, some (k, n)⟩ =>
    match j with
    | .host addr => if s.secServes then (s.setTask .s none).hostReported .s addr k n else s
    | .offer => if s.fw.pq.any fun q => q.step == .sign && q.asked then s else s.setTask .s none
    | _ => s.setTask .s none
  | _ => s

/-- What the resident firmware goes on with by itself, as what it waits for comes: the DESTROYs of ended sessions, the
post-quantum leg, the commands of the attestation unit, a composite, and what it reads of and does on device memory.
Marks: log 68 (DESIGN CHOICE). -/
def State.firmwareGoesOn (s : State) : State :=
  s.klnResume.fwDestroys.pqGo.attResumeS.attResumeC.composeNext.wcpTake.ioGo.lookNext

end Sys2Proof.Machine
end

