-- ==== Sys2Proof/Machine/Reset.lean ====
section
/-!
DEFINITION. Machine/Reset.lean: what a domain loses as it enters reset (R112 and the rules of the units), and the passes that
go with it. The sequence is in Machine/Sequencer.lean.
-/
namespace Sys2Proof.Machine

/-! ### Registers and numbers -/

/-- The stored registers of domain `d` back at their reset values (R112, R12). -/
def State.clearDom (s : State) (d : Dom) : State :=
  { s with regs := s.regs.filter fun e => (decodeReg e.1).all fun p => p.reg.row.dom != d }

/-- The number of an internal domain, D1 to D6 as 0 to 5. -/
def domIx : Dom → Nat
  | .d1 => 0
  | .d2 => 1
  | .d3 => 2
  | .d4 => 3
  | .d5 => 4
  | .d6 => 5
  | .d0 | .core => 6

/-- Domain `d` held in reset. -/
def State.hold (s : State) (d : Dom) : State :=
  s.onCrs fun c => { c with released := c.released &&& ~~~ (1#6 <<< domIx d) }

/-- Domain `d` released. -/
def State.unhold (s : State) (d : Dom) : State :=
  s.onCrs fun c => { c with released := c.released ||| (1#6 <<< domIx d) }

/-! ### The key store's pass (R308) -/

/-- One slot in the pass of a WARM episode: what is not VALID and WARM_KEEP is zeroed, and what fails its check. A zeroed
VALID slot advances its GEN, and one with ENDPOINT_OK is revoked (R333).
Marks: log 44 (DEDUCED); log 51 (DEDUCED). -/
def State.passSlot (s : State) (i : SlotIx) : State :=
  let v := s.slot i
  let keep := v.valid && v.warmKeep
  if keep && slotSound i v && !v.unusable then s
  else
    let s :=
      if keep then (s.onKst fun k => { k with cntIntegrity := tally k.cntIntegrity }).health 2 .integrity (some v.part) else s
    let s := s.zeroSlot i (if v.valid then v.gen + 1 else v.gen)
    if v.valid && v.endpointOk then s.raiseEmber (revokeSlot i v.gen .store) else s

/-- The pass over every slot for an episode of rank `rank`; `fresh`: D2 enters reset now, and the counts clear first.
Marks: log 20 (DESIGN CHOICE); log 51 (DEDUCED). -/
def State.keyPass (s : State) (rank : Nat) (fresh : Bool) : State :=
  let s := if fresh then s.onKst fun k => { k with cntIntegrity := 0, cntStale := 0, cntCorrected := 0 } else s
  let s :=
    if rank = 3 then (s.slotsWhere fun _ => true).foldl State.passSlot s
    else
      let s :=
        if rank = 4 then
          (s.slotsWhere fun v => v.valid && v.endpointOk).foldl
            (fun s i => s.raiseEmber (revokeSlot i (s.slot i).gen .store)) s
        else s
      s.onKst fun k => { k with slots := [] }
  s.onKst fun k => { k with ready := true }

/-! ### Requests that fall with MP_UP (R36) -/

/-- A chunk write of a stream is answered (R231, R232). -/
def State.chunkAcked (s : State) (sid : StreamId) (gen : Gen) (err : Bool) : State :=
  let v := s.stream sid
  if v.gen = gen ∧ v.writes ≠ 0 then s.setStream sid { v with writes := v.writes - 1, bad := v.bad || err } else s

/-- A request that no answer can reach any more: its unit, where it still runs, ends it as it ends one answered with an
error. A command of the copy or the NVM engine ends with ABORTED (R522, R13).
Marks: log 50 (DEDUCED). -/
def State.mpLost (s : State) (r : MpReq) : State :=
  match r.owner with
  | .scrub i => s.scrubAcked i true
  | .fill i => s.fillAcked i true
  | .chunk sid gen => s.chunkAcked sid gen true
  | .dge c gen => s.dgeReadDone c gen [] true
  | .copy => { s with cwy := { s.cwy with copy := s.cwy.copy.map fun x => { x with bad := some .aborted } } }
  | .nvm => { s with cwy := { s.cwy with nvm := s.cwy.nvm.map fun x => { x with bad := some .aborted } } }
  | .core => (s.ioFail .integrity).ioGo
  | .look => s.lookDone [] true
  | .void => s
  | .stage => { s with cwy := { s.cwy with rx := s.cwy.rx.map fun x => { x with left := 0, owed := x.owed - 1, bad := true } } }

/-! ### A domain enters reset (R112) -/

/-- D1: the CRS registers but for the core's, the OTP controller, the life-cycle controller but for LCS_RESULT, the fence,
the TRNG, the TOP registers, the control port and the test access port. The array keeps its cells.
Marks: log 49 (DEDUCED). -/
def State.enterD1 (s : State) : State :=
  let s := (s.hold .d1).clearDom .d1
  { s with
    crs :=
      { s.crs with
        go := false
        padReleased := false
        blockCode := .done
        blockPending := none
        blockOn := false
        dim := false
        dimExit := 0
        dimCode := .done
        commitCode := .done }
    otp := s.otp.lost
    lcs := { resCode := s.lcs.resCode, resBurned := s.lcs.resBurned, resFrom := s.lcs.resFrom, resTo := s.lcs.resTo }
    fnc := {}
    trng := {}
    top := {}
    icp := []
    tap := {}
    kfb := { s.kfb with waiting := s.kfb.waiting.filter fun r => r.src != .lcs } }

/-- D2: all of the security core's units. The key store keeps what its pass keeps, the retained store of D4 the partition
generations and the regions, and a revoke not yet committed waits on for the key store. The contexts of the security core
and the attestation unit are abandoned (R247). What a tamper event halted stays halted until the next release (R268, R366);
TOP_FW_DIGEST reads 0 (R491); private SRAM is zeroed (R464).
Marks: log 49 (DEDUCED). -/
def State.enterD2 (s : State) : State :=
  let s := (s.dgeAbandonHolders fun h => h == 0 || h == 9).sidesReset .d2
  let s := (s.hold .d2).clearDom .d2
  { s with
    kln := { halted := s.kln.halted }
    prt := { gens := s.prt.gens, regions := s.prt.regions }
    mrs := []
    pke := { halted := s.pke.halted }
    att := {}
    boot := {}
    fw := {}
    upd := none
    ast := []
    cntAstdrop := 0
    psram := []
    mp := s.mp.map fun r => if r.owner == .core || r.owner == .look then { r with owner := .void } else r
    top := { s.top with fwDigest := [], edgeSec := false }
    kfb :=
      { s.kfb with waiting := s.kfb.waiting.map fun r =>
          if r.src == .kilnCmd || r.src == .kilnEvt || r.src == .prt then { r with src := .store, owner := .none } else r } }

/-- D3: the stream measurement engine, the digest engine and the comparator (R206, R112). TAP_UP falls. A digest of the
attestation unit is lost with its context, and the unit asks for another. -/
def State.enterD3 (s : State) : State :=
  let s := (s.hold .d3).clearDom .d3
  let s := s.onAtt fun a =>
    { a with run := a.run.map fun r => if r.phase = .hashing then { r with phase := .context } else r }
  { s with sme := {}, dge := {}, cmp := {} }

/-- The retained array and store of D4 zeroed (R112, R349, R427). -/
def State.zeroD4 (s : State) : State :=
  let s := s.onKfb Kfb.arrayReset
  { s with cnt := { s.cnt with cells := [] }, prt := { s.prt with gens := [], regions := [] } }

/-- D4: the ports of the fabric, the counter cells' queues and the memory port (R112, R349).
Marks: log 49 (DEDUCED). -/
def State.enterD4 (s : State) : State :=
  let s := (s.hold .d4).clearDom .d4
  let lost := s.mp
  let s : State :=
    { s with
      kfb := { s.kfb.portReset with waiting := s.kfb.waiting.filter fun r => r.src != .crs }
      cnt := s.cnt.portReset
      mp := [] }
  let s := s.onCrs fun c => { c with ep := c.ep.map fun e => { e with retire := false } }
  lost.foldl State.mpLost s

/-- Block C's work at the PKE stops or is withdrawn (R378).
Marks: log 49 (DEDUCED). -/
def State.pkeDropC (s : State) : State :=
  let waits := s.pke.queue.any fun c => c.req == 3
  let s := s.onPke fun p => { p with queue := p.queue.filter fun c => c.req != 3 }
  let s := if waits then s.pkeCode .c .aborted else s
  if s.pke.running.any fun c => c.req == 3 then s.pkeAbandon else s

/-- D5: the control cores. Their digest contexts and public-key work end (R247, R378), MAIN_READY clears (R415), a gate run
ends and its scratch area is zeroed (R450), and what the main firmware kept of its negotiations is lost.
Marks: log 42 (DESIGN CHOICE); log 48 (DEDUCED). -/
def State.enterD5 (s : State) : State :=
  let s := (s.dgeAbandonHolders fun h => 1 ≤ h.toNat && h.toNat ≤ 8).sidesReset .d5
  let s := ((s.hold .d5).clearDom .d5).pkeDropC
  let s := if s.prt.gate.active || s.prt.gate.held then s.zeroScratch else s
  let s := if s.prt.gate.active then s.onPrt fun t => { t with gate := {} } else s
  let s := s.onCrs fun c => { c with ctlCount := 0x01000000 }
  let s := s.onAtt fun a => { a with mainReady := false }
  let s := s.onWcp fun w => { w with queue := [] }
  let s : State := { s with plic := {}, top := { s.top with edgePke := false, edgeAtt := false } }
  s.ioLost.onFw fun w =>
    { w with
      conn := 0
      vca := []
      msgB := []
      msgL := []
      sessions := []
      leg := none
      legs := []
      pq := none
      attC := none
      compose := none
      reports := []
      jobs := []
      infos := []
      offered := false
      unanswered := false
      hostReset := false
      capActive := false
      coll := none
      rings :=
        Sparse.mapAll {} (fun _ r => if r.st = .running then { r with st := .parked, rung := false, head := .none } else r)
          w.rings }

/-- A sector that an erase or a program was changing as the NVM engine stopped holds torn bytes (R518).
Marks: log 6 (DESIGN CHOICE); log 70 (DESIGN CHOICE). -/
def State.tearNvm (s : State) : State :=
  match s.cwy.nvm with
  | none => s
  | some r =>
    if r.op = .verify then s
    else
      let torn := (List.range 4096).map (Config.nvmTorn s.nvmTears)
      { s with nvm := Sparse.putBytes 0xFF s.nvm r.sector torn, nvmTears := s.nvmTears + 1 }

/-- The digest context that the security core holds as `c`, under generation `g`, let go. -/
def State.letCtx (s : State) (c : Nat) (g : Gen) : State :=
  if (s.ctx c).holder = 0 ∧ (s.ctx c).gen = g then s.abandonCtx c .done else s

/-- The verification of a set given up (R508): its digest context and its request for one are let go. Work past the
verification goes on.
Marks: log 63 (DESIGN CHOICE). -/
def State.updDrop (s : State) : State :=
  match s.upd with
  | none => s
  | some u =>
    let gone (s : State) : State := { s with upd := none }
    match u.step with
    | .ask _ =>
      let a := s.dge.acq.getD 0 {}
      if !u.started then gone s
      else if a.granted then gone (s.letCtx a.ctx a.gen)
      else gone (s.onDge fun d => { d with reqs := d.reqs.filter fun r => r.who != 0 })
    | .absorb _ c g | .compare _ c g => gone (s.letCtx c g)
    | _ => s

/-- D6: the mailboxes, the worker channel and the Causeway unit, with the staging registers, so that work on a set ends;
the NVM keeps its content, but for a sector being changed.
Marks: log 63 (DESIGN CHOICE). -/
def State.enterD6 (s : State) : State :=
  let s := ((s.updDrop.tearNvm.sidesReset .d6).hold .d6).clearDom .d6
  { s with
    wcp := {}
    cwy := {}
    upd := none
    fw := { s.fw with page := none }
    mp := s.mp.map fun r =>
      if r.owner == .copy || r.owner == .nvm || r.owner == .stage then { r with owner := .void } else r }

/-- Domain `d` enters reset. -/
def State.enter (s : State) (d : Dom) : State :=
  match d with
  | .d1 => s.enterD1
  | .d2 => s.enterD2
  | .d3 => s.enterD3
  | .d4 => s.enterD4
  | .d5 => s.enterD5
  | .d6 => s.enterD6
  | .d0 | .core => s

/-- The CRS core, with the fence's part of it (R91, R537, R544) and LCS_RESULT (R165): POR resets them. -/
def State.enterCore (s : State) : State :=
  let s := s.clearDom .core
  { s with
    crs :=
      { s.crs with
        strapped := false
        strapSets := 0
        cause := .por
        reach := 5
        multi := false
        gaps := List.replicate 29 0x100
        enable := 0xFFFFFF }
    fncCore := {}
    lcs := { s.lcs with resCode := .done, resBurned := 0, resFrom := 0, resTo := 0 } }

end Sys2Proof.Machine
end

