-- ==== Sys2Proof/Machine/Sequencer.lean ====
section
/-!
DEFINITION. Machine/Sequencer.lean: the reset sequencer, the watchdogs, DIM, the strap and the clocks
(03_clocks_reset_straps.md), and the events outside the CRS that act as reset sources.
-/
namespace Sys2Proof.Machine

/-! ### Sources (R91 to R93, R98 to R100) -/

/-- The 4-bit code of a source (R92). -/
def sourceCode : Source → Nat
  | .por => 0x1
  | .coldN => 0x2
  | .warmN => 0x3
  | .wdtSec => 0x4
  | .wdtCtl => 0x5
  | .swCold => 0x6
  | .swWarm => 0x7
  | .lcTrans => 0x8
  | .tamper => 0x9
  | .fenceTrip => 0xA
  | .block => 0xB

/-- A source whose episode the availability counters leave out (R544). -/
def excludes (x : Source) : Bool := x == .coldN || x == .swCold || x == .lcTrans || x == .fenceTrip

/-- The internal domains of a class (R91). -/
def classDoms : Nat → List Dom
  | 5 => [.d1, .d2, .d3, .d4, .d5, .d6, .core]
  | 4 => [.d1, .d2, .d3, .d4, .d5, .d6]
  | 3 => [.d2, .d3, .d4, .d5, .d6]
  | _ => [.d5, .d6]

/-- The first host-die domain of a class. -/
def classSd : Nat → Option Nat
  | 5 | 4 => some 0
  | 3 => some 4
  | _ => none

/-- The internal domains in the order of release (R94). -/
def releaseOrder : List Dom := [.d1, .d2, .d3, .d4, .d5, .d6]

/-- The episode after source `x` of rank `rank` acts on `doms`; POR begins a new one (R98 to R100).
Marks: log 19 (DESIGN CHOICE). -/
def Episode.after (old : Option Episode) (x : Source) (rank : Nat) (doms : List Dom) : Episode :=
  match (if rank = 5 then none else old) with
  | none =>
    { rank := rank, doms := doms, sdFrom := classSd rank, asserted := [x], cause := x, causeRank := rank,
      acts := 1, retire := false, releasing := false, excluded := excludes x }
  | some e =>
    { rank := max e.rank rank
      doms := e.doms ++ doms.filter fun d => !e.doms.contains d
      sdFrom :=
        match e.sdFrom, classSd rank with
        | some a, some b => some (min a b)
        | a, b => a.or b
      asserted := if e.asserted.contains x then e.asserted else e.asserted ++ [x]
      cause := if e.causeRank ≤ rank then x else e.cause
      causeRank := max e.causeRank rank
      acts := e.acts + 1
      retire := e.retire && rank != 5
      releasing := false
      excluded := e.excluded || excludes x }

/-- A transition that a COLD episode stops after step 4, or a wait at AWAIT_ERASE that it ends, leaves ABORTED in LCS_RESULT
(R157, R165). -/
def State.lcsStopped (s : State) : State :=
  if s.lcs.phase = .idle ∨ s.lcs.opening = true then s
  else
    let now := (s.otp.run.filter fun r => r.job == .lcCopies).elim 0 fun r => r.burned
    s.onLcs fun l =>
      { l with resCode := .aborted, resBurned := l.burned + now, resFrom := l.fromState.code, resTo := l.target.code }

/-- A reset that reaches D3 or D5 during DIM ends DIM (R106). -/
def State.dimReset (s : State) (doms : List Dom) : State :=
  if !s.crs.dim then s
  else if doms.contains .d3 then
    let s := s.onCrs fun c => { c with dim := false, dimExit := 6, ctlCount := (s.reg .crsWdtCtlLoad).toNat }
    s.takePoint
  else if doms.contains .d5 then s.dimEnd 6
  else s

/-- Steps 1 to 7 of R93 for a source that acts on `doms` with rank `rank`. The CRS core is no element that R98 puts back into
reset: only a POWER source resets it.
Marks: log 19 (DESIGN CHOICE). -/
def State.act (s : State) (x : Source) (rank : Nat) (doms : List Dom) : State :=
  let e := Episode.after s.crs.ep x rank doms
  let s := if e.rank = 4 then s.lcsStopped else s
  let s := s.dimReset e.doms
  let s := if 3 ≤ e.rank then s.closeDebug.onCrs fun c => { c with go := false } else s
  let s := if 4 ≤ e.rank then s.onCrs fun c => { c with padReleased := false } else s
  let s := s.onCrs fun c =>
    { c with
      ep := some e
      sd := match e.sdFrom with
        | none => c.sd
        | some n => c.sd &&& (BitVec.ofNat 24 (2 ^ n - 1)) }
  let entersD2 := e.doms.contains .d2 && s.up .d2
  let now := e.rank < 3 || e.rank = 5 || (x == .block && doms == [Dom.d4])
  let waits := e.doms.contains .d4 && s.up .d4 && !now
  let s :=
    if waits && !e.retire then
      (s.raiseEmber ⟨tRetire, 2, 0, 0, 0, .retire, .crs⟩).onCrs fun c =>
        { c with ep := some { e with retire := true } }
    else s
  let s := if e.doms.contains .d2 then s.keyPass e.rank entersD2 else s
  let s := releaseOrder.foldl
    (fun s d => if e.doms.contains d && s.up d && !(d == .d4 && waits) then s.enter d else s) s
  let s : State := if 3 ≤ e.rank then { s.onCrs (fun c => { c with zeroing := true }) with csram := [] } else s
  let s := if 4 ≤ e.rank && e.doms.contains .d4 && !s.up .d4 then s.zeroD4 else s
  let s := if e.rank = 5 then s.onKfb fun k => { k with waiting := [] } else s
  if rank = 5 then s.enterCore else s

/-- A source asserted now. -/
def State.asserts (s : State) (x : Source) : Bool := s.crs.ep.any fun e => e.asserted.contains x

/-- A source no longer asserted (R99). -/
def State.deassert (s : State) (x : Source) : State :=
  s.onCrs fun c => { c with ep := c.ep.map fun e => { e with asserted := e.asserted.filter fun y => y != x } }

/-- WARM_N_ACT (R62): the pin is sampled once the PLL has locked. -/
def execWarmNAct (s : State) : Res :=
  ranIf (s.crs.pllLock && !s.asserts .warmN) (fun s => s.act .warmN 3 (classDoms 3)) s

/-- COLD_N_ACT (R62). -/
def execColdNAct (s : State) : Res :=
  ranIf (s.crs.pllLock && !s.asserts .coldN) (fun s => s.act .coldN 4 (classDoms 4)) s

/-- POR, by the pin or by a reset of D0: the PLL is to lock again. -/
def State.powerOn (s : State) : State :=
  (s.act .por 5 (classDoms 5)).onCrs fun c => { c with pllLock := false, pllTries := 0 }

/-- POR_N_FALL (R92, R62). -/
def execPorNFall (s : State) : Res :=
  ranIf (!s.crs.porLow)
    (fun s => s.powerOn.onCrs fun c => { c with porLow := true, locking := false }) s

/-- POR_N_RISE (R90): the PLL starts to lock. -/
def execPorNRise (s : State) : Res :=
  ranIf s.crs.porLow
    (fun s =>
      let s := s.onCrs fun c => { c with porLow := false, locking := true, pllTries := 0 }
      if s.crs.d0Por then s else s.deassert .por) s

/-- D0_RESET (R38, R92, R271): the peat store reads ZERO, the latch is clear, and POR is asserted until 64 CLK_D cycles after
lock. -/
def execD0Reset (s : State) : Res :=
  ran (fun s =>
    let s : State := { s with peat := {} }
    s.powerOn.onCrs fun c => { c with d0Por := true, locking := !c.porLow }) s

/-- PLL_LOCK (R90): the clocks run, and the strap is sampled. -/
def execPllLock (s : State) : Res :=
  ranIf s.crs.locking
    (fun s => s.onCrs fun c => { c with locking := false, pllLock := true, strapped := false, strapSets := 0 }) s

/-- PLL_LOCK_TIMEOUT (R90): the fourth failed attempt is the last. -/
def execPllLockTimeout (s : State) : Res :=
  ranIf s.crs.locking
    (fun s => s.onCrs fun c => { c with pllTries := c.pllTries + 1, locking := decide (c.pllTries + 1 < 4) }) s

/-! ### The strap (R107 to R109) -/

/-- The strap that a code selects: role, NVM mode and Causeway; a reserved code is a fault.
Marks: log 3 (DESIGN CHOICE); log 17 (DESIGN CHOICE). -/
def strapOf (code : BitVec 4) : Strap :=
  let k := code.toNat
  if 1 ≤ k ∧ k ≤ 12 then
    ⟨code, BitVec.ofNat 2 ((k - 1) / 4), 3 ≤ (k - 1) % 4 + 1, k % 2 == 1, false⟩
  else ⟨code, 3, (Config.strapFaultMode code).getLsbD 0, (Config.strapFaultMode code).getLsbD 1, true⟩

/-- STRAP_LATCH (R108): a set of eight readings is complete. Four sets that disagree are a fault.
Marks: log 17 (DESIGN CHOICE). -/
def execStrapLatch (readings : List (BitVec 4)) (s : State) : Res :=
  ranIf (s.crs.pllLock && !s.crs.strapped && readings.length == 8)
    (fun s =>
      let code := readings.headD 0
      if readings.all fun r => r == code then s.onCrs fun c => { c with strap := strapOf code, strapped := true }
      else if s.crs.strapSets + 1 < 4 then s.onCrs fun c => { c with strapSets := c.strapSets + 1 }
      else
        let k := Config.strapUnstable readings
        s.onCrs fun c =>
          { c with
            strapSets := 4
            strapped := true
            strap := { strapOf k with
              role := 3
              qspi := (Config.strapFaultMode k).getLsbD 0
              cwyEn := (Config.strapFaultMode k).getLsbD 1
              fault := true } }) s

/-! ### Leaving reset (R94 to R96, R99) -/

/-- SOURCE_DEASSERT (R92, R99): a source that is asserted deasserts. POR_N and the fence's hold have rows of their own; the
POR of a reset D0 ends once the PLL has locked. -/
def execSourceDeassert (src : Source) (s : State) : Res :=
  ranIf (s.asserts src && src != .fenceTrip && (src != .por || (s.crs.d0Por && s.crs.pllLock && !s.crs.porLow)))
    (fun s =>
      let s := if src = .por then s.onCrs fun c => { c with d0Por := false } else s
      s.deassert src) s

/-- D4_RESET_ENTRY (R93): due while step 7 waits. -/
def execD4ResetEntry (s : State) : Res :=
  ranIf (s.crs.ep.any fun e => e.retire)
    (fun s =>
      let s := s.enterD4
      if s.crs.ep.any fun e => 4 ≤ e.rank then s.zeroD4 else s) s

/-- The domain that the episode releases next, where nothing holds it back (R95, R99, R108): every source deasserted, the PLL
locked and the strap latched, D2 after the start-up read, D4 after step 7 of R93, nothing after D1 on a strap fault. -/
def State.nextRelease (s : State) : Option Dom :=
  match s.crs.ep with
  | none => none
  | some e =>
    if !e.asserted.isEmpty || !s.crs.pllLock || !s.crs.strapped then none
    else
      match releaseOrder.find? fun d => e.doms.contains d && (!s.up d || (d == .d4 && e.retire)) with
      | none => none
      | some d =>
        if (d == .d4 && e.retire) || (d == .d2 && !s.otp.startupDone) || (d != .d1 && s.crs.strap.fault) then none else some d

/-- The boot ID drawn at the release of D2 (R398), which enters reset without one, the watchdog started (R103), the
key store ready after its pass (R308), what a tamper event halted going on again (R268, R366), and every region of a
partition ORPHAN (R434). -/
def State.leaveD2 (s : State) : State :=
  let s := s.onCrs fun c => { c with secCount := 0x01000000 }
  let s := s.drawBootId
  let s := (s.onKln fun k => { k with halted := false }).onKst fun k => { k with ready := true, block := false }
  let s := s.onPke fun p => { p with halted := false }
  s.onPrt fun t =>
    { t with regions := t.regions.map fun e =>
        if e.2.kind != 0 && e.2.part != 0 then (e.1, { e.2 with orphan := true, scrubbed := false }) else e }

/-- What happens as a domain is released; at D1's release NVM_RST_N stays low for 64 CLK_D cycles, and the device's software
reset follows (R85).
Marks: log 67 (DESIGN CHOICE); log 105 (DEDUCED). -/
def State.leave (s : State) (d : Dom) : State :=
  match d with
  | .d1 => (s.emit (.nvmReset 64)).nvmDrive .softReset
  | .d2 => s.leaveD2
  | .d3 =>
    let s : State := { s with sme := { s.sme with tapUp := true } }
    (s.emit (.tapCredits 32)).attGoOn.prtGoOn
  | .d4 => s.kfbUp.prtGoOn
  | .d5 => s.onCrs fun c => { c with zeroing := false }
  | .d6 =>
    let s := s.mailboxesUp fun d => s.crs.ep.any fun e => e.doms.contains d
    let s : State := { s with cwy := { s.cwy with txOn := s.crs.strap.cwyEn } }
    if s.wcpUp then s.emit (.wcpCredits 32) else s
  | _ => s

/-- The BLOCK command is over once its domain is released (R102). -/
def State.blockOver (s : State) (d : Dom) : State :=
  if s.crs.blockOn && s.crs.blockPending == some d then
    s.onCrs fun c => { c with blockPending := none, blockOn := false, blockCode := .done }
  else s

/-- The episode ends with its last domain, and CRS_RESET_CAUSE holds its cause (R100). -/
def State.episodeOver (s : State) : State :=
  match s.crs.ep with
  | none => s
  | some e =>
    if !e.retire && releaseOrder.all fun d => !e.doms.contains d || s.up d then
      s.onCrs fun c =>
        { c with ep := none, cause := e.cause, reach := e.causeRank, multi := decide (1 < e.acts) }
    else s

/-- DOMAIN_RELEASE (R95). -/
def execDomainRelease (s : State) : Res :=
  ranIf s.nextRelease.isSome
    (fun s =>
      match s.nextRelease with
      | none => s
      | some d =>
        let s := (s.unhold d).onCrs fun c => { c with ep := c.ep.map fun e => { e with releasing := true } }
        ((s.leave d).blockOver d).episodeOver) s

/-- The next host-die domain of the chain: the lowest that is enabled and held (R96). -/
def State.nextHost (s : State) : Option Nat :=
  if !s.crs.go || s.crs.strap.fault then none
  else if s.crs.ep.any fun e => e.sdFrom.isSome then none
  else (List.range 24).find? fun n => s.crs.enable.getLsbD n && !s.crs.sd.getLsbD n

/-- HOST_DOMAIN_RELEASE (R96). -/
def execHostDomainRelease (s : State) : Res :=
  ranIf s.nextHost.isSome
    (fun s =>
      match s.nextHost with
      | none => s
      | some n => s.onCrs fun c => { c with sd := c.sd ||| (1#24 <<< n) }) s

/-- GO (R96, R10): a write of 1 to GO. -/
def execGo (w : Word) (s : State) : Res :=
  ranOn .d1 (fun s => if bit w 0 then s.onCrs fun c => { c with go := true } else s) s

/-- HOLD_RELEASE (R111). -/
def execHoldRelease (w : Word) (s : State) : Res :=
  ranOn .d1 (fun s => if bit w 0 then s.onCrs fun c => { c with padReleased := true } else s) s

/-- The staged gaps. -/
def State.stagedGaps (s : State) : List (BitVec 13) := (List.range 29).map fun k => fld (s.reg .crsGap 0 k) 0 13

/-- CRS_COMMIT: the staged gaps and the enable mask take effect, or are refused (R97, R114). -/
def State.crsCommit (s : State) : State :=
  let gapBad := s.stagedGaps.any fun g => g.toNat < 64 || 4096 < g.toNat
  match lowest [(s.nextHost.isSome, .busy), (gapBad, .badLength)] with
  | some c => s.onCrs fun r => { r with commitCode := c }
  | none => s.onCrs fun r =>
      { r with gaps := s.stagedGaps, enable := fld (s.reg .crsSdEnable) 0 24, commitCode := .done }

/-- CRS_COMMIT (R114): only a write with COMMIT = 1 commits.
Marks: log 56 (DEDUCED). -/
def execCrsCommit (w : Word) (s : State) : Res := ranOn .d1 (fun s => if bit w 0 then s.crsCommit else s) s

/-! ### Software resets (R101, R102) -/

/-- The key of CRS_SW_RESET and CRS_BLOCK_CMD. -/
def keyed (w : Word) : Bool := fld w 24 8 == 0xC4

/-- CRS_SW_RESET written. -/
def State.swReset (s : State) (w : Word) : State :=
  if !keyed w then s
  else if bit w 0 then s.act .swCold 4 (classDoms 4)
  else if bit w 1 then s.act .swWarm 2 (classDoms 2)
  else s.act .swWarm 3 (classDoms 3)

/-- SW_WARM (R92, R101). -/
def execSwWarm (w : Word) (s : State) : Res := ranOn .d1 (fun s => s.swReset w) s

/-- SW_COLD (R92, R101). -/
def execSwCold (w : Word) (s : State) : Res := ranOn .d1 (fun s => s.swReset w) s

/-- The domain that a BLOCK command names. -/
def blockDom (w : Word) : Dom :=
  match fldN w 0 2 with
  | 0 => .d3
  | 1 => .d4
  | 2 => .d5
  | _ => .d6

/-- CRS_BLOCK_CMD written: no effect under another key, or while a command is pending; refused for a reserved bit (R11).
Marks: log 26 (DEDUCED). -/
def State.blockWrite (s : State) (w : Word) : State :=
  if keyed w && s.crs.blockPending.isNone then
    s.onCrs fun c =>
      if fld w 2 22 = 0 then { c with blockPending := some (blockDom w), blockOn := false }
      else { c with blockCode := .deniedAttr }
  else s

/-- BLOCK_CMD (R101, R102).
Marks: log 26 (DEDUCED). -/
def execBlockCmd (w : Word) (s : State) : Res := ranOn .d1 (fun s => s.blockWrite w) s

/-- The idle condition of R102.
Marks: log 15 (DESIGN CHOICE); log 22 (DEDUCED). -/
def State.idle (s : State) (d : Dom) (coresWaiting : Bool) : Bool :=
  match d with
  | .d3 =>
    (s.sme.streams.all fun e => e.2.st != .open && e.2.st != .closing) && s.sme.events.isEmpty &&
      (s.dge.ctxs.all fun x => x.st == .free) && s.cmp.slices.all fun c => c.isNone
  | .d4 => (List.range 8).all (fun p => s.portFrozen p && s.portIdle p) && s.cntIdle
  | .d5 => coresWaiting && !s.prt.gate.active
  | .d6 => (s.mbx.slots.all fun v => !v.full) && s.cwy.rx.isNone
  | _ => false

/-- BLOCK_SAMPLE (R102): due once a BLOCK command is pending and its domain has not been put in reset.
Marks: log 15 (DESIGN CHOICE). -/
def execBlockSample (coresWaiting : Bool) (s : State) : Res :=
  ranIf (s.crs.blockPending.isSome && !s.crs.blockOn)
    (fun s =>
      match s.crs.blockPending with
      | none => s
      | some d =>
        if s.up d && s.idle d coresWaiting then
          (s.onCrs fun c => { c with blockOn := true }).act .block 1 [d]
        else s.onCrs fun c => { c with blockPending := none, blockCode := .busy }) s

/-! ### Watchdogs (R103) -/

/-- WDT_SEC_KICK (R103). -/
def execWdtSecKick (w : Word) (s : State) : Res :=
  ranOn .d2 (fun s =>
    if fld w 0 8 == 0xA5#8 then s.onCrs fun c => { c with secCount := (s.reg .crsWdtSecLoad).toNat } else s) s

/-- CRS_WDT_CTL_KICK written. -/
def State.ctlKick (s : State) (w : Word) : State :=
  if fld w 0 8 = 0xA5#8 then s.onCrs fun c => { c with ctlCount := (s.reg .crsWdtCtlLoad).toNat } else s

/-- WDT_CTL_KICK (R103, R113): the security core or the control cluster. -/
def execWdtCtlKick (q : Req) (w : Word) (s : State) : Res :=
  ran (fun s =>
    if s.gateCore q then s.gateTrap .store (Reg.crsWdtCtlKick.row.addr 0 0)
    else if !(q == .sec || s.cluster q) then s.emit (.code .deniedAttr)
    else if !s.serves .d5 then (s.dimEnd 4).emit (.code .busy)
    else s.ctlKick w) s

/-- CRS_WDT_CTL_CTRL written: ENABLE set from 0 to 1 reloads the counter (R103). -/
def State.ctlCtrl (s : State) (w : Word) : State :=
  let was := bit (s.reg .crsWdtCtlCtrl) 0
  let s := s.setReg .crsWdtCtlCtrl (w &&& 1)
  if bit w 0 && !was then s.onCrs fun c => { c with ctlCount := (s.reg .crsWdtCtlLoad).toNat } else s

/-- WDT_CTL_ENABLE (R103). -/
def execWdtCtlEnable (w : Word) (s : State) : Res :=
  ran (fun s =>
    if !s.serves .d5 then (s.dimEnd 4).emit (.code .busy) else s.ctlCtrl w) s

/-- WDT_SEC (R92, R103): the cycles that the security core's watchdog still had pass unserved, and it reaches zero.
Marks: log 1 (DESIGN CHOICE). -/
def execWdtSec (s : State) : Res :=
  ranIf (s.up .d2)
    (fun s => (s.onCrs fun c => { c with secCount := 0 }).act .wdtSec 4 (classDoms 4)) s

/-- WDT_CTL (R92, R103, R106): the enabled watchdog of the control cluster reaches zero; it is paused in DIM.
Marks: log 1 (DESIGN CHOICE). -/
def execWdtCtl (s : State) : Res :=
  ranIf (s.up .d5 && bit (s.reg .crsWdtCtlCtrl) 0 && !s.crs.dim)
    (fun s => (s.onCrs fun c => { c with ctlCount := 0 }).act .wdtCtl 2 (classDoms 2)) s

/-- WRITEBACK_UNCORR (R542): an uncorrectable error in a dirty line asserts WDT_CTL at once. -/
def execWritebackUncorr (s : State) : Res :=
  ranIf (s.up .d5) (fun s => (s.health 7 .integrity).act .wdtCtl 2 (classDoms 2)) s

/-! ### DIM (R104 to R106, R540) -/

/-- CRS_DIM_CTRL written: ENTER, then EXIT.
Marks: log 22 (DEDUCED). -/
def State.dimWrite (s : State) (w : Word) (coresWaiting : Bool) : State :=
  let s :=
    if !bit w 0 then s
    else if s.up .d3 && s.up .d5 && s.idle .d3 coresWaiting && s.idle .d5 coresWaiting then
      let s := s.onCrs fun c => { c with dim := true, dimCode := .done }
      let s : State := { s with sme := { s.sme with tapUp := false } }
      s.takePoint
    else s.onCrs fun c => { c with dimCode := .busy }
  if bit w 1 then s.dimEnd 5 else s

/-- DIM_ENTER (R104). -/
def execDimEnter (w : Word) (coresWaiting : Bool) (s : State) : Res := ranOn .d1 (fun s => s.dimWrite w coresWaiting) s

/-- DIM_EXIT (R105): a write with EXIT alone. -/
def execDimExit (w : Word) (s : State) : Res := ranOn .d1 (fun s => if bit w 1 then s.dimEnd 5 else s) s

/-! ### Tamper (R65, R268, R269) -/

/-- The clear line at the PKE (R366): its keys and secrets zeroed, the running operation over with ABORTED, later commands
refused. -/
def State.pkeClear (s : State) : State :=
  s.pkeAbandon.onPke fun p =>
    { p with
      ephEc := none
      ephKem := none
      ssEcdh := none
      ssKem := none
      cache0 := none
      cache1 := none
      halted := true }

/-- TAMPER_INPUT (R268, R333): the secret is gone, the Kiln and the PKE halt, every endpoint is zeroised, and a COLD episode
begins. -/
def execTamperInput (i : Fin 8) (s : State) : Res :=
  ran (fun s =>
    let hit := 1#8 <<< i.val
    let s := s.onPeat fun p =>
      { p with
        secret := 0
        secretN := 0
        events := satInc 0xFFFF p.events
        inputs := p.inputs ||| hit
        latch := true
        active := p.active ||| hit }
    let s := if s.klnBusy || s.kln.wait.isSome then s.klnComplete .aborted else s
    let s := s.onKln fun k =>
      { k with wait := none, root := .none, rootKey := [], nonce := [], devid := [], halted := true, forming := none }
    let s := (s.onKst fun k => { k with block := true }).pkeClear
    (s.raiseEmber (zeroiseAll .tamper)).act .tamper 4 (classDoms 4)) s

/-- KLN_TAMPER_CLEAR (R269): `active` is what the inputs read in this cycle. -/
def execKlnTamperClear (w : Word) (active : BitVec 8) (s : State) : Res :=
  ranOn .d2 (fun s =>
    if !keyed w then s
    else if active = 0 then s.onPeat fun p => { p with active := 0, latch := false, inputs := 0, clearCode := .done }
    else s.onPeat fun p => { p with active := active, clearCode := .busy }) s

/-! ### The fence's trips (R534 to R537) -/

/-- SCAN_COMPLETE (R534, R537): due once the scan has asked every sensor and each thermal one is settled.
Marks: log 72 (DEDUCED). -/
def execScanComplete (s : State) : Res :=
  ranIf (s.up .d1 && s.fnc.next == 192 && s.fnc.owed.all fun a => 0x80 ≤ a.toNat)
    (fun s =>
      let trip := s.fnc.trips
      let s := s.scanEnd
      match trip with
      | none => s
      | some c =>
        let s : State :=
          { s with fncCore := { s.fncCore with cause := c, holding := true, count := satInc 0xFFFF s.fncCore.count } }
        s.act .fenceTrip 4 (classDoms 4)) s

/-- FENCE_TRIP_HOLD_END (R537): the hold counter ends. -/
def execFenceTripHoldEnd (s : State) : Res :=
  ranIf s.fncCore.holding
    (fun s =>
      let s : State := { s with fncCore := { s.fncCore with holding := false } }
      s.deassert .fenceTrip) s

end Sys2Proof.Machine
end

