-- ==== Sys2Proof/Machine/LifeCycle.lean ====
section
/-!
DEFINITION. Machine/LifeCycle.lean: the commands of the OTP controller and of the life-cycle controller, which share the
programming path, and the test access port (04_otp_array.md, 05_life_cycle.md, R76 to R78).
-/
namespace Sys2Proof.Machine

/-! ### Decoding the state (R142 to R146) -/

/-- The codeword of a state code (R143). -/
def codeword (st : LcState) : BitVec 64 :=
  match st with
  | .raw => 0x0000000000000000
  | .test => 0x000000000000FFFF
  | .stock => 0x00000000FFFFFFFF
  | .field => 0x0000FFFFFFFFFFFF
  | .ret | .ash | .invalid => 0xFFFFFFFFFFFFFFFF

/-- The state whose codeword a valid copy reads (R144). -/
def copyState (r : Row3) : Option LcState :=
  if rowMarginal r then none else [LcState.raw, .test, .stock, .field, .ret].find? fun st => codeword st == r.nrm

/-- An ASH copy is blank (R145).
Marks: log 96 (DEDUCED). -/
def rowBlank (r : Row3) : Bool := r.m0 == 0 && r.nrm == 0 && r.m1 == 0

/-- What the LC rows decode to (R145, R146): any ASH copy decides, else the codeword of two valid copies. -/
def lcDecode (row : Nat → Row3) : LcState :=
  if [0x303, 0x304, 0x305].any fun n => !rowBlank (row n) then .ash
  else
    let c (n : Nat) : Option LcState := copyState (row n)
    let two (a b : Option LcState) : Option LcState := if a = b then a else none
    ((two (c 0x300) (c 0x301)).or ((two (c 0x300) (c 0x302)).or (two (c 0x301) (c 0x302)))).getD .invalid

/-- The state of a code of LCS_TARGET; none for 6 and 7. -/
def stateOf (n : Nat) : Option LcState :=
  match n with
  | 0 => some .raw
  | 1 => some .test
  | 2 => some .stock
  | 3 => some .field
  | 4 => some .ret
  | 5 => some .ash
  | _ => none

/-- The Kiln uses the test root in this state (R148). -/
def testRootState (st : LcState) : Bool := st == .raw || st == .test || st == .ret

/-- OTP_STARTUP_DONE (R118 to R125, R142 to R147, R523): the start-up read is complete. `drift`: cells that have come to read
differently since the last one.
Marks: log 45 (DEDUCED). -/
def execOtpStartupDone (drift : List (Nat × Row3)) (s : State) : Res :=
  ranIf (s.up .d1 && !s.otp.startupDone)
    (fun s =>
      let o := (s.otp.drift drift).startupRead
      let st := lcDecode o.snapRow
      let valid (n : Nat) : Bool := (copyState (o.snapRow n)).isSome
      let s : State :=
        { s with
          otp := o.startupFinish st
          lcs :=
            { s.lcs with
              state := st
              copyValid := BitVec.ofNat 3 (bitsToNat [valid 0x300, valid 0x301, valid 0x302])
              ashMark := [0x303, 0x304, 0x305].any fun n => !rowBlank (o.snapRow n)
              testRoot := testRootState st } }
      s.fenceStart) s

/-! ### The programming path, from either controller -/

/-- A transition or OPEN_DEBUG runs: LCS_STATUS.BUSY (R152).
Marks: log 29 (DEDUCED). -/
def State.lcsBusy (s : State) : Bool := s.lcs.phase != .idle && s.lcs.phase != .awaitErase

/-- A transition ends after step 4 with code `c`: LCS_RESULT, and LC_TRANS acts (R153, R154, R165). -/
def State.lcEnd (s : State) (c : Code) (burned : Nat) : State :=
  let s := s.onLcs fun l =>
    { l with
      phase := .idle
      burned := burned
      resCode := c
      resBurned := burned
      resFrom := l.fromState.code
      resTo := l.target.code }
  s.act .lcTrans 4 (classDoms 4)

/-- What the path did, taken over by the controller that runs it: a command's result, or the life-cycle controller's next
phase.
Marks: log 46 (DEDUCED). -/
def State.pathTo (s : State) (r : Otp × Option PathEnd) : State :=
  match r.2 with
  | none => { s with otp := r.1 }
  | some e =>
    if e.job = .lcCopies then
      let s : State := { s with otp := r.1, lcs := { s.lcs with burned := e.burned } }
      if e.code = .done then s.onLcs fun l => { l with phase := .decoding } else s.lcEnd e.code e.burned
    else { s with otp := r.1.complete e.code e.job e.burned }

/-- The bits `lo` to `hi` - 1 of a counter that stand in its row `j`. -/
def counterMask (j lo hi : Nat) : BitVec 64 :=
  BitVec.ofNat 64 (bitsToNat ((List.range 64).map fun i => decide (lo ≤ 64 * j + i ∧ 64 * j + i < hi)))

/-- The burns of ADVANCE (R136): the marginal bits below the target, then the bits from the value up to it. -/
def Otp.advanceBurns (o : Otp) (c target : Nat) : List Burn :=
  let rows := (counterRows c).zipIdx
  let value := counterValue ((counterRows c).map o.sense)
  let again := rows.map fun e =>
    let r := o.sense e.1
    ⟨o.phys e.1, r.m0, (r.m0 ^^^ r.m1) &&& counterMask e.2 0 target⟩
  let fresh := rows.map fun e =>
    let add := counterMask e.2 value target
    ⟨o.phys e.1, (o.sense e.1).m0 ||| add, add⟩
  again ++ fresh

/-- The path starts on `todo`: the first VQPS sample is the one before its first pulse (R129). -/
def State.burn (s : State) (job : OtpJob) (todo : List Burn) (vqps : Nat) : State :=
  s.pathTo (s.otp.goOn { job := job, todo := todo, phase := .rowCheck, burned := 0, first := true } vqps)

/-- A field of CWY_CTRL put to `v` by the security firmware. -/
def State.cwyField (s : State) (lo len v : Nat) : State :=
  s.setReg .cwyCtrl ((s.reg .cwyCtrl &&& ~~~ (ones lo len)) ||| putN v lo len)

/-- PHASE of CWY_CTRL put to `p`, while D6 runs. -/
def State.cwyPhase (s : State) (p : Nat) : State := if s.up .d6 then s.cwyField 4 3 p else s

/-- The ADVANCE operation of field update goes on while the path is free (R517): the next counter that is below its target
is advanced; one that fails ends the operation, and so does the last. -/
def State.advanceGoOn (vqps : Nat) : List (Nat × Nat) → State → State
  | [], s => ({ s with fw := { s.fw with advance := [] } } : State).cwyPhase 7
  | (c, target) :: rest, s =>
    if s.otp.svn c < target then
      let s : State := { s with fw := { s.fw with advance := rest } }
      let s := s.burn .advance (s.otp.advanceBurns c target) vqps
      if s.otp.run.isSome then s
      else if s.otp.code = .done then State.advanceGoOn vqps rest s
      else ({ s with fw := { s.fw with advance := [] } } : State).cwyPhase 7
    else State.advanceGoOn vqps rest s

/-- What follows the end of a command on the path: the firmware's ADVANCE operation, where it runs. -/
def State.afterPath (s : State) (vqps : Nat) (job : OtpJob) : State :=
  if s.otp.run.isSome || job != .advance || s.boot.stage != 5 || fldN (s.reg .cwyCtrl) 4 3 != 6 then s
  else if s.otp.code = .done then State.advanceGoOn vqps s.fw.advance s
  else State.advanceGoOn vqps [] s

/-- OTP_PULSE_END (R130, R129): due while a pulse runs; it leaves its bit to read `m0`, `nrm` and `m1` at the three
references.
Marks: log 41 (DESIGN CHOICE); log 46 (DEDUCED). -/
def execOtpPulseEnd (m0 nrm m1 : Bool) (vqps : Nat) (s : State) : Res :=
  ranIf (s.otp.run.any fun r => match r.phase with
      | .pulse _ _ => true
      | _ => false)
    (fun s =>
      match s.otp.run with
      | none => s
      | some r =>
        match r.phase with
        | .pulse i tries => (s.pathTo (s.otp.pulseEnd r i tries m0 nrm m1 vqps)).afterPath vqps r.job
        | _ => s) s

/-- Steps 3 to 7 of FINALISE (R127): the refusals that the checks find. -/
def Otp.finRefusals (o : Otp) (code vqps : Nat) : List (Bool × Code) :=
  [(o.finIncomplete code, .incomplete), (!vqpsInWindow vqps, .supplyWindow),
   (o.finMarginal code || o.finConflict code, .integrity)]

/-- OTP_CHECK_DONE (R127, R130, R551): due while a check or a row's three-reference read runs. `vqps`: the supply as the
check samples it, which for FINALISE is its first sample; `later`: the supply in the cycle before the pulse that follows,
where the check has sampled it before (R127, steps 5 and 8). -/
def execOtpCheckDone (vqps later : Nat) (s : State) : Res :=
  ranIf (s.otp.run.any fun r => r.phase == .checks || r.phase == .rowCheck)
    (fun s =>
      match s.otp.run with
      | none => s
      | some r =>
        match r.job, r.phase with
        | .finalise code, .checks =>
          match lowest (s.otp.finRefusals code vqps) with
          | some c => s.onOtp fun o => o.complete c r.job 0
          | none =>
            let todo := (s.otp.digestRows code).map s.otp.burnOf
            s.pathTo (s.otp.goOn { r with todo := todo, first := false } later)
        | _, _ => (s.pathTo (s.otp.rowChecked r vqps)).afterPath vqps r.job) s

/-! ### OTP commands (R131 to R139) -/

/-- The operands in OTP_ROW and OTP_ARG. -/
def State.otpRowOp (s : State) : Nat := fldN (s.reg .otpRow) 0 11
def State.otpRef (s : State) : Nat := fldN (s.reg .otpArg) 0 2
def State.otpRegion (s : State) : Nat := fldN (s.reg .otpArg) 4 3
def State.otpCounter (s : State) : Nat := fldN (s.reg .otpArg) 8 3
def State.otpTarget (s : State) : Nat := fldN (s.reg .otpArg) 16 9
/-- The data in OTP_WDATA. -/
def State.otpData (s : State) : BitVec 64 :=
  (s.reg .otpWdata1).setWidth 64 <<< 32 ||| (s.reg .otpWdata0).setWidth 64

/-- The programming path or the array is in use (R118, R132, R152).
Marks: log 29 (DEDUCED). -/
def State.otpBusy (s : State) : Bool := !s.otp.startupDone || s.otp.run.isSome || s.lcsBusy

/-- The state allows every command (R133). -/
def early (st : LcState) : Bool := st == .raw || st == .test || st == .stock

/-- A command written: BUSY, R11, the state, its own refusals, else its effect.
Marks: log 26 (DEDUCED). -/
def State.otpCommand (s : State) (w : Word) (allowed : LcState → Bool) (refusals : List (Bool × Code)) (f : State → State) :
    State :=
  match lowest ((s.otpBusy, .busy) :: (!allowed s.lcs.state, .deniedLc) :: (rsvSet .otpCmd w, .deniedAttr) :: refusals) with
  | some c => s.onOtp fun o => { o with code := c, burned := 0 }
  | none => f s

/-- A row that READ refuses (R134): a root-half row, and a spare row that serves one, since the root half never passes
through a register (R139).
Marks: log 107 (DEDUCED). -/
def Otp.readForbidden (o : Otp) (n : Nat) : Bool :=
  (0x080 ≤ n && n ≤ 0x083) || 0x420 ≤ n || o.redir.any fun e => 0x400 + e.1 == n && 0x080 ≤ e.2 && e.2 ≤ 0x083

/-- What READ senses: a main row after redirection, a spare row or an entry itself; a reserved main row reads 0 (R115). -/
def Otp.readRow (o : Otp) (n : Nat) : Row3 := if n < 0x350 then o.sense n else if n < 0x400 then {} else o.cell n

/-- READ (R134). -/
def execOtpRead (w : Word) (s : State) : Res :=
  ranOn .d1 (fun s => s.otpCommand w (fun st => st != .ash && st != .invalid)
    [(s.otp.readForbidden s.otpRowOp || s.otpRef == 3, .deniedAttr)]
    (fun s => s.onOtp fun o =>
      let r := o.readRow s.otpRowOp
      { o with rdata := if s.otpRef = 0 then r.nrm else if s.otpRef = 1 then r.m0 else r.m1, code := .done, burned := 0 })) s

/-- The region that holds row `n` is finalised (R128). -/
def Otp.rowFinal (o : Otp) (n : Nat) : Bool := (finalIndex (regionOf n)).any o.finalised

/-- PROGRAM (R131, R128). -/
def execOtpProgram (w : Word) (vqps : Nat) (s : State) : Res :=
  ranOn .d1 (fun s =>
    let n := s.otpRowOp
    s.otpCommand w early
      [(programForbidden n || s.otp.rowFinal n || ((s.otp.sense n).nrm &&& ~~~ s.otpData) != 0, .deniedAttr)]
      (fun s => s.burn .program [s.otp.burnOf (n, s.otpData)] vqps)) s

/-- FINALISE (R127): steps 1 and 2, and the start of the checks. -/
def execOtpFinalise (w : Word) (s : State) : Res :=
  ranOn .d1 (fun s =>
    let code := s.otpRegion
    let open' := (finalIndex code).any fun f => !s.otp.finalised f
    s.otpCommand w early [(!open', .deniedAttr)]
      (fun s => s.onOtp fun o =>
        { o with run := some { job := .finalise code, todo := [], phase := .checks, burned := 0, first := false } })) s

/-- ADVANCE (R136, R135). -/
def execOtpAdvance (w : Word) (vqps : Nat) (s : State) : Res :=
  ranOn .d1 (fun s =>
    let c := s.otpCounter
    let rows := counterRows c
    s.otpCommand w (fun st => early st || st == .field)
      [(4 < c, .deniedAttr), (64 * rows.length < s.otpTarget, .badLength),
       (!counterContiguous (rows.map s.otp.sense), .integrity)]
      (fun s => s.burn .advance (s.otp.advanceBurns c s.otpTarget) vqps)) s

/-- The lowest spare row that is free: it and its entry read zero at all three references (R138). -/
def Otp.freeSpare (o : Otp) : Option Nat :=
  (List.range 16).find? fun i => rowBlank (o.cell (0x400 + i)) && rowBlank (o.cell (0x410 + i))

/-- The three copies of a redirection entry that names row `n` (R137). -/
def entryWord (n : Nat) : BitVec 64 :=
  let c : BitVec 64 := BitVec.ofNat 64 (n % 1024 + 1024)
  c ||| (c <<< 16) ||| (c <<< 32)

/-- REDIRECT (R138).
Marks: log 47 (DEDUCED). -/
def execOtpRedirect (w : Word) (vqps : Nat) (s : State) : Res :=
  ranOn .d1 (fun s =>
    let n := s.otpRowOp
    s.otpCommand w early [(0x350 ≤ n, .deniedAttr), (s.otp.freeSpare.isNone, .noResource)]
      (fun s =>
        let i := s.otp.freeSpare.getD 0
        let root := [0x080, 0x081, 0x082, 0x083, 0x088].contains n
        let data := if root then 0 else (s.otp.sense n).nrm
        s.burn .redirect [⟨0x400 + i, data, BitVec.allOnes 64⟩, ⟨0x410 + i, entryWord n, BitVec.allOnes 64⟩] vqps)) s

/-- A word of the root half: nonzero (R139).
Marks: log 8 (DESIGN CHOICE). -/
def State.rootWord (s : State) (i : Nat) : BitVec 64 := BitVec.ofNat 64 ((Config.trngNonzero (s.trngDrawn + i)).val + 1)

/-- GEN_ROOT_HALF (R139); INTEGRITY while the TRNG's health test has failed (R490).
Marks: log 8 (DESIGN CHOICE); log 96 (DEDUCED). -/
def execGenRootHalf (w : Word) (vqps : Nat) (s : State) : Res :=
  ranOn .d1 (fun s => s.otpCommand w (fun st => st == .stock)
    [([0x080, 0x081, 0x082, 0x083, 0x088].any fun n => !rowBlank (s.otp.sense n), .deniedAttr), (s.trng.fail, .integrity)]
    (fun s =>
      let ws := (List.range 4).map s.rootWord
      (s.drew 32).burn (.rootHalf ws) (ws.zipIdx.map fun e => s.otp.burnOf (0x080 + e.2, e.1)) vqps)) s

/-! ### Transitions (R152 to R157) -/

/-- The pairs of state and target that R148 allows. -/
def pairAllowed (st : LcState) (target : Nat) : Bool :=
  match st with
  | .raw => target == 1 || target == 5
  | .test => target == 2 || target == 5
  | .stock => target == 3 || target == 5
  | .field => target == 4 || target == 5
  | .ret => target == 5
  | .ash | .invalid => false

/-- The first row of a target's token-digest slot (R115). -/
def tokenRow : Nat → Nat
  | 1 => 0x308
  | 2 => 0x30E
  | 3 => 0x314
  | 4 => 0x31A
  | _ => 0x320

/-- LCS_TARGET. -/
def State.lcTarget (s : State) : Nat := fldN (s.reg .lcsTarget) 0 3

/-- An LCS command completes with `c` and has no other effect. -/
def State.lcsRefuse (s : State) (c : Code) : State := s.onLcs fun l => { l with resCode := c }

/-- Step 1 of TRANSITION (R153).
Marks: log 47 (DEDUCED). -/
def State.transitionRefusals (s : State) (w : Word) (vqps : Nat) : List (Bool × Code) :=
  let t := s.lcTarget
  let slot := tokenRow t
  let blank := (List.range 6).all fun i => s.otp.shadow (slot + i) == 0
  let unready :=
    !((List.range 4).all fun f => s.otp.finalised f && s.otp.isUsable f) || !s.otp.rootHalfSet || !s.peat.valid
  [(s.lcsBusy || s.otp.run.isSome || !s.otp.startupDone, .busy),
   (!pairAllowed s.lcs.state t || 4 ≤ s.lcs.fails, .deniedLc),
   (rsvSet .lcsCmd w || 6 ≤ t, .deniedAttr),
   ((s.otp.isUsable 3 && blank) || (t == 3 && unready), .incomplete),
   (!s.otp.tokenSlotValid slot, .integrity),
   (!vqpsInWindow vqps, .supplyWindow)]

/-- Every working key destroyed (step 4 of R153, R161, R333). -/
def State.destroyWorking (s : State) : State := s.destroyKeys.raiseEmber (zeroiseAll .lcs)

/-- Steps 3 and 4: the transition runs. -/
def State.transitionRuns (s : State) : State :=
  let s := s.clearReg .lcsToken
  let s := s.onLcs fun l =>
    { l with
      phase := .destroying
      target := (stateOf s.lcTarget).getD .invalid
      fromState := l.state
      burned := 0
      eraseDone := false }
  s.destroyWorking

/-- TRANSITION (R153): steps 1 and 2, then the transition runs. -/
def execLcTransition (w : Word) (vqps : Nat) (s : State) : Res :=
  ranOn .d1 (fun s =>
    match lowest (s.transitionRefusals w vqps) with
    | some c => s.lcsRefuse c
    | none =>
      if sha3_384 (s.regBytes .lcsToken 0 8) = s.otp.shadowBytes (tokenRow s.lcTarget) 6 then s.transitionRuns
      else (s.onLcs fun l => { l with fails := min 4 (l.fails + 1) }).lcsRefuse .notEqual) s

/-- Step 5: the root action of the target; the peat store is filled only while the TRNG delivers (R490). -/
def State.rootAction (s : State) : State :=
  match s.lcs.target with
  | .test =>
    let k := keyOf (s.draw 32)
    (s.drew 32).onPeat fun p => { p with secret := k, secretN := ~~~k }
  | .ret | .ash => s.onPeat fun p => { p with secret := 0, secretN := 0 }
  | _ => s

/-- The rows that step 9 burns, with their data. -/
def copyRows (t : LcState) : List (Nat × BitVec 64) :=
  if t = .ash then [0x303, 0x304, 0x305].map fun n => (n, BitVec.allOnes 64)
  else [0x300, 0x301, 0x302].map fun n => (n, codeword t)

/-- The end of a timed phase (R153).
Marks: log 46 (DEDUCED). -/
def State.lcsPhase (s : State) (vqps : Nat) : State :=
  let moveTo (s : State) (p : LcPhase) : State := s.onLcs fun l => { l with phase := p }
  match s.lcs.phase with
  | .destroying =>
    if s.lcs.target = .test ∨ s.lcs.target = .ret ∨ s.lcs.target = .ash then moveTo s .rootAction else moveTo s .reading
  | .rootAction =>
    if s.lcs.target = .test ∧ s.trng.fail = true then s.lcEnd .integrity 0
    else
    let s := s.rootAction
    if s.lcs.target = .ret then
      (moveTo s .awaitErase).onLcs fun l =>
        { l with resCode := .done, resBurned := 0, resFrom := l.fromState.code, resTo := l.target.code }
    else moveTo s .reading
  | .reading => moveTo s .pump
  | .pump =>
    let s := moveTo s .programming
    let run : OtpRun :=
      { job := .lcCopies, todo := (copyRows s.lcs.target).map s.otp.burnOf, phase := .rowCheck, burned := 0,
        first := s.lcs.eraseDone }
    s.pathTo (s.otp.goOn run vqps)
  | .decoding =>
    s.lcEnd (if lcDecode s.otp.sense = s.lcs.target then .done else .integrity) s.lcs.burned
  | _ => s

/-- LCS_PHASE_DONE (R153): due while a timed phase of a transition runs.
Marks: log 41 (DESIGN CHOICE); log 46 (DEDUCED). -/
def execLcsPhaseDone (vqps : Nat) (s : State) : Res :=
  ranIf (!s.lcs.opening && (s.lcs.phase == .destroying || s.lcs.phase == .rootAction || s.lcs.phase == .reading ||
      s.lcs.phase == .pump || s.lcs.phase == .decoding))
    (fun s => s.lcsPhase vqps) s

/-- ERASE_DONE (R156, R166): the transition goes on at step 7.
Marks: log 29 (DEDUCED). -/
def execEraseDone (w : Word) (s : State) : Res :=
  ranOn .d1 (fun s =>
    match lowest
      [(s.lcsBusy || s.otp.run.isSome || !s.otp.startupDone, .busy), (s.lcs.state != .field, .deniedLc),
       (rsvSet .lcsCmd w || s.lcs.phase != .awaitErase, .deniedAttr)] with
    | some c => s.lcsRefuse c
    | none => s.onLcs fun l => { l with phase := .reading, eraseDone := true }) s

/-! ### The debug gate (R161 to R163) and the test access port (R76 to R78) -/

/-- OPEN_DEBUG (R161): the keys are destroyed; the gate opens with DEBUG_GATE_OPEN.
Marks: log 47 (DEDUCED). -/
def execOpenDebug (w : Word) (s : State) : Res :=
  ranOn .d1 (fun s =>
    match lowest
      [(s.lcsBusy || s.otp.run.isSome || !s.otp.startupDone, .busy),
       (s.lcs.state != .test && s.lcs.state != .ret, .deniedLc),
       (rsvSet .lcsCmd w || s.lcs.confClosed, .deniedAttr)] with
    | some c => s.lcsRefuse c
    | none => (s.onLcs fun l => { l with phase := .destroying, opening := true }).destroyWorking) s

/-- DEBUG_GATE_OPEN (R161): due while OPEN_DEBUG runs. -/
def execDebugGateOpen (s : State) : Res :=
  ranIf s.lcs.opening
    (fun s => s.onLcs fun l =>
      let l := { l with phase := .idle, opening := false }
      if l.confClosed then { l with resCode := .deniedAttr } else { l with resCode := .done, debugOpen := true }) s

/-- What the IDCODE register reads (R77, R125).
Marks: log 18 (DESIGN CHOICE). -/
def State.idcode (s : State) : Word :=
  let maker : BitVec 11 :=
    if s.otp.isUsable 1 then Config.jtagManufacturer ((List.range 4).map fun i => s.otp.shadow (0x084 + i)) else 0
  0x21C42001#32 ||| put maker 1

/-- Where the controller goes at a cycle of TCK, by TMS: IEEE 1149.1, which R76 names.
Marks: log 104 (DEDUCED). -/
def tapNext (st : TapState) (tms : Bool) : TapState :=
  match st, tms with
  | .testLogicReset, true => .testLogicReset
  | .testLogicReset, false | .runTestIdle, false | .updateDr, false | .updateIr, false => .runTestIdle
  | .runTestIdle, true | .updateDr, true | .updateIr, true => .selectDr
  | .selectDr, true => .selectIr
  | .selectIr, true => .testLogicReset
  | .selectDr, false => .captureDr
  | .captureDr, false | .shiftDr, false | .exit2Dr, false => .shiftDr
  | .captureDr, true | .shiftDr, true => .exit1Dr
  | .exit1Dr, false | .pauseDr, false => .pauseDr
  | .pauseDr, true => .exit2Dr
  | .exit1Dr, true | .exit2Dr, true => .updateDr
  | .selectIr, false => .captureIr
  | .captureIr, false | .shiftIr, false | .exit2Ir, false => .shiftIr
  | .captureIr, true | .shiftIr, true => .exit1Ir
  | .exit1Ir, false | .pauseIr, false => .pauseIr
  | .pauseIr, true => .exit2Ir
  | .exit1Ir, true | .exit2Ir, true => .updateIr

/-- One cycle of TCK with TMS and TDI: the stage captures 0x01 and shifts, least significant bit first; the instruction
register takes it in Update-IR, and holds IDCODE in Test-Logic-Reset.
Marks: log 104 (DEDUCED). -/
def tapCycle (t : Tap) (tms tdi : Bool) : Tap :=
  let stage : BitVec 8 :=
    match t.ctl with
    | .captureIr => 0x01
    | .shiftIr => (t.stage >>> 1) ||| (if tdi then 0x80 else 0)
    | _ => t.stage
  let st := tapNext t.ctl tms
  let ir := match st with
    | .updateIr => stage
    | .testLogicReset => 0x01
    | _ => t.ir
  { ctl := st, ir := ir, stage := stage }

/-- TMS and TDI as they carry an instruction from where the last one ended, or from Test-Logic-Reset, to Run-Test/Idle.
Marks: log 104 (DEDUCED). -/
def irScan (ir : BitVec 8) : List (Bool × Bool) :=
  [(false, false), (true, false), (true, false), (false, false), (false, false)] ++
    ((List.range 8).map fun i => (i == 7, ir.getLsbD i)) ++ [(true, false), (false, false)]

/-- JTAG_INSTRUCTION (R76, R78, R150): the instruction is shifted in and taken in Update-IR, and selects a register. While
D1 holds the port in reset it moves nothing.
Marks: log 104 (DEDUCED). -/
def execJtagInstruction (ir : BitVec 8) (s : State) : Res :=
  ran (fun s =>
    if !s.up .d1 then s
    else
      let s : State := { s with tap := (irScan ir).foldl (fun t e => tapCycle t e.1 e.2) s.tap }
      s.emit (.jtag s.tapReg s.idcode)) s

/-- TRST_N_ASSERT (R76): the port's controller is reset, which selects IDCODE.
Marks: log 104 (DEDUCED). -/
def execTrstNAssert (s : State) : Res := ran (fun s => { s with tap := {} }) s

end Sys2Proof.Machine
end

