-- ==== Sys2Proof/Machine/Image.lean ====
section
/-!
DEFINITION. Machine/Image.lean: the boot record, the manifest and the image set: their layout and the checks of steps 5 to 20
of R181, which the Tinder ROM and the field-update firmware share (R167 to R177, R505, R506, R525).
-/
namespace Sys2Proof.Machine

/-- Why a set is refused: the failure code of R183, the completion code, and the entry at fault. -/
structure SetFail where
  fail : Nat
  code : Code
  entry : Option Nat := none
  deriving DecidableEq, Repr

/-- The integer of `n` bytes at offset `a`, little-endian (R167). -/
def num (bs : Bytes) (a n : Nat) : Nat := ofLE (slice bs a n)

/-- `n` bytes from offset `a` are all zero. -/
def zeros (bs : Bytes) (a n : Nat) : Bool := (slice bs a n).all fun b => b == 0

/-! ### The signature block (R169 to R172) -/

/-- The signers' key digests, and whether they are the test signer's (R171, R172, step 5 of R181).
Marks: log 52 (DEDUCED); log 57 (DESIGN CHOICE). -/
def State.signer (s : State) : Option (Bytes × Bytes × Bool) :=
  let ec := s.otp.shadowBytes 0x100 6
  let ml := s.otp.shadowBytes 0x106 6
  let blank := (ec ++ ml).all fun b => b == 0
  if !s.otp.isUsable 2 then none
  else if !blank then some (ec, ml, false)
  else if s.lcs.state == .raw || s.lcs.state == .test then
    some (leBytes 48 Config.testSignerEc.toNat, leBytes 48 Config.testSignerMl.toNat, true)
  else none

/-- The keys of a signature block match the digests. -/
def keysMatch (sig ec ml : Bytes) : Bool := sha3_384 (sig.take 96) == ec && sha3_384 (slice sig 96 2592) == ml

/-- A signature block verifies `body` under the context string of its kind (R170): both legs.
Marks: log 57 (DESIGN CHOICE). -/
def bodySigned (sig body : Bytes) (ctx : String) : Bool :=
  hybridOk (sig.take 2688) (sha384 body) (ascii ctx) body (slice sig 0xA80 4723)

/-! ### Boot record (R173, R168, R525) -/

/-- A range of the NVM, from `lo` up to but not `hi`. -/
structure Span where
  lo : Nat
  hi : Nat
  deriving DecidableEq, Repr

/-- Two ranges overlap: each begins before the other ends. One of no bytes that begins strictly inside another does.
Marks: log 116 (DESIGN CHOICE). -/
def Span.meets (a b : Span) : Bool := a.lo < b.hi && b.lo < a.hi

/-- Some two ranges of a list share a byte. -/
def spansMeet : List Span → Bool
  | [] => false
  | a :: l => (l.any fun b => a.meets b) || spansMeet l

/-- The boot record and the manifest (R167). -/
def fixedSpans : List Span := [⟨0, 0x4000⟩, ⟨0x4000, 0x7000⟩]

/-- The owner regions of a record body: the table has room for eight. -/
def ownerSpans (r : Bytes) : List Span :=
  (List.range (min 8 (num r 0x70 1))).map fun i =>
    let lo := num r (0x80 + 8 * i) 4
    ⟨lo, lo + 4096 * num r (0x84 + 8 * i) 4⟩

/-- The gaps GAP1 to GAP29 of a record body.
Marks: log 52 (DEDUCED). -/
def recordGaps (r : Bytes) : List Nat := (List.range 29).map fun k => num r (0x10 + 2 * k) 2

/-- The reserved bytes of the record and its signature block, FENCE_DELTAS among them, and the bytes of STAGING_BASE and
SELFTEST_BASE above the 48 bits of a device-memory address.
Marks: log 52 (DEDUCED). -/
def recordRsv : List (Nat × Nat) :=
  [(0x07, 1), (0x0A, 2), (0x0F, 1), (0x4A, 6), (0x5E, 2), (0x64, 4), (0x6E, 2), (0x71, 15), (0x1C0, 64), (0xCE, 2), (0xD3, 1), (0xD4, 236),
    (0x3FF3, 13)]

/-- Step 7: a size, count or gap out of range is BAD_LENGTH, every other format fault DENIED_ATTR.
Marks: log 52 (DEDUCED). -/
def recordFormat (r : Bytes) : Option Code :=
  let owners := num r 0x70 1
  let regions := ownerSpans r
  let bad :=
    num r 0 4 != 0x42524349 || num r 4 2 != 2 || recordRsv.any (fun e => !zeros r e.1 e.2) || 64 < num r 6 1 ||
      8 ≤ num r 8 1 || num r 0x50 4 < 0x10000 || num r 0x54 4 < 0x10000 || num r 0x58 8 % 4096 != 0 ||
      num r 0x68 8 % 4096 != 0 || !zeros r (0x80 + 8 * owners) (64 - 8 * owners) ||
      regions.any (fun g => g.lo % 4096 != 0) || spansMeet (fixedSpans ++ regions)
  let size := (recordGaps r).any (fun g => g < 64 || 4096 < g) || num r 0x60 4 < 0x1000000 || num r 0x60 4 % 4096 != 0 ||
    8 < owners
  lowest [(bad, .deniedAttr), (size, .badLength)]

/-- Steps 5 and 7 to 11 over the 16 KiB of a boot record.
Marks: log 52 (DEDUCED). -/
def State.recordFail (s : State) (r : Bytes) : Option SetFail :=
  match s.signer with
  | none => some ⟨0x02, .integrity, none⟩
  | some (ec, ml, _) =>
    let sig := slice r 0x2300 0x1D00
    match recordFormat r with
    | some c => some ⟨0x03, c, none⟩
    | none =>
      if !(num r 8 1).testBit s.crs.strap.role.toNat then some ⟨0x04, .deniedAttr, none⟩
      else if !keysMatch sig ec ml then some ⟨0x05, .notEqual, none⟩
      else if !bodySigned sig (r.take 0x2300) "icvia-brec-v2" then some ⟨0x06, .badSignature, none⟩
      else if num r 6 1 < s.otp.svn 0 then some ⟨0x07, .version, none⟩
      else none

/-! ### Manifest (R175 to R177) -/

/-- A manifest entry (R176). -/
structure Part where
  typ : Nat
  svn : Nat
  version : Word
  minPeer : Word
  size : Nat
  offset : Nat
  digest : Bytes
  deriving DecidableEq, Repr

/-- Entry `i` of a manifest. -/
def partAt (m : Bytes) (i : Nat) : Part :=
  let e := slice m (0x40 + 128 * i) 128
  { typ := num e 0 1, svn := num e 1 1, version := BitVec.ofNat 32 (num e 4 4), minPeer := BitVec.ofNat 32 (num e 8 4),
    size := num e 0xC 4, offset := num e 0x10 4, digest := slice e 0x20 64 }

/-- ENTRY_COUNT, RELEASE_VERSION, HO_LAYOUT and MIN_FROM_RELEASE (R175, R505). -/
def manCount (m : Bytes) : Nat := num m 6 1
/-- RELEASE_VERSION. -/
def manRelease (m : Bytes) : Word := BitVec.ofNat 32 (num m 8 4)
/-- HO_LAYOUT. -/
def manLayout (m : Bytes) : Nat := num m 0xC 2
/-- MIN_FROM_RELEASE. -/
def manFrom (m : Bytes) : Word := BitVec.ofNat 32 (num m 0x10 4)

/-- How many entries of a manifest are read: its body has room for 16. -/
def manEntries (m : Bytes) : Nat := min 16 (manCount m)

/-- The entries of a manifest, in order. -/
def manParts (m : Bytes) : List Part := (List.range (manEntries m)).map (partAt m)

/-- A part put among parts in ascending order of FLASH_OFFSET. -/
def insertPart (p : Part) : List Part → List Part
  | [] => [p]
  | q :: l => if p.offset ≤ q.offset then p :: q :: l else q :: insertPart p l

/-- The entries of a manifest in ascending order of FLASH_OFFSET (step 19). -/
def partsAscending (m : Bytes) : List Part := (manParts m).foldr insertPart []

/-- The maximum size of a part type (R177). -/
def partMax (t : Nat) : Nat :=
  match t with
  | 1 | 2 => 0x80000
  | 3 => 0xC00000
  | 4 => 0x10000
  | 5 => 0x40000
  | 6 => 0x10000
  | 7 => 0x200000
  | _ => 0x100000

/-- Where the ROM places a part in control SRAM; none for PKUCODE, which goes to the PKE's microcode memory, and for the
reserved types. -/
def partDest (t : Nat) : Option Nat :=
  match t with
  | 1 => some 0x0F00000
  | 2 => some 0x0F80000
  | 3 => some 0x0000000
  | 5 => some 0x0E00000
  | 6 => some 0x0E40000
  | 7 => some 0x0C00000
  | _ => none

/-- The SVN counter that sets a part type's floor. -/
def partCounter (t : Nat) : Nat :=
  match t with
  | 1 => 0
  | 2 | 4 => 1
  | 3 | 5 => 2
  | _ => 3

/-- The bytes of the NVM that a part occupies. -/
def Part.span (p : Part) : Span := ⟨p.offset, p.offset + p.size⟩

/-- How many entries have type `t`. -/
def typeCount (ps : List Part) (t : Nat) : Nat := (ps.filter fun p => p.typ == t).length

/-- The reserved bytes of an entry are 0.
Marks: log 52 (DEDUCED). -/
def entryRsvOk (m : Bytes) (i : Nat) : Bool :=
  let a := 0x40 + 128 * i
  zeros m (a + 2) 2 && zeros m (a + 0x14) 12 && zeros m (a + 0x60) 32

/-- Step 14: the format of a manifest, against the owner regions of its boot record.
Marks: log 52 (DEDUCED). -/
def manifestFormat (m : Bytes) (owners : List Span) : Option Code :=
  let n := manCount m
  let ps := manParts m
  let bad :=
    num m 0 4 != 0x464D4349 || num m 4 2 != 2 || !zeros m 7 1 || !zeros m 0x20 32 || !zeros m 0x2533 13 ||
      !(List.range (min 16 n)).all (entryRsvOk m) || !zeros m (0x40 + 128 * n) (128 * (16 - n)) ||
      ps.any (fun p => p.typ == 0 || 64 < p.svn || p.offset % 4096 != 0 || p.offset < 0x7000 || typeCount ps p.typ != 1) ||
      [1, 2, 3, 4].any (fun t => typeCount ps t != 1) || spansMeet (fixedSpans ++ owners ++ ps.map Part.span)
  let size := n < 4 || 16 < n || ps.any fun p => p.size == 0 || partMax p.typ < p.size
  lowest [(bad, .deniedAttr), (size, .badLength)]

/-- The index of the first entry that `bad` holds of. -/
def firstPart (m : Bytes) (bad : Part → Bool) : Option Nat := (List.range (manEntries m)).find? fun i => bad (partAt m i)

/-- Steps 14 to 17 over the 9,536 bytes of a manifest.
Marks: log 52 (DEDUCED). -/
def State.manifestFail (s : State) (m : Bytes) (owners : List Span) : Option SetFail :=
  match s.signer with
  | none => some ⟨0x02, .integrity, none⟩
  | some (ec, ml, _) =>
    let sig := slice m 0x840 0x1D00
    match manifestFormat m owners with
    | some c => some ⟨0x08, c, none⟩
    | none =>
      if !keysMatch sig ec ml then some ⟨0x09, .notEqual, none⟩
      else if !bodySigned sig (m.take 0x840) "icvia-mfst-v2" then some ⟨0x0A, .badSignature, none⟩
      else
        match firstPart m fun p => p.svn < s.otp.svn (partCounter p.typ) with
        | some i => some ⟨0x0B, .version, some i⟩
        | none => none

/-- Steps 19 and 20: the first entry whose SIZE bytes, as `read` finds them at their NVM address, have another digest. -/
def partsFail (m : Bytes) (read : Nat → Nat → Bytes) : Option SetFail :=
  (firstPart m fun p => sha3_512 (read p.offset p.size) != p.digest).map fun i => ⟨0x0C, .notEqual, some i⟩

/-- The entry of type `t`. -/
def partOf (m : Bytes) (t : Nat) : Option Part := (manParts m).find? fun p => p.typ == t

/-- A size rounded up to 4 KiB. -/
def pageUp (n : Nat) : Nat := (n + 4095) / 4096 * 4096

/-- The end of a locked range that starts at `lo`: past the part of type `t`, or `lo` where there is none (R180). -/
def lockEnd (m : Bytes) (t lo : Nat) : Nat := (partOf m t).elim lo fun p => lo + pageUp p.size

end Sys2Proof.Machine
end

