-- ==== Sys2Proof/Machine/Boot.lean ====
section
/-!
DEFINITION. Machine/Boot.lean: the Tinder ROM sequence, the start of the control cores and the image lock (R178 to R188).
-/
namespace Sys2Proof.Machine

/-- The boot state changed by `f`. -/
def State.onBoot (s : State) (f : Boot → Boot) : State := { s with boot := f s.boot }

/-- A measurement register extended at once (R182). -/
def State.extendNow (s : State) (i : Nat) (v : Bytes) : State :=
  let m := s.mreg i
  s.setMreg i { m with value := sha3_512 (m.value ++ v), count := m.count + 1 }

/-- FORM_ROOT commanded and answered (R273): slots 0 and 1, then the PKE's expansion of slot 0, then the boot nonce, which a
failed TRNG does not give (R490). The answer is the Kiln's completion code. -/
def State.formNow (s : State) : State × Code :=
  if s.kln.halted then (s, .aborted)
  else if s.kln.formed then (s.klnDone .deniedAttr, .deniedAttr)
  else
    let k := s.rootSelect
    let s := s.onKln fun n => { n with formed := true, root := .none, rootKey := [] }
    if k = .none then (s.klnDone .done, .done)
    else
      let s := s.formSeeds k
      let r := s.pkeResult { op := .expand, req := 0, gen := (s.slot 0).gen } .none
      let t := if r.2.1 = .done then r.1.formFinish r.2.2 else r.1.formFails r.2.1
      (t, t.kln.code)

/-- The ROM halts: it never opens the Causeway service (R183). -/
def State.bootHalt (s : State) (f : SetFail) : State :=
  s.onBoot fun b => { b with stage := 7, fail := f.fail, resCode := f.code, resEntry := f.entry }

/-- The recovery service begins: STAGE 6, staging in control SRAM from offset 0, the service open (R184).
Marks: log 20 (DESIGN CHOICE). -/
def State.enterRecovery (s : State) : State :=
  let s := s.onBoot fun b => { b with stage := 6 }
  let s := s.setReg .cwyStageLimit 0x01000000
  let s := s.setReg .cwyStageLo 0
  let s := s.setReg .cwyStageHi 0x8FFF0000
  s.setReg .cwyCtrl 0x3

/-- A step fails: recovery where the Causeway is enabled, else a halt (R183).
Marks: log 53 (DEDUCED). -/
def State.bootFail (s : State) (f : SetFail) : State :=
  let s := s.bootHalt f
  if s.crs.strap.cwyEn then s.enterRecovery else s

/-- BOOT_ABORT: the ROM's datapath has failed (R183). -/
def State.bootAbort (s : State) : State := s.bootHalt ⟨0x0E, .aborted, none⟩

/-- The step of R181 at which a check of the set fails with a code of R183. -/
def failStep (fail : Nat) : Nat :=
  match fail with
  | 0x02 => 5
  | 0x03 => 7
  | 0x04 => 8
  | 0x05 => 9
  | 0x06 => 10
  | 0x07 => 11
  | 0x08 => 14
  | 0x09 => 15
  | 0x0A => 16
  | 0x0B => 17
  | _ => 20

/-- The ROM's datapath fails by step `n`; `abort`: the step at which it does.
Marks: log 53 (DEDUCED). -/
def aborts (abort : Option (Fin 27)) (n : Nat) : Bool := abort.any fun k => k.val ≤ n

/-- A check fails: at once, unless the ROM's datapath has failed by then. -/
def State.bootStop (s : State) (abort : Option (Fin 27)) (f : SetFail) : State :=
  if aborts abort (failStep f.fail) then s.bootAbort else s.bootFail f

/-- A part's bytes written to its destination (R177).
Marks: log 53 (DEDUCED). -/
def State.placePart (s : State) (p : Part) (bs : Bytes) : State :=
  if p.typ = 4 then s.onPke fun k => { k with micro := Sparse.putBytes 0 [] 0 bs }
  else (partDest p.typ).elim s fun d => s.csramPut d bs

/-- The parts read from the NVM in ascending order and placed (step 19). The contexts of the digest engine that hash them show
nothing of it.
Marks: log 53 (DEDUCED); log 114 (DESIGN CHOICE). -/
def State.placeAll (s : State) (m : Bytes) : State :=
  (partsAscending m).foldl
    (fun s p => (s.nvmFetch p.offset p.size).placePart p (s.nvmBytes p.offset p.size)) s

/-- Steps 23 to 26: the record copied and the digests kept, the lock set, the microcode taken, the Kindling started. -/
def State.bootHand (s : State) (r m : Bytes) (abort : Option (Fin 27)) : State :=
  if aborts abort 23 then s.bootAbort
  else
    let s := (s.csramPut 0x0EFD000 (r.take 0x2300)).onBoot fun b =>
      { b with recDigest := sha3_512 (r.take 0x2300), manDigest := sha3_512 (m.take 0x840) }
    if aborts abort 24 then s.bootAbort
    else
      let s := s.onBoot fun b =>
        { b with
          lockSet := true
          lockMain := lockEnd m 3 0
          lockGate := lockEnd m 5 0x0E00000
          lockSens := lockEnd m 6 0x0E40000 }
      if aborts abort 25 then s.bootAbort
      else
        let s := s.onPke fun p => { p with ucode := true }
        if aborts abort 26 then s.bootAbort
        else
          s.onBoot fun b =>
            { b with
              stage := 5
              fail := 0
              resCode := .done
              resEntry := none
              svns := [1, 2, 3, 4].map fun t => (partOf m t).elim 0 fun p => p.svn
              peers := (manParts m).map fun p => (p.typ, p.minPeer)
              layout := manLayout m
              arrays := num r 9 1 + 1 }

/-- Steps 21 and 22, then the rest: the parts measured, the root formed. An INTEGRITY of the Kiln is a DERIVE failure,
another code one of the ROM's datapath (R183).
Marks: log 53 (DEDUCED). -/
def State.bootFinish (s : State) (r m : Bytes) (abort : Option (Fin 27)) : State :=
  if aborts abort 21 then s.bootAbort
  else
    let s := [1, 2, 3, 4].foldl (fun s t => (partOf m t).elim s fun p => s.extendNow (t + 1) p.digest) s
    if aborts abort 22 then s.bootAbort
    else
      let f := s.formNow
      if f.2 = .integrity then f.1.bootHalt ⟨0x0D, .integrity, none⟩
      else if f.2 ≠ .done then f.1.bootAbort
      else f.1.bootHand r m abort

/-- Steps 18 to 20, once the manifest has passed: every part is placed before any is compared, and the parts of a failed set
are zeroed (R182). -/
def State.bootParts (s : State) (r m : Bytes) (abort : Option (Fin 27)) : State :=
  if aborts abort 18 then s.bootAbort
  else
    let s := s.extendNow 1 (sha3_512 (m.take 0x840))
    if aborts abort 19 then s.bootAbort
    else
      let s := s.placeAll m
      if aborts abort 20 then s.bootAbort
      else
        match partsFail m s.nvmBytes with
        | some f => ((manParts m).foldl (fun s p => s.placePart p (List.replicate p.size 0)) s).bootFail f
        | none => s.bootFinish r m abort

/-- Steps 12 to 17, once the record has passed. -/
def State.bootSet (s : State) (r : Bytes) (abort : Option (Fin 27)) : State :=
  if aborts abort 12 then s.bootAbort
  else
    let s := s.extendNow 1 (sha3_512 (r.take 0x2300))
    if aborts abort 13 then s.bootAbort
    else
      let m := s.nvmBytes 0x4000 0x2540
      let s := s.nvmFetch 0x4000 0x2540
      match s.manifestFail m (ownerSpans r) with
      | some f => s.bootStop abort f
      | none => s.bootParts r m abort

/-- The security core's watchdog kicked (R103). -/
def State.secKick (s : State) : State := s.onCrs fun c => { c with secCount := (s.reg .crsWdtSecLoad).toNat }

/-- R181 from step 3. `abort`: the step at which the ROM's datapath fails, before its effect. Where the ROM reads the record
and the manifest to in private SRAM is not in the state: what a failed boot leaves there is zeros.
Marks: log 53 (DEDUCED); log 114 (DESIGN CHOICE). -/
def State.bootRun (s : State) (abort : Option (Fin 27)) : State :=
  if aborts abort 2 then s.bootAbort
  else
    let s := s.secKick
    if aborts abort 4 then s.bootAbort
    else
      let s := s.extendNow 0 (leBytes 64 Config.romDigest.toNat)
      if aborts abort 5 then s.bootAbort
      else
        let s := s.onBoot fun b => { b with testSigner := s.signer.any fun k => k.2.2 }
        let r := s.nvmBytes 0 0x4000
        let s := if s.signer.isSome then s.nvmFetch 0 0x4000 else s
        match s.recordFail r with
        | some f => s.bootStop abort f
        | none => s.bootSet r abort

/-- TINDER_BOOT (R181): once in each release of D2, when D3 to D6 are released too; in ASH and INVALID at once (step 1).
Marks: log 53 (DEDUCED); log 54 (DESIGN CHOICE). -/
def execTinderBoot (abort : Option (Fin 27)) (s : State) : Res :=
  let stops := s.lcs.state == .ash || s.lcs.state == .invalid
  ranIf (s.up .d2 && !s.boot.ran && (stops || (s.up .d3 && s.up .d4 && s.up .d5 && s.up .d6)))
    (fun s =>
      let s := s.onBoot fun b => { b with ran := true }
      if aborts abort 1 then s.bootAbort
      else if stops then s.bootHalt ⟨0x01, .deniedLc, none⟩
      else s.bootRun abort) s

/-- A self-test requested of array `i`, unless one is outstanding (R79): the vectors stand at SELFTEST_BASE of the boot
record (R173).
Marks: log 55 (DEDUCED). -/
def State.testArray (s : State) (i : Nat) : State :=
  if Sparse.get .notRun s.ast i = .owed then s
  else
    let base := num (s.csramBytes 0x0EFD068 8) 0 8
    State.emit { s with ast := Sparse.put .notRun s.ast i .owed } (.selfTest i (BitVec.ofNat 36 (base / 4096)))

/-- BOOT_MAIN_START written: START sets only while STAGE is 5. The control cores then start, and the main firmware requests
a self-test of every matrix array (R187, R188, R79).
Marks: log 54 (DESIGN CHOICE); log 55 (DEDUCED). -/
def State.mainStart (s : State) (w : Word) : State :=
  if bit w 0 && s.boot.stage == 5 && !s.boot.mainStart then
    let s := s.onBoot fun b => { b with mainStart := true }
    if s.up .d4 && s.up .d5 then (List.range s.boot.arrays).foldl State.testArray s else s
  else s

/-- BOOT_MAIN_START (R187).
Marks: log 54 (DESIGN CHOICE); log 56 (DEDUCED). -/
def execBootMainStart (w : Word) (s : State) : Res := ranOn .d2 (fun s => s.mainStart w) s

/-- A write of an image-lock end: it takes effect only where it raises the end within the part's range, once the lock is
set (R180). `which`: 0 MAIN, 1 GATE, 2 SENS. -/
def State.lockWrite (s : State) (which : Nat) (w : Word) : State :=
  let e := (w &&& 0x00FFF000#32).toNat
  if !s.boot.lockSet then s
  else
    s.onBoot fun b =>
      match which with
      | 0 => if b.lockMain < e ∧ e ≤ 0x0C00000 then { b with lockMain := e } else b
      | 1 => if b.lockGate < e ∧ e ≤ 0x0E40000 then { b with lockGate := e } else b
      | _ => if b.lockSens < e ∧ e ≤ 0x0E50000 then { b with lockSens := e } else b

/-- BOOT_LOCK_WRITE (R180). -/
def execBootLockWrite (which : Fin 3) (w : Word) (s : State) : Res := ranOn .d2 (fun s => s.lockWrite which.val w) s

end Sys2Proof.Machine
end

