-- ==== Sys2Proof/Machine/Causeway.lean ====
section
/-!
DEFINITION. Machine/Causeway.lean: the Causeway link, the frame engine, and the copy and NVM engines (R494 to R504, R516,
R522), and SEND on the mailboxes whose receiver is an engine (R472, R473).
-/
namespace Sys2Proof.Machine

/-- The Causeway unit changed by `f`. -/
def State.onCwy (s : State) (f : Cwy → Cwy) : State := { s with cwy := f s.cwy }

/-! ### The link (R495) -/

/-- The receiver runs: D6 is released and the strap enables the Causeway (R110). -/
def State.cwyOn (s : State) : Bool := s.up .d6 && s.crs.strap.cwyEn

/-- LINK_UP (R495).
Marks: log 58 (DESIGN CHOICE). -/
def execLinkUp (s : State) : Res :=
  ranIf (s.cwyOn && !s.cwy.link) (fun s => s.onCwy fun c => { c with link := true }) s

/-- LINK_DOWN (R495): the frame in progress is dropped.
Marks: log 58 (DESIGN CHOICE). -/
def execLinkDown (s : State) : Res :=
  ranIf s.cwy.link (fun s => s.onCwy fun c => { c with link := false }) s

/-- A dropped frame is counted (R497): one that violates the code as a symbol fault, every other as a CRC fault.
Marks: log 58 (DESIGN CHOICE). -/
def State.dropFrame (s : State) (why : FrameFault) : State :=
  s.onCwy fun c =>
    match why with
    | .symbol => { c with cntSymbol := tally c.cntSymbol }
    | .crc | .length => { c with cntCrc := tally c.cntCrc }

/-- FRAME_DROP (R497): due while the receiver is locked.
Marks: log 58 (DESIGN CHOICE). -/
def execFrameDrop (why : FrameFault) (s : State) : Res := ranIf s.cwy.link (fun s => s.dropFrame why) s

/-! ### Frames (R496 to R498) -/

/-- The header fields of a frame (R496). -/
def frType (f : Bytes) : Nat := num f 0 1
def frFlags (f : Bytes) : Nat := num f 1 1
def frSeq (f : Bytes) : BitVec 16 := BitVec.ofNat 16 (num f 2 2)
def frLen (f : Bytes) : Nat := num f 4 2
def frSession (f : Bytes) : BitVec 16 := BitVec.ofNat 16 (num f 6 2)
def frAddr (f : Bytes) : Nat := num f 8 4
def frArg (f : Bytes) : Nat := num f 0xC 4
/-- The payload. -/
def frPayload (f : Bytes) : Bytes := slice f 16 (frLen f)

/-- The bytes between K27.7 and K29.7 pass R497: 20 + LEN of them, with the CRC-32C of the rest at the end.
Marks: log 58 (DESIGN CHOICE). -/
def frWhole (f : Bytes) : Bool :=
  f.length == 20 + frLen f && num f (16 + frLen f) 4 == (crc32c (f.take (16 + frLen f))).toNat

/-- A frame of the block, with its CRC. -/
def buildFrame (typ : Nat) (seq session : BitVec 16) (arg : Nat) (payload : Bytes) : Bytes :=
  let b := leBytes 1 typ ++ [0] ++ leBytes 2 seq.toNat ++ leBytes 2 payload.length ++ leBytes 2 session.toNat ++
    leBytes 4 0 ++ leBytes 4 arg ++ payload
  b ++ leBytes 4 (crc32c b).toNat

/-- A peer frame outside the table of R498: a reserved type, a reserved FLAGS bit, or LEN, ADDR or ARG out of range.
Marks: log 58 (DESIGN CHOICE). -/
def frBad (f : Bytes) : Bool :=
  let flags := if frType f = 2 then 1 else 0
  let plain := frLen f == 0 && frAddr f == 0
  let loaded := 1 ≤ frLen f && frLen f ≤ 4096 && frAddr f % 4096 == 0 && frArg f == 0
  flags < frFlags f ||
    match frType f with
    | 1 | 5 => !(plain && frArg f == 0)
    | 2 => !(loaded && frAddr f ≤ 0x6000)
    | 3 => !(loaded && 0x7000 ≤ frAddr f)
    | 4 => !(plain && frArg f < 256)
    | 6 => !(plain && frArg f < 4)
    | _ => true

/-- PHASE of CWY_CTRL.
Marks: log 59 (DEDUCED). -/
def State.phase (s : State) : Nat := fldN (s.reg .cwyCtrl) 4 3

/-- ARG of a block STATUS: the code, and PHASE. -/
def State.statusArg (s : State) (c : Code) : Nat := c.num + 256 * s.phase

/-- A STATUS that the engine itself sends in answer to a frame; `keep`: it is the stored answer for repeats.
Marks: log 59 (DEDUCED). -/
def State.engineAnswer (s : State) (f : Bytes) (c : Code) (keep : Bool) : State :=
  let out := buildFrame 5 (frSeq f) s.cwy.session (s.statusArg c) []
  let s := s.emit (.frame out)
  if keep then s.onCwy fun x => { x with sent := out } else s

/-! ### Staging (R503) -/

/-- The staging base, whether staging is control SRAM, and its size. -/
def State.stageBase (s : State) : Nat :=
  fldN (s.reg .cwyStageLo) 12 20 * 4096 + fldN (s.reg .cwyStageHi) 0 16 * 2 ^ 32
/-- DEST. -/
def State.stageLocal (s : State) : Bool := bit (s.reg .cwyStageHi) 31
/-- CWY_STAGE_LIMIT. -/
def State.stageLimit (s : State) : Nat := (s.reg .cwyStageLimit).toNat
/-- CWY_STAGE_HI.CTX. -/
def State.stageCtx (s : State) : EndpointId := fld (s.reg .cwyStageHi) 16 12

/-- A sector of staging from offset `a` lies within its limit, and within control SRAM where that holds it. -/
def State.stageFits (s : State) (a : Nat) : Bool :=
  a + 4096 ≤ s.stageLimit && (!s.stageLocal || s.stageBase + a + 4096 ≤ 0x1000000)

/-- Staging names a gate endpoint, which only core 7 in gate mode may name (R445).
Marks: log 78 (DEDUCED). -/
def State.stageBarred (s : State) : Bool := !s.stageLocal && s.gateBound s.stageCtx

/-- The engine's code for a MANIFEST or CHUNK frame before it writes (R502, R445).
Marks: log 61 (DEDUCED). -/
def State.stageCode (s : State) (f : Bytes) : Code :=
  (lowest
    [(!s.stageFits (frAddr f) || s.stageBarred, .deniedAttr),
     (frType f == 3 && !bit (s.reg .cwyCtrl) 3, .incomplete)]).getD .done

/-- The engine's staging writes issued as far as tags are free, `n` at most. A memory port that is down takes none, and the
frame ends as one whose write failed; a context that has come to name a gate endpoint is refused (R445). -/
def State.stageIssue : Nat → State → State
  | 0, s => s
  | n + 1, s =>
    match s.cwy.rx with
    | none => s
    | some r =>
      if r.left = 0 then s
      else if !s.up .d4 then s.onCwy fun x => { x with rx := some { r with left := 0, bad := true } }
      else if s.gateBound s.stageCtx then
        s.onCwy fun x => { x with rx := some { r with left := 0, code := .deniedAttr } }
      else if !s.mpRoom then s
      else
        let off := 1024 * (4 - r.left)
        let bs := slice (padTo 4096 (frPayload r.frame)) off 1024
        let s := s.mpIssue true (s.stageBase + frAddr r.frame + off) 16 0 s.stageCtx bs .stage
        State.stageIssue n (s.onCwy fun x => { x with rx := some { r with left := r.left - 1, owed := r.owed + 1 } })

/-- The payload of an accepted MANIFEST or CHUNK frame staged: where staging is device memory, the frame then waits for its
acknowledgements. -/
def State.stage (s : State) (f : Bytes) : State :=
  let c := s.stageCode f
  let rx : CwyRx := { frame := f, code := c, buffered := frType f == 2 && c == .done }
  if c ≠ .done then s.onCwy fun x => { x with rx := some rx }
  else
    let bs := padTo 4096 (frPayload f)
    let s := if frType f = 2 then s.onCwy fun x => { x with rxbuf := frPayload f } else s
    if s.stageLocal then (s.csramPut (s.stageBase + frAddr f) bs).onCwy fun x => { x with rx := some rx }
    else State.stageIssue 4 (s.onCwy fun x => { x with rx := some { rx with left := 4 } })

/-! ### MBX3 (R502, R504) -/

/-- The four words of a header. -/
def headWords (f : Bytes) : List Word := (List.range 4).map (byteWord f)

/-- The descriptor of a frame posted in direction A to B, and taken by the security core at once where it serves
(R502). -/
def State.describe (s : State) (f : Bytes) (c : Code) (buffered : Bool) : State :=
  let ws := headWords f ++ [putN c.num 0 8 ||| putB buffered 8] ++ List.replicate 11 0
  (s.postMsg 6 ws).take 6

/-- A frame of the security core posted in direction B to A (R504); an ABORTED that stands there is cleared first (R473,
R475). -/
def State.postFrame (s : State) (typ : Nat) (seq : BitVec 16) (arg : Nat) (payload : Bytes) : State :=
  let ws := headWords (buildFrame typ seq s.cwy.session arg []) ++ (List.range 12).map (byteWord payload)
  ((s.onMslot 7 fun v => { v with aborted := false }).postMsg 7 ws).onMslot 7 fun v =>
    { v with msg := v.msg.set 1 (putN payload.length 0 16 ||| put s.cwy.session 16) }

/-- The frame posted in MBX3 sent: SESSION and the CRC are the engine's; it is stored for repeats, and FULL clears. -/
def State.sendPosted (s : State) : State :=
  let ws := (s.mslot 7).msg
  let head := wordsToBytes (ws.take 4)
  let body := (wordsToBytes (ws.drop 4)).take (frLen head)
  let b := slice head 0 6 ++ leBytes 2 s.cwy.session.toNat ++ slice head 8 8 ++ body
  let out := b ++ leBytes 4 (crc32c b).toNat
  let s := s.emit (.frame out)
  (s.onCwy fun x => { x with sent := out, unanswered := false }).take 7

/-- CAUSEWAY_FRAME_SENT (R504): due while a frame stands in MBX3. -/
def execCausewayFrameSent (s : State) : Res := ranIf (s.cwy.txOn && (s.mslot 7).full) State.sendPosted s

/-- A posted header is one that the block may send (R504). -/
def postable (ws : List Word) : Bool :=
  let head := wordsToBytes (ws.take 4)
  frLen head ≤ 48 && (frType head == 1 || frType head == 5 || frType head == 6)

/-! ### SEND (R472, R473) -/

/-- SEND by the security core or the control cluster to an engine, or between cores; with a CAP_OFFER the firmware opens a
negotiation (R483). -/
def State.sendFrom (s : State) (m : Nat) (d : MbxDir) (n : Nat) : State :=
  let i := slotIx m d
  let ws := (s.mslot i).msg
  if i = 5 then s.wcpSend n
  else if i = 7 then (s.sendSlot i n (postable ws)).1
  else
    let r := s.sendSlot i n true
    let s := r.1
    if i = 1 && r.2 && fldN (ws.getD 0 0) 0 8 == 1 then
      s.capPrepare ((ws.getD 1 0).toNat + 2 ^ 32 * (ws.getD 2 0).toNat) (fld (ws.getD 3 0) 0 8)
    else s

/-- SEND (R472, R473, R493).
Marks: log 38 (DESIGN CHOICE). -/
def execMbxSend (q : Req) (m : Fin 4) (d : MbxDir) (w : Word) (s : State) : Res :=
  ran (fun s =>
    if s.gateCore q then s.gateTrap .store (Reg.mbxSend.row.addr (slotIx m.val d) 0)
    else if !s.mbxSender q m.val d && (isIcp q || s.serves .d6) then s.emit (.code .deniedAttr)
    else if !s.serves .d6 then s.emit (.code .busy)
    else s.sendFrom m.val d (fldN w 0 5)) s

/-! ### The copy engine (R511, R522) -/

/-- The next read of the copy engine: up to 16 beats, not across a 4 KiB boundary (R46), and none through a gate endpoint
(R445). -/
def State.copyNext (s : State) : State :=
  match s.cwy.copy with
  | none => s
  | some x =>
    if x.left = 0 || x.bad.isSome then s
    else
      let a := s.stageBase + x.src
      let n := min (min x.left 1024) (4096 - a % 4096)
      if !s.up .d4 then s.onCwy fun c => { c with copy := some { x with bad := some .aborted } }
      else if s.stageBarred then s.onCwy fun c => { c with copy := some { x with bad := some .deniedAttr } }
      else if !s.mpRoom || s.mp.any fun r => r.owner == .copy then s
      else s.mpIssue false a (n / 64) 0 s.stageCtx [] .copy

/-- A read of the copy engine is answered: the bytes go to control SRAM. -/
def State.copyRead (s : State) (data : Bytes) (err : Bool) : State :=
  match s.cwy.copy with
  | none => s
  | some x =>
    if err then s.onCwy fun c => { c with copy := some { x with bad := some .integrity } }
    else
      let n := data.length
      let s := s.csramPut x.dst data
      (s.onCwy fun c =>
        { c with copy := some { x with src := x.src + n, dst := x.dst + n, left := x.left - n } }).copyNext

/-- The refusals of COPY (R522). -/
def State.copyRefusals (s : State) (w : Word) : List (Bool × Code) :=
  let src := (s.reg .cwyCopySrc).toNat
  let dst := (s.reg .cwyCopyDst).toNat
  let len := (s.reg .cwyCopyLen).toNat
  [(s.cwy.copy.isSome, .busy),
   (rsvSet .cwyCopyCmd w || fldN w 0 4 != 1 || src % 64 != 0 || dst % 64 != 0 || len % 64 != 0 || len < 64 ||
      0x1000000 < len || s.stageLocal || s.stageBarred || s.stageLimit < src + len || 0x1000000 < dst + len, .deniedAttr)]

/-- CWY_COPY_CMD written. -/
def State.cwyCopy (s : State) (w : Word) : State :=
  match lowest (s.copyRefusals w) with
  | some c => s.onCwy fun x => { x with copyCode := c }
  | none =>
    let x : CwyCopy :=
      { src := (s.reg .cwyCopySrc).toNat, dst := (s.reg .cwyCopyDst).toNat, left := (s.reg .cwyCopyLen).toNat }
    (s.onCwy fun c => { c with copy := some x }).copyNext

/-- COPY (R511, R522). -/
def execCwyCopy (w : Word) (s : State) : Res := ranOn .d6 (fun s => s.cwyCopy w) s

/-! ### The NVM engine (R516, R522) -/

/-- The next read of staged bytes, a quarter of a sector, and none through a gate endpoint (R445). -/
def State.nvmNext (s : State) : State :=
  match s.cwy.nvm with
  | none => s
  | some r =>
    if r.op = .erase ∨ r.bad.isSome = true ∨ 4096 ≤ r.data.length then s
    else if !s.up .d4 then s.onCwy fun c => { c with nvm := some { r with bad := some .aborted } }
    else if s.stageBarred then s.onCwy fun c => { c with nvm := some { r with bad := some .deniedAttr } }
    else if !s.mpRoom || s.mp.any fun q => q.owner == .nvm then s
    else s.mpIssue false (s.stageBase + r.sector + r.data.length) 16 0 s.stageCtx [] .nvm

/-- A read of the NVM engine is answered. -/
def State.nvmRead (s : State) (data : Bytes) (err : Bool) : State :=
  match s.cwy.nvm with
  | none => s
  | some r =>
    if err then s.onCwy fun c => { c with nvm := some { r with bad := some .integrity } }
    else (s.onCwy fun c => { c with nvm := some { r with data := r.data ++ data } }).nvmNext

/-- The operation that a code of CWY_NVM_CMD names. -/
def nvmOp (w : Word) : Option NvmOp :=
  match fldN w 0 4 with
  | 1 => some .erase
  | 2 => some .program
  | 3 => some .verify
  | _ => none

/-- CWY_NVM_CMD written: PROGRAM and VERIFY take the staged sector at the same offset. -/
def State.cwyNvm (s : State) (w : Word) : State :=
  let a := (s.reg .cwyNvmAddr).toNat
  let op := nvmOp w
  let refused := lowest
    [(s.cwy.nvm.isSome, .busy),
     (rsvSet .cwyNvmCmd w || op.isNone || a % 4096 != 0 ||
        (op != some .erase && (!s.stageFits a || s.stageBarred)), .deniedAttr)]
  match refused, op with
  | some c, _ => s.onCwy fun x => { x with nvmCode := c }
  | none, none => s
  | none, some o =>
    let bs := if o != .erase && s.stageLocal then s.csramBytes (s.stageBase + a) 4096 else []
    (s.onCwy fun c => { c with nvm := some { op := o, sector := a, data := bs } }).nvmNext

/-- ERASE (R516). -/
def execNvmErase (w : Word) (s : State) : Res := ranOn .d6 (fun s => s.cwyNvm w) s
/-- PROGRAM (R516). -/
def execNvmProgram (w : Word) (s : State) : Res := ranOn .d6 (fun s => s.cwyNvm w) s
/-- VERIFY (R518). -/
def execNvmVerify (w : Word) (s : State) : Res := ranOn .d6 (fun s => s.cwyNvm w) s

/-- What the copy engine still reads has ended. -/
def State.copyOver (s : State) : Bool := s.cwy.copy.any fun x => x.bad.isSome || x.left == 0

/-- What the NVM engine still reads has ended.
Marks: log 5 (PRESUMED). -/
def State.nvmOver (s : State) : Bool := s.cwy.nvm.any fun r => r.bad.isSome || r.op == .erase || 4096 ≤ r.data.length

/-- What the NVM engine's command drives on the port (R84): a whole sector read; one erased; or its 16 pages programmed, each
with its write enable and its status.
Marks: log 105 (DEDUCED). -/
def State.nvmBus (s : State) (r : NvmRun) : State :=
  match r.op with
  | .verify => s.nvmFetch r.sector 4096
  | .erase => ((s.nvmDrive .writeEnable).nvmDrive (.sectorErase (BitVec.ofNat 32 r.sector))).nvmDrive .readStatus
  | .program =>
    (List.range 16).foldl (fun s k =>
      let page := NvmBus.pageProgram (BitVec.ofNat 32 (r.sector + 256 * k)) (slice r.data (256 * k) 256)
      ((s.nvmDrive .writeEnable).nvmDrive page).nvmDrive .readStatus) s

/-- The NVM engine's command ends. `ok`: the device reports no failed erase or program; a failed one leaves the sector
torn, and a read that came to nothing, by an error or by a reset of D4, ends it before it reaches the device. An erase
sets every bit, and a program clears the bits that the data have clear.
Marks: log 6 (DESIGN CHOICE). -/
def State.nvmEnd (s : State) (r : NvmRun) (ok : Bool) : State :=
  let old := s.nvmBytes r.sector 4096
  let done (c : Code) (s : State) : State := s.onCwy fun x => { x with nvm := none, nvmCode := c }
  match r.bad with
  | some c => done c s
  | none =>
    let s := s.nvmBus r
    match r.op with
    | .verify => done (if old = r.data then .done else .notEqual) s
    | .erase =>
      if ok then done .done (s.nvmPut r.sector (List.replicate 4096 0xFF)) else done .integrity s.tearNvm
    | .program =>
      if ok then done .done (s.nvmPut r.sector (List.zipWith (· &&& ·) old r.data)) else done .integrity s.tearNvm

/-- CWY_ENGINE_DONE (R522): due while an engine has nothing more to read; the copy engine ends first where both have.
Marks: log 60 (DEDUCED). -/
def execCwyEngineDone (ok : Bool) (s : State) : Res :=
  ranIf (s.copyOver || s.nvmOver)
    (fun s =>
      match s.cwy.copy, s.cwy.nvm with
      | some x, n =>
        if s.copyOver then
          s.onCwy fun c => { c with copy := none, copyCode := x.bad.getD .done }
        else n.elim s fun r => s.nvmEnd r ok
      | none, some r => s.nvmEnd r ok
      | none, none => s) s

end Sys2Proof.Machine
end

