-- ==== Sys2Proof/Machine/Update.lean ====
section
/-!
DEFINITION. Machine/Update.lean: how the Tinder ROM's recovery service and the security firmware answer Causeway frames, and
what they do with a set: R184, R185, R498 to R518. A frame's exchange is one step as far as no memory-port answer is awaited;
the work that a COMMIT begins goes on, a step of R508, R512 or R518 at a time, in the cycles in which no command waits.
-/
namespace Sys2Proof.Machine

/-- The Tinder ROM's recovery service answers, not the security firmware (R184).
Marks: log 64 (DEDUCED). -/
def State.recovery (s : State) : Bool := s.boot.stage == 6

/-- The security core serves the Causeway. -/
def State.updServes (s : State) : Bool := s.up .d2 && (s.boot.stage == 5 || s.boot.stage == 6)

/-- The payload of a block STATUS (R498).
Marks: log 62 (DEDUCED). -/
def State.statusPayload (s : State) : Bytes :=
  leBytes 1 s.cwy.fail ++ leBytes 1 s.cwy.entry ++ [0, 0] ++ leBytes 4 s.cwy.sectors

/-- The security core's STATUS in answer to frame `f`, without or with its payload.
Marks: log 62 (DEDUCED). -/
def State.status (s : State) (f : Bytes) (c : Code) : State := s.postFrame 5 (frSeq f) (s.statusArg c) []
/-- The same with the payload.
Marks: log 62 (DEDUCED). -/
def State.statusFull (s : State) (f : Bytes) (c : Code) : State := s.postFrame 5 (frSeq f) (s.statusArg c) s.statusPayload

/-- What the last check found, for STATUS. -/
def State.noteFail (s : State) (f : Option SetFail) : State :=
  s.onCwy fun c =>
    match f with
    | none => { c with fail := 0, failCode := .done, entry := 0 }
    | some x => { c with fail := x.fail, failCode := x.code, entry := x.entry.getD 0 }

/-- A check's answer: the failure or DONE.
Marks: log 60 (DEDUCED). -/
def State.answerFail (s : State) (f : Bytes) (x : Option SetFail) : State :=
  (s.noteFail x).statusFull f (x.elim .done fun e => e.code)

/-- The report of progress begins anew at PHASE `p`, unless work on a set goes on. -/
def State.rephase (s : State) (p : Nat) : State :=
  if s.upd.isSome then s else (s.onCwy fun c => { c with sectors := 0 }).cwyField 4 3 p

/-- The COMMIT whose set is being verified (R508). -/
def State.verifying (s : State) : Option Bytes :=
  s.upd.bind fun u =>
    match u.step with
    | .ask _ | .absorb _ _ _ | .compare _ _ _ => some u.frame
    | _ => none

/-- What the firmware keeps of a set and a session is dropped: CHUNK_OK clears, PHASE reads 0. A verification under way is
given up, and its COMMIT answered with ABORTED, so that it too has its one answer (R498, R504); work past it goes on.
Marks: log 63 (DESIGN CHOICE). -/
def State.dropSet (s : State) : State :=
  let t := ((s.updDrop.onCwy fun c => { c with manifest := [], fail := 0, failCode := .done, entry := 0 }).cwyField 3 1 0).rephase 0
  s.verifying.elim t fun f => t.status f .aborted

/-- The session ends (R498, R501).
Marks: log 61 (DEDUCED). -/
def State.endService (s : State) : State := (s.onCwy fun c => { c with sessionOpen := false }).dropSet

/-! ### HELLO (R500) -/

/-- The payload of the block's HELLO. -/
def State.helloPayload (s : State) : Bytes :=
  let last := if s.recovery then s.boot.fail else fldN (s.reg .cwyCtrl) 8 8
  leBytes 4 topVersion.toNat ++ leBytes 4 (if s.recovery then 0 else s.att.record.release.toNat) ++
    leBytes 1 (if s.recovery then 1 else 2) ++ leBytes 1 s.crs.strap.role.toNat ++ leBytes 1 s.lcs.state.code ++
    leBytes 1 last ++ leBytes 4 s.stageLimit ++ padTo 32 s.kln.devid

/-- A HELLO accepted: any open session ends, the next one opens, and the block's HELLO is posted with PHASE 1. -/
def State.hello (s : State) (f : Bytes) : State :=
  let s := if s.cwy.sessionOpen then s.endService else s
  let s := s.onCwy fun c =>
    { c with
      session := if c.session = 0xFFFF then 1 else c.session + 1
      sessionOpen := true
      fresh := false
      lastSeq := frSeq f
      unanswered := true
      manifest := []
      fail := 0
      failCode := .done
      entry := 0 }
  let s := s.describe f .done false
  if s.updServes then
    let s := (s.rephase 1).cwyField 3 1 0
    s.postFrame 1 (frSeq f) 0 s.helloPayload
  else s

/-! ### MANIFEST and CHUNK (R503, R506) -/

/-- The bytes of MANIFEST frames at `n` addresses from `a`; none where one was not sent. -/
def State.manifestBytes (s : State) (a n : Nat) : Option Bytes :=
  ((List.range n).map fun i => Sparse.get none s.cwy.manifest (a + i)).mapM id

/-- Some byte of a boot record was sent.
Marks: log 61 (DEDUCED). -/
def State.recordSent (s : State) : Bool := s.cwy.manifest.any fun e => e.1 < 0x4000 && e.2.isSome

/-- R506's checks beyond those of R181: the first two in field mode only.
Marks: log 61 (DEDUCED). -/
def State.extraFail (s : State) (m : Bytes) (withRecord : Bool) : Option SetFail :=
  let late := firstPart m fun p => p.version < p.minPeer
  let past := firstPart m fun p => s.stageLimit < p.offset + p.size
  if !s.recovery && !(zeros m 0xE 2 && zeros m 0x14 12) then some ⟨0x08, .deniedAttr, none⟩
  else if !s.recovery && late.isSome then some ⟨0x08, .deniedAttr, late⟩
  else if (withRecord && s.stageLimit < 0x4000) || past.isSome then some ⟨0x0F, .noResource, past⟩
  else none

/-- The checks of the LAST MANIFEST frame (R506, R184): steps 5 to 11 over a boot record that was sent, steps 13 to 17, and
R506's own. Without one, the owner regions are those of the record of the current boot. Step 12's extension of MR1 is no check,
and is not made for a set received in recovery.
Marks: log 61 (DEDUCED); log 117 (DEDUCED). -/
def State.setFail (s : State) : Option SetFail :=
  let record :=
    if s.recordSent then
      match s.manifestBytes 0 0x4000 with
      | none => some ⟨0x03, .deniedAttr, none⟩
      | some r => s.recordFail r
    else if s.recovery then some ⟨0x03, .deniedAttr, none⟩
    else none
  match record with
  | some f => some f
  | none =>
    let body := if s.recordSent then (s.manifestBytes 0 0x2300).getD [] else s.csramBytes 0x0EFD000 0x2300
    match s.manifestBytes 0x4000 0x2540 with
    | none => some ⟨0x08, .deniedAttr, none⟩
    | some m =>
      match s.manifestFail m (ownerSpans body) with
      | some f => some f
      | none => s.extraFail m s.recordSent

/-- The manifest that was accepted.
Marks: log 61 (DEDUCED). -/
def State.newManifest (s : State) : Bytes := (s.manifestBytes 0x4000 0x2540).getD []

/-- A set refused in recovery because it does not fit shows in BOOT_STATUS and BOOT_RESULT (R183, R184).
Marks: log 53 (DEDUCED). -/
def State.noteLimit (s : State) (x : SetFail) : State :=
  if s.recovery ∧ x.fail = 0x0F then s.onBoot fun b => { b with fail := x.fail, resCode := x.code, resEntry := x.entry } else s

/-- A staged MANIFEST frame: its bytes are kept, and the LAST one brings the checks. A frame that comes once a manifest was
accepted begins a new set; one that comes while work on a set goes on is answered with BUSY.
Marks: log 61 (DEDUCED). -/
def State.manifestFrame (s : State) (f : Bytes) : State :=
  if s.upd.isSome then s.status f .busy
  else
    let s := if 2 ≤ s.phase then s.dropSet.rephase 1 else s
    let s := s.onCwy fun c =>
      { c with manifest :=
          (frPayload f).zipIdx.foldl (fun m e => Sparse.put none m (frAddr f + e.2) (some e.1)) c.manifest }
    if frFlags f = 0 then s.status f .done
    else
      match s.setFail with
      | some x => (s.noteLimit x).answerFail f (some x)
      | none => ((s.cwyField 3 1 1).cwyField 4 3 2).answerFail f none

/-- The descriptor of a staged frame is posted, and the security core answers it.
Marks: log 60 (DEDUCED). -/
def State.stagedAnswer (s : State) (r : CwyRx) : State :=
  let c : Code := if r.bad then .integrity else r.code
  let s := (s.onCwy fun x => { x with rx := none }).describe r.frame c r.buffered
  if !s.updServes then s
  else if c ≠ .done then s.status r.frame c
  else if frType r.frame = 2 then s.manifestFrame r.frame
  else s.status r.frame .done

/-- The frame's staging goes on, and is over once every write is acknowledged.
Marks: log 60 (DEDUCED). -/
def State.stageGoOn (s : State) : State :=
  let s := State.stageIssue 4 s
  match s.cwy.rx with
  | none => s
  | some r => if r.left = 0 ∧ r.owed = 0 then s.stagedAnswer r else s

/-- A staging write is acknowledged (R48, R502).
Marks: log 60 (DEDUCED). -/
def State.stageAcked (s : State) (err : Bool) : State :=
  (s.onCwy fun c => { c with rx := c.rx.map fun r => { r with owed := r.owed - 1, bad := r.bad || err } }).stageGoOn

/-- A MANIFEST or CHUNK frame accepted. -/
def State.stageFrame (s : State) (f : Bytes) : State := (s.stage f).stageGoOn

/-! ### The set that a COMMIT names (R507 to R510) -/

/-- The OP of a COMMIT. -/
def frOp (f : Bytes) : Nat := frArg f % 256

/-- The sectors of a set in the order of R518: its parts', the boot record's if it carries one, the manifest's last one
first.
Marks: log 62 (DEDUCED). -/
def setSectors (m record : Bytes) : List Nat :=
  let sectors (a n : Nat) : List Nat := (List.range n).map fun k => a + 4096 * k
  ((manParts m).flatMap fun p => sectors p.offset (pageUp p.size / 4096)) ++ sectors 0 (record.length / 4096) ++
    [0x6000, 0x5000, 0x4000]

/-- A part of the new set differs from the running part of its type (R510). -/
def State.partChanges (s : State) (p : Part) : Bool :=
  s.att.record.entries.all fun e => !(e.valid && e.typ.toNat == p.typ && e.digest == p.digest)

/-- A part takes effect at activation (R510).
Marks: log 63 (DESIGN CHOICE). -/
def activates (t : Nat) : Bool := t == 2 || t == 3 || t == 5 || t == 6

/-- The firmware record after an activation (R510, R412): new entries for the parts that take effect, running ones for the
others, in order of type.
Marks: log 63 (DESIGN CHOICE). -/
def State.nextRecord (s : State) (m : Bytes) : FwRecord :=
  let fresh := (manParts m).filter fun p => activates p.typ
  let entry (p : Part) : FwEntry :=
    { typ := BitVec.ofNat 8 p.typ, svn := BitVec.ofNat 8 p.svn, valid := true, version := p.version, digest := p.digest }
  let kept := s.att.record.entries.filter fun e => e.valid && !activates e.typ.toNat
  let all := kept ++ fresh.map entry
  let sorted := (List.range 256).flatMap fun t => all.filter fun e => e.typ.toNat == t
  { release := manRelease m, entries := sorted.take 16 ++ List.replicate (16 - sorted.length) {} }

/-- R509: the running release or the handover layout rules an activation out. -/
def State.layoutBad (s : State) (m : Bytes) : Bool :=
  (manFrom m != 0 && s.att.record.release < manFrom m) || manLayout m < s.boot.layout || s.boot.layout + 2 < manLayout m

/-! ### Verification (R508) -/

/-- The work goes to step `st`. -/
def State.updTo (s : State) (st : UpdStep) : State :=
  { s with upd := s.upd.map fun u => { u with step := st, started := false } }

/-- The command of the present step has been given, or is to be given again. -/
def State.updStarted (s : State) (b : Bool) : State := { s with upd := s.upd.map fun u => { u with started := b } }

/-- Verification ends, and COMMIT is answered, with a refusal: nothing has changed, and the set may be committed again (R508,
R509).
Marks: log 62 (DEDUCED). -/
def State.updRefuse (s : State) (u : UpdWork) (c : Code) (x : Option SetFail) : State :=
  let s : State := { s with upd := none }
  ((s.cwyField 4 3 2).noteFail x).statusFull u.frame c

/-- Verification has passed: ACTIVATE goes on to step 1 of R512 unless R509 rules it out, NEXT_BOOT to the rewrite. -/
def State.updVerified (s : State) (u : UpdWork) : State :=
  if u.now then
    if s.layoutBad u.manifest then s.updRefuse u .version none
    else ((s.cwyField 4 3 4).answerFail u.frame none).updTo .gate
  else ((s.cwyField 4 3 5).answerFail u.frame none).updTo (.sector (setSectors u.manifest u.record) .check false)

/-- DGE_CTX_CMD for a command of generation `g`: its code, and a source or destination at bit `at_`. -/
def ctxCmd (code at_ v : Nat) (g : Gen) : Word := putN code 0 4 ||| putN v at_ 2 ||| put g 16

/-- UPDATE of context `c` over the staged bytes of part `p`, whose DIGEST FINAL will compare with. -/
def State.hashPart (s : State) (p : Part) (c : Nat) (g : Gen) : State :=
  let a := s.stageBase + p.offset
  let s := (s.setReg .dgeCtxSrcLo (BitVec.ofNat 32 a) c).setReg .dgeCtxLen (BitVec.ofNat 32 p.size) c
  let s := s.setReg .dgeCtxSrcHi (putN (a / 2 ^ 32) 0 16 ||| put s.stageCtx 16) c
  let s := (List.range 16).foldl (fun s k => s.setReg .dgeCtxExpect (byteWord p.digest k) c k) s
  s.dgeUpdate c (ctxCmd 1 4 (if s.stageLocal then 1 else 2) g) .none

/-- Part `i` is next: a context is asked for, and hashes it once granted. -/
def State.updAsk (s : State) (u : UpdWork) (i : Nat) : State :=
  match (manParts u.manifest)[i]? with
  | none => s.updVerified u
  | some p =>
    let a := s.dge.acq.getD 0 {}
    if u.started && a.granted then (s.hashPart p a.ctx a.gen).updTo (.absorb i a.ctx a.gen)
    else if u.started && s.dge.reqs.any fun r => r.who == 0 then s
    else (s.dgeAcquire .sec (1#32 ||| putN 3 1 2)).updStarted s.d3Serves

/-- Context `c` no longer is the security core's of generation `g`, nor shows its result. -/
def State.ctxLost (s : State) (c : Nat) (g : Gen) : Bool := (s.ctx c).gen != g || (s.ctx c).lastHolder != 0

/-- The UPDATE of part `i` awaited; a context that is lost is asked for again, and one that has failed is let go.
Marks: log 62 (DEDUCED). -/
def State.updAbsorb (s : State) (u : UpdWork) (i c : Nat) (g : Gen) : State :=
  let x := s.ctx c
  if s.ctxLost c g || x.st == .free then s.updTo (.ask i)
  else if x.run.isSome then s
  else if x.code = .done then (s.dgeFinal c (ctxCmd 2 6 1 g) .none).updTo (.compare i c g)
  else (s.letCtx c g).updRefuse u x.code none

/-- The FINAL of part `i` awaited: the first NOT_EQUAL ends the verification with PART_DIGEST.
Marks: log 62 (DEDUCED). -/
def State.updCompare (s : State) (u : UpdWork) (i c : Nat) (g : Gen) : State :=
  let x := s.ctx c
  if s.ctxLost c g then s.updTo (.ask i)
  else if x.run.isSome then s
  else
    match x.code with
    | .done => s.updTo (.ask (i + 1))
    | .aborted => s.updTo (.ask i)
    | .notEqual => s.updRefuse u .notEqual (some ⟨0x0C, .notEqual, some i⟩)
    | k => (s.letCtx c g).updRefuse u k none

/-! ### The handover areas (R514, R515) -/

/-- The header of a handover area that holds `body`. -/
def handoverHead (area layout : Nat) (older newer : Word) (epoch : Nat) (body : Bytes) : Bytes :=
  leBytes 4 0x4F484349 ++ leBytes 2 2 ++ leBytes 1 area ++ leBytes 1 0 ++ leBytes 2 layout ++ leBytes 2 0 ++
    leBytes 4 body.length ++ leBytes 4 older.toNat ++ leBytes 4 newer.toNat ++ leBytes 4 epoch ++ leBytes 4 0 ++
    sha3_512 body ++ List.replicate 32 0

/-- The most bytes that the body of an area holds. -/
def handoverMax (area : Nat) : Nat := if area = 0 then 49024 else 16256

/-- The area that the running set writes for the set of manifest `m`, its header first. -/
def State.handoverArea (s : State) (m : Bytes) (area : Nat) : Bytes :=
  let body := (Config.handoverBody s.att.epoch area).take (handoverMax area)
  handoverHead area s.boot.layout s.att.record.release (manRelease m) s.att.epoch body ++ body

/-- The body of the area that begins `b`. -/
def areaBody (b : Bytes) : Bytes := slice b 0x80 (num b 0xC 4)

/-- The header of the area that begins `b` is one that the firmware of the set of manifest `m` accepts (R515).
Marks: log 63 (DESIGN CHOICE). -/
def areaFits (b : Bytes) (area : Nat) (m : Bytes) : Bool :=
  num b 0 4 == 0x4F484349 && num b 4 2 == 2 && num b 6 1 == area && zeros b 7 1 && zeros b 0xA 2 && zeros b 0x1C 4 &&
    zeros b 0x60 32 && num b 0x14 4 == (manRelease m).toNat && decide (num b 0xC 4 ≤ handoverMax area) &&
    decide (num b 8 2 ≤ manLayout m) && decide (manLayout m ≤ num b 8 2 + 2)

/-- BODY_DIGEST passes: the FINAL with DEST = COMPARE finds the body's digest equal (R515).
Marks: log 63 (DESIGN CHOICE). -/
def bodyGood (b : Bytes) : Bool := sha3_512 (areaBody b) == slice b 0x20 64

/-- A FINAL with DEST = COMPARE of requester `who`: the digest stands nowhere after it (R253, R515).
Marks: log 110 (DESIGN CHOICE). -/
def State.compareTurn (s : State) (who : Nat) : State := s.dgeTurns who 1 []

/-- Where the main area stands in control SRAM. -/
def mainArea : Nat := 0x0EF0000
/-- Where the security area stands in private SRAM. -/
def secArea : Nat := 0x3C000

/-! ### Activation (R511 to R513) -/

/-- The image lock raised to cover the new part of type `t`. -/
def State.raiseLock (s : State) (t : Nat) (p : Part) : State :=
  let hi := BitVec.ofNat 32 ((partDest t).getD 0 + pageUp p.size)
  match t with
  | 3 => s.lockWrite 0 hi
  | 5 => s.lockWrite 1 hi
  | 6 => s.lockWrite 2 hi
  | _ => s

/-- The resident loader gives the copy engine a part, in whole lines of 64 bytes. -/
def State.copyPart (s : State) (t : Nat) (p : Part) : State :=
  let s := s.setReg .cwyCopySrc (BitVec.ofNat 32 p.offset)
  let s := s.setReg .cwyCopyDst (BitVec.ofNat 32 ((partDest t).getD 0))
  (s.setReg .cwyCopyLen (BitVec.ofNat 32 ((p.size + 63) / 64 * 64))).cwyCopy 1

/-- What follows the copy of a part of type `t`. -/
def State.afterCopy (s : State) (t : Nat) : State :=
  match t with
  | 5 => s.updTo (.copy 6)
  | 6 => s.updTo (.copy 2)
  | 2 => s.updTo .meet
  | _ => if s.boot.mainStart then s.updTo .block else s.updTo .finish

/-- The new SECFW takes up its area: it migrates one that it accepts, and zeroes its header (steps 5 and 6 of R512, R515).
Marks: log 63 (DESIGN CHOICE). -/
def State.secMigrates (s : State) (m : Bytes) : State :=
  let b := s.psramBytes secArea 0x4000
  if !areaFits b 1 m then s.afterCopy 2
  else if !s.compareReady 0 then s.d3Missed
  else
    let s := s.compareTurn 0
    (if bodyGood b then s.psramPut secArea (List.replicate 128 0) else s).afterCopy 2

/-- The copy of a part of type `t`, if the set changes it: for MAINFW the lock first, for SECFW the security handover area,
then COPY, given again if it ends with another code than DONE.
Marks: log 63 (DESIGN CHOICE). -/
def State.updCopy (s : State) (u : UpdWork) (t : Nat) : State :=
  match partOf u.manifest t with
  | none => s.afterCopy t
  | some p =>
    if !s.partChanges p then s.afterCopy t
    else if s.cwy.copy.isSome then s
    else if u.started then
      if s.cwy.copyCode ≠ .done then s.updStarted false
      else if t = 2 then s.secMigrates u.manifest
      else s.afterCopy t
    else
      let s := if t = 2 then s.psramPut secArea (s.handoverArea u.manifest 1) else s
      let s := if t = 3 then s.raiseLock t p else s
      (s.copyPart t p).updStarted true

/-- The lock of the part of type `t` raised, if the set changes it. -/
def State.raiseEnd (s : State) (m : Bytes) (t : Nat) : State :=
  match partOf m t with
  | none => s
  | some p => if s.partChanges p then s.raiseLock t p else s

/-- Steps 1 and 2, and the first half of step 3: no gate run is on or held; the new record and the manifest digest are
staged; the lock ends of GATEBASE and SENSORTAB are raised.
Marks: log 63 (DESIGN CHOICE). -/
def State.updGate (s : State) (u : UpdWork) : State :=
  if s.prt.gate.active || s.prt.gate.held then s
  else
    let digest := sha3_512 (u.manifest.take 0x840)
    let s := s.onAtt fun a => { a with staged := s.nextRecord u.manifest }
    let s := (List.range 16).foldl (fun s k => s.setReg .topFwStage (byteWord digest k) 0 k) s
    ((s.raiseEnd u.manifest 5).raiseEnd u.manifest 6).updTo (.copy 5)

/-- The endpoint of a mirrored key holds a next key of that usage: in the other position and not spent, so that it is no
previous one (R338); and no NEXT_REQ of it is queued.
Marks: log 111 (DEDUCED). -/
def State.holdsNext (s : State) (k : KeyMirror) : Bool :=
  ((s.mirrorSwitched k.ep k.usage).any fun x => x.hold k.ep k.usage && x.other && !s.keySpent x) &&
    s.kfb.nextQ.all fun r => !(r.1 == k.ep && r.2.1 == k.usage)

/-- R29: every endpoint that holds a current key holds a next one, and no confluence record is between its completing event
and its key LOADs.
Marks: log 63 (DESIGN CHOICE). -/
def State.meetsR29 (s : State) : Bool :=
  let loaded (i : Nat) (r : KRecord) : Bool :=
    s.kfb.mirror.any fun k => k.slot == r.joint || (s.slot k.slot).lineage.toNat == i
  s.kfb.mirror.all s.holdsNext && s.kln.queue.isEmpty && s.kln.forming.isNone &&
    s.kln.recs.all fun e => e.2.all fun r => r.state != .formed || loaded e.1 r

/-- MAINFW changes with the set of manifest `m`. -/
def State.mainChanges (s : State) (m : Bytes) : Bool := (partOf m 3).any s.partChanges

/-- Step 7, and past steps 8 to 14 where MAINFW does not change: the main firmware, if it serves, is told to migrate nothing.
Marks: log 63 (DESIGN CHOICE). -/
def State.updMeet (s : State) (u : UpdWork) : State :=
  if !s.meetsR29 then s
  else if s.mainChanges u.manifest then s.updTo .request
  else if !s.mainServes then s.updTo .finish
  else if s.slotFree 2 then (s.mbx1Pass 2 7).updTo .finish
  else s

/-- The rest of the main firmware's part (R513), its rings PARKED: its area written, every interrupt source masked, and its
ready notice posted last.
Marks: log 63 (DESIGN CHOICE). -/
def State.mainHandsOver (s : State) (m : Bytes) : State :=
  let s : State := { s with upd := s.upd.map fun u => { u with kept := some s.fw } }
  let s := s.csramPut mainArea (s.handoverArea m 0)
  (s.onPlic fun p => { p with enable := List.replicate 16 0 }).mbx1Pass 3 3

/-- The main firmware is between two pieces of work: nothing of it is under way on device memory, on MBX0, in the attestation
unit or in a post-quantum leg. -/
def State.mainQuiet (s : State) : Bool :=
  (s.fw.io.all fun g => g.sec) && s.fw.look.isNone && s.fw.attC.isNone && s.fw.pq.isNone

/-- What follows the request. -/
def State.afterRequest (s : State) : State := s.updTo (if s.boot.mainStart then .idle else .copy 3)

/-- Steps 8 and 9, and the request of step 10 (R29, R512): the watchdog of D5 off, which in DIM ends DIM first (R105),
HANDOVER set, the request posted. Where the main firmware does not serve there is nothing to hand over.
Marks: log 63 (DESIGN CHOICE). -/
def State.updAsks (s : State) : State :=
  if !s.meetsR29 || (s.mainServes && !(s.slotFree 2 && s.mainQuiet)) then s
  else if s.up .d5 && !s.serves .d5 then s.dimEnd 4
  else
    let served := s.mainServes
    let s := (if s.up .d5 then s.ctlCtrl 0 else s).setHandover 1
    if served then ((s.mbx1Pass 2 2).updStarted true).parkRings else s.afterRequest

/-- Steps 8 to 10: once asked, the main firmware parks its rings, lets what it has begun end, and hands over.
Marks: log 63 (DESIGN CHOICE). -/
def State.updRequest (s : State) (u : UpdWork) : State :=
  if !u.started then s.updAsks
  else if !s.att.mainReady then s.afterRequest
  else if s.mainQuiet && s.slotFree 3 then (s.mainHandsOver u.manifest).afterRequest
  else s

/-- Step 11: D5 idle, as CRS_DOMAIN_STATUS shows it; the control cores wait for an interrupt once they have handed over
(R513).
Marks: log 63 (DESIGN CHOICE). -/
def State.updIdle (s : State) : State := if s.up .d5 && s.idle .d5 true then s.updTo (.copy 3) else s

/-- Step 13: the BLOCK command for D5, given again if it finds D5 not idle.
Marks: log 63 (DESIGN CHOICE). -/
def State.updBlock (s : State) (u : UpdWork) : State :=
  if s.crs.blockPending.isSome then s
  else if !u.started then (s.blockWrite (0xC4000002#32)).updStarted true
  else if s.crs.blockCode = .done then s.updTo .serve
  else s.updStarted false

/-- The new main firmware has accepted its area, migrated it and zeroed its header (R515): what the old one knew stands, its
rings PARKED. What the host and the security firmware did in the pause stands too. -/
def State.mainMigrates (s : State) (k : Fw) : State :=
  let f := s.fw
  { (s.csramPut mainArea (List.replicate 128 0)) with
    fw :=
      { k with
        destroys := f.destroys
        advance := f.advance
        attS := f.attS
        io := f.io
        ioOut := f.ioOut
        look := f.look
        page := none
        hostReset := k.hostReset || f.hostReset } }

/-- Step 14: the new main firmware has set MAIN_READY; it takes over from the old one, or starts cold, and posts that it
serves. The digest of a body is taken on the digest engine.
Marks: log 63 (DESIGN CHOICE). -/
def State.updServe (s : State) (u : UpdWork) : State :=
  let b := s.csramBytes mainArea 0xC000
  let fits := areaFits b 0 u.manifest
  if !(s.serves .d5 && s.att.mainReady && s.slotFree 3) then s
  else if fits && !s.compareReady 1 then s.d3Missed
  else
    let s := if fits then s.compareTurn 1 else s
    let s := (if fits && bodyGood b then u.kept else none).elim s.capOffer s.mainMigrates
    (s.mbx1Pass 3 4).updTo .finish

/-- Steps 15 and 16, and on to the rewrite with PHASE 5.
Marks: log 63 (DESIGN CHOICE). -/
def State.updFinish (s : State) (u : UpdWork) : State :=
  let m := u.manifest
  let s := (s.extendNow 6 (sha3_512 (m.take 0x840))).attCommit
  let s := s.onBoot fun b =>
    { b with
      layout := manLayout m
      peers := (b.peers.filter fun e => !activates e.1) ++
        ((manParts m).filter fun p => activates p.typ).map fun p => (p.typ, p.minPeer) }
  (s.cwyField 4 3 5).updTo (.sector (setSectors m u.record) .check false)

/-! ### The rewrite (R518, R185) -/

/-- The rewrite is complete: LAST is DONE and PHASE 7; the recovery service resets the die. -/
def State.rewriteOver (s : State) : State :=
  let s : State := { s with upd := none }
  if s.recovery then s.act .swCold 4 (classDoms 4) else (s.cwyField 8 8 0).cwyField 4 3 7

/-- A sector differs after its program: LAST is INTEGRITY. The recovery service waits for a new COMMIT.
Marks: log 64 (DEDUCED). -/
def State.rewriteFails (s : State) : State :=
  let s : State := { s with upd := none }
  let s := s.cwyField 8 8 Code.integrity.num
  if s.recovery then s.cwyField 4 3 2 else s

/-- The command that a step of a sector gives the NVM engine. -/
def SectorStep.cmd : SectorStep → Word
  | .erase => 1
  | .program => 2
  | .check | .verify => 3

/-- How the work on the next sector begins: the recovery service compares nothing before it erases.
Marks: log 64 (DEDUCED). -/
def State.sectorStart (s : State) : SectorStep := if s.recovery then .erase else .check

/-- A step of the sector at the head of `todo` has ended with the NVM engine's code.
Marks: log 64 (DEDUCED). -/
def State.sectorDone (s : State) (a : Nat) (rest : List Nat) (st : SectorStep) (again : Bool) : State :=
  let ok := s.cwy.nvmCode == .done
  let next (s : State) : State := s.updTo (.sector rest s.sectorStart false)
  match st with
  | .check => if ok then next s else s.updTo (.sector (a :: rest) .erase again)
  | .erase => s.updTo (.sector (a :: rest) .program again)
  | .program => s.updTo (.sector (a :: rest) .verify again)
  | .verify =>
    if ok then next (s.onCwy fun c => { c with sectors := c.sectors + 1 })
    else if again || s.recovery then s.rewriteFails
    else s.updTo (.sector (a :: rest) .check true)

/-- The rewrite goes on. -/
def State.updSector (s : State) (u : UpdWork) (todo : List Nat) (st : SectorStep) (again : Bool) : State :=
  match todo with
  | [] => s.rewriteOver
  | a :: rest =>
    if s.cwy.nvm.isSome then s
    else if u.started then s.sectorDone a rest st again
    else ((s.setReg .cwyNvmAddr (BitVec.ofNat 32 a)).cwyNvm st.cmd).updStarted true

/-! ### The work in its turn -/

/-- The work on a set taken one step further, where what it waits for has come.
Marks: log 63 (DESIGN CHOICE); log 68 (DESIGN CHOICE). -/
def State.updGoOn (s : State) : State :=
  match s.upd with
  | none => s
  | some u =>
    match u.step with
    | .ask i => s.updAsk u i
    | .absorb i c g => s.updAbsorb u i c g
    | .compare i c g => s.updCompare u i c g
    | .gate => s.updGate u
    | .copy t => s.updCopy u t
    | .meet => s.updMeet u
    | .request => s.updRequest u
    | .idle => s.updIdle
    | .block => s.updBlock u
    | .serve => s.updServe u
    | .finish => s.updFinish u
    | .sector todo st again => s.updSector u todo st again

/-! ### COMMIT (R507, R508, R184) -/

/-- COMMIT with ACTIVATE or NEXT_BOOT (R508): INCOMPLETE unless PHASE reads 2; then PHASE 3, and the verification begins. The
recovery service runs R185 for either: the parts stand in control SRAM, and it answers at once; a set that the check of its
LAST frame refused it refuses with that failure's code (R184).
Marks: log 61 (DEDUCED); log 64 (DEDUCED). -/
def State.commitSet (s : State) (f : Bytes) (now : Bool) : State :=
  if s.phase ≠ 2 ∨ s.upd.isSome = true then
    s.statusFull f (if s.recovery && s.upd.isNone && s.cwy.fail != 0 then s.cwy.failCode else .incomplete)
  else
    let m := s.newManifest
    let record := if s.recordSent then (s.manifestBytes 0 0x4000).getD [] else []
    let u : UpdWork := { frame := f, now := now, manifest := m, record := record, step := .ask 0 }
    if !s.recovery then { s.cwyField 4 3 3 with upd := some u }
    else
      match partsFail m fun a n => s.csramBytes (s.stageBase + a) n with
      | some x => s.answerFail f (some x)
      | none =>
        let s := (((s.onCwy fun c => { c with sectors := 0 }).cwyField 8 8 0).cwyField 4 3 5).answerFail f none
        { s with upd := some { u with step := .sector (setSectors m record) .erase false } }

/-! ### ADVANCE (R517) -/

/-- The NVM holds the committed record's set: its manifest names the same release, and the same images for the parts that
run since the last activation.
Marks: log 64 (DEDUCED). -/
def State.nvmIsRecord (s : State) : Bool :=
  let m := s.nvmBytes 0x4000 0x2540
  manRelease m == s.att.record.release &&
    (manParts m).all fun p => !activates p.typ || !s.partChanges p

/-- The targets of SVN0 to SVN3. -/
def State.svnTargets (s : State) : List (Nat × Nat) :=
  (List.range 4).filterMap fun c =>
    let svns := (s.att.record.entries.filter fun e => e.valid && partCounter e.typ.toNat == c).map fun e => e.svn.toNat
    let svns := if c = 0 then num (s.nvmBytes 0 16) 6 1 :: svns else svns
    svns.min?.map fun v => (c, v)

/-- COMMIT with ADVANCE: what the NVM holds is read over its port (R84).
Marks: log 62 (DEDUCED). -/
def State.commitAdvance (s : State) (f : Bytes) (vqps : Nat) : State :=
  if s.recovery then s.statusFull f .deniedAttr
  else
    let held := 3 ≤ s.phase && s.phase ≤ 5
    match lowest [(s.otpBusy, .busy), (!(early s.lcs.state || s.lcs.state == .field), .deniedLc), (held, .incomplete)] with
    | some c => s.statusFull f c
    | none =>
      let s := s.nvmFetch 0x4000 0x2540
      if s.nvmIsRecord then
        let s := s.nvmFetch 0 16
        State.advanceGoOn vqps s.svnTargets ((s.cwyField 4 3 6).statusFull f .done)
      else s.statusFull f .incomplete

/-! ### The frame engine's intake (R497 to R500) -/

/-- A frame that reaches the receiver: dropped where it fails R497 or comes while the last is unanswered; a repeat gets the
stored answer; a HELLO opens a session while SERVICE is 1; any other frame must be of the open session, next in sequence and
within the table of R498; `go` is what such a frame does. An accepted frame ends DIM (R105).
Marks: log 59 (DEDUCED). -/
def State.receive (s : State) (f : Bytes) (go : State → State) : State :=
  let count (s : State) : State := s.onCwy fun c => { c with cntSeq := tally c.cntSeq }
  if !s.cwy.link || !s.serves .d6 then s
  else if !frWhole f then s.dropFrame .crc
  else
    let s := s.dimEnd 3
    if s.cwy.unanswered then (count s).stageGoOn
    else if !s.cwy.fresh && frSeq f == s.cwy.lastSeq then s.emit (.frame s.cwy.sent)
    else if frType f = 1 then
      if !bit (s.reg .cwyCtrl) 0 then s
      else if frBad f then s.engineAnswer f .deniedAttr false
      else s.hello f
    else
      let seqBad := frSeq f != s.cwy.lastSeq + 1
      let stale := !s.cwy.sessionOpen || frSession f != s.cwy.session
      if seqBad then (count s).engineAnswer f .deniedAttr false
      else if frBad f then
        if stale then s.engineAnswer f .deniedAttr false
        else (s.onCwy fun c => { c with lastSeq := frSeq f }).engineAnswer f .deniedAttr true
      else if stale then (s.onCwy fun c => { c with cntStale := tally c.cntStale }).engineAnswer f .staleGen false
      else go (s.onCwy fun c => { c with lastSeq := frSeq f, unanswered := true })

/-- What the security core does with a frame that carries nothing to stage.
Marks: log 58 (DESIGN CHOICE). -/
def State.plainFrame (s : State) (f : Bytes) (go : State → State) : State :=
  let s := s.describe f .done false
  if s.updServes then go s else s

/-- A frame is of type `t`, or of a reserved one, which no row of its own names.
Marks: log 58 (DESIGN CHOICE). -/
def ofType (f : Bytes) (t : Nat) : Bool := !frWhole f || frType f == t || frType f == 0 || 6 < frType f

/-- A COMMIT frame carries `op`, or a reserved one.
Marks: log 58 (DESIGN CHOICE). -/
def ofCommit (f : Bytes) (op : Nat) : Bool :=
  ofType f 4 && (!frWhole f || frType f != 4 || frOp f == op || frOp f == 0 || 3 < frOp f)

/-- A COMMIT of a reserved operation is refused (R507). -/
def State.commit (s : State) (f : Bytes) (go : State → State) : State :=
  s.receive f fun s => s.plainFrame f fun s =>
    if frOp f = 0 || 3 < frOp f then s.statusFull f .deniedAttr else go s

/-- HELLO (R500). -/
def execCwyHello (frame : Bytes) (s : State) : Res := ranIf (ofType frame 1) (fun s => s.receive frame id) s

/-- MANIFEST (R503, R506). -/
def execCwyManifest (frame : Bytes) (s : State) : Res :=
  ranIf (ofType frame 2) (fun s => s.receive frame fun s => s.stageFrame frame) s

/-- CHUNK (R503). -/
def execCwyChunk (frame : Bytes) (s : State) : Res :=
  ranIf (ofType frame 3) (fun s => s.receive frame fun s => s.stageFrame frame) s

/-- ACTIVATE (R508 to R512). -/
def execCwyActivate (frame : Bytes) (s : State) : Res :=
  ranIf (ofCommit frame 1) (fun s => s.commit frame fun s => s.commitSet frame true) s

/-- NEXT_BOOT (R508, R518). -/
def execCwyNextBoot (frame : Bytes) (s : State) : Res :=
  ranIf (ofCommit frame 2) (fun s => s.commit frame fun s => s.commitSet frame false) s

/-- COMMIT with ADVANCE (R517). -/
def execCommitAdvance (frame : Bytes) (vqps : Nat) (s : State) : Res :=
  ranIf (ofCommit frame 3) (fun s => s.commit frame fun s => s.commitAdvance frame vqps) s

/-- The code of the answer to a STATUS query: in recovery INTEGRITY once a read-back has failed (R185).
Marks: log 64 (DEDUCED). -/
def State.queryCode (s : State) : Code :=
  if s.recovery && fldN (s.reg .cwyCtrl) 8 8 == Code.integrity.num then .integrity else .done

/-- A STATUS query (R498): PHASE, and what the last check and the last rewrite left. -/
def execStatusQuery (frame : Bytes) (s : State) : Res :=
  ranIf (ofType frame 5) (fun s => s.receive frame fun s => s.plainFrame frame fun s => s.statusFull frame s.queryCode) s

/-- ABORT (R498): the session ends, and the frame is answered. -/
def execAbortFrame (frame : Bytes) (s : State) : Res :=
  ranIf (ofType frame 6)
    (fun s => s.receive frame fun s => s.plainFrame frame fun s => s.endService.status frame .done) s

/-- REPEAT_FRAME (R499): due for a frame with the SEQ last accepted, and for one that the receiver drops.
Marks: log 59 (DEDUCED). -/
def execRepeatFrame (frame : Bytes) (s : State) : Res :=
  ranIf (!frWhole frame || (!s.cwy.fresh && frSeq frame == s.cwy.lastSeq)) (fun s => s.receive frame id) s

/-- SESSION_IDLE_TIMEOUT (R501): the session ends, an ABORT with reason 1 is posted to MBX3, and the firmware takes it.
Marks: log 41 (DESIGN CHOICE). -/
def execSessionIdleTimeout (s : State) : Res :=
  ranIf s.cwy.sessionOpen
    (fun s =>
      (s.describe (buildFrame 6 s.cwy.lastSeq s.cwy.session 1 []) .done false).endService) s

end Sys2Proof.Machine
end

