-- ==== Sys2Proof/Machine/Ports.lean ====
section
/-!
DEFINITION. Machine/Ports.lean: what arrives on the memory port and the self-test port (R45 to R49, R79, R80), and the
answers that the control port gives (R41, R44).
-/
namespace Sys2Proof.Machine

/-! ### Memory port -/

/-- The units, and the cores' firmware, that wait for a tag go on. -/
def State.mpGoOn (s : State) : State :=
  let s := (List.range 4).foldl (fun s c => s.readNext c) s
  s.copyNext.nvmNext.stageGoOn.prtGoOn.ioGo.lookNext

/-- The data of a finished read delivered to its unit; with an error the unit gets none of it (R49).
Marks: log 50 (DEDUCED). -/
def State.mpDeliver (s : State) (r : MpReq) : State :=
  let data := if r.err then [] else r.data
  match r.owner with
  | .dge c gen => s.dgeReadDone c gen data r.err
  | .copy => s.copyRead data r.err
  | .nvm => s.nvmRead data r.err
  | .core => s.ioFilled data r.err
  | .look => s.lookDone data r.err
  | .scrub _ | .fill _ | .chunk _ _ | .stage | .void => s

/-- A beat taken by the read `r`: the last one frees the tag.
Marks: log 50 (DEDUCED). -/
def State.mpBeat (s : State) (r : MpReq) (err : Bool) (data : BitVec 512) : State :=
  let r' := { r with left := r.left - 1, data := r.data ++ leBytes 64 data.toNat, err := r.err || err }
  if r'.left = 0 then (({ s with mp := s.mp.erase r } : State).mpDeliver r').mpGoOn
  else { s with mp := s.mp.map fun x => if x = r then r' else x }

/-- MP_READ_DATA (R47, R49): a beat of an outstanding read, contiguous with its others, LAST on its last one. A beat that
comes while MP_UP is low is void (R36). So is one that R47 does not let the host die send: of a tag that no read holds,
among the beats of another read, or with LAST where the read does not end.
Marks: log 40 (DESIGN CHOICE). -/
def execMpReadData (tag : BitVec 8) (last err : Bool) (data : BitVec 512) (s : State) : Res :=
  ran (fun s =>
    match s.mp.find? fun r => r.tag == tag && !r.write with
    | none => s
    | some r =>
      let other := s.mp.any fun x => !x.write && x.tag != tag && x.data != []
      if !s.up .d4 || other || last != (r.left == 1) then s else s.mpBeat r err data) s

/-- A write acknowledged to its unit.
Marks: log 50 (DEDUCED). -/
def State.mpAcked (s : State) (r : MpReq) (err : Bool) : State :=
  match r.owner with
  | .scrub i => s.scrubAcked i err
  | .fill i => s.fillAcked i err
  | .chunk sid gen => s.chunkAcked sid gen err
  | .stage => s.stageAcked err
  | .core => s.ioAcked err
  | .dge _ _ | .copy | .nvm | .look | .void => s

/-- MP_WRITE_ACK (R47 to R49). One that comes while MP_UP is low is void (R36), and so is one of a tag that no write holds,
which R47 does not let the host die send.
Marks: log 40 (DESIGN CHOICE). -/
def execMpWriteAck (tag : BitVec 8) (err : Bool) (s : State) : Res :=
  ran (fun s =>
    match s.mp.find? fun r => r.tag == tag && r.write with
    | none => s
    | some r => if !s.up .d4 then s else (({ s with mp := s.mp.erase r } : State).mpAcked r err).mpGoOn) s

/-! ### Self-test port -/

/-- AST_RESPONSE (R80): a reserved result is a fail; a response that no request awaits is dropped and counted. One that
comes while D4 is held in reset is void (R36).
Marks: log 55 (DEDUCED). -/
def execAstResponse (array : BitVec 8) (result : BitVec 2) (s : State) : Res :=
  ran (fun s =>
    if !s.up .d4 then s
    else if Sparse.get .notRun s.ast array.toNat = .owed then
      let v : AstState :=
        match result.toNat with
        | 0 => .pass
        | 2 => .absent
        | _ => .fail
      { s with ast := Sparse.put .notRun s.ast array.toNat v }
    else { s with cntAstdrop := tally s.cntAstdrop }) s

/-- AST_TIMEOUT (R80): due while a request is outstanding.
Marks: log 41 (DESIGN CHOICE); log 55 (DEDUCED). -/
def execAstTimeout (array : BitVec 8) (s : State) : Res :=
  ranIf (Sparse.get .notRun s.ast array.toNat == .owed)
    (fun s => { s with ast := Sparse.put .notRun s.ast array.toNat .fail }) s

/-! ### Control port -/

/-- ICP_RESPONSE (R41, R44): the oldest request answered. -/
def execIcpResponse (s : State) : Res :=
  ranIf (!s.icp.isEmpty)
    (fun s =>
      match s.icp with
      | [] => s
      | r :: rest => State.emit { s with icp := rest } (.icp r.tag r.code r.data)) s

end Sys2Proof.Machine
end

