-- ==== Sys2Proof/Machine/RegRead.lean ====
section
/-!
DEFINITION. Machine/RegRead.lean: what a read of each register returns (R8, R9 and the register tables of every unit
chapter). A register that software writes and reads back stands in `State.regs`; every other is composed here from what its
unit keeps. A read that pops a queue has its command and is not here; here such a register shows its oldest entry.
-/
namespace Sys2Proof.Machine

/-- A stored register as it reads back: write-only and reserved fields read 0 (R8, R9). -/
def State.stored (s : State) (r : Reg) (b k : Nat) : Word := s.reg r b k &&& r.row.back

/-- A word whose bit `j` is `f j`. -/
def bitsWord (f : Nat → Bool) : Word := BitVec.ofNat 32 (bitsToNat ((List.range 32).map f))

/-- A code in bits [7:0] with a BUSY bit 8, as most RESULT registers show.
Marks: log 25 (DEDUCED). -/
def codeBusy (c : Code) (busy : Bool) : Word := put c.byte 0 ||| putB busy 8

/-- A code in bits [15:8], as the COMMIT registers show. -/
def codeHigh (c : Code) : Word := put c.byte 8

/-- A 32-bit count. -/
def cnt32 (n : Nat) : Word := BitVec.ofNat 32 n

/-- The block that a copy number names. -/
def blkOf (b : Nat) : Blk := if b = 0 then .s else .c

/-! ### TOP, CRS, OTP, LCS, BOOT -/

/-- The TRNG bank that a requester reads. -/
def State.bankOf (s : State) (q : Req) : List Word := (trngBank q).elim [] fun i => s.trng.banks.getD i []

/-- TOP (R490 to R492). -/
def State.readTop (s : State) (q : Req) (b k : Nat) (r : Reg) : Word :=
  let f := s.top.afault
  match r with
  | .topVersion => putN 1 8 8 ||| putN 2 16 16
  | .topFwDigest => byteWord s.top.fwDigest k
  | .topAfaultInfo =>
    putB f.valid 0 ||| putN f.core 1 3 ||| putN f.kind 4 2 ||| putN f.space 6 2 ||| putB f.gate 8 ||| putB f.sec 9
  | .topAfaultAddrLo => lo32 f.addr
  | .topAfaultAddrHi => hi32 f.addr
  | .topAfaultCnt => cnt32 s.top.cntAfault
  | .topTrngStatus => putN (s.bankOf q).length 0 5 ||| putB s.trng.fail 5 ||| putN s.trng.fails 16 16
  | .topTrngData => (s.bankOf q).headD 0
  | r => s.stored r b k

/-- CRS_STATUS.SEQ.
Marks: log 21 (DEDUCED). -/
def State.crsSeq (s : State) : Nat :=
  match s.crs.ep with
  | some e => if !e.asserted.isEmpty || (e.retire && !e.releasing) then 1 else 2
  | none => if !s.crs.go then 3 else if s.nextHost.isSome then 4 else 0

/-- CRS (R92, R100, R102, R104, R109).
Marks: log 15 (DESIGN CHOICE); log 16 (DEDUCED). -/
def State.readCrs (s : State) (b k : Nat) (r : Reg) : Word :=
  let c := s.crs
  match r with
  | .crsStatus => putB c.pllLock 0 ||| putN s.crsSeq 1 3 ||| putB c.dim 4
  | .crsResetCause => putN (sourceCode c.cause) 0 4 ||| putN c.reach 4 3 ||| putB c.multi 7
  | .crsDomainStatus =>
    put c.released 0 ||| putB (s.up .d3 && s.idle .d3 false) 8 ||| putB (s.up .d4 && s.idle .d4 false) 9 |||
      putB (s.up .d5 && s.idle .d5 (Config.coresWaiting c.idleReads)) 10 ||| putB (s.up .d6 && s.idle .d6 false) 11
  | .crsSdStatus => put c.sd 0
  | .crsStrap =>
    put c.strap.code 0 ||| put c.strap.role 4 ||| putB c.strap.qspi 6 ||| putB c.strap.cwyEn 7 ||| putB c.strap.fault 8
  | .crsBlockStatus => codeBusy c.blockCode c.blockPending.isSome
  | .crsSdCtrl => putB c.go 0
  | .crsPadCtrl => putB c.padReleased 0
  | .crsWdtSecCount => cnt32 c.secCount
  | .crsWdtCtlCount => cnt32 c.ctlCount
  | .crsDimStatus => putB c.dim 0 ||| putN c.dimExit 4 4 ||| codeHigh c.dimCode
  | .crsCommit => codeHigh c.commitCode
  | r => s.stored r b k

/-- The life-cycle controller reads or burns the LC rows, or waits for the pump: it holds the programming path.
Marks: log 29 (DEDUCED). -/
def State.lcOwned (s : State) : Bool :=
  !s.lcs.opening && (s.lcs.phase == .reading || s.lcs.phase == .pump || s.lcs.phase == .programming || s.lcs.phase == .decoding)

/-- A row whose shadow reads 0: a root-half row or a reserved row (R115, R123, R142).
Marks: log 31 (DEDUCED). -/
def shadowHidden (n : Nat) : Bool := (0x080 ≤ n && n ≤ 0x083) || n == 0x306 || n == 0x307 || n == 0x326 || n == 0x327 ||
  n == 0x337 || n == 0x33F || n == 0x347 || n == 0x34F || 0x350 ≤ n

/-- The shadow of row `n` as OTP_SHADOW shows it.
Marks: log 31 (DEDUCED). -/
def State.shadowSeen (s : State) (n : Nat) : BitVec 64 := if shadowHidden n then 0 else s.otp.shadow n

/-- OTP (R118, R119, R135, R137, R139).
Marks: log 30 (DESIGN CHOICE). -/
def State.readOtp (s : State) (b k : Nat) (r : Reg) : Word :=
  let o := s.otp
  let flags (f : Nat → Bool) (n lo : Nat) : Word := putN (bitsToNat ((List.range n).map f)) lo n
  match r with
  | .otpStatus =>
    putB o.startupDone 0 ||| putB (!o.startupDone || o.run.isSome || s.lcOwned) 1 ||| putB (vqpsInWindow (Config.vqps o.looks)) 2 |||
      putB s.lcOwned 3 ||| flags o.finalised 4 4 ||| put o.usable 8 |||
      putB (!o.margMain.isEmpty || o.margSpare != 0 || o.margEntry != 0) 12 ||| putB o.rootHalfSet 13 |||
      putN o.redir.length 14 5 ||| flags o.rootRow 4 19
  | .otpCounters => putN (o.svn 0) 0 7 ||| putN (o.svn 1) 8 7 ||| putN (o.svn 2) 16 7 ||| putN (o.svn 3) 24 7
  | .otpKeyctr => putN o.keyctr 0 9
  | .otpRdata0 => lo32 o.rdata
  | .otpRdata1 => hi32 o.rdata
  | .otpResult => put o.code.byte 0 ||| putN o.burned 8 10
  | .otpRedirect => flags (fun i => o.redir.any fun e => e.1 == i) 16 0 ||| put o.margEntry 16
  | .otpMarginal => bitsWord fun j => o.margMain.contains (32 * k + j)
  | .otpMarginalSpare => put o.margSpare 0 ||| put o.margEntry 16
  | .otpShadowLo => lo32 (s.shadowSeen k)
  | .otpShadowHi => hi32 (s.shadowSeen k)
  | r => s.stored r b k

/-- LCS_STATUS.PHASE.
Marks: log 29 (DEDUCED). -/
def lcPhaseCode : LcPhase → Nat
  | .idle => 0
  | .destroying => 2
  | .rootAction => 3
  | .awaitErase => 4
  | .reading | .pump | .programming => 5
  | .decoding => 6

/-- LCS_STATUS.COPY: the copy that the path burns. -/
def State.lcCopy (s : State) : Nat :=
  match s.otp.run with
  | some r => if r.job == .lcCopies then 3 - max 1 r.todo.length else 0
  | none => 0

/-- LCS (R143, R144, R152, R162, R163, R165). -/
def State.readLcs (s : State) (b k : Nat) (r : Reg) : Word :=
  let l := s.lcs
  match r with
  | .lcsStatus =>
    putN l.state.code 0 3 ||| put l.copyValid 3 ||| putB l.ashMark 6 ||| putB l.debugOpen 7 ||| putB l.testRoot 8 |||
      putB l.confClosed 9 ||| putB s.lcsBusy 10 ||| putN (lcPhaseCode l.phase) 11 3 ||| putN s.lcCopy 14 2 |||
      putN l.fails 16 3
  | .lcsResult => put l.resCode.byte 0 ||| putN l.resBurned 8 8 ||| putN l.resFrom 16 3 ||| putN l.resTo 19 3
  | r => s.stored r b k

/-- The code of a root: BOOT_STATUS.ROOT, KLN_STATUS.ROOT. -/
def rootCode : RootKind → Nat
  | .none => 0
  | .test => 1
  | .device => 2

/-- BOOT (R180 to R183, R188). -/
def State.readBoot (s : State) (b k : Nat) (r : Reg) : Word :=
  let t := s.boot
  match r with
  | .bootStatus =>
    putN t.stage 0 4 ||| putN t.fail 4 8 ||| putN (rootCode s.kln.root) 12 2 ||| putB t.testSigner 14 ||| putB t.lockSet 15
  | .bootResult => put t.resCode.byte 0 ||| putN (t.resEntry.getD 0) 8 4 ||| putB t.resEntry.isSome 12
  | .bootMainStart => putB t.mainStart 0
  | .bootLockMain => cnt32 t.lockMain &&& 0xFFF000#32
  | .bootLockGate => cnt32 t.lockGate &&& 0xFFF000#32
  | .bootLockSens => cnt32 t.lockSens &&& 0xFFF000#32
  | .bootRecordDigest => byteWord t.recDigest k
  | .bootManifestDigest => byteWord t.manDigest k
  | r => s.stored r b k

/-! ### SME, DGE, CMP -/

/-- SME (R207, R220, R224, R226, R235, R237). -/
def State.readSme (s : State) (b k : Nat) (r : Reg) : Word :=
  let m := s.sme
  let x := s.smeBlk (blkOf b)
  match r with
  | .smeResult => codeBusy x.code (s.smeBusy (blkOf b))
  | .smeResStream => x.stream
  | .smeResBytesLo => cnt32 x.bytes
  | .smeResBytesHi => cnt32 (x.bytes / 2 ^ 32)
  | .smeResInfo => x.info
  | .smeResPop => s.resPopWord (blkOf b)
  | .smeResAux => x.aux
  | .smeIntStatus => s.smeInt (blkOf b)
  | .smeResDigest => byteWord x.digest k
  | .smeStatus => putB m.tapUp 0 ||| putN (m.streams.filter fun e => e.2.st == .open).length 1 8
  | .smeCntSfault => cnt32 m.cntSfault
  | .smeCntOverflow => cnt32 m.cntOverflow
  | .smeCntCorrected => cnt32 m.cntCorrected
  | .smeCntUncorr => cnt32 m.cntUncorr
  | .smeCommit => codeHigh m.commitCode
  | .smeLgStatus =>
    putN (s.openOn k) 0 4 |||
      putN (bitsToNat ((groupLanes k).map fun l => !(s.lane l).bufs.isEmpty || (s.lane l).slot.isSome)) 16 12
  | .smeExpArmed => bitsWord fun j => (s.exp (32 * k + j)).armed
  | .smeSaltValid0 => bitsWord fun j => (s.salt (BitVec.ofNat 6 j)).isSome
  | .smeSaltValid1 => bitsWord fun j => (s.salt (BitVec.ofNat 6 (32 + j))).isSome
  | .smeMrOwner =>
    put ((s.mreg k).owner.getD 0) 0 ||| putB (k < 16 || (s.mreg k).owner.isSome) 8 ||| putB (s.fallbackOpen k) 9
  | r => s.stored r b k

/-- The code of a context's state. -/
def ctxStateCode : CtxState → Nat
  | .free => 0
  | .held => 1
  | .faulted => 2
  | .abandoning => 3

/-- DGE_ACQ_STATUS of a requester (R241 to R243). -/
def State.acqStatus (s : State) (q : Req) : Word :=
  match dgeId q with
  | none => 0
  | some i =>
    let a := s.dge.acq.getD i {}
    putB (s.dge.reqs.any fun r => r.who.toNat == i) 0 ||| putB a.granted 1 ||| putN a.ctx 2 2 ||| put a.gen 4

/-- DGE (R241 to R256, R263). -/
def State.readDge (s : State) (q : Req) (b k : Nat) (r : Reg) : Word :=
  let d := s.dge
  let x := s.ctx b
  let flags (f : DgeCtx → Bool) : Nat := bitsToNat (d.ctxs.map f)
  match r with
  | .dgeAcqStatus => s.acqStatus q
  | .dgeStatus =>
    putN (flags fun c => c.st != .free) 0 4 ||| putN (flags fun c => c.st == .faulted) 4 4 ||| putN d.reqs.length 8 4
  | .dgeCntStale => cnt32 d.cntStale
  | .dgeCntCorrected => cnt32 d.cntCorrected
  | .dgeCntUncorr => cnt32 d.cntUncorr
  | .dgeCtxResult => codeBusy x.code x.run.isSome ||| put x.resGen 16
  | .dgeCtxStatus => putN (ctxStateCode x.st) 0 2 ||| put x.alg 2 ||| put x.holder 4 ||| put x.gen 8
  | .dgeCtxAux => x.aux
  | .dgeCtxDigest => byteWord x.digest k
  | .cmpResult =>
    codeBusy (match blkOf b with
      | .s => s.cmp.codeS
      | .c => s.cmp.codeC) (s.cmpBusy (blkOf b))
  | r => s.stored r b k

/-! ### KST, KLN, KFB, CNT -/

/-- The slot that KST_SEL selects. -/
def State.selSlot (s : State) : Slot := s.slot (fld (s.reg .kstSel) 0 14)

/-- KST (R278, R279, R284, R285, R308). -/
def State.readKst (s : State) (b k : Nat) (r : Reg) : Word :=
  match r with
  | .kstStatus =>
    putB s.kst.ready 0 ||| putN (s.kst.slots.filter fun e => e.2.valid).length 1 15 ||| putB s.kst.block 16
  | .kstAttr => s.selSlot.attr
  | .kstInfo => putB s.selSlot.unusable 0 ||| put s.selSlot.lineage 1
  | .kstCntIntegrity => cnt32 s.kst.cntIntegrity
  | .kstCntStale => cnt32 s.kst.cntStale
  | .kstCntCorrected => cnt32 s.kst.cntCorrected
  | .kstValid => bitsWord fun j => (s.slot (BitVec.ofNat 14 (32 * k + j))).valid
  | r => s.stored r b k

/-- The record that KLN_JOB_SEL selects. -/
def State.selRecord (s : State) : Option KRecord := Sparse.get none s.kln.recs (fldN (s.reg .klnJobSel) 0 6)

/-- The code of a record's state. -/
def recStateCode : RecState → Nat
  | .collecting => 1
  | .formed => 2
  | .failed => 3
  | .faulted => 4

/-- KLN_PEAT_STATUS.STATE (R266). -/
def Peat.stateCode (p : Peat) : Nat := if p.valid then 0 else if p.secret = 0 ∧ p.secretN = 0 then 1 else 2

/-- KLN (R265 to R269, R289, R297, R312). -/
def State.readKln (s : State) (b k : Nat) (r : Reg) : Word :=
  let n := s.kln
  match r with
  | .klnResult => codeBusy n.code (s.klnBusy || n.wait.isSome)
  | .klnStatus =>
    putN (rootCode n.root) 0 2 ||| putB n.halted 2 ||| putN n.queue.length 3 7 |||
      putN (n.recs.filter fun e => e.2.isSome).length 10 7 ||| putN n.sessions.length 17 9
  | .klnJobStatus =>
    s.selRecord.elim 0 fun x => putN (recStateCode x.state) 0 3 ||| put x.part 3 ||| put x.job 16
  | .klnJobProgress =>
    s.selRecord.elim 0 fun x =>
      putN (bitsToNat ((List.range 16).map fun i => x.shares.any fun h => h.owner == i)) 0 16 |||
        putN (x.streams.filter fun e => e.equal).length 16 11
  | .klnCntDrop => cnt32 n.cntDrop
  | .klnCntReplay => cnt32 n.cntReplay
  | .klnCntAuth => cnt32 n.cntAuth
  | .klnIntStatus => s.klnInt
  | .klnPeatStatus => putN s.peat.stateCode 0 2 ||| putN s.peat.events 2 16
  | .klnTamperStatus => putB s.peat.latch 0 ||| put s.peat.inputs 1 ||| put s.peat.active 9 ||| put s.peat.clearCode.byte 17
  | r => s.stored r b k

/-- KFB_EP_INFO of the selected endpoint. -/
def State.epInfo (s : State) : Word :=
  let i : EndpointId := fld (s.reg .kfbEpSel) 0 12
  let e := s.endpoint i
  putB e.present 0 ||| put e.kind 1 ||| put e.part 5 ||| putB e.gate 11 ||| put e.egen 12 ||| put e.kgen 20 |||
    putN (if e.present then 2 - s.creditsOut i else 0) 28 4

/-- KFB (R327, R334, R335, R338, R351). -/
def State.readKfb (s : State) (b k : Nat) (r : Reg) : Word :=
  let f := s.kfb
  match r with
  | .kfbResult => put f.resCode.byte 0 ||| putN f.resTicket 8 5
  | .kfbDonePop => s.donePopWord
  | .kfbStatus => putB f.up 0 ||| putN (bitsToNat (f.ports.map fun p => p.faulted)) 8 8 ||| putN f.tickets.length 16 6
  | .kfbPortStatus =>
    let p := s.port k
    putN p.used 0 5 ||| putB (16 ≤ p.used) 5 ||| putB p.faulted 6 ||| putB (s.portIdle k) 7 ||| putN p.ember.length 8 7
  | .kfbCntEmber => cnt32 f.cntEmber
  | .kfbCntMasked => cnt32 f.cntMasked
  | .kfbCntLate => cnt32 f.cntLate
  | .kfbCntStale => cnt32 f.cntStale
  | .kfbCntUpdrop => cnt32 f.cntUpdrop
  | .kfbCntCorrected => cnt32 f.cntCorrected
  | .kfbCntUncorr => cnt32 f.cntUncorr
  | .kfbCntEpfault => cnt32 f.cntEpfault
  | .kfbEmberMax => cnt32 (min f.emberMax 0xFFFF)
  | .kfbIntStatus => s.kfbInt
  | .kfbNextPop => s.nextPopWord
  | .kfbEpInfo => s.epInfo
  | r => s.stored r b k

/-- CNT (R341, R353). -/
def State.readCnt (s : State) (b k : Nat) (r : Reg) : Word :=
  let n := s.cnt
  match r with
  | .cntResult => codeBusy n.resCode n.cmd.isSome
  | .cntRdValueLo => lo32 n.rdValue
  | .cntRdValueHi => hi32 n.rdValue
  | .cntRdInfo => put n.rdPart 0 ||| putB n.rdEnable 6 ||| putB n.rdExhausted 7 ||| putB n.rdFaulted 8
  | .cntStatus => putB s.cntIdle 0 ||| putN (n.queues.foldl (fun a q => a + q.length) 0) 16 16
  | .cntCntGrants => cnt32 n.cntGrants
  | .cntCntDenied => cnt32 n.cntDenied
  | .cntCntResidue => cnt32 n.cntResidue
  | .cntCntCorrected => cnt32 n.cntCorrected
  | .cntCntUncorr => cnt32 n.cntUncorr
  | .cntIntStatus => s.cntInt
  | .cntExhPop => s.exhPopWord
  | r => s.stored r b k

/-! ### PKE, ATT, PRT -/

/-- PKE (R358, R360, R364, R366). -/
def State.readPke (s : State) (b k : Nat) (r : Reg) : Word :=
  let p := s.pke
  match r with
  | .pkeResult =>
    codeBusy (match blkOf b with
      | .s => p.resS
      | .c => p.resC) (s.pkeBusy (pkeId (blkOf b)))
  | .pkeStatus =>
    putB p.ucode 0 ||| putB p.running.isSome 1 ||| putN (p.running.elim 0 fun c => c.req) 2 2 |||
      putN (bitsToNat ((List.range 4).map fun i => p.queue.any fun c => c.req == i)) 4 4 ||| putB p.ephEc.isSome 8 |||
      putB p.ephKem.isSome 9 ||| putB p.ssEcdh.isSome 10 ||| putB p.ssKem.isSome 11 ||| putB p.cache0.isSome 12 |||
      putB p.cache1.isSome 13 ||| putB p.halted 14
  | .pkeCntResidue => cnt32 p.cntResidue
  | .pkeCntSelfcheck => cnt32 p.cntSelfcheck
  | .pkeCntCorrected => cnt32 p.cntCorrected
  | .pkeCntUncorr => cnt32 p.cntUncorr
  | r => s.stored r b k

/-- The staged entry that ATT_FWREC_SEL selects. -/
def State.selEntry (s : State) : FwEntry := s.att.staged.entries.getD (fldN (s.reg .attFwrecSel) 0 4) {}

/-- ATT (R381, R385, R398, R412, R423). -/
def State.readAtt (s : State) (b k : Nat) (r : Reg) : Word :=
  let a := s.att
  let e := s.selEntry
  let blk := blkOf b
  match r with
  | .attResult =>
    codeBusy (match blk with
      | .s => a.resS
      | .c => a.resC) (s.attBusy blk) |||
      putB (match blk with
        | .s => a.defS
        | .c => a.defC) 9
  | .attResLen =>
    putN (match blk with
      | .s => a.lenS
      | .c => a.lenC) 0 18
  | .attStatus =>
    putB a.certs.isSome 0 ||| putN (rootCode s.kln.root) 1 2 ||| putB a.handover 3 ||| putB a.mainReady 4 |||
      putB (a.epoch != 0) 5 ||| putB (a.run.any fun x => x.cmd.isSome) 6
  | .attCtrl => putB a.handover 0 ||| putB a.mainReady 1
  | .attEpoch => cnt32 a.epoch
  | .attSeqLo => cnt32 a.seq
  | .attSeqHi => cnt32 (a.seq / 2 ^ 32)
  | .attBootId => byteWord a.bootId k
  | .attDevidDigest => byteWord s.kln.devid k
  | .attAliasDigest => byteWord s.aliasDigest k
  | .attFwrecEntry => put e.typ 0 ||| put e.svn 8 ||| putB e.valid 16
  | .attFwrecVersion => e.version
  | .attFwrecRelease => a.staged.release
  | .attFwrecDigest => byteWord e.digest k
  | .attCommit => codeHigh a.commitCode
  | .attCntReports => cnt32 a.cntReports
  | .attCntDeferred => cnt32 a.cntDeferred
  | .attCntRefused => cnt32 a.cntRefused
  | r => s.stored r b k

/-- The staged region that PRT_RGN_SEL selects. -/
def State.selStaged (s : State) : StagedRegion := Sparse.get {} s.prt.staged (fldN (s.reg .prtRgnSel) 0 6)

/-- The job digest entry that a reader sees: core 7 in gate mode that of its job, else the one that PRT_JOB_SEL
selects. -/
def State.selJob (s : State) (q : Req) : Option JobDigest :=
  if s.gateCore q then (s.jobDigest s.prt.gate.part s.prt.gate.job).map (·.2)
  else Sparse.get none s.prt.jobs (fldN (s.reg .prtJobSel) 0 6)

/-- The code of a partition's state (R425). -/
def partStateCode : PartState → Nat
  | .free => 0
  | .active => 1
  | .quarantined => 2
  | .releasing => 3

/-- The code of a reason (PRT_GATE_STATUS.REASON). -/
def gateReasonCode : GateReason → Nat
  | .none => 0
  | .yield => 1
  | .budget => 2
  | .access => 3
  | .quarantine => 4
  | .release => 5

/-- The arrays of a partition that still owe a drain token. -/
def State.drainWait (s : State) (p : PartId) : BitVec 256 :=
  s.prt.rel.elim 0 fun r => if r.part = p ∧ r.stage = .drain then r.wait else 0

/-- PRT (R425 to R434, R440, R445, R450, R456, R461). -/
def State.readPrt (s : State) (q : Req) (b k : Nat) (r : Reg) : Word :=
  let t := s.prt
  let p : PartId := fld (s.reg .prtSel) 0 6
  let g := s.selStaged
  let c := s.region (fldN (s.reg .prtRgnSel) 0 6)
  let mask (m : BitVec 256) : Word := fld m (32 * k) 32
  match r with
  | .prtStatus =>
    putN (1 + (t.parts.filter fun e => e.2.st != .free).length) 0 7 ||| putB s.confAny 7 |||
      putB (s.prtBusy || s.prtBackground) 8 ||| putB s.orphans 9
  | .prtEpoch => t.epoch
  | .prtResult => codeBusy t.code s.prtBusy
  | .prtCommit => codeHigh t.commitCode
  | .prtRgnCfg => put g.part 0 ||| put g.kind 8
  | .prtRgnBaseLo => g.base.setWidth 32
  | .prtRgnBaseHi => (g.base >>> 32).setWidth 32
  | .prtRgnPages => g.pages
  | .prtRgnState => put c.part 0 ||| put c.kind 6 ||| putB c.orphan 8 ||| putB c.scrubbed 9
  | .prtInfo =>
    putN (partStateCode (s.partState p)) 0 3 ||| putN (s.partPhase p) 3 3 ||| putB (s.partConf p) 6 |||
      putB (s.chunkOk p) 7 ||| put (s.partGen p) 8
  | .prtInfoArrays => mask (s.arraysOf p)
  | .prtDrainPending => mask (s.drainWait p)
  | .prtGateEp => s.reg .prtGateEp &&& 0x80FFFFFF#32
  | .prtScrubAddrLo => s.reg .prtScrubAddrLo
  | .prtScrubAddrHi => s.reg .prtScrubAddrHi
  | .prtGateStatus =>
    putB t.gate.active 0 ||| putB t.gate.held 1 ||| putN (gateReasonCode t.gate.reason) 2 3 ||| put t.gate.part 5 |||
      putN t.gate.mr 11 6
  | .prtJobInfo =>
    (Sparse.get none t.jobs (fldN (s.reg .prtJobSel) 0 6)).elim 0 fun x => put x.part 0 ||| putB true 6 ||| put x.job 16
  | .prtJobGate => (s.selJob q).elim 0 fun x => byteWord x.gate k
  | .prtJobPolicy => (s.selJob q).elim 0 fun x => byteWord x.policy k
  | .prtCntTokdrop => cnt32 t.cntTokdrop
  | .prtCntQuar => cnt32 t.cntQuar
  | .prtCntRelease => cnt32 t.cntRelease
  | .prtIntStatus => s.prtInt
  | r => s.stored r b k

/-! ### MBX, CWY, FNC -/

/-- MBX (R472 to R477, R493). MSG words read 0 to everyone but the receiver while FULL is 1; a grant decides who reads. -/
def State.readMbx (s : State) (b k : Nat) (r : Reg) : Word :=
  let v := s.mslot b
  match r with
  | .mbxMsg => if v.full then v.msg.getD k 0 else 0
  | .mbxTxStatus => v.status
  | .mbxPop => v.popWord
  | .mbxDbStatus => v.db
  | .mbxDbMask => v.mask
  | .mbxRxCtrl => putB v.msgIe 0
  | .mbxRingpend0 => lo32 s.mbx.ringPend
  | .mbxRingpend1 => hi32 s.mbx.ringPend
  | r => s.stored r b k

/-- CWY (R495, R500, R511, R516). -/
def State.readCwy (s : State) (b k : Nat) (r : Reg) : Word :=
  let c := s.cwy
  match r with
  | .cwyStatus =>
    putB c.link 0 ||| putB c.txOn 1 ||| put (fld (s.reg .cwyCtrl) 1 2) 2 ||| putN s.phase 4 3 ||| putB c.sessionOpen 7 |||
      putB c.copy.isSome 8 ||| putB c.nvm.isSome 9
  | .cwySession => put c.session 0 ||| put c.lastSeq 16
  | .cwyCopyResult => codeBusy c.copyCode c.copy.isSome
  | .cwyNvmResult => codeBusy c.nvmCode c.nvm.isSome
  | .cwyCntCrc => cnt32 c.cntCrc
  | .cwyCntSymbol => cnt32 c.cntSymbol
  | .cwyCntSeq => cnt32 c.cntSeq
  | .cwyCntStale => cnt32 c.cntStale
  | .cwyRxbuf => byteWord c.rxbuf k
  | r => s.stored r b k

/-- A control core reads while a confidential partition is defined: what R539 hides reads 0. -/
def State.fenceHides (s : State) (q : Req) : Bool :=
  s.confAny &&
    match q with
    | .ctl _ => true
    | _ => false

/-- FNC (R523 to R544). -/
def State.readFnc (s : State) (q : Req) (b k : Nat) (r : Reg) : Word :=
  let f := s.fnc
  let hides := s.fenceHides q
  match r with
  | .fncStatus =>
    putB f.trimDefault 0 ||| putB f.avsFault 1 ||| putB s.confAny 2 ||| putB (f.d < f.planDuty) 3 |||
      putB (f.planDuty < f.d) 4 ||| putB s.crs.dim 5 ||| putB f.settling.isSome 6 |||
      (if hides then 0 else putN f.d 7 5 ||| put f.tmax 12)
  | .fncEffV => putN f.floor 0 16 ||| putN f.ceil 16 16
  | .fncEffT => put (BitVec.ofInt 12 f.throttleT) 0 ||| put (BitVec.ofInt 12 f.tripT) 12
  | .fncEffMisc => put (BitVec.ofInt 12 f.resumeT) 0 ||| putN f.dutyMax 12 5 ||| putN f.wearMax 17 8
  | .fncEffI => putN f.iMax 0 16 ||| putN f.limits.vNom 16 16
  | .fncThrMask => s.stored r b k ||| putB f.locked 31
  | .fncCommit => codeHigh f.commitCode
  | .fncHealth => put f.healthUnits 0
  | .fncHealthPop => s.healthPopWord
  | .fncCntThrottle => cnt32 f.cntThrottle
  | .fncCntAbsent => cnt32 f.cntAbsent
  | .fncCntAvsretry => cnt32 f.cntAvsretry
  | .fncCntHealthlost => cnt32 f.cntHealthLost
  | .fncSensorData => if hides then 0 else put (Sparse.get 0 f.sensors (fldN (s.reg .fncSensorSel) 0 8)) 0
  | .fncVread => if hides then 0 else put f.vread 0 ||| put f.cread 16
  | .fncTripStatus => putN s.fncCore.cause 0 2 ||| putB s.fncCore.holding 2 ||| putN s.fncCore.count 4 16
  | .fncAvailOperLo => lo32 s.fncCore.oper
  | .fncAvailOperHi => hi32 s.fncCore.oper
  | .fncAvailDownLo => lo32 s.fncCore.down
  | .fncAvailDownHi => hi32 s.fncCore.down
  | r => s.stored r b k

/-! ### Every register -/

/-- What a read of a register returns to requester `q`, apart from whether `q` may read it.
Marks: log 27 (DEDUCED). -/
def State.regRead (s : State) (q : Req) (p : RegAt) : Word :=
  match decodeUnit p.addr with
  | .top => s.readTop q p.blk p.ix p.reg
  | .crs => s.readCrs p.blk p.ix p.reg
  | .otp => s.readOtp p.blk p.ix p.reg
  | .lcs => s.readLcs p.blk p.ix p.reg
  | .boot => s.readBoot p.blk p.ix p.reg
  | .sme => s.readSme p.blk p.ix p.reg
  | .dge => s.readDge q p.blk p.ix p.reg
  | .kst => s.readKst p.blk p.ix p.reg
  | .kln => s.readKln p.blk p.ix p.reg
  | .kfb => s.readKfb p.blk p.ix p.reg
  | .cnt => s.readCnt p.blk p.ix p.reg
  | .pke => s.readPke p.blk p.ix p.reg
  | .att => s.readAtt p.blk p.ix p.reg
  | .prt => s.readPrt q p.blk p.ix p.reg
  | .mbx => s.readMbx p.blk p.ix p.reg
  | .cwy => s.readCwy p.blk p.ix p.reg
  | .fnc => s.readFnc q p.blk p.ix p.reg
  | .window => 0

end Sys2Proof.Machine
end

