-- ==== Sys2Proof/Machine/RegWrite.lean ====
section
/-!
DEFINITION. Machine/RegWrite.lean: what a write of each register does (R8 to R12). A register that starts a command hands the
written word to that command's meaning; an error that such a meaning takes from outside is none here, and a supply what
a look at it finds.
-/
namespace Sys2Proof.Machine

/-- A write that starts no command (R8): the stored bits take the written ones; reserved bits are dropped (R10). -/
def State.store (s : State) (r : Reg) (b k : Nat) (w : Word) : State :=
  if r.row.store = 0 then s else s.setReg r (w &&& r.row.store) b k

/-- The supply voltage of the OTP array as it is now (R129, R141).
Marks: log 28 (DESIGN CHOICE); log 30 (DESIGN CHOICE). -/
def State.vqpsNow (s : State) : Nat := Config.vqps s.otp.looks

/-- The supply has been looked at. -/
def State.looked (s : State) : State := s.onOtp fun o => { o with looks := o.looks + 1 }

/-- The command code of a CMD register. -/
def cmdCode (w : Word) : Nat := fldN w 0 4

/-! ### Command registers -/

/-- OTP_CMD (R133).
Marks: log 28 (DESIGN CHOICE); log 34 (DEDUCED). -/
def otpCmdWrite (w : Word) (s : State) : Res :=
  match cmdCode w with
  | 0x1 => execOtpRead w s
  | 0x2 => execOtpProgram w s.vqpsNow s.looked
  | 0x3 => execOtpFinalise w s
  | 0x4 => execOtpAdvance w s.vqpsNow s.looked
  | 0x5 => execOtpRedirect w s.vqpsNow s.looked
  | 0x6 => execGenRootHalf w s.vqpsNow s.looked
  | _ => ran (fun s => s.otpCommand w (fun st => st != .ash && st != .invalid) [(true, .deniedAttr)] id) s

/-- LCS_CMD (R166). In ASH and INVALID every command is refused with DENIED_LC (R146, R150).
Marks: log 34 (DEDUCED). -/
def lcsCmdWrite (w : Word) (s : State) : Res :=
  match cmdCode w with
  | 0x1 => execLcTransition w s.vqpsNow s.looked
  | 0x2 => execEraseDone w s
  | 0x3 => execOpenDebug w s
  | _ =>
    ran (fun s =>
      s.lcsRefuse (if s.lcsBusy || !s.otp.startupDone then .busy
        else if s.lcs.state = .ash ∨ s.lcs.state = .invalid then .deniedLc else .deniedAttr)) s

/-- DGE_CTX_CMD (R264).
Marks: log 34 (DEDUCED). -/
def ctxCmdWrite (q : Req) (c : Fin 4) (w : Word) (s : State) : Res :=
  match cmdCode w with
  | 0x1 => execDgeUpdate q c w .none s
  | 0x2 => execDgeFinal q c w .none s
  | 0x3 => execDgeAbandon q c w s
  | _ => ran (fun s => s.ctxCommand q c.val fun s => s.ctxRefuse c.val .deniedAttr) s

/-- KLN_CMD (R312).
Marks: log 28 (DESIGN CHOICE). -/
def klnCmdWrite (w : Word) (s : State) : Res :=
  ranKln (cmdCode w) w .none s

/-- KFB_CMD (R352). -/
def kfbCmdWrite (w : Word) (s : State) : Res :=
  match cmdCode w with
  | 0x1 => execKfbLoad w .none s
  | 0x2 => execKfbRotate w s
  | 0x3 => execKfbZeroise w s
  | 0x4 => execKfbRevoke w s
  | 0x5 => execKfbBind w s
  | 0x6 => execKfbRelease w s
  | _ => ran (fun s => s.kfbCommand w [(true, .deniedAttr)] id) s

/-- CNT_CMD (R353). -/
def cntCmdWrite (w : Word) (s : State) : Res :=
  match cmdCode w with
  | 0x1 => execCntConfigure w s
  | 0x2 => execCntRead w s
  | 0x3 => execCntAdvance w s
  | 0x4 => execCntRetire w s
  | _ => ran (fun s => s.onCnt fun n => { n with resCode := if n.cmd.isSome then .busy else .deniedAttr }) s

/-- The operation that a PKE command code names; EXPAND, which no block may issue, stands for the reserved codes (R361).
Marks: log 34 (DEDUCED). -/
def pkeOp (w : Word) : PkeOp :=
  match cmdCode w with
  | 0x1 => .ecVerify
  | 0x2 => .mldsaVerify
  | 0x3 => .hybVerify
  | 0x4 => .hybSign
  | 0x5 => .pubkey
  | 0x6 => .ecdhKeygen
  | 0x7 => .ecdhDerive
  | 0x8 => .kemKeygen
  | 0x9 => .kemDecaps
  | 0xA => .kemEncaps
  | _ => .expand

/-- CMD of an ATT block (R423).
Marks: log 34 (DEDUCED). -/
def attCmdWrite (b : Blk) (w : Word) (s : State) : Res :=
  match cmdCode w with
  | 0x1 => execPlatformReport b w s
  | 0x2 => execJobReport b w s
  | 0x3 => execSignBind b w s
  | 0x4 => execCertRead b w s
  | 0x5 => execAttComposite b w s
  | _ => ran (fun s => s.attRefuse b (if s.attBusy b then .busy else .deniedAttr)) s

/-- PRT_CMD (R462). -/
def prtCmdWrite (w : Word) (s : State) : Res :=
  match cmdCode w with
  | 0x1 => execPrtRelease w .none s
  | 0x2 => execPrtQuarantine w .none s
  | 0x3 => execScrubRegion w .none s
  | 0x4 => execScrubDone w .none s
  | 0x5 => execJobRecord w .none s
  | 0x6 => execJobForget w .none s
  | 0x7 => execGateEnter w .none s
  | 0x8 => execGateExit w s
  | 0x9 => execScrubOrphans w .none s
  | _ => ran (fun s => s.prtCommand w .none [(true, .deniedAttr)] [] id) s

/-! ### Registers of a unit's own -/

/-- A watchdog's period: a write below 0x0001_0000 stores 0x0001_0000 (R103).
Marks: log 37 (DEDUCED). -/
def wdtPeriod (w : Word) : Word := if w.toNat < 0x10000 then 0x10000 else w

/-- CRS_DIM_CTRL (R104). Whether the control cores wait is not the block's state. -/
def State.dimCtrl (s : State) (w : Word) : State :=
  (s.dimWrite w (Config.coresWaiting s.crs.idleReads)).onCrs fun c => { c with idleReads := c.idleReads + 1 }

/-- INT_STATUS of an SME block: W1C but for RESULT. -/
def State.smeIntClear (s : State) (b : Blk) (w : Word) : State :=
  s.onSmeBlk b fun x =>
    { x with
      intOverflow := x.intOverflow && !bit w 1
      intSfault := x.intSfault && !bit w 2
      intIntegrity := x.intIntegrity && !bit w 3 }

/-- KLN_INT_STATUS. -/
def State.klnIntClear (s : State) (w : Word) : State :=
  s.onKln fun k =>
    { k with
      intFormed := k.intFormed && !bit w 0
      intFailed := k.intFailed && !bit w 1
      intDrop := k.intDrop && !bit w 2
      intIntegrity := k.intIntegrity && !bit w 3 }

/-- KFB_INT_STATUS. A written 1 clears DONE or NEXT until the next entry joins its queue, and empties no queue.
Marks: log 87 (DEDUCED). -/
def State.kfbIntClear (s : State) (w : Word) : State :=
  s.onKfb fun k =>
    { k with
      intDone := k.intDone && !bit w 0
      intNext := k.intNext && !bit w 1
      intFault := k.intFault && !bit w 2
      intLate := k.intLate && !bit w 3 }

/-- CNT_INT_STATUS. A written 1 clears EXHAUSTED until the next entry joins its queue.
Marks: log 87 (DEDUCED). -/
def State.cntIntClear (s : State) (w : Word) : State :=
  s.onCnt fun n => { n with intExh := n.intExh && !bit w 0, intFault := n.intFault && !bit w 1 }

/-- PRT_INT_STATUS. -/
def State.prtIntClear (s : State) (w : Word) : State :=
  s.onPrt fun t =>
    { t with
      intReleased := t.intReleased && !bit w 0
      intGate := t.intGate && !bit w 1
      intScrubWait := t.intScrubWait && !bit w 2
      intOrphans := t.intOrphans && !bit w 3
      intTokdrop := t.intTokdrop && !bit w 4 }

/-- The staged region that PRT_RGN_SEL selects changed (R432). -/
def State.onStaged (s : State) (f : StagedRegion → StagedRegion) : State :=
  s.onPrt fun t => { t with staged := Sparse.put {} t.staged (fldN (s.reg .prtRgnSel) 0 6) (f s.selStaged) }

/-- PRT_GATE_EP: as RW until LOCK is set, then no effect (R8, R444).
Marks: log 37 (DEDUCED). -/
def State.gateEpWrite (s : State) (w : Word) : State :=
  if bit (s.reg .prtGateEp) 31 then s else s.setReg .prtGateEp (w &&& 0x80FFFFFF#32)

/-- PRT_SCRUB_ADDR_LO or, where `hi`, PRT_SCRUB_ADDR_HI, whose bit 31 locks both (R8, R458).
Marks: log 37 (DEDUCED). -/
def State.scrubAddrWrite (s : State) (hi : Bool) (w : Word) : State :=
  if bit (s.reg .prtScrubAddrHi) 31 then s
  else if hi then s.setReg .prtScrubAddrHi (w &&& 0x8000FFFF#32)
  else s.setReg .prtScrubAddrLo (w &&& 0xFFFFFFC0#32)

/-- The staged firmware-record entry that ATT_FWREC_SEL selects changed (R412). -/
def State.onEntry (s : State) (f : FwEntry → FwEntry) : State :=
  let i := fldN (s.reg .attFwrecSel) 0 4
  s.onAtt fun a => { a with staged := { a.staged with entries := setAt a.staged.entries i (f s.selEntry) } }

/-- Four bytes of a digest put to those of a word. -/
def digestPut (d : Bytes) (k : Nat) (w : Word) : Bytes := d.take (4 * k) ++ wordBytes w ++ d.drop (4 * k + 4)

/-- ATT_CTRL: HANDOVER is the security core's, MAIN_READY the control cluster's (R412, R415). -/
def attCtrlWrite (q : Req) (w : Word) (s : State) : Res :=
  if q = .sec then (if bit w 0 then execHandoverSet w s else execHandoverClear w s) else execMainReady w s

/-- FNC_THR_MASK: as RW until LOCK is set, then no effect (R8, R532). -/
def State.thrMaskWrite (s : State) (w : Word) : State :=
  if s.fnc.locked then s else (s.store .fncThrMask 0 0 w).onFnc fun f => { f with locked := bit w 31 }

/-- A word of a mailbox's message: no effect while FULL is 1 (R473). -/
def State.msgWrite (s : State) (i k : Nat) (w : Word) : State :=
  s.onMslot i fun v => if v.full then v else { v with msg := setAt v.msg k w }

/-- The mailbox and the direction of a slot. -/
def slotBox (i : Nat) : Fin 4 := Fin.ofNat 4 (i / 2)
def slotDir (i : Nat) : MbxDir := if i % 2 = 0 then .ab else .ba

/-! ### Every register -/

/-- A write of `w` to a register by a requester that may make it.
Marks: log 28 (DESIGN CHOICE); log 75 (DEDUCED). -/
def regWrite (q : Req) (p : RegAt) (w : Word) (s : State) : Res :=
  let b := p.blk
  let k := p.ix
  match p.reg with
  -- CRS
  | .crsSwReset => if bit w 0 then execSwCold w s else execSwWarm w s
  | .crsBlockCmd => execBlockCmd w s
  | .crsSdCtrl => execGo w s
  | .crsPadCtrl => execHoldRelease w s
  | .crsWdtSecLoad => ran (fun s => s.setReg .crsWdtSecLoad (wdtPeriod w)) s
  | .crsWdtCtlLoad => ran (fun s => s.setReg .crsWdtCtlLoad (wdtPeriod w)) s
  | .crsWdtSecKick => execWdtSecKick w s
  | .crsWdtCtlKick => execWdtCtlKick q w s
  | .crsWdtCtlCtrl => execWdtCtlEnable w s
  | .crsDimCtrl => ran (fun s => s.dimCtrl w) s
  | .crsCommit => execCrsCommit w s
  -- OTP, LCS, BOOT
  | .otpCmd => otpCmdWrite w s
  | .lcsCmd => lcsCmdWrite w s
  | .bootMainStart => execBootMainStart w s
  | .bootLockMain => execBootLockWrite 0 w s
  | .bootLockGate => execBootLockWrite 1 w s
  | .bootLockSens => execBootLockWrite 2 w s
  -- SME, DGE, CMP
  | .smeCmd => ran (fun s => s.smeCommand (blkOf b) (cmdCode w) w .none) s
  | .smeIntStatus => ran (fun s => s.smeIntClear (blkOf b) w) s
  | .smeCommit => execSmeCommit w s
  | .dgeAcquire => if bit w 0 then execDgeAcquireReq q w s else execDgeAcquireWithdraw q w s
  | .dgeArb => execDgeForceAbandon w s
  | .dgeCtxCmd => ctxCmdWrite q (Fin.ofNat 4 b) w s
  | .cmpCmd => execCmpCompare (blkOf b) w s
  -- KLN, KFB, CNT
  | .klnCmd => klnCmdWrite w s
  | .klnIntStatus => ran (fun s => s.klnIntClear w) s
  | .klnTamperClear => execKlnTamperClear w s.peat.active s
  | .kfbCmd => kfbCmdWrite w s
  | .kfbIntStatus => ran (fun s => s.kfbIntClear w) s
  | .cntCmd => cntCmdWrite w s
  | .cntIntStatus => ran (fun s => s.cntIntClear w) s
  -- PKE, ATT
  | .pkeCmd => ran (fun s => s.pkeCommand (blkOf b) (pkeOp w) w) s
  | .pkeCtrl => execPkeAbandon w s
  | .attCmd => attCmdWrite (blkOf b) w s
  | .attCtrl => attCtrlWrite q w s
  | .attFwrecEntry =>
    ran (fun s => s.onEntry fun e => { e with typ := fld w 0 8, svn := fld w 8 8, valid := bit w 16 }) s
  | .attFwrecVersion => ran (fun s => s.onEntry fun e => { e with version := w }) s
  | .attFwrecRelease => ran (fun s => s.onAtt fun a => { a with staged := { a.staged with release := w } }) s
  | .attFwrecDigest => ran (fun s => s.onEntry fun e => { e with digest := digestPut e.digest k w }) s
  | .attCommit => execAttCommit w s
  -- PRT
  | .prtCmd => prtCmdWrite w s
  | .prtCommit => execPrtCommit w .none s
  | .prtRgnCfg => ran (fun s => s.onStaged fun g => { g with part := fld w 0 6, kind := fld w 8 2 }) s
  | .prtRgnBaseLo => ran (fun s => s.onStaged fun g => { g with base := (fld g.base 32 16) ++ (w &&& 0xFFFFF000#32) }) s
  | .prtRgnBaseHi => ran (fun s => s.onStaged fun g => { g with base := (fld w 0 16) ++ (fld g.base 0 32) }) s
  | .prtRgnPages => ran (fun s => s.onStaged fun g => { g with pages := w }) s
  | .prtGateEp => ran (fun s => s.gateEpWrite w) s
  | .prtScrubAddrLo => ran (fun s => s.scrubAddrWrite false w) s
  | .prtScrubAddrHi => ran (fun s => s.scrubAddrWrite true w) s
  | .prtGateYield => execGateYield w s
  | .prtIntStatus => ran (fun s => s.prtIntClear w) s
  -- TOP
  | .topAfaultInfo =>
    ran (fun s => { s with top := { s.top with afault := { s.top.afault with valid := s.top.afault.valid && !bit w 0 } } }) s
  -- MBX
  | .mbxMsg => ran (fun s => s.msgWrite b k w) s
  | .mbxSend => execMbxSend q (slotBox b) (slotDir b) w s
  | .mbxTxStatus => ran (fun s => s.onMslot b fun v => { v with aborted := v.aborted && !bit w 1 }) s
  | .mbxDbSet => execDbSet q (slotBox b) (slotDir b) w s
  | .mbxDbStatus => ran (fun s => s.onMslot b fun v => { v with db := v.db &&& ~~~w }) s
  | .mbxDbMask => ran (fun s => s.onMslot b fun v => { v with mask := w }) s
  | .mbxRxCtrl => ran (fun s => s.onMslot b fun v => { v with msgIe := bit w 0 }) s
  | .mbxHostReset => execMbxHostReset w s
  | .mbxRingdb => execMbxRingdb w s
  | .mbxRingpend0 => ran (fun s => s.onMbx fun x => { x with ringPend := x.ringPend &&& ~~~(w.setWidth 64) }) s
  | .mbxRingpend1 => ran (fun s => s.onMbx fun x => { x with ringPend := x.ringPend &&& ~~~(w.setWidth 64 <<< 32) }) s
  -- CWY, FNC
  | .cwyCopyCmd => execCwyCopy w s
  | .cwyNvmCmd => ran (fun s => s.cwyNvm w) s
  | .fncThrMask => ran (fun s => s.thrMaskWrite w) s
  | .fncCommit => execFncCommit w s
  | .fncHealth => ran (fun s => s.onFnc fun f => { f with healthUnits := f.healthUnits &&& ~~~(fld w 0 10) }) s
  -- operands, staged values and masks; and registers that a write does not change
  | r => ran (fun s => s.store r b k w) s

/-! ### Reads with an effect -/

/-- The block or slot of a read that removes what it returns; every other read changes nothing but the free value it
took. -/
def regTake (q : Req) (p : RegAt) (s : State) : Res :=
  match p.reg with
  | .smeResPop => execResPop (blkOf p.blk) s
  | .kfbDonePop => execKfbDonePop s
  | .kfbNextPop => execKfbNextPop s
  | .cntExhPop => execCntExhPop s
  | .mbxPop => execMbxPop q (slotBox p.blk) (slotDir p.blk) s
  | .topTrngData => execTrngRead q s
  | .fncHealthPop => execFncHealthPop s
  | .crsDomainStatus =>
    ran (fun s => (s.emit (.read (s.regRead q p))).onCrs fun c => { c with idleReads := c.idleReads + 1 }) s
  | .otpStatus => ran (fun s => (s.emit (.read (s.regRead q p))).looked) s
  | _ => ran (fun s => s.emit (.read (s.regRead q p))) s

end Sys2Proof.Machine
end

