-- ==== Sys2Proof/Machine/RegAccess.lean ====
section
/-!
DEFINITION. Machine/RegAccess.lean: who may access which register (R20, R42, R43 and the access rule of each unit chapter),
and the accesses themselves: REGISTER_WRITE, ICP_REQUEST, a core's read; and ARBITER_WINDOW, the last command of the table.
-/
namespace Sys2Proof.Machine

/-- A register of access RW, WO, W1C, W1S or RWL.
Marks: log 32 (DEDUCED). -/
def writable (r : Reg) : Bool := r.row.store != 0 || r.row.w1 != 0

/-- A register of the command blocks S and C. -/
def inBlocks (r : Reg) : Bool := r.row.blkCount == 2

/-! ### Digest contexts (R255, R263) -/

/-- A requester's access to a register of context `c`: the holder's, but for DGE_CTX_STATUS, and the digest that the last
holder reads.
Marks: log 33 (DEDUCED). -/
def State.ctxGrant (s : State) (q : Req) (write : Bool) (c : Nat) (r : Reg) : Bool :=
  let x := s.ctx c
  let holds := x.st != .free && dgeId q == some x.holder.toNat
  let core :=
    match q with
    | .sec | .ctl _ => true
    | _ => false
  if write then holds
  else
    match r with
    | .dgeCtxStatus => core || holds
    | .dgeCtxDigest | .dgeCtxAux => holds || (x.st == .free && dgeId q == some x.lastHolder.toNat)
    | _ => holds

/-- The registers of the digest contexts.
Marks: log 33 (DEDUCED). -/
def isCtx (r : Reg) : Bool :=
  match r with
  | .dgeCtxCmd | .dgeCtxResult | .dgeCtxStatus | .dgeCtxAux | .dgeCtxSrcLo | .dgeCtxSrcHi | .dgeCtxLen | .dgeCtxData
  | .dgeCtxExpect | .dgeCtxDigest => true
  | _ => false

/-- The banked registers of the DGE, which every requester but the control port reaches. -/
def isAcq (r : Reg) : Bool := r == .dgeAcquire || r == .dgeAcqStatus

/-! ### Mailboxes (R493) -/

/-- A core's or the host's access to a mailbox register. -/
def State.mbxGrant (s : State) (q : Req) (write : Bool) (i : Nat) (r : Reg) : Bool :=
  let sends := s.mbxSender q (i / 2) (slotDir i)
  let gets := s.mbxReceiver q (i / 2) (slotDir i)
  match r with
  | .mbxMsg => if write then sends else gets
  | .mbxSend | .mbxDbSet => write && sends
  | .mbxTxStatus => sends || (!write && q == .icp 1 && i < 2)
  | .mbxPop => !write && gets
  | .mbxDbStatus | .mbxDbMask | .mbxRxCtrl => gets
  | .mbxHostReset | .mbxRingdb => write && q == .icp 0
  | .mbxRingpend0 | .mbxRingpend1 => s.ownsSide q 0 true
  | .mbxWcpRxbase => s.ownsSide q 2 true
  | _ => false

/-! ### The security core -/

/-- What the security core may write, by unit: R491, R113, R141, R164, R188, R235, R263, R311, R351, R353, R379, R422, R461,
R521, R546.
Marks: log 32 (DEDUCED). -/
def secWrites (u : Unt) (b : Nat) (r : Reg) : Bool :=
  match u with
  | .top => r == .topFwStage || r == .topMpCtx || r == .topAfaultInfo
  | .crs => true
  | .otp | .lcs | .kst | .kln | .kfb | .cnt | .cwy => writable r
  | .boot => writable r
  | .sme => !inBlocks r || b == 0
  | .dge => r == .dgeArb || (inBlocks r && b == 0)
  | .pke => if inBlocks r then b == 0 else r == .pkeCtrl
  | .att => if inBlocks r then b == 0 else writable r
  | .prt => writable r && r != .prtGateYield
  | .fnc => writable r
  | .mbx | .window => false

/-- What the security core may read: every register, but block C of the SME and of the CMP. -/
def secReads (u : Unt) (b : Nat) (r : Reg) : Bool :=
  match u with
  | .sme | .dge => !inBlocks r || b == 0
  | .mbx | .window => false
  | _ => true

/-! ### The control cluster -/

/-- A count register of the units that let the control cluster read theirs. -/
def isCount (r : Reg) : Bool :=
  match r with
  | .smeCntSfault | .smeCntOverflow | .smeCntCorrected | .smeCntUncorr | .dgeCntStale | .dgeCntCorrected | .dgeCntUncorr
  | .kfbCntEmber | .kfbCntMasked | .kfbCntLate | .kfbCntStale | .kfbCntUpdrop | .kfbCntCorrected | .kfbCntUncorr
  | .kfbCntEpfault | .cntCntGrants | .cntCntDenied | .cntCntResidue | .cntCntCorrected | .cntCntUncorr | .pkeCntResidue
  | .pkeCntSelfcheck | .pkeCntCorrected | .pkeCntUncorr | .attCntReports | .attCntDeferred | .attCntRefused
  | .prtCntTokdrop | .prtCntQuar | .prtCntRelease | .cwyCntCrc | .cwyCntSymbol | .cwyCntSeq | .cwyCntStale => true
  | _ => false

/-- What the control cluster may write.
Marks: log 32 (DEDUCED). -/
def ctlWrites (u : Unt) (b : Nat) (r : Reg) : Bool :=
  match u with
  | .crs => r == .crsWdtCtlKick
  | .sme | .dge | .pke => inBlocks r && b == 1
  | .att => (inBlocks r && b == 1) || r == .attCtrl
  | .fnc => r == .fncPlan || r == .fncWearSteps || r == .fncCommit || r == .fncSensorSel
  | _ => false

/-- The shadow of row `n` is of TRIM, IDENT, CONFIG or DIGESTS. -/
def ctlShadow (n : Nat) : Bool := n < 0x300 || (0x330 ≤ n && n < 0x350)

/-- What the control cluster may read. -/
def ctlReads (u : Unt) (b k : Nat) (r : Reg) : Bool :=
  match u with
  | .top | .crs | .fnc => true
  | .otp =>
    match r with
    | .otpStatus | .otpCounters | .otpKeyctr | .otpRedirect | .otpMarginal | .otpMarginalSpare => true
    | .otpShadowLo | .otpShadowHi => ctlShadow k
    | _ => false
  | .lcs => r == .lcsStatus || r == .lcsResult
  | .boot => r != .bootMainStart && r != .bootWindow
  | .sme =>
    (inBlocks r && b == 1) || isCount r || r == .smeStatus || r == .smeLgCfg || r == .smeLgStatus || r == .smeExpArmed ||
      r == .smeSaltValid0 || r == .smeSaltValid1 || r == .smeMrOwner
  | .dge => (inBlocks r && b == 1) || isCount r || r == .dgeStatus
  | .kst => r == .kstStatus
  | .kfb => isCount r || r == .kfbStatus || r == .kfbPortStatus
  | .cnt => isCount r || r == .cntStatus
  | .pke => (inBlocks r && b == 1) || isCount r || r == .pkeStatus
  | .att =>
    (inBlocks r && b == 1) || isCount r || r == .attStatus || r == .attEpoch || r == .attSeqLo || r == .attSeqHi ||
      r == .attBootId || r == .attDevidDigest || r == .attAliasDigest
  | .prt => isCount r || r == .prtStatus || r == .prtEpoch || r == .prtGateStatus
  | .cwy => isCount r || r == .cwyStatus
  | .kln | .mbx | .window => false

/-- Block C of the PKE and of the CMP, which core 7 holds alone while it is in gate mode (R449).
Marks: log 33 (DEDUCED). -/
def gateHolds (u : Unt) (b : Nat) (r : Reg) : Bool := (u == .pke || u == .dge) && inBlocks r && b == 1

/-! ### The control port -/

/-- What class 1 may read. -/
def mgmtReads (r : Reg) : Bool :=
  match r with
  | .topVersion | .topFwDigest | .crsStatus | .crsResetCause | .crsDomainStatus | .crsSdStatus | .crsStrap | .otpStatus
  | .lcsStatus | .bootStatus | .bootResult | .smeStatus | .dgeStatus | .kstStatus | .kfbStatus | .cntStatus | .pkeStatus
  | .attStatus | .prtStatus | .cwyStatus | .fncStatus | .fncTripStatus | .fncAvailOperLo | .fncAvailOperHi
  | .fncAvailDownLo | .fncAvailDownHi => true
  | _ => false

/-- What class 0 may read, mailboxes apart (R411). -/
def hostReads (r : Reg) : Bool := r == .topVersion || r == .topFwDigest

/-! ### Grants -/

/-- The unit's chapter grants the requester this access.
Marks: log 32 (DEDUCED). -/
def State.grant (s : State) (q : Req) (write : Bool) (p : RegAt) : Bool :=
  let u := decodeUnit p.addr
  if u = .mbx then s.mbxGrant q write p.blk p.reg
  else
    match q with
    | .icp cls => !write && ((cls == 0 && hostReads p.reg) || (cls == 1 && mgmtReads p.reg))
    | .att =>
      isAcq p.reg || (isCtx p.reg && s.ctxGrant q write p.blk p.reg) ||
        (!write && (p.reg == .dgeStatus || (u == .dge && isCount p.reg)))
    | .sec =>
      isAcq p.reg ||
        if isCtx p.reg then s.ctxGrant q write p.blk p.reg
        else if write then secWrites u p.blk p.reg else secReads u p.blk p.reg
    | .ctl _ =>
      isAcq p.reg ||
        if isCtx p.reg then s.ctxGrant q write p.blk p.reg
        else if s.gateCore q then true
        else if s.prt.gate.active && gateHolds u p.blk p.reg then false
        else if write then ctlWrites u p.blk p.reg else ctlReads u p.blk p.ix p.reg

/-- The unit's chapter grants the requester some register of the unit (R7, R42). -/
def unitGrant (q : Req) (u : Unt) : Bool :=
  match q with
  | .sec => u != .window
  | .ctl _ => u != .kln && u != .window
  | .att => u == .dge
  | .icp cls =>
    if cls = 0 then u == .top || u == .mbx
    else if cls = 1 then u != .kln && u != .window
    else false

/-! ### Accesses -/

/-- A request to a unit whose domain does not serve: BUSY, and for D3 or D5 the end of DIM (R43, R105).
Marks: log 24 (DEDUCED). -/
def State.refuseDown (s : State) (d : Dom) : State :=
  if d = .d3 ∨ d = .d5 then s.refuseD3 else s.emit (.code .busy)

/-- A requester that is not granted its access to a unit is refused whatever the state of the unit's domain: the control
port's requests (R14, R42), and all at the Kiln (R20). Any other meets BUSY, the lower code, where the domain does not serve
(R14, R43). -/
def deniedDown (q : Req) (u : Unt) : Bool := isIcp q || u == .kln

/-- An access to offset `a` under R7, R14, R42 and R43: refused, BUSY, or made. -/
def regAccess (q : Req) (write : Bool) (a : Nat) (v : Word) (s : State) : Res :=
  match decodeReg a with
  | none =>
    let u := decodeUnit a
    if !unitGrant q u && (deniedDown q u || s.serves u.dom) then ran (fun s => s.emit (.code .deniedAttr)) s
    else if !s.serves u.dom then ran (fun s => s.refuseDown u.dom) s
    else ran (fun s => if write then s else s.emit (.read 0)) s
  | some p =>
    if !s.grant q write p && (deniedDown q (decodeUnit a) || s.serves p.reg.row.dom) then ran (fun s => s.emit (.code .deniedAttr)) s
    else if !s.serves p.reg.row.dom then ran (fun s => s.refuseDown p.reg.row.dom) s
    else if write then regWrite q p v s else regTake q p s

/-- Core 7 in gate mode may make the access (R449). -/
def gateMap (write : Bool) (a : Nat) : Bool := (decodeReg a).any fun p => gateReg p.reg p.blk write

/-- The control SRAM offset that the security core reaches through the window at register-space address `a` (R548). -/
def State.windowOffset (s : State) (a : Nat) : Nat := fldN (s.reg .bootWindow) 0 1 * 0x800000 + (a - 0x800000)

/-- An access through the window while an episode zeroes control SRAM: it finds that ended, or not (R550).
Marks: log 42 (DESIGN CHOICE). -/
def State.zeroLook (s : State) : State :=
  if s.crs.zeroing then
    s.onCrs fun c => { c with zeroing := !Config.zeroed c.zeroLooks, zeroLooks := c.zeroLooks + 1 }
  else s

/-- The security core's access of `2 ^ size` bytes through the window, which `f` serves from their offset in control SRAM
(R548 to R550): a misaligned one, and one that meets the zeroing, is an access fault and has no effect. In DIM it is served
too, and leaves DIM standing.
Marks: log 42 (DESIGN CHOICE); log 113 (DESIGN CHOICE). -/
def State.throughWindow (s : State) (k : AccKind) (size a : Nat) (f : State → Nat → State) : State :=
  let fault (s : State) : State := s.secFault k 1 (BitVec.ofNat 32 (0x20000000 + a))
  if a % 2 ^ size ≠ 0 ∨ 2 ^ 24 ≤ a then fault s
  else
    let s := s.zeroLook
    if s.crs.zeroing then fault s else f s (s.windowOffset a)

/-- A write through the window: the low bytes of `v`. -/
def State.windowWrite (s : State) (size a : Nat) (v : Word) : State :=
  s.throughWindow .store size a fun s i => s.csramPut i ((wordBytes v).take (2 ^ size))

/-- A read through the window: the bytes in the low bits of a word. -/
def State.windowRead (s : State) (size a : Nat) : State :=
  s.throughWindow .load size a fun s i => s.emit (.read (byteWord (s.csramBytes i (2 ^ size)) 0))

/-- A control core's access to the interrupt controller, at physical address `n` (R449, R465); `f` serves it.
Marks: log 27 (DEDUCED). -/
def plicAccess (k : Fin 8) (kind : AccKind) (n : Nat) (f : State → State) (s : State) : Res :=
  ran (fun s =>
    if s.gateCore (.ctl k) || n < 0xC000000 then s.coreFault k.val kind 3 (BitVec.ofNat 64 n) else f s) s

/-- REGISTER_WRITE (R8, R470, R548): a write of a requester to a register-space address, or of a control core in M-mode to
the interrupt controller. The window is the security core's, which writes `2 ^ size` bytes there; a register takes its 32
bits (R6). To a control core the window is not mapped (R465). In DIM the window is served, and DIM stands: R547 lists it as a
unit of D5, and R550 speaks of D5 held in reset only.
Marks: log 27 (DEDUCED); log 28 (DESIGN CHOICE); log 38 (DESIGN CHOICE); log 113 (DESIGN CHOICE). -/
def execRegisterWrite (q : Req) (a : RegAddr) (size : Fin 3) (v : Word) (s : State) : Res :=
  let n := a.toNat
  match q with
  | .sec => if 0x800000 ≤ n then ran (fun s => s.windowWrite size.val n v) s else regAccess q true n v s
  | .ctl k =>
    if 2 ^ 24 ≤ n then plicAccess k .store n (fun s => s.plicWrite (n - 0xC000000) v) s
    else if (s.gateCore q && !gateMap true n) || 0x800000 ≤ n then
      ran (fun s => s.coreFault k.val .store 1 (BitVec.ofNat 64 (0x1000000 + n))) s
    else regAccess q true n v s
  | .icp cls =>
    if n % 4 ≠ 0 ∨ 2 ≤ cls.toNat ∨ 0x800000 ≤ n then ran (fun s => s.emit (.code .deniedAttr)) s
    else regAccess q true n v s
  | .att => regAccess q true n v s

/-- A core's read of a register-space address, which no row of the table names: what it answers stands in `outs`. Through
the window the security core reads `2 ^ size` bytes (R548).
Marks: log 27 (DEDUCED); log 113 (DESIGN CHOICE). -/
def coreRead (q : Req) (a : RegAddr) (size : Fin 3) (s : State) : Res :=
  let n := a.toNat
  match q with
  | .sec =>
    if n < 0x800000 then regAccess q false n 0 s else ran (fun s => s.windowRead size.val n) s
  | .ctl k =>
    if 2 ^ 24 ≤ n then plicAccess k .load n (fun s => s.emit (.read (s.plicRead (n - 0xC000000)))) s
    else if (s.gateCore q && !gateMap false n) || 0x800000 ≤ n then
      ran (fun s => s.coreFault k.val .load 1 (BitVec.ofNat 64 (0x1000000 + n))) s
    else regAccess q false n 0 s
  | q => regAccess q false n 0 s

/-! ### The control port (R40 to R44) -/

/-- The completion code among what an access drove outward; DONE where it drove none. -/
def outCode (l : List Out) : Code :=
  (l.findSome? fun o => match o with
    | .code c => some c
    | _ => none).getD .done

/-- The word that a read drove outward. -/
def outWord (l : List Out) : Word :=
  (l.findSome? fun o => match o with
    | .read v => some v
    | _ => none).getD 0

/-- What is no answer to the access itself. -/
def otherOut (o : Out) : Bool :=
  match o with
  | .code _ | .read _ => false
  | _ => true

/-- The answer of an access becomes a response that the control port owes; the data of a refused request is 0.
Marks: log 36 (DEDUCED). -/
def State.icpOwe (s : State) (tag : BitVec 4) : State :=
  let c := outCode s.outs
  { s with
    icp := s.icp ++ [⟨tag, c, if c = .done then outWord s.outs else 0⟩]
    outs := s.outs.filter otherOut }

/-- A control-port request as R42 and R43 serve it.
Marks: log 36 (DEDUCED). -/
def icpAccess (write : Bool) (a : IcpAddr) (v : Word) (cls : BitVec 2) (s : State) : Res :=
  if a.toNat % 4 ≠ 0 ∨ 2 ≤ cls.toNat ∨ 0x800000 ≤ a.toNat then ran (fun s => s.emit (.code .deniedAttr)) s
  else regAccess (.icp cls) write a.toNat v s

/-- ICP_REQUEST (R40 to R43): accepted while ICP_UP is high, and answered in order. A 17th request outstanding, which R41
does not let the requester issue, is not accepted.
Marks: log 27 (DEDUCED); log 36 (DEDUCED); log 40 (DESIGN CHOICE). -/
def execIcpRequest (write : Bool) (a : IcpAddr) (v : Word) (src : BitVec 2) (tag : BitVec 4) (s : State) : Res :=
  if !s.up .d1 || 16 ≤ s.icp.length then ran id s
  else
    match icpAccess write a v src s with
    | .next t => .next (t.icpOwe tag)
    | r => r

/-! ### Arbiters (R327, R328) -/

/-- A new quota window of an arbiter: the grants of its high class begin again at none. -/
def State.newWindow (s : State) (arb : Arbiter) : State :=
  match arb with
  | .port n => s.onPort n.val fun p => { p with used := 0 }
  | .pke => s.onPke fun p => { p with used := 0 }
  | .dge => s.onDge fun d => { d with used := 0 }
  | .cmp => s.onCmp fun m => { m with used := 0 }

/-- ARBITER_WINDOW (R327).
Marks: log 41 (DESIGN CHOICE). -/
def execArbiterWindow (arb : Arbiter) (s : State) : Res := ran (fun s => s.newWindow arb) s

end Sys2Proof.Machine
end

