-- ==== Sys2Proof/Machine/Dispatch.lean ====
section
/-!
DEFINITION. Machine/Dispatch.lean: every command's meaning, one arm per constructor of Instr.
-/
namespace Sys2Proof.Machine

/-- The effect of a command on everything but the queue. -/
def exec (i : Instr) (s : State) : Host.Outcome State Fault Refusal :=
  match i with
  | .registerWrite q a size v => Sys2Proof.Machine.execRegisterWrite q a size v s
  | .icpRequest write a v src tag => Sys2Proof.Machine.execIcpRequest write a v src tag s
  | .icpResponse => Sys2Proof.Machine.execIcpResponse s
  | .mpReadData tag last err data => Sys2Proof.Machine.execMpReadData tag last err data s
  | .mpWriteAck tag err => Sys2Proof.Machine.execMpWriteAck tag err s
  | .tapBeat tap data sid first last nbm1 err => Sys2Proof.Machine.execTapBeat tap data sid first last nbm1 err s
  | .beatIntake tap => Sys2Proof.Machine.execBeatIntake tap s
  | .leafDone lane err => Sys2Proof.Machine.execLeafDone lane err s
  | .combineAbsorb lane err => Sys2Proof.Machine.execCombineAbsorb lane err s
  | .streamResult sid err => Sys2Proof.Machine.execStreamResult sid err s
  | .smeEventSend => Sys2Proof.Machine.execSmeEventSend s
  | .extensionApply err => Sys2Proof.Machine.execExtensionApply err s
  | .smeOpen b w => Sys2Proof.Machine.execSmeOpen b w s
  | .smeAbort b w => Sys2Proof.Machine.execSmeAbort b w s
  | .smeStatus b w err => Sys2Proof.Machine.execSmeStatus b w err s
  | .expWrite b w err => Sys2Proof.Machine.execExpWrite b w err s
  | .expClear b w => Sys2Proof.Machine.execExpClear b w s
  | .expRead b w err => Sys2Proof.Machine.execExpRead b w err s
  | .mrExtend b w => Sys2Proof.Machine.execMrExtend b w s
  | .mrAssign b w => Sys2Proof.Machine.execMrAssign b w s
  | .mrRead b w err => Sys2Proof.Machine.execMrRead b w err s
  | .smePurge b w => Sys2Proof.Machine.execSmePurge b w s
  | .purgeResume => Sys2Proof.Machine.execPurgeResume s
  | .smeCommit w => Sys2Proof.Machine.execSmeCommit w s
  | .resPop b => Sys2Proof.Machine.execResPop b s
  | .dgeAcquireReq q w => Sys2Proof.Machine.execDgeAcquireReq q w s
  | .dgeAcquireWithdraw q w => Sys2Proof.Machine.execDgeAcquireWithdraw q w s
  | .dgeGrant err => Sys2Proof.Machine.execDgeGrant err s
  | .dgeUpdate q c w err => Sys2Proof.Machine.execDgeUpdate q c w err s
  | .dgeFinal q c w err => Sys2Proof.Machine.execDgeFinal q c w err s
  | .dgeAbandon q c w => Sys2Proof.Machine.execDgeAbandon q c w s
  | .dgeForceAbandon w => Sys2Proof.Machine.execDgeForceAbandon w s
  | .dgeBlockDone c err => Sys2Proof.Machine.execDgeBlockDone c err s
  | .cmpCompare b w => Sys2Proof.Machine.execCmpCompare b w s
  | .cmpSliceGrant => Sys2Proof.Machine.execCmpSliceGrant s
  | .comparisonDone slice err => Sys2Proof.Machine.execComparisonDone slice err s
  | .porNFall => Sys2Proof.Machine.execPorNFall s
  | .porNRise => Sys2Proof.Machine.execPorNRise s
  | .d0Reset => Sys2Proof.Machine.execD0Reset s
  | .pllLock => Sys2Proof.Machine.execPllLock s
  | .pllLockTimeout => Sys2Proof.Machine.execPllLockTimeout s
  | .strapLatch readings => Sys2Proof.Machine.execStrapLatch readings s
  | .coldNAct => Sys2Proof.Machine.execColdNAct s
  | .warmNAct => Sys2Proof.Machine.execWarmNAct s
  | .sourceDeassert src => Sys2Proof.Machine.execSourceDeassert src s
  | .d4ResetEntry => Sys2Proof.Machine.execD4ResetEntry s
  | .domainRelease => Sys2Proof.Machine.execDomainRelease s
  | .hostDomainRelease => Sys2Proof.Machine.execHostDomainRelease s
  | .swWarm w => Sys2Proof.Machine.execSwWarm w s
  | .swCold w => Sys2Proof.Machine.execSwCold w s
  | .blockCmd w => Sys2Proof.Machine.execBlockCmd w s
  | .blockSample coresWaiting => Sys2Proof.Machine.execBlockSample coresWaiting s
  | .wdtSecKick w => Sys2Proof.Machine.execWdtSecKick w s
  | .wdtCtlKick q w => Sys2Proof.Machine.execWdtCtlKick q w s
  | .wdtCtlEnable w => Sys2Proof.Machine.execWdtCtlEnable w s
  | .wdtSec => Sys2Proof.Machine.execWdtSec s
  | .wdtCtl => Sys2Proof.Machine.execWdtCtl s
  | .go w => Sys2Proof.Machine.execGo w s
  | .holdRelease w => Sys2Proof.Machine.execHoldRelease w s
  | .crsCommit w => Sys2Proof.Machine.execCrsCommit w s
  | .dimEnter w coresWaiting => Sys2Proof.Machine.execDimEnter w coresWaiting s
  | .dimExit w => Sys2Proof.Machine.execDimExit w s
  | .otpStartupDone drift => Sys2Proof.Machine.execOtpStartupDone drift s
  | .otpRead w => Sys2Proof.Machine.execOtpRead w s
  | .otpProgram w vqps => Sys2Proof.Machine.execOtpProgram w vqps s
  | .otpFinalise w => Sys2Proof.Machine.execOtpFinalise w s
  | .otpAdvance w vqps => Sys2Proof.Machine.execOtpAdvance w vqps s
  | .otpRedirect w vqps => Sys2Proof.Machine.execOtpRedirect w vqps s
  | .genRootHalf w vqps => Sys2Proof.Machine.execGenRootHalf w vqps s
  | .otpPulseEnd m0 nrm m1 vqps => Sys2Proof.Machine.execOtpPulseEnd m0 nrm m1 vqps s
  | .lcTransition w vqps => Sys2Proof.Machine.execLcTransition w vqps s
  | .lcsPhaseDone vqps => Sys2Proof.Machine.execLcsPhaseDone vqps s
  | .eraseDone w => Sys2Proof.Machine.execEraseDone w s
  | .openDebug w => Sys2Proof.Machine.execOpenDebug w s
  | .jtagInstruction ir => Sys2Proof.Machine.execJtagInstruction ir s
  | .tinderBoot abort => Sys2Proof.Machine.execTinderBoot abort s
  | .bootMainStart w => Sys2Proof.Machine.execBootMainStart w s
  | .bootLockWrite which w => Sys2Proof.Machine.execBootLockWrite which w s
  | .tamperInput pin => Sys2Proof.Machine.execTamperInput pin s
  | .klnTamperClear w active => Sys2Proof.Machine.execKlnTamperClear w active s
  | .formRoot w => Sys2Proof.Machine.execFormRoot w s
  | .klnDerive w err => Sys2Proof.Machine.execKlnDerive w err s
  | .sessionOpen w => Sys2Proof.Machine.execSessionOpen w s
  | .klnUnwrap w err => Sys2Proof.Machine.execKlnUnwrap w err s
  | .klnUnseal w err => Sys2Proof.Machine.execKlnUnseal w err s
  | .klnSeal w err => Sys2Proof.Machine.execKlnSeal w err s
  | .klnDestroy w err => Sys2Proof.Machine.execKlnDestroy w err s
  | .destroyPartition w => Sys2Proof.Machine.execDestroyPartition w s
  | .jobCreate w => Sys2Proof.Machine.execJobCreate w s
  | .jobDestroy w => Sys2Proof.Machine.execJobDestroy w s
  | .saltLoad w => Sys2Proof.Machine.execSaltLoad w s
  | .klnEventApply => Sys2Proof.Machine.execKlnEventApply s
  | .kfbLoad w err => Sys2Proof.Machine.execKfbLoad w err s
  | .kfbRotate w => Sys2Proof.Machine.execKfbRotate w s
  | .kfbZeroise w => Sys2Proof.Machine.execKfbZeroise w s
  | .kfbRevoke w => Sys2Proof.Machine.execKfbRevoke w s
  | .kfbBind w => Sys2Proof.Machine.execKfbBind w s
  | .kfbRelease w => Sys2Proof.Machine.execKfbRelease w s
  | .kfBeatSend port => Sys2Proof.Machine.execKfBeatSend port s
  | .arbiterWindow arb => Sys2Proof.Machine.execArbiterWindow arb s
  | .eack port age => Sys2Proof.Machine.execEack port age s
  | .emberLate id => Sys2Proof.Machine.execEmberLate id s
  | .emberTimeout port => Sys2Proof.Machine.execEmberTimeout port s
  | .kfAck port beat corrected => Sys2Proof.Machine.execKfAck port beat corrected s
  | .kfCntReq port beat corrected => Sys2Proof.Machine.execKfCntReq port beat corrected s
  | .kfNextReq port beat corrected => Sys2Proof.Machine.execKfNextReq port beat corrected s
  | .kfFault port beat corrected => Sys2Proof.Machine.execKfFault port beat corrected s
  | .kfbDonePop => Sys2Proof.Machine.execKfbDonePop s
  | .kfbNextPop => Sys2Proof.Machine.execKfbNextPop s
  | .cntGrant bank err => Sys2Proof.Machine.execCntGrant bank err s
  | .cntConfigure w => Sys2Proof.Machine.execCntConfigure w s
  | .cntRead w => Sys2Proof.Machine.execCntRead w s
  | .cntAdvance w => Sys2Proof.Machine.execCntAdvance w s
  | .cntRetire w => Sys2Proof.Machine.execCntRetire w s
  | .cntExhPop => Sys2Proof.Machine.execCntExhPop s
  | .ecVerify b w => Sys2Proof.Machine.execEcVerify b w s
  | .mldsaVerify b w => Sys2Proof.Machine.execMldsaVerify b w s
  | .hybVerify b w => Sys2Proof.Machine.execHybVerify b w s
  | .hybSign b w err => Sys2Proof.Machine.execHybSign b w err s
  | .pkePubkey b w err => Sys2Proof.Machine.execPkePubkey b w err s
  | .ecdhKeygen b w => Sys2Proof.Machine.execEcdhKeygen b w s
  | .ecdhDerive b w => Sys2Proof.Machine.execEcdhDerive b w s
  | .kemKeygen b w => Sys2Proof.Machine.execKemKeygen b w s
  | .kemDecaps b w => Sys2Proof.Machine.execKemDecaps b w s
  | .kemEncaps b w => Sys2Proof.Machine.execKemEncaps b w s
  | .pkeExpand slot => Sys2Proof.Machine.execPkeExpand slot s
  | .pkeGrant => Sys2Proof.Machine.execPkeGrant s
  | .pkeOpDone fault => Sys2Proof.Machine.execPkeOpDone fault s
  | .pkeAbandon w => Sys2Proof.Machine.execPkeAbandon w s
  | .platformReport b w => Sys2Proof.Machine.execPlatformReport b w s
  | .jobReport b w => Sys2Proof.Machine.execJobReport b w s
  | .signBind b w => Sys2Proof.Machine.execSignBind b w s
  | .certRead b w => Sys2Proof.Machine.execCertRead b w s
  | .attComposite b w => Sys2Proof.Machine.execAttComposite b w s
  | .certBuild => Sys2Proof.Machine.execCertBuild s
  | .reportSample err => Sys2Proof.Machine.execReportSample err s
  | .attCommit w => Sys2Proof.Machine.execAttCommit w s
  | .handoverSet w => Sys2Proof.Machine.execHandoverSet w s
  | .handoverClear w => Sys2Proof.Machine.execHandoverClear w s
  | .mainReady w => Sys2Proof.Machine.execMainReady w s
  | .getVersion ss r => Sys2Proof.Machine.execGetVersion ss r s
  | .getCapabilities ss r => Sys2Proof.Machine.execGetCapabilities ss r s
  | .negotiateAlgorithms ss r => Sys2Proof.Machine.execNegotiateAlgorithms ss r s
  | .getDigests ss r => Sys2Proof.Machine.execGetDigests ss r s
  | .getCertificate ss r => Sys2Proof.Machine.execGetCertificate ss r s
  | .challenge ss r => Sys2Proof.Machine.execChallenge ss r s
  | .getMeasurements ss r => Sys2Proof.Machine.execGetMeasurements ss r s
  | .keyExchange ss r => Sys2Proof.Machine.execKeyExchange ss r s
  | .finish ss r => Sys2Proof.Machine.execFinish ss r s
  | .endSession ss r => Sys2Proof.Machine.execEndSession ss r s
  | .pqStart ss r => Sys2Proof.Machine.execPqStart ss r s
  | .pqAccept ss r => Sys2Proof.Machine.execPqAccept ss r s
  | .pqLegTimeout => Sys2Proof.Machine.execPqLegTimeout s
  | .pqCert ss r => Sys2Proof.Machine.execPqCert ss r s
  | .vdmReport ss r => Sys2Proof.Machine.execVdmReport ss r s
  | .getPage ss r => Sys2Proof.Machine.execGetPage ss r s
  | .keyMsg ss r out => Sys2Proof.Machine.execKeyMsg ss r out s
  | .supplyCheck ss r => Sys2Proof.Machine.execSupplyCheck ss r s
  | .wcpRxMessage beats => Sys2Proof.Machine.execWcpRxMessage beats s
  | .reportReq => Sys2Proof.Machine.execReportReq s
  | .reportPart => Sys2Proof.Machine.execReportPart s
  | .versionReq => Sys2Proof.Machine.execVersionReq s
  | .versionInfo => Sys2Proof.Machine.execVersionInfo s
  | .wcpCancel => Sys2Proof.Machine.execWcpCancel s
  | .collectionTimeout => Sys2Proof.Machine.execCollectionTimeout s
  | .prtCommit w err => Sys2Proof.Machine.execPrtCommit w err s
  | .prtRelease w err => Sys2Proof.Machine.execPrtRelease w err s
  | .prtQuarantine w err => Sys2Proof.Machine.execPrtQuarantine w err s
  | .scrubRegion w err => Sys2Proof.Machine.execScrubRegion w err s
  | .scrubDone w err => Sys2Proof.Machine.execScrubDone w err s
  | .jobRecord w err => Sys2Proof.Machine.execJobRecord w err s
  | .jobForget w err => Sys2Proof.Machine.execJobForget w err s
  | .gateEnter w err => Sys2Proof.Machine.execGateEnter w err s
  | .gateExit w => Sys2Proof.Machine.execGateExit w s
  | .scrubOrphans w err => Sys2Proof.Machine.execScrubOrphans w err s
  | .gateYield w => Sys2Proof.Machine.execGateYield w s
  | .gateBudgetExpire => Sys2Proof.Machine.execGateBudgetExpire s
  | .drainToken array part gen => Sys2Proof.Machine.execDrainToken array part gen s
  | .astResponse array result => Sys2Proof.Machine.execAstResponse array result s
  | .astTimeout array => Sys2Proof.Machine.execAstTimeout array s
  | .accessFault core kind space addr machine uncorr => Sys2Proof.Machine.execAccessFault core kind space addr machine uncorr s
  | .secAccessFault kind space size addr uncorr => Sys2Proof.Machine.execSecAccessFault kind space size addr uncorr s
  | .writebackUncorr => Sys2Proof.Machine.execWritebackUncorr s
  | .mbxSend q m d w => Sys2Proof.Machine.execMbxSend q m d w s
  | .mbxPop q m d => Sys2Proof.Machine.execMbxPop q m d s
  | .dbSet q m d w => Sys2Proof.Machine.execDbSet q m d w s
  | .mbxHostReset w => Sys2Proof.Machine.execMbxHostReset w s
  | .mbxRingdb w => Sys2Proof.Machine.execMbxRingdb w s
  | .capAccept => Sys2Proof.Machine.execCapAccept s
  | .ringCreate authorised => Sys2Proof.Machine.execRingCreate authorised s
  | .ringDestroy => Sys2Proof.Machine.execRingDestroy s
  | .hostReport => Sys2Proof.Machine.execHostReport s
  | .ringNop ring => Sys2Proof.Machine.execRingNop ring s
  | .jobStep ring workers => Sys2Proof.Machine.execJobStep ring workers s
  | .ringStreamOpen ring => Sys2Proof.Machine.execRingStreamOpen ring s
  | .ringStreamResult ring => Sys2Proof.Machine.execRingStreamResult ring s
  | .ringCopy ring => Sys2Proof.Machine.execRingCopy ring s
  | .driverGone why => Sys2Proof.Machine.execDriverGone why s
  | .trngRead q => Sys2Proof.Machine.execTrngRead q s
  | .trngHealthFail => Sys2Proof.Machine.execTrngHealthFail s
  | .trngResume pass => Sys2Proof.Machine.execTrngResume pass s
  | .linkUp => Sys2Proof.Machine.execLinkUp s
  | .linkDown => Sys2Proof.Machine.execLinkDown s
  | .frameDrop why => Sys2Proof.Machine.execFrameDrop why s
  | .repeatFrame frame => Sys2Proof.Machine.execRepeatFrame frame s
  | .cwyHello frame => Sys2Proof.Machine.execCwyHello frame s
  | .cwyManifest frame => Sys2Proof.Machine.execCwyManifest frame s
  | .cwyChunk frame => Sys2Proof.Machine.execCwyChunk frame s
  | .cwyActivate frame => Sys2Proof.Machine.execCwyActivate frame s
  | .cwyNextBoot frame => Sys2Proof.Machine.execCwyNextBoot frame s
  | .commitAdvance frame vqps => Sys2Proof.Machine.execCommitAdvance frame vqps s
  | .statusQuery frame => Sys2Proof.Machine.execStatusQuery frame s
  | .abortFrame frame => Sys2Proof.Machine.execAbortFrame frame s
  | .sessionIdleTimeout => Sys2Proof.Machine.execSessionIdleTimeout s
  | .cwyCopy w => Sys2Proof.Machine.execCwyCopy w s
  | .nvmErase w => Sys2Proof.Machine.execNvmErase w s
  | .nvmProgram w => Sys2Proof.Machine.execNvmProgram w s
  | .nvmVerify w => Sys2Proof.Machine.execNvmVerify w s
  | .cwyEngineDone ok => Sys2Proof.Machine.execCwyEngineDone ok s
  | .snsRequest => Sys2Proof.Machine.execSnsRequest s
  | .snsResponse addr data => Sys2Proof.Machine.execSnsResponse addr data s
  | .snsTimeout addr => Sys2Proof.Machine.execSnsTimeout addr s
  | .scanComplete => Sys2Proof.Machine.execScanComplete s
  | .fenceTripHoldEnd => Sys2Proof.Machine.execFenceTripHoldEnd s
  | .avsResponse good alert data => Sys2Proof.Machine.execAvsResponse good alert data s
  | .avsReadback good mv => Sys2Proof.Machine.execAvsReadback good mv s
  | .avsSettleTimeout => Sys2Proof.Machine.execAvsSettleTimeout s
  | .fncCommit w => Sys2Proof.Machine.execFncCommit w s
  | .fncHealthPop => Sys2Proof.Machine.execFncHealthPop s
  | .otpCheckDone vqps later => Sys2Proof.Machine.execOtpCheckDone vqps later s
  | .debugGateOpen => Sys2Proof.Machine.execDebugGateOpen s
  | .wcpCredit => Sys2Proof.Machine.execWcpCredit s
  | .wcpMessageSent => Sys2Proof.Machine.execWcpMessageSent s
  | .causewayFrameSent => Sys2Proof.Machine.execCausewayFrameSent s
  | .trngRefill => Sys2Proof.Machine.execTrngRefill s
  | .interruptClaim who => Sys2Proof.Machine.execInterruptClaim who s
  | .upstreamDrop port beat uncorr => Sys2Proof.Machine.execUpstreamDrop port beat uncorr s
  | .trstNAssert => Sys2Proof.Machine.execTrstNAssert s

end Sys2Proof.Machine
end

