-- ==== Sys2Proof/Machine/Tick.lean ====
section
/-!
DEFINITION. Machine/Tick.lean: one CLK_D cycle in which no command waits: the watchdogs (R103, R106), the gate budget (R450)
and the availability counters (R544). The table has no row for a tick: it is what a step does on an empty queue.
-/
namespace Sys2Proof.Machine

/-- An event that the block raises by itself, queued behind what waits. -/
def State.raise (s : State) (i : Instr) : State := { s with pending := s.pending ++ [i] }

/-- The security core's watchdog runs: from each release of D2, and nothing disables it (R103). -/
def State.secCounts (s : State) : Bool := s.up .d2 && s.crs.secCount != 0

/-- The control cluster's watchdog runs: enabled, and not paused in DIM (R103, R106). -/
def State.ctlCounts (s : State) : Bool :=
  s.up .d5 && bit (s.reg .crsWdtCtlCtrl) 0 && !s.crs.dim && s.crs.ctlCount != 0

/-- The Tinder ROM waits, in the recovery service or halted, and kicks the watchdog once in 8,388,608 CLK_D cycles (R181,
R183).
Marks: log 53 (DEDUCED). -/
def State.romKicks (s : State) : Bool :=
  (s.boot.stage == 6 || s.boot.stage == 7) && 0x800000 ≤ (s.reg .crsWdtSecLoad).toNat - s.crs.secCount

/-- A cycle of the security core's watchdog: on reaching zero it asserts WDT_SEC.
Marks: log 1 (DESIGN CHOICE). -/
def State.secTick (s : State) : State :=
  if s.secCounts then
    let t := s.onCrs fun c => { c with secCount := c.secCount - 1 }
    if t.romKicks then t.secKick else if s.crs.secCount = 1 then t.raise .wdtSec else t
  else s

/-- A cycle of the control cluster's watchdog: on reaching zero it asserts WDT_CTL.
Marks: log 1 (DESIGN CHOICE). -/
def State.ctlTick (s : State) : State :=
  if s.ctlCounts then
    let t := s.onCrs fun c => { c with ctlCount := c.ctlCount - 1 }
    if s.crs.ctlCount = 1 then t.raise .wdtCtl else t
  else s

/-- A CLK_D cycle of the gate budget, which counts CLK_A cycles, 16 to a CLK_D cycle (R87, R448, R450).
Marks: log 1 (DESIGN CHOICE). -/
def State.gateTick (s : State) : State :=
  let b := s.prt.gate.budget
  if s.prt.gate.active && b != 0 then
    let t := s.onPrt fun p => { p with gate := { p.gate with budget := b - 16 } }
    if b ≤ 16 then t.raise .gateBudgetExpire else t
  else s

/-- The cycle counts for neither availability counter: it falls in the POR episode, or in an excluded episode before the
release of D4 (R544). -/
def State.availExcluded (s : State) : Bool :=
  match s.crs.ep with
  | none => false
  | some e => e.rank == 5 || (e.excluded && (e.retire || !s.up .d4))

/-- The conditions under which a cycle counts as down (R544). -/
def State.availDown (s : State) : Bool :=
  (!s.sme.tapUp && !s.crs.dim) || !s.kfb.up || bit (s.reg .cntCtrl) 0 ||
    (List.range 8).any fun p => (s.port p).faulted || s.portFrozen p

/-- A cycle of the availability counters (R544).
Marks: log 1 (DESIGN CHOICE). -/
def State.availTick (s : State) : State :=
  if s.availExcluded then s
  else
    { s with fncCore :=
        { s.fncCore with oper := s.fncCore.oper + 1, down := s.fncCore.down + if s.availDown then 1 else 0 } }

/-- The cycles since the release of D1, from which the frames of the fence gate are counted (R532).
Marks: log 1 (DESIGN CHOICE). -/
def State.gateCycle (s : State) : State :=
  if s.up .d1 then { s with fnc := { s.fnc with cycles := s.fnc.cycles + 1 } } else s

/-- The counters that a CLK_D cycle moves, the narrower reset source first where both watchdogs reach zero (R100, R103).
Marks: log 1 (DESIGN CHOICE). -/
def State.counted (s : State) : State := s.gateCycle.availTick.gateTick.ctlTick.secTick

/-- What waits goes on: the units that wait for the memory port, and the resident firmware.
Marks: log 1 (DESIGN CHOICE). -/
def State.goesOn (s : State) : State := s.mpGoOn.firmwareGoesOn.updGoOn

/-- One CLK_D cycle in which no command waits.
Marks: log 1 (DESIGN CHOICE). -/
def State.tick (s : State) : State :=
  let s : State := { s with outs := [] }
  s.counted.goesOn

end Sys2Proof.Machine
end

