-- ==== Sys2Proof/Machine/Step.lean ====
section
/-!
DEFINITION. Machine/Step.lean: one step of the block: the command at the front of the queue, or, where none waits, one
CLK_D cycle.
-/
namespace Sys2Proof.Machine

/-- A step: the command at the front of the queue is carried out; on an empty queue a CLK_D cycle passes.
Marks: log 1 (DESIGN CHOICE). -/
def step (s : State) : Host.Outcome State Fault Refusal :=
  match s.pending with
  | [] => .next s.tick
  | i :: rest => exec i { s with pending := rest }

/-- The command that a word of the opcode table spells, put at the front of the queue; the table gives no row any bits, so
no word spells one.
Marks: log 54 (DESIGN CHOICE). -/
def State.withFetchWord (s : State) (nbits w : Nat) : State :=
  match Sys2Proof.decodeTableWord nbits w with
  | none => s
  | some i => { s with pending := i :: s.pending }

end Sys2Proof.Machine
end

