-- ==== Sys2Proof/Safety.lean ====
section
/-!
DEFINITION. Safety.lean: what every state of a run keeps, in the terms that the statements use.
-/
namespace Sys2Proof.Machine

/-- The state with nothing driven outward: what a command works on (`ran`, `ranIf`). -/
def State.quiet (s : State) : State := { s with outs := [] }

/-- A Kiln command written as `w` begins at once, in the state `u`, after the events that came before it (R306): D2 serves, no
command runs or waits, the Kiln is not halted, no event of those is left or holds it up, and `w` sets no reserved bit. -/
def State.klnTakes (s u : State) (w : Word) : Prop :=
  s.serves .d2 = true ∧ s.klnBusy = false ∧ s.kln.wait = none ∧ u = s.quiet.klnTurn ∧ u.kln.halted = false ∧
    u.klnHeld = false ∧ u.kln.queue = [] ∧ rsvSet .klnCmd w = false

/-- Every owner bit of a confluence record and the EQUAL bit of each required stream is set (R16, R302). -/
def KRecord.full (r : KRecord) : Prop :=
  (∀ x ∈ r.streams, x.equal = true) ∧ ∀ o < 16, r.mask.getLsbD o = true → ∃ h ∈ r.shares, h.owner = o

/-- Slot `i` holds no key. -/
def State.keyless (s : State) (i : SlotIx) : Prop := (s.slot i).key = 0 ∧ (s.slot i).valid = false

/-- A Kiln command has ended with `c`, or ends with it once no revoke of it waits for room (R334). -/
def State.klnEnds (s : State) (c : Code) : Prop :=
  s.klnWaits = false ∧ s.kln.code = c ∨ s.klnWaits = true ∧ s.kln.owed = some c

/-- A key-fabric command written as `w` is taken up: D4 serves, fewer than 32 commands are in flight, and `w` sets no reserved
bit. -/
def State.kfbTakes (s : State) (w : Word) : Prop :=
  s.serves .d4 = true ∧ s.kfbFull = false ∧ rsvSet .kfbCmd w = false

/-- A command of block `b` of the SME written as `w` is taken up: D3 serves, the block's RESULT.BUSY reads 0, the SME runs no
command of the other block, and `w` sets no reserved bit. -/
def State.smeTakes (s : State) (b : Blk) (w : Word) : Prop :=
  s.d3Serves = true ∧ s.smeBusy b = false ∧ s.sme.run = none ∧ rsvSet .smeCmd w = false

/-- Requester `q` may run a command written as `w` on digest context `c`: D3 serves, it holds the context, no command of the
context runs, its GEN is named, and `w` sets no reserved bit. -/
def State.holdsCtx (s : State) (q : Req) (c : Nat) (w : Word) : Prop :=
  s.d3Serves = true ∧ dgeId q = some (s.ctx c).holder.toNat ∧ (s.ctx c).st = .held ∧ (s.ctx c).run = none ∧
    s.ctxStale c w = false ∧ ctxRsv w = false

/-- A command of the partition manager written as `w` is taken up: D2 and D4 serve, no SCRUB_REGION runs, and `w` sets no
reserved bit. -/
def State.prtTakes (s : State) (w : Word) : Prop :=
  s.serves .d2 = true ∧ s.up .d4 = true ∧ s.prtBusy = false ∧ rsvSet .prtCmd w = false

/-- The SPDM responder reads the bytes `r`, outside sessions or in session `ss`, as the request `m` that the row of code and
opcode `k` serves: the main firmware serves and no answer of it waits for a signature, the comparator is free for the tag of
a record, the record opens, the version is right, and a vendor is named for a vendor-defined request. -/
def State.spdmReads (s : State) (ss : Option Word) (r m : Bytes) (k : Byte × Byte) : Prop :=
  s.mainServes = true ∧ s.signing = false ∧ ((ss.bind s.spdmSession).isSome = true → s.cmpReady = true) ∧
    s.opened ss r = some m ∧ s.requestKind m = some k ∧ m.headD 0 = requestVersion m ∧ (k.1 = 0xFE → s.vendorOn = true)

/-- The state once the bytes of a request have been looked at: the comparator has compared the tag of a record, and found it
equal or not. -/
def State.tagged (s : State) (ss : Option Word) (ok : Bool) : State :=
  if (ss.bind s.spdmSession).isSome then s.quiet.cmpTurn ok else s.quiet

/-- The state once a request of code `c` has been read: its record counts, and the transcripts that it ends begin anew. -/
def State.heard (s : State) (ss : Option Word) (c : Byte) : State := ((s.tagged ss true).countRecord ss).transcripts ss c

/-- A request that goes in or out of sessions may come: in one, its handshake is over; outside, the negotiation is. -/
def State.spdmOpen (s : State) (ss : Option Word) : Prop :=
  match ss.bind s.spdmSession with
  | none => 3 ≤ s.fw.conn
  | some x => x.established = true

/-- The arguments of a vendor-defined request are `n` bytes, of which those from `used` on are 0. -/
def argsFit (m : Bytes) (n used : Nat) : Prop :=
  (vendorArgs m).length = n ∧ ((vendorArgs m).drop used).any (fun b => b != 0) = false

/-- A memory in canonical form: addresses strictly rise, and no entry equals `d`, which an unlisted address reads as. -/
abbrev Memory.wf (d : Byte) (m : Sparse Byte) : Prop := Sparse.wf d m = true

/-- The private SRAM, the control SRAM and the NVM are in canonical form. -/
def State.memWf (s : State) : Prop := Memory.wf 0 s.psram ∧ Memory.wf 0 s.csram ∧ Memory.wf 0xFF s.nvm

/-- The test access port selects a private debug register only while DEBUG_OPEN reads 1 (R78, R162). -/
def State.debugShut (s : State) : Prop :=
  match s.tapReg with
  | .debug _ => s.lcs.debugOpen = true
  | _ => True

/-- An episode of COLD or POWER reach runs. -/
def State.coldReach (s : State) : Bool := s.crs.ep.any fun e => decide (4 ≤ e.rank)

/-- Observation is shut while confidential work is recorded: DEBUG_OPEN reads 0 while CONF_CLOSED reads 1, and the test access
port selects no private debug register (R161 to R163). -/
def State.gateShut (s : State) : Prop := s.debugShut ∧ (s.lcs.confClosed = true → s.lcs.debugOpen = false)

end Sys2Proof.Machine
end

