-- ==== Sys2Proof/Certificates/Slice0/Obligations.lean ====
section
/-!
DEFINITION. Certificates/Slice0/Obligations.lean: the statements for the provers. `s.quiet` is `s` with nothing driven outward
yet; a statement that gives the next state as an equation over `s.quiet` states its frame with it: whatever the equation does
not name is unchanged, memory and every register included.
-/
open Sys2Proof Sys2Proof.Machine

/-- A step carries out the command at the front of the queue. For every command and state, a step of the state with
that command at the front of its queue is exec of the command on the state with the rest of the queue. -/
def Obligations.StepRunsTheFrontCommand : Prop :=
  ∀ (i : Instr) (rest : List Instr) (s : State),
    step { s with pending := i :: rest } = exec i { s with pending := rest }

/-- Every command and every step answers a next state. For every command and every state, exec answers a next state,
and so does a step: none stops in a fault or a refusal. That every row of the table has a meaning in every state is
the model's own promise; an event that is not due leaves the state as it is, with nothing driven outward (log entry
40). -/
def Obligations.NoCommandIsRefused : Prop :=
  (∀ (i : Instr) (s : State), ∃ t, exec i s = .next t) ∧ ∀ s : State, ∃ t, step s = .next t

/-- The watchdogs count one cycle a step, assert their source at zero, and reload on their kick. A step with an empty
queue moves the counters by one CLK_D cycle, after which what waits goes on (that it is one cycle is the model's
choice, log entry 1); u is the state in between. While D2 is released and the security core's watchdog is above zero,
it counts down by one, except that the Tinder ROM, waiting in the recovery service or halted, reloads it once
8,388,608 cycles have been counted (R181, R183; log entry 53); on reaching zero the event WDT_SEC waits in the queue.
The watchdog of the control cluster counts the same way while D5 is released, ENABLE is 1 and the block is not in DIM;
otherwise it holds its value and asserts nothing. Where both reach zero in one cycle, both events wait, WDT_CTL first
(R100). With 0xA5 in bits 7 to 0, a kick of the released security core's watchdog sets its counter to its LOAD
register, and so does a kick of the control cluster's by the security core or by a core not in gate mode while D5
serves; with another byte the counters stay. A write of CRS_WDT_CTL_CTRL stores ENABLE, and a change from 0 to 1
reloads the counter. COMPLETION: under the conditions stated on state and operands alone, exec answers a next state
for wdtSecKick, wdtCtlKick, wdtCtlEnable. -/
def Obligations.WatchdogsCountAndReload : Prop :=
  (∀ s : State, s.pending = [] → step s = .next s.quiet.counted.goesOn ∧
    (let u := s.quiet.counted
    let load := (s.reg .crsWdtSecLoad).toNat
    let kicks := (s.boot.stage = 6 ∨ s.boot.stage = 7) ∧ 0x800000 ≤ load - (s.crs.secCount - 1)
    let secEnds := s.up .d2 = true ∧ s.crs.secCount = 1 ∧ ¬ kicks
    let ctlRuns := s.up .d5 = true ∧ bit (s.reg .crsWdtCtlCtrl) 0 = true ∧ s.crs.dim = false
    u.crs.secCount =
      (if s.up .d2 = true ∧ s.crs.secCount ≠ 0 then if kicks then load else s.crs.secCount - 1 else s.crs.secCount) ∧
    u.crs.ctlCount = (if ctlRuns then s.crs.ctlCount - 1 else s.crs.ctlCount) ∧
    (.wdtSec ∈ u.pending ↔ secEnds) ∧ (.wdtCtl ∈ u.pending ↔ ctlRuns ∧ s.crs.ctlCount = 1) ∧
    (secEnds → ctlRuns → s.crs.ctlCount = 1 → [Instr.wdtCtl, .wdtSec] <:+ u.pending) ∧ u.mrs = s.mrs ∧ u.regs = s.regs ∧
    u.psram = s.psram ∧ u.csram = s.csram)) ∧
  ((∀ (w : Word) (s : State), s.serves .d2 = true → exec (.wdtSecKick w) s = .next
      (if w.extractLsb' 0 8 = 0xA5#8 then s.quiet.onCrs fun c => { c with secCount := (s.reg .crsWdtSecLoad).toNat }
      else s.quiet)) ∧
    (∀ (q : Req) (w : Word) (s : State), s.gateCore q = false → (q == .sec || s.cluster q) = true → s.serves .d5 = true →
      exec (.wdtCtlKick q w) s = .next
        (if w.extractLsb' 0 8 = 0xA5#8 then s.quiet.onCrs fun c => { c with ctlCount := (s.reg .crsWdtCtlLoad).toNat }
        else s.quiet)) ∧
    ∀ (w : Word) (s : State), s.serves .d5 = true → exec (.wdtCtlEnable w) s = .next
      (if bit w 0 = true ∧ bit (s.reg .crsWdtCtlCtrl) 0 = false then
        (s.quiet.setReg .crsWdtCtlCtrl (w &&& 1)).onCrs fun c =>
          { c with ctlCount := (s.reg .crsWdtCtlLoad).toNat }
      else s.quiet.setReg .crsWdtCtlCtrl (w &&& 1)))

/-- A register command to a unit whose domain does not serve completes with BUSY and has no effect. For every
register-started command named here, whatever its operands: in a state whose domain is held in reset, or has its
intake stopped by a BLOCK command, a command of D1, D2, D4 or D6 completes with BUSY and nothing else changes. The
commands of D3 (SME, SME_COMMIT, RES_POP, CMP and DGE) by a requester other than the control port, and those of D5, do
the same while their domain is held, is stopped or is in DIM, and in DIM they also end it with trigger 4 (R105). -/
def Obligations.HeldUnitsAnswerBusy : Prop :=
  ∀ (w : Word) (v : Nat) (k : Fin 3) (cw : Bool) (a : BitVec 8) (b : Blk) (e : MemErr) (c : Fin 4) (s : State),
    (s.serves .d1 = false → ∀ i ∈ [Instr.otpRead w, .otpProgram w v, .otpFinalise w, .otpAdvance w v, .otpRedirect w v,
        .genRootHalf w v, .lcTransition w v, .eraseDone w, .openDebug w, .go w, .holdRelease w, .crsCommit w, .swWarm w,
        .swCold w, .blockCmd w, .dimEnter w cw, .dimExit w, .fncCommit w, .fncHealthPop],
      exec i s = .next (s.quiet.emit (.code .busy))) ∧
    (s.serves .d2 = false → ∀ i ∈ [Instr.formRoot w, .klnDerive w e, .sessionOpen w, .klnDestroy w e, .destroyPartition w,
        .klnUnwrap w e, .klnUnseal w e, .klnSeal w e, .jobCreate w, .jobDestroy w, .saltLoad w, .klnTamperClear w a,
        .wdtSecKick w, .prtCommit w e, .jobRecord w e, .jobForget w e, .gateEnter w e, .gateExit w, .gateYield w,
        .prtQuarantine w e, .prtRelease w e, .scrubRegion w e, .scrubDone w e, .scrubOrphans w e, .ecVerify b w,
        .mldsaVerify b w, .hybVerify b w, .hybSign .s w e, .hybSign .c w e, .pkePubkey .s w e, .pkePubkey .c w e,
        .ecdhKeygen b w, .ecdhDerive b w, .kemKeygen b w, .kemDecaps b w, .kemEncaps b w, .platformReport b w,
        .jobReport b w, .signBind b w, .certRead b w, .attComposite b w, .pkeAbandon w, .attCommit w, .handoverSet w,
        .handoverClear w, .mainReady w, .bootMainStart w, .bootLockWrite k w],
      exec i s = .next (s.quiet.emit (.code .busy))) ∧
    (s.serves .d4 = false → ∀ i ∈ [Instr.kfbLoad w e, .kfbRotate w, .kfbZeroise w, .kfbRevoke w, .kfbBind w, .kfbRelease w,
        .kfbDonePop, .kfbNextPop, .cntConfigure w, .cntRead w, .cntAdvance w, .cntRetire w, .cntExhPop],
      exec i s = .next (s.quiet.emit (.code .busy))) ∧
    (s.serves .d6 = false → ∀ i ∈ [Instr.cwyCopy w, .nvmErase w, .nvmProgram w, .nvmVerify w, .mbxRingdb w, .mbxHostReset w],
      exec i s = .next (s.quiet.emit (.code .busy))) ∧
    (s.serves .d3 = false → ∀ q : Req, isIcp q = false → ∀ i ∈ [Instr.smeOpen b w, .smeAbort b w, .smeStatus b w e,
        .expWrite b w e, .expClear b w, .expRead b w e, .mrExtend b w, .mrAssign b w, .mrRead b w e, .smePurge b w,
        .smeCommit w, .resPop b, .cmpCompare b w, .dgeForceAbandon w, .dgeAcquireReq q w, .dgeAcquireWithdraw q w,
        .dgeUpdate q c w e, .dgeFinal q c w e, .dgeAbandon q c w],
      exec i s = .next ((s.quiet.dimEnd 4).emit (.code .busy))) ∧
    (s.serves .d5 = false → ∀ q : Req, s.gateCore q = false → (q == .sec || s.cluster q) = true →
      ∀ i ∈ [Instr.wdtCtlKick q w, .wdtCtlEnable w], exec i s = .next ((s.quiet.dimEnd 4).emit (.code .busy))) ∧
    (s.crs.dim = false → s.quiet.dimEnd 4 = s.quiet) ∧
    (s.crs.dim = true → (s.quiet.dimEnd 4).crs.dim = false ∧ (s.quiet.dimEnd 4).crs.dimExit = 4)

/-- Pins, watchdogs and a lost write-back act as reset sources; sources deassert and the host die follows. A filtered
low on WARM_N, where that source is not asserted yet and the PLL has locked, is a source of class WARM; COLD_N of
class COLD; the security core's watchdog, while D2 is released, of class COLD; the control cluster's, while D5 is
released, its watchdog enabled and the block not in DIM, of class CONTROL; and so is an uncorrectable error in a dirty
line, which also raises a health entry with unit 7. State.act carries out R93. An asserted pulse source deasserts and
leaves the episode otherwise as it is. While step 7 waits, its end puts D4 into reset. While GO is set and an enabled
host-die domain is held, no fault of the strap stands and no episode reaches the host die, HOST_DOMAIN_RELEASE
releases the lowest such domain and nothing else. While FENCE_TRIP is held, the end of its hold deasserts it.
COMPLETION: under the conditions stated on state and operands alone, exec answers a next state for coldNAct, warmNAct,
sourceDeassert, d4ResetEntry, hostDomainRelease, wdtSec, wdtCtl, writebackUncorr, fenceTripHoldEnd. -/
def Obligations.ResetSourcesActAndDeassert : Prop :=
  ((∀ s : State, s.crs.pllLock = true → s.asserts .warmN = false →
      exec .warmNAct s = .next (s.quiet.act .warmN 3 [.d2, .d3, .d4, .d5, .d6])) ∧
    (∀ s : State, s.crs.pllLock = true → s.asserts .coldN = false →
      exec .coldNAct s = .next (s.quiet.act .coldN 4 [.d1, .d2, .d3, .d4, .d5, .d6])) ∧
    (∀ s : State, s.up .d2 = true →
      exec .wdtSec s =
        .next ((s.quiet.onCrs fun c => { c with secCount := 0 }).act .wdtSec 4 [.d1, .d2, .d3, .d4, .d5, .d6])) ∧
    (∀ s : State, s.up .d5 = true → bit (s.reg .crsWdtCtlCtrl) 0 = true → s.crs.dim = false →
      exec .wdtCtl s = .next ((s.quiet.onCrs fun c => { c with ctlCount := 0 }).act .wdtCtl 2 [.d5, .d6])) ∧
    ∀ s : State, s.up .d5 = true →
      exec .writebackUncorr s = .next ((s.quiet.health 7 .integrity).act .wdtCtl 2 [.d5, .d6])) ∧
  ((∀ (s : State) (x : Source), s.asserts x = true → x ≠ .fenceTrip → x ≠ .por →
      exec (.sourceDeassert x) s = .next (s.quiet.onCrs fun c =>
        { c with ep := c.ep.map fun e => { e with asserted := e.asserted.filter fun y => y != x } })) ∧
    (∀ s : State, (s.crs.ep.any fun e => e.retire) = true → ∃ t, exec .d4ResetEntry s = .next t ∧ t.up .d4 = false ∧
      (t.crs.ep.any fun e => e.retire) = false) ∧
    (∀ (s : State) (n : Nat), s.crs.go = true → s.crs.strap.fault = false →
      (s.crs.ep.any fun e => e.sdFrom.isSome) = false → n < 24 → s.crs.enable.getLsbD n = true →
      s.crs.sd.getLsbD n = false → (∀ m < n, s.crs.enable.getLsbD m = true → s.crs.sd.getLsbD m = true) →
      exec .hostDomainRelease s = .next (s.quiet.onCrs fun c => { c with sd := c.sd ||| (1#24 <<< n) })) ∧
    ∀ s : State, s.fncCore.holding = true → exec .fenceTripHoldEnd s =
      .next (State.deassert { s.quiet with fncCore := { s.fncCore with holding := false } } .fenceTrip))

/-- CRS_SW_RESET and CRS_BLOCK_CMD act only under their key. A write of CRS_SW_RESET, sent as SW_WARM or as SW_COLD,
does the same. While D1 serves, with KEY 0xC4 in bits 31 to 24 it acts as SW_COLD if KIND is 1, else as SW_WARM with
CONTROL reach if SCOPE is 1, else as SW_WARM with WARM reach. With another key nothing changes, and the same holds of
CRS_BLOCK_CMD. No requester but the security core is granted a write of either register. COMPLETION: under the
conditions stated on state and operands alone, exec answers a next state for swWarm, swCold, blockCmd. -/
def Obligations.SoftwareResetNeedsItsKey : Prop :=
  (∀ (w : Word) (s : State), exec (.swWarm w) s = exec (.swCold w) s) ∧
    (∀ (w : Word) (s : State), s.serves .d1 = true → w.extractLsb' 24 8 = 0xC4#8 → exec (.swCold w) s =
      .next
        (if w.getLsbD 0 then s.quiet.act .swCold 4 [.d1, .d2, .d3, .d4, .d5, .d6]
        else if w.getLsbD 1 then s.quiet.act .swWarm 2 [.d5, .d6]
        else s.quiet.act .swWarm 3 [.d2, .d3, .d4, .d5, .d6])) ∧
    (∀ (w : Word) (s : State), s.serves .d1 = true → w.extractLsb' 24 8 ≠ 0xC4#8 →
      exec (.swCold w) s = .next s.quiet ∧ exec (.blockCmd w) s = .next s.quiet) ∧
    ∀ (s : State) (q : Req), q ≠ .sec →
      s.grant q true ⟨.crsSwReset, 0, 0⟩ = false ∧ s.grant q true ⟨.crsBlockCmd, 0, 0⟩ = false

/-- POR, the PLL and the strap: what each event of a power-on leaves. POR_N falling starts a POWER episode with the
PLL unlocked; rising starts the PLL and deasserts POR unless a reset of D0 asserts it. A reset of D0 clears the peat
store and asserts POR. Lock ends the locking and calls for the strap; a failed attempt is counted, and the fourth ends
the locking. Eight equal readings latch their code; the first three sets that disagree are only counted; the fourth
latches a fault with role 3, no role (its code is a free value). COMPLETION: under the conditions stated on state and
operands alone, exec answers a next state for porNFall, porNRise, d0Reset, pllLock, pllLockTimeout, strapLatch. -/
def Obligations.PowerOnResetRunsToTheStrapLatch : Prop :=
  (∀ s : State, s.crs.porLow = false → ∃ t, exec .porNFall s = .next t ∧ t.crs.porLow = true ∧ t.crs.pllLock = false ∧
      t.crs.locking = false ∧ t.crs.cause = .por) ∧
    (∀ s : State, s.crs.porLow = true → ∃ t, exec .porNRise s = .next t ∧ t.crs.porLow = false ∧ t.crs.locking = true ∧
      t.crs.pllTries = 0 ∧ (s.crs.d0Por = false → t.asserts .por = false)) ∧
    (∀ s : State, ∃ t, exec .d0Reset s = .next t ∧ t.peat = {} ∧ t.crs.d0Por = true ∧ t.crs.pllLock = false ∧
      t.crs.cause = .por) ∧
    (∀ s : State, s.crs.locking = true → exec .pllLock s =
      .next (s.quiet.onCrs fun c => { c with locking := false, pllLock := true, strapped := false, strapSets := 0 })) ∧
    (∀ s : State, s.crs.locking = true → exec .pllLockTimeout s =
      .next (s.quiet.onCrs fun c => { c with pllTries := c.pllTries + 1, locking := decide (c.pllTries < 3) })) ∧
    (∀ (s : State) (k : BitVec 4), s.crs.pllLock = true → s.crs.strapped = false →
      exec (.strapLatch (List.replicate 8 k)) s =
        .next (s.quiet.onCrs fun c => { c with strap := strapOf k, strapped := true })) ∧
    ∀ (s : State) (l : List (BitVec 4)), s.crs.pllLock = true → s.crs.strapped = false → l.length = 8 →
      (∃ k ∈ l, k ≠ l.headD 0) → ∃ t, exec (.strapLatch l) s = .next t ∧
        (s.crs.strapSets < 3 → t = s.quiet.onCrs fun c => { c with strapSets := c.strapSets + 1 }) ∧
        (3 ≤ s.crs.strapSets → t.crs.strapped = true ∧ t.crs.strap.fault = true ∧ t.crs.strap.role = 3)

/-- An episode releases the lowest domain of its reach that is held, and only once every source has deasserted. If an
episode has a domain to release next, then no source is asserted, the PLL has locked and the strap is latched, the
domain is in the episode's reach and held, and every domain before it in the order D1 to D6 that is in the reach has
been released. D2 is released only after the OTP start-up read, and D4 only once it no longer awaits the retire
revoke. DOMAIN_RELEASE then completes, and the domain is released; without a domain to release, the event has no
effect (log entry 40). COMPLETION: under the conditions stated on state and operands alone, exec answers a next state
for domainRelease. -/
def Obligations.DomainsAreReleasedInTheFixedOrder : Prop :=
  (∀ (s : State) (d : Dom), s.nextRelease = some d → ∃ e, s.crs.ep = some e ∧ e.asserted = [] ∧ s.crs.pllLock = true ∧
      s.crs.strapped = true ∧ d ∈ e.doms ∧ s.up d = false ∧ (d = .d2 → s.otp.startupDone = true) ∧
      (d = .d4 → e.retire = false) ∧
      ∀ b ∈ releaseOrder.takeWhile fun x => x != d, b ∈ e.doms → s.up b = true) ∧
    (∀ (s : State) (d : Dom), s.nextRelease = some d → ∃ t, exec .domainRelease s = .next t ∧ t.up d = true) ∧
    ∀ s : State, s.nextRelease = none → exec .domainRelease s = .next s.quiet

/-- The recorded cause is the source of the widest class, the last of that class, and the reach is the union. A source
that joins an episode and is not POR takes over the recorded cause exactly if no wider class has acted before it; the
recorded class is the wider of the two, the reach holds both reaches, one more acting event is counted, and no release
is left begun. A POR begins a new episode with POR as its cause. -/
def Obligations.ResetCauseIsTheWidestLastSource : Prop :=
  (∀ (e : Episode) (x : Source) (r : Nat) (doms : List Dom), r < 5 →
    let f := Episode.after (some e) x r doms
    f.cause = (if e.causeRank ≤ r then x else e.cause) ∧ f.causeRank = max e.causeRank r ∧ f.rank = max e.rank r ∧
      (∀ d, d ∈ f.doms ↔ d ∈ e.doms ∨ d ∈ doms) ∧ x ∈ f.asserted ∧ (∀ y ∈ e.asserted, y ∈ f.asserted) ∧
      f.acts = e.acts + 1 ∧ f.releasing = false) ∧
    ∀ (old : Option Episode) (doms : List Dom), (Episode.after old .por 5 doms).cause = .por ∧
      (Episode.after old .por 5 doms).acts = 1

/-- GO, HOLD_RELEASE, the commit of the gaps, the BLOCK command, and the entry and exit of DIM. While D1 serves, a
write of 1 to GO sets GO and one to HOLD_RELEASE releases the pads. A commit of gaps that all lie between 64 and
4,096, while no host-die domain is due, takes over the staged gaps and the enable mask with DONE, and one with a gap
outside takes over nothing and records BAD_LENGTH. A keyed BLOCK command, while none is pending, makes its domain
pending; with a reserved bit written it only records DENIED_ATTR. A sample that finds the pending domain held or not
idle records BUSY and ends the command; one that finds it released and idle asserts BLOCK for that domain alone. While
D1 serves, a write of ENTER without EXIT, with D3 and D5 released and idle, sets IN_DIM with DONE, lowers TAP_UP and
moves the operating point as the fence does in DIM; otherwise it records BUSY and nothing else changes. In DIM, a
write of EXIT ends it with trigger 5: the clocks run, TAP_UP rises with 32 credits on each tap, the control cluster's
watchdog reloads and the planned point is restored. Out of DIM, EXIT changes nothing. COMPLETION: under the conditions
stated on state and operands alone, exec answers a next state for blockCmd, blockSample, go, holdRelease, crsCommit,
dimEnter, dimExit. -/
def Obligations.CrsCommandsAndDimTakeEffect : Prop :=
  ((∀ (w : Word) (s : State), s.serves .d1 = true → bit w 0 = true →
    exec (.go w) s = .next (s.quiet.onCrs fun c => { c with go := true })) ∧
    (∀ (w : Word) (s : State), s.serves .d1 = true → bit w 0 = true →
      exec (.holdRelease w) s = .next (s.quiet.onCrs fun c => { c with padReleased := true })) ∧
    (∀ (w : Word) (s : State), s.serves .d1 = true → bit w 0 = true → s.nextHost = none →
      (∀ g ∈ s.stagedGaps, 64 ≤ g.toNat ∧ g.toNat ≤ 4096) → exec (.crsCommit w) s =
        .next (s.quiet.onCrs fun c =>
          { c with gaps := s.stagedGaps, enable := fld (s.reg .crsSdEnable) 0 24, commitCode := .done })) ∧
    (∀ (w : Word) (s : State), s.serves .d1 = true → bit w 0 = true → s.nextHost = none →
      (∃ g ∈ s.stagedGaps, g.toNat < 64 ∨ 4096 < g.toNat) → exec (.crsCommit w) s =
        .next (s.quiet.onCrs fun c => { c with commitCode := .badLength })) ∧
    (∀ (w : Word) (s : State), s.serves .d1 = true → keyed w = true → s.crs.blockPending = none → exec (.blockCmd w) s =
      .next (s.quiet.onCrs fun c =>
        if w.extractLsb' 2 22 = 0 then { c with blockPending := some (blockDom w), blockOn := false }
        else { c with blockCode := .deniedAttr })) ∧
    (∀ (cw : Bool) (s : State) (d : Dom), s.crs.blockPending = some d → s.crs.blockOn = false →
      (s.up d && s.idle d cw) = false → exec (.blockSample cw) s =
        .next (s.quiet.onCrs fun c => { c with blockPending := none, blockCode := .busy })) ∧
    ∀ (cw : Bool) (s : State) (d : Dom), s.crs.blockPending = some d → s.crs.blockOn = false →
      s.up d = true → s.idle d cw = true → exec (.blockSample cw) s =
        .next ((s.quiet.onCrs fun c => { c with blockOn := true }).act .block 1 [d])) ∧
  ((∀ (w : Word) (cw : Bool) (s : State), s.serves .d1 = true → bit w 0 = true → bit w 1 = false →
      (s.up .d3 && s.up .d5 && s.idle .d3 cw && s.idle .d5 cw) = true → exec (.dimEnter w cw) s =
        .next (State.takePoint
          { (s.quiet.onCrs fun c => { c with dim := true, dimCode := .done }) with
            sme := { s.sme with tapUp := false } })) ∧
    (∀ (w : Word) (cw : Bool) (s : State), s.serves .d1 = true → bit w 0 = true → bit w 1 = false →
      (s.up .d3 && s.up .d5 && s.idle .d3 cw && s.idle .d5 cw) = false →
        exec (.dimEnter w cw) s = .next (s.quiet.onCrs fun c => { c with dimCode := .busy })) ∧
    (∀ (w : Word) (s : State), s.serves .d1 = true → bit w 1 = true → s.crs.dim = true → ∃ t, exec (.dimExit w) s = .next t ∧
      t.crs.dim = false ∧ t.crs.dimExit = 5 ∧ t.crs.ctlCount = (s.reg .crsWdtCtlLoad).toNat ∧ t.sme.tapUp = true ∧
      .tapCredits 32 ∈ t.outs) ∧
    ∀ (w : Word) (s : State), s.serves .d1 = true → s.crs.dim = false → exec (.dimExit w) s = .next s.quiet)

/-- READ and ADVANCE of the OTP complete, and programming of a finalised region is refused. With D1 serving, the path
free and no reserved bit written: READ of an allowed row, in any state but ASH and INVALID, puts the row as the
reference reads it in OTP_RDATA with DONE. PROGRAM of a row whose region is open, and that loses no 1, starts the path
on that row; REDIRECT of a row below 0x350 with a spare row free starts it on the lowest free spare, with the row's
data as it reads (a root-half row's spare stays blank; log entry 47, DEDUCED), and then its entry; ADVANCE of counter
0 to 4 to a target the counter can hold, its rows contiguous, starts it on the marginal and the missing bits. While D1
serves, whatever else holds, a PROGRAM in a state other than RAW, TEST and STOCK, of a row of a finalised region, or
with a 0 over a bit that reads 1, completes without DONE, starts no pulse and changes no cell. COMPLETION: under the
conditions stated on state and operands alone, exec answers a next state for otpRead, otpProgram, otpAdvance,
otpRedirect. -/
def Obligations.OtpCommandsCompleteOrAreRefused : Prop :=
  ((∀ (w : Word) (s : State), s.serves .d1 = true → s.otpBusy = false → rsvSet .otpCmd w = false → s.lcs.state ≠ .ash →
    s.lcs.state ≠ .invalid →
      s.otp.readForbidden s.otpRowOp = false → s.otpRef ≠ 3 → exec (.otpRead w) s =
        .next (s.quiet.onOtp fun o =>
          { o with
            code := .done
            burned := 0
            rdata :=
              if s.otpRef = 0 then (o.readRow s.otpRowOp).nrm
              else if s.otpRef = 1 then (o.readRow s.otpRowOp).m0 else (o.readRow s.otpRowOp).m1 })) ∧
    (∀ (w : Word) (v : Nat) (s : State), s.serves .d1 = true → s.otpBusy = false → rsvSet .otpCmd w = false →
      early s.lcs.state = true →
      programForbidden s.otpRowOp = false → s.otp.rowFinal s.otpRowOp = false →
      (s.otp.sense s.otpRowOp).nrm &&& ~~~ s.otpData = 0 →
        exec (.otpProgram w v) s = .next (s.quiet.burn .program [s.otp.burnOf (s.otpRowOp, s.otpData)] v)) ∧
    (∀ (w : Word) (v i : Nat) (s : State), s.serves .d1 = true → s.otpBusy = false → rsvSet .otpCmd w = false →
      early s.lcs.state = true →
      s.otpRowOp < 0x350 → s.otp.freeSpare = some i → exec (.otpRedirect w v) s =
        .next (s.quiet.burn .redirect
          [⟨0x400 + i, if s.otpRowOp ∈ [0x080, 0x081, 0x082, 0x083, 0x088] then 0 else (s.otp.sense s.otpRowOp).nrm,
            BitVec.allOnes 64⟩, ⟨0x410 + i, entryWord s.otpRowOp, BitVec.allOnes 64⟩] v)) ∧
    ∀ (w : Word) (v : Nat) (s : State), s.serves .d1 = true → s.otpBusy = false → rsvSet .otpCmd w = false →
      (early s.lcs.state = true ∨ s.lcs.state = .field) → s.otpCounter ≤ 4 →
      s.otpTarget ≤ 64 * (counterRows s.otpCounter).length →
      counterContiguous ((counterRows s.otpCounter).map s.otp.sense) = true → exec (.otpAdvance w v) s =
        .next (s.quiet.burn .advance (s.otp.advanceBurns s.otpCounter s.otpTarget) v)) ∧
  (∀ (w : Word) (v : Nat) (s : State), s.serves .d1 = true →
    (early s.lcs.state = false ∨ s.otp.rowFinal s.otpRowOp = true ∨ (s.otp.sense s.otpRowOp).nrm &&& ~~~ s.otpData ≠ 0) →
    ∃ t, exec (.otpProgram w v) s = .next t ∧ t.otp.code ≠ .done ∧ t.otp.cells = s.otp.cells ∧ t.otp.run = s.otp.run)

/-- The start-up read, FINALISE, GEN_ROOT_HALF, and the ends of a pulse and of a check. The start-up read of a
released D1 that has not had one completes: it is done and the state is that of the LC rows. FINALISE of an open
region and GEN_ROOT_HALF in STOCK with blank root rows start; with the TRNG's health test failed, GEN_ROOT_HALF ends
with INTEGRITY and draws nothing (R490). While a pulse runs, its end moves the path on as the reading of its bit and
VQPS say: a bit that still reads 0 at MARGIN_1 gets up to three further pulses while VQPS is in its window, then
PROGRAM ends with INTEGRITY, and outside the window with ABORTED. While a row's read runs, the path goes on from it:
PROGRAM of a row that reads its data at every reference ends with DONE and the bits it burned, and of one that does
not with INTEGRITY. While the checks of FINALISE run, a refusal they find ends the command with its code and burns
nothing; with none, the rows of the digest are burned, but where VQPS has left its window by the cycle before the
first pulse that they need, the command ends with ABORTED and burns nothing. COMPLETION: under the conditions stated
on state and operands alone, exec answers a next state for otpStartupDone, otpFinalise, genRootHalf, otpPulseEnd,
otpCheckDone. -/
def Obligations.OtpPathBurnsBitByBit : Prop :=
  (∀ (drift : List (Nat × Row3)) (s : State), s.up .d1 = true → s.otp.startupDone = false →
      ∃ t, exec (.otpStartupDone drift) s = .next t ∧ t.otp.startupDone = true ∧
        t.lcs.state = lcDecode ((s.otp.drift drift).startupRead.snapRow)) ∧
    (∀ (w : Word) (s : State), s.serves .d1 = true → s.otpBusy = false → rsvSet .otpCmd w = false → early s.lcs.state = true →
      ((finalIndex s.otpRegion).any fun f => !s.otp.finalised f) = true → exec (.otpFinalise w) s =
        .next (s.quiet.onOtp fun o => { o with
          run := some ⟨.finalise s.otpRegion, [], .checks, 0, false⟩ })) ∧
    (∀ (w : Word) (v : Nat) (s : State), s.serves .d1 = true → s.otpBusy = false → rsvSet .otpCmd w = false →
      s.lcs.state = .stock →
      (∀ n ∈ [0x080, 0x081, 0x082, 0x083, 0x088], rowBlank (s.otp.sense n) = true) → exec (.genRootHalf w v) s =
        .next (if s.trng.fail = true then s.quiet.onOtp fun o => { o with code := .integrity, burned := 0 } else
          (s.quiet.drew 32).burn (.rootHalf ((List.range 4).map s.rootWord))
          (((List.range 4).map s.rootWord).zipIdx.map fun e => s.otp.burnOf (0x080 + e.2, e.1)) v)) ∧
    (∀ (m0 n m1 : Bool) (v i k : Nat) (s : State) (r : OtpRun), s.otp.run = some r → r.phase = .pulse i k →
      exec (.otpPulseEnd m0 n m1 v) s =
        .next ((s.quiet.pathTo (s.otp.pulseEnd r i k m0 n m1 v)).afterPath v r.job)) ∧
    (∀ (v later : Nat) (s : State) (r : OtpRun), s.otp.run = some r → r.phase = .rowCheck →
      exec (.otpCheckDone v later) s = .next ((s.quiet.pathTo (s.otp.rowChecked r v)).afterPath v r.job)) ∧
    (∀ (m0 n : Bool) (v i k : Nat) (s : State) (b : Burn) (r : OtpRun), s.otp.run = some r → r.phase = .pulse i k →
      r.todo = [b] → r.job = .program → Sparse.wf ({} : Row3) s.otp.cells = true →
      (s.otp.cell b.row).m1.getLsbD i = false → ∃ t, exec (.otpPulseEnd m0 n false v) s = .next t ∧
        if 3 ≤ k then t.otp.run = none ∧ t.otp.code = .integrity ∧ t.otp.burned = r.burned
        else if vqpsInWindow v = true then t.otp.run = some { r with phase := .pulse i (k + 1) } ∧ t.otp.code = s.otp.code
        else t.otp.run = none ∧ t.otp.code = .aborted ∧ t.otp.burned = r.burned) ∧
    (∀ (v later : Nat) (s : State) (b : Burn) (r : OtpRun), s.otp.run = some r → r.phase = .rowCheck → r.todo = [b] →
      r.job = .program → ∃ t, exec (.otpCheckDone v later) s = .next t ∧ t.otp.run = none ∧ t.otp.burned = r.burned ∧
        t.otp.cells = s.otp.cells ∧ t.otp.code =
          if (s.otp.cell b.row).m0 = b.data ∧ (s.otp.cell b.row).nrm = b.data ∧ (s.otp.cell b.row).m1 = b.data then .done
          else .integrity) ∧
    ∀ (v later k : Nat) (s : State) (r : OtpRun), s.otp.run = some r → r.phase = .checks → r.job = .finalise k →
      (∀ c, lowest (s.otp.finRefusals k v) = some c →
        ∃ t, exec (.otpCheckDone v later) s = .next t ∧ t.otp.code = c ∧ t.otp.run = none ∧ t.otp.cells = s.otp.cells) ∧
      (lowest (s.otp.finRefusals k v) = none →
        let todo := (s.otp.digestRows k).map s.otp.burnOf
        exec (.otpCheckDone v later) s =
          .next (s.quiet.pathTo (s.otp.goOn { r with todo := todo, first := false } later)) ∧
        ((∃ b ∈ todo, s.otp.pulseBits b ≠ 0) → vqpsInWindow later = false → ∃ t,
          exec (.otpCheckDone v later) s = .next t ∧ t.otp.code = .aborted ∧ t.otp.burned = r.burned ∧ t.otp.run = none ∧
          t.otp.cells = s.otp.cells))

/-- A programming pulse never returns a bit of the array to 0. After OTP_PULSE_END and OTP_CHECK_DONE, every bit of
every row that read 1 at a reference reads 1 at it again. -/
def Obligations.PulsesOnlySetBits : Prop :=
  ∀ (i : Instr) (s t : State), ((∃ m0 n m1 v, i = .otpPulseEnd m0 n m1 v) ∨ ∃ v w, i = .otpCheckDone v w) →
    Sparse.wf ({} : Row3) s.otp.cells = true → exec i s = .next t → ∀ n : Nat,
      (s.otp.cell n).m0 &&& ~~~ (t.otp.cell n).m0 = 0 ∧ (s.otp.cell n).nrm &&& ~~~ (t.otp.cell n).nrm = 0 ∧
        (s.otp.cell n).m1 &&& ~~~ (t.otp.cell n).m1 = 0

/-- A life-cycle transition runs on its token only, and its phases in their order. While D1 serves and with none of
the refusals of step 1, TRANSITION compares the SHA3-384 of the 32 token bytes with the shadow of the target's slot.
Equal, the transition runs and every working key is destroyed; not equal, one more failure is counted, up to 4,
NOT_EQUAL stands in LCS_RESULT and nothing else changes. With no OPEN_DEBUG running: the end of the key destruction
leads to the root action for the targets TEST, RETURN and ASH, else to the reading; the root action of TEST ends the
transition with INTEGRITY while the TRNG has failed (R490); else it fills the peat store with 32 bytes of the TRNG and
their complement for TEST, zeroes it for RETURN and ASH, and leads to AWAIT_ERASE with DONE recorded for RETURN, else
to the reading; the reading leads to the charge pump; the pump's end starts the burn of the copies of R142; and the
check after the burn records DONE or INTEGRITY and ends the phase. ERASE_DONE in FIELD at AWAIT_ERASE, with the path
free, leads to the reading. COMPLETION: under the conditions stated on state and operands alone, exec answers a next
state for lcTransition, lcsPhaseDone, eraseDone. -/
def Obligations.TransitionsRunOnTheirTokenInOrder : Prop :=
  (∀ (w : Word) (v : Nat) (s : State), s.serves .d1 = true → lowest (s.transitionRefusals w v) = none →
    exec (.lcTransition w v) s =
    .next
      (if sha3_384 (s.regBytes .lcsToken 0 8) = s.otp.shadowBytes (tokenRow s.lcTarget) 6 then s.quiet.transitionRuns
      else s.quiet.onLcs fun l => { l with fails := min 4 (l.fails + 1), resCode := .notEqual })) ∧
  ((∀ (v : Nat) (s : State), s.lcs.opening = false → s.lcs.phase = .destroying → exec (.lcsPhaseDone v) s =
      .next (s.quiet.onLcs fun l =>
        { l with phase := if l.target = .test ∨ l.target = .ret ∨ l.target = .ash then .rootAction else .reading })) ∧
    (∀ (v : Nat) (s : State), s.lcs.opening = false → s.lcs.phase = .rootAction → s.lcs.target = .test → s.trng.fail = true →
      exec (.lcsPhaseDone v) s = .next (s.quiet.lcEnd .integrity 0)) ∧
    (∀ (v : Nat) (s : State), s.lcs.opening = false → s.lcs.phase = .rootAction →
      ¬ (s.lcs.target = .test ∧ s.trng.fail = true) → ∃ t, exec (.lcsPhaseDone v) s = .next t ∧
      (s.lcs.target = .test → t.peat.secret = keyOf (s.draw 32) ∧ t.peat.secretN = ~~~keyOf (s.draw 32)) ∧
      t.lcs.phase = (if s.lcs.target = .ret then .awaitErase else .reading) ∧
      (s.lcs.target = .ret → t.lcs.resCode = .done) ∧
      (s.lcs.target = .ret ∨ s.lcs.target = .ash → t.peat.secret = 0 ∧ t.peat.secretN = 0)) ∧
    (∀ (v : Nat) (s : State), s.lcs.opening = false → s.lcs.phase = .reading →
      exec (.lcsPhaseDone v) s = .next (s.quiet.onLcs fun l => { l with phase := .pump })) ∧
    (∀ (v : Nat) (s : State), s.lcs.opening = false → s.lcs.phase = .pump → exec (.lcsPhaseDone v) s =
      .next
        ((s.quiet.onLcs fun l => { l with phase := .programming }).pathTo (s.otp.goOn
          ⟨.lcCopies, (copyRows s.lcs.target).map s.otp.burnOf, .rowCheck, 0, s.lcs.eraseDone⟩ v))) ∧
    (∀ (v : Nat) (s : State), s.lcs.opening = false → s.lcs.phase = .decoding → exec (.lcsPhaseDone v) s =
      .next (s.quiet.lcEnd (if lcDecode s.otp.sense = s.lcs.target then .done else .integrity) s.lcs.burned)) ∧
    ∀ (w : Word) (s : State), s.serves .d1 = true → s.lcs.state = .field → s.lcs.phase = .awaitErase → rsvSet .lcsCmd w = false →
      s.otp.run = none → s.otp.startupDone = true →
        exec (.eraseDone w) s = .next (s.quiet.onLcs fun l => { l with phase := .reading, eraseDone := true }))

/-- No transition out of ASH or INVALID, none backwards, and none after four failed tokens. While D1 serves, in ASH
and INVALID, with four failures counted, and for every target that is not the next state or ASH, TRANSITION completes
without starting: LCS_RESULT does not read DONE and no phase, key or cell changes. COMPLETION: under the conditions
stated on state and operands alone, exec answers a next state for lcTransition. -/
def Obligations.LifeCycleOnlyMovesForward : Prop :=
  ∀ (w : Word) (v : Nat) (s : State), s.serves .d1 = true →
    (s.lcs.state = .ash ∨ s.lcs.state = .invalid ∨ 4 ≤ s.lcs.fails ∨
      (s.lcTarget ≠ 5 ∧ s.lcTarget ≠ s.lcs.state.code + 1)) →
    ∃ t, exec (.lcTransition w v) s = .next t ∧ t.lcs.resCode ≠ .done ∧ t.lcs.phase = s.lcs.phase ∧ t.kst = s.kst ∧
      t.otp.cells = s.otp.cells

/-- OPEN_DEBUG destroys the keys first, the gate opens later, and private instructions need it open. In TEST or
RETURN, with the path free, no confidential mode and no reserved bit, OPEN_DEBUG starts to destroy every working key
and opens nothing yet; DEBUG_GATE_OPEN then sets DEBUG_OPEN with DONE, or refuses with DENIED_ATTR if confidential
mode has closed it meanwhile (its phase in between is log entry 47, DEDUCED). In any other state OPEN_DEBUG starts
nothing. While D1 runs, a JTAG instruction shifted in from Test-Logic-Reset or Run-Test/Idle is taken in Update-IR,
leaves the controller in Run-Test/Idle, and selects IDCODE for 0x01, a private register for 0x10 to 0x1F while
DEBUG_OPEN is set, and BYPASS else; while D1 holds the port in reset it does nothing. TRST_N selects IDCODE in
Test-Logic-Reset (the controller's states are log entry 104, DEDUCED). COMPLETION: under the conditions stated on
state and operands alone, exec answers a next state for openDebug, jtagInstruction, debugGateOpen, trstNAssert. -/
def Obligations.DebugGateOpensInTestAndReturnOnly : Prop :=
  (∀ (w : Word) (s : State), s.serves .d1 = true → (s.lcs.state = .test ∨ s.lcs.state = .ret) → s.lcs.confClosed = false →
      s.lcsBusy = false → s.otp.run = none → s.otp.startupDone = true → rsvSet .lcsCmd w = false →
      exec (.openDebug w) s =
        .next (s.quiet.onLcs fun l => { l with phase := .destroying, opening := true }).destroyWorking) ∧
    (∀ (w : Word) (s : State), s.serves .d1 = true → s.lcs.state ≠ .test → s.lcs.state ≠ .ret → ∃ t,
      exec (.openDebug w) s = .next t ∧
      t.lcs.resCode ≠ .done ∧ t.lcs.opening = s.lcs.opening ∧ t.lcs.debugOpen = s.lcs.debugOpen) ∧
    (∀ s : State, s.lcs.opening = true → ∃ t, exec .debugGateOpen s = .next t ∧ t.lcs.opening = false ∧
      t.lcs.phase = .idle ∧ t.lcs.debugOpen = (s.lcs.debugOpen || !s.lcs.confClosed) ∧
      t.lcs.resCode = if s.lcs.confClosed then .deniedAttr else .done) ∧
    (∀ (ir : BitVec 8) (s : State), (s.up .d1 = false → exec (.jtagInstruction ir) s = .next s.quiet) ∧
      (s.up .d1 = true → (s.tap.ctl = .testLogicReset ∨ s.tap.ctl = .runTestIdle) → ∃ t,
        exec (.jtagInstruction ir) s = .next t ∧ t = { s.quiet with tap := t.tap, outs := t.outs } ∧ t.tap.ir = ir ∧
        t.tap.ctl = .runTestIdle ∧ t.tapReg = if ir = 1#8 then .idcode
          else if 0x10 ≤ ir.toNat ∧ ir.toNat ≤ 0x1F ∧ s.lcs.debugOpen = true then .debug ir else .bypass)) ∧
    ∀ s : State, ∃ t, exec .trstNAssert s = .next t ∧ t.tapReg = .idcode ∧ t.tap.ctl = .testLogicReset

/-- An accepted DERIVE writes the KDF of its parent; Kiln commands take turns with events; what a slot's read finds. A
Kiln command begins in the state left by the events before it (R306). While an event holds the Kiln up the command
waits; while another command runs or waits it answers BUSY, and once the Kiln is halted ABORTED (log entries 73, 90,
DEDUCED). A DERIVE that begins at v reads its parent's slot, which leaves u; one that no case of R287 refuses at u
leaves the destination slot with KDF(parent, label, ATTR and C) under the attribute word of the child, GEN one above
its old value, the lineage of the parent, and a fresh integrity code; KLN_RESULT reads DONE and KLN_CTX is clear.
Nothing else of u changes. A read of a sound slot changes nothing, and counts a corrected word (R278); one that meets
an uncorrectable word marks the slot unusable, counts and reports it (R284; log entry 44, DEDUCED), and a DERIVE from
that slot writes no key and does not answer DONE. COMPLETION: under the conditions stated on state and operands alone,
exec answers a next state for klnDerive. -/
def Obligations.DeriveWritesTheKdfOfItsParent : Prop :=
  (∀ (w : Word) (e : MemErr) (s v u : State), s.klnTakes v w → u = v.readParent e → lowest u.deriveRefusals = none →
    exec (.klnDerive w e) s = .next
      (let a := childAttr (u.reg .klnOpAttr) u.kln.root
      let p := u.slot u.parentIx
      let key := if u.fromRoot then u.kln.rootKey else keyBytes p.key
      let c := (u.regBytes .klnCtx 0 16).take (fldN (u.reg .klnOpCtxlen) 0 7)
      let b := attrWithGen a ((u.slot u.klnSlot).gen + 1)
      let k := keyOf (kdf key (usageName (fld a 1 4)) (leBytes 4 a.toNat ++ c))
      ((u.setSlot u.klnSlot
        { key := k, attr := b, crc := slotCrc u.klnSlot b k, lineage := if u.fromRoot then 0x7F else p.lineage }).onKln
          fun n => { n with code := .done, owed := none }).clearReg .klnCtx)) ∧
  (∀ v : State, v.kln.halted = false → v.klnBusy = false →
    (∀ e, v.fromRoot = true → v.readParent e = v) ∧
      ∀ e, v.fromRoot = false → v.readParent e = v.fetchSlot v.parentIx e) ∧
  (∀ (w : Word) (s v : State), s.klnTakes v w → v.fromRoot = false → Sparse.wf ({} : Slot) v.kst.slots = true →
    ∃ t, exec (.klnDerive w .uncorr) s = .next t ∧ t.kln.code ≠ .done ∧ ∀ j : SlotIx, (t.slot j).key = (v.slot j).key) ∧
  (∀ (v : State) (i : SlotIx), v.slotUnusable i = false → Sparse.wf ({} : Slot) v.kst.slots = true →
    v.fetchSlot i .none = v ∧
    v.fetchSlot i .corrected = (v.onKst fun k => { k with cntCorrected := tally k.cntCorrected }) ∧
    (let t := v.fetchSlot i .uncorr
    t.slotUnusable i = true ∧ (t.slot i).key = (v.slot i).key ∧ (∀ j, j ≠ i → t.slot j = v.slot j) ∧
      t.kst.cntIntegrity = tally v.kst.cntIntegrity ∧ t.kln.intIntegrity = true ∧ t.fnc.healthUnits.getLsbD 2 = true)) ∧
  ∀ (w : Word) (e : MemErr) (s u : State), s.serves .d2 = true → u = s.quiet.klnTurn →
    ∀ x ∈ [(0x1, MemErr.none, Instr.formRoot w), (0x2, e, .klnDerive w e), (0x3, .none, .sessionOpen w),
        (0x4, e, .klnUnwrap w e), (0x5, e, .klnUnseal w e), (0x6, e, .klnSeal w e), (0x7, e, .klnDestroy w e),
        (0x8, .none, .destroyPartition w), (0x9, .none, .jobCreate w), (0xA, .none, .jobDestroy w), (0xB, .none, .saltLoad w)],
      (u.kln.halted = false → s.klnBusy = false → s.kln.wait = none → (u.klnHeld = true ∨ u.kln.queue ≠ []) →
        exec x.2.2 s = .next (u.onKln fun k => { k with wait := some ⟨x.1, w, x.2.1⟩ })) ∧
      (s.kln.halted = false → (s.klnBusy = true ∨ s.kln.wait ≠ none) →
        exec x.2.2 s = .next ((s.quiet.onKln fun k => { k with code := .busy }).clearReg .klnCtx)) ∧
      (s.kln.halted = true → exec x.2.2 s = .next (s.quiet.klnDone .aborted))

/-- DERIVE, SESSION_OPEN, JOB_CREATE and DESTROY of a slot below 16 change no slot. u is the state in which a Kiln
command begins, after the events that R306 puts before it. Taken up at u and with no lower refusal code applying (a
root set, D4 released), DERIVE, SESSION_OPEN, JOB_CREATE and DESTROY whose slot is below 16, and an UNWRAP of a SHARE
with KLN_OP_SLOT below 16 or of a LOAD, PROVISION or PERSIST with TARGET_SLOT below 16, complete with DENIED_ATTR and
change no key, attribute, code or lineage of u, whatever their reads find. COMPLETION: under the conditions stated on
state and operands alone, exec answers a next state for klnUnwrap. -/
def Obligations.KilnSlotsBelowSixteenAreItsOwn : Prop :=
  ∀ (w : Word) (e : MemErr) (s u : State), s.klnTakes u w → u.rootless = false → u.up .d4 = true →
    Sparse.wf ({} : Slot) u.kst.slots = true →
    (u.klnSlot.toNat < 16 → ∀ i ∈ [Instr.klnDerive w e, .sessionOpen w, .jobCreate w, .klnDestroy w e],
      ∃ t, exec i s = .next t ∧ t.kln.code = .deniedAttr ∧ ∀ j : SlotIx, (t.slot j).key = (u.slot j).key ∧
        (t.slot j).attr = (u.slot j).attr ∧ (t.slot j).crc = (u.slot j).crc ∧ (t.slot j).lineage = (u.slot j).lineage) ∧
    ((psramRange u.klnAddr u.klnLen = true → (u.lcs.state = .stock ∨ u.lcs.state = .field) →
        (u.klnMsg.kind = 3 ∧ u.klnSlot.toNat < 16 ∨ u.klnMsg.kind ∈ [1, 2, 4] ∧ u.klnMsg.target < 16) →
      ∃ t, exec (.klnUnwrap w e) s = .next t ∧ t.kln.code = .deniedAttr ∧ ∀ j : SlotIx, (t.slot j).key = (u.slot j).key ∧
        (t.slot j).attr = (u.slot j).attr ∧ (t.slot j).crc = (u.slot j).crc ∧ (t.slot j).lineage = (u.slot j).lineage))

/-- SESSION_OPEN, UNWRAP, UNSEAL and SEAL that nothing refuses take effect. u is the state in which a Kiln command
begins, after the events that R306 puts before it. While D2 serves, taken up and refused by nothing (UNWRAP, UNSEAL
and SEAL in the state that the read of the session's slot leaves): SESSION_OPEN takes both shared secrets from the
PKE, writes the session key of R288 and enters the session; UNWRAP of a LOAD writes its plaintext as a key to its
TARGET_SLOT, after which a replaced slot with ENDPOINT_OK is revoked; UNSEAL writes the plaintext to KLN_OP_DST; SEAL
writes a DATA_OUT message with the session's outbound counter there and advances the counter. An accepted message
advances the inbound counter. COMPLETION: under the conditions stated on state and operands alone, exec answers a next
state for sessionOpen, klnUnwrap, klnUnseal, klnSeal. -/
def Obligations.SessionsCarryMessagesBothWays : Prop :=
  (∀ (w : Word) (s u : State), s.klnTakes u w → lowest u.sessionRefusals = none → ∃ t, exec (.sessionOpen w) s = .next t ∧
      t.kln.code = .done ∧ t.pke.ssEcdh = none ∧ t.pke.ssKem = none ∧
      (t.slot u.klnSlot).key = keyOf (sessionKey (u.pke.ssKem.getD []) (u.pke.ssEcdh.getD [])
        ((u.regBytes .klnCtx 0 16).take 48) (u.reg .klnOpSession) u.klnPart) ∧
      t.kln.sessions = u.kln.sessions ++
        [{ sid := u.reg .klnOpSession, slot := u.klnSlot, gen := (t.slot u.klnSlot).gen, part := u.klnPart }]) ∧
    (∀ (w : Word) (e : MemErr) (s v u : State), s.klnTakes v w → u = v.readMsgSession e →
      lowest (u.msgRefusals false) = none → u.klnMsg.kind = 1 → exec (.klnUnwrap w e) s = .next
        (((u.onSession u.klnMsg.sid fun e => { e with inCtr := u.klnMsg.counter }).putKey u.klnMsg
          (u.plain u.klnMsg)).klnDone .done)) ∧
    (∀ (w : Word) (e : MemErr) (s v u : State), s.klnTakes v w → u = v.readMsgSession e →
      lowest (u.msgRefusals true) = none → exec (.klnUnseal w e) s = .next
      (((u.onSession u.klnMsg.sid fun e => { e with inCtr := u.klnMsg.counter }).psramPut u.klnDst
        (u.plain u.klnMsg)).klnDone .done)) ∧
    ∀ (w : Word) (x : MemErr) (s v u : State) (e : Session), s.klnTakes v w → u = v.readSealSession x →
      lowest u.sealRefusals = none → u.session (u.reg .klnOpSession) = some e → exec (.klnSeal w x) s = .next
        (((u.psramPut u.klnDst (buildMsg (keyBytes (u.slot e.slot).key) 6 e.sid 0 e.outCtr 0 0 e.part.toNat
          u.kln.devid (u.psramBytes u.klnAddr u.klnLen))).onSession e.sid fun e =>
            { e with outCtr := e.outCtr + 1 }).klnDone .done)

/-- DESTROY, DESTROY_PARTITION and JOB_DESTROY leave no key of what they name. u is the state in which a Kiln command
begins, after the events that R306 puts before it. While D2 serves, taken up at u: DESTROY of a VALID slot from 16 on,
named with its GEN or found unusable, zeroes the key, clears VALID and keeps GEN, changes no other slot, and no
session uses the slot any more. DESTROY_PARTITION of a partition p other than 0 leaves no VALID slot of p, no session
of p and no record of p. JOB_DESTROY of a record leaves no key in its joint slot (whatever the record's state: log
entry 81, DEDUCED), in a share slot that still carries the GEN recorded for it, or in a VALID slot of the record's
lineage, changes no other slot, frees the record and keeps every other. Each ends with DONE: at once, or, where a
revoke of it waits for room, as soon as none waits (R334). COMPLETION: under the conditions stated on state and
operands alone, exec answers a next state for klnDestroy, destroyPartition, jobDestroy. -/
def Obligations.DestroyLeavesNoKey : Prop :=
  ∀ (w : Word) (e : MemErr) (s u : State), s.klnTakes u w → Sparse.wf ({} : Slot) u.kst.slots = true →
    (16 ≤ u.klnSlot.toNat → (u.slot u.klnSlot).valid = true →
      ((u.slot u.klnSlot).gen = u.klnSlotGen ∨ u.slotUnusable u.klnSlot = true ∨ e = .uncorr) →
      ∃ t, exec (.klnDestroy w e) s = .next t ∧ t.klnEnds .done ∧ t.keyless u.klnSlot ∧
        (t.slot u.klnSlot).gen = (u.slot u.klnSlot).gen ∧
        (∀ j, j ≠ u.klnSlot → t.slot j = u.slot j) ∧ ∀ e ∈ t.kln.sessions, e.slot ≠ u.klnSlot) ∧
    (u.klnPart ≠ 0 → ∃ t, exec (.destroyPartition w) s = .next t ∧ t.klnEnds .done ∧
        (∀ j : SlotIx, (t.slot j).valid = true → (t.slot j).part ≠ u.klnPart) ∧
        (∀ e ∈ t.kln.sessions, e.part ≠ u.klnPart) ∧ ∀ e ∈ t.kln.recs, ∀ r, e.2 = some r → r.part ≠ u.klnPart) ∧
    ∀ (i : Nat) (r : KRecord), u.record u.klnPart.toNat u.klnJob = some (i, r) →
      Sparse.wf (none : Option KRecord) u.kln.recs = true →
      let mine (h : Share) := h ∈ r.shares ∧ (u.slot h.slot).gen = h.gen
      let ofLine (j : SlotIx) := (u.slot j).lineage.toNat = i ∧ ((u.slot j).valid = true ∨ (u.slot j).unusable = true)
      ∃ t, exec (.jobDestroy w) s = .next t ∧ t.klnEnds .done ∧ t.keyless r.joint ∧ (∀ h, mine h → t.keyless h.slot) ∧
        (∀ j, ofLine j → t.keyless j) ∧
        (∀ j, j ≠ r.joint → (∀ h, mine h → h.slot ≠ j) → ¬ ofLine j → t.slot j = u.slot j) ∧
        Sparse.get none t.kln.recs i = none ∧ ∀ j, j ≠ i → Sparse.get none t.kln.recs j = Sparse.get none u.kln.recs j

/-- FORM_ROOT, JOB_CREATE, SALT_LOAD and the Kiln's events take effect; the last bit of a record forms its joint key.
u is the state in which a Kiln command begins, after the events that R306 puts before it. While D2 serves, taken up at
u: the first FORM_ROOT below stage 5 without a root to select completes with DONE and no root, and with one derives
slots 0 and 1 and waits for the PKE; an accepted JOB_CREATE makes a COLLECTING record in the lowest free entry (which
one is the model's choice, log entry 119); SALT_LOAD of a defined partition while D3 and D4 serve puts the salt of
R310 in the SME. An event that waits while the Kiln is neither halted nor at work leaves the queue. On a COLLECTING
record, a BIND of a required stream takes its generation and entry and clears EQUAL; a TOKEN of the bound generation
sets EQUAL; a FAIL of it makes the record FAILED, and so does a BIND or FAIL of a FORMED record, which also loses its
joint slot and lineage; every other event, and one that names no record or no required stream, is dropped and counted.
Once every share and EQUAL bit is set, sound shares and a joint slot that is free give the joint slot the key of R302
and make the record FORMED, without its share slots; else the record is FAULTED and no key is written. COMPLETION:
under the conditions stated on state and operands alone, exec answers a next state for formRoot, jobCreate, saltLoad,
klnEventApply. -/
def Obligations.KilnRecordsAndSaltsAreMade : Prop :=
  ((∀ (w : Word) (s u : State), s.klnTakes u w → u.kln.formed = false → u.boot.stage < 5 → u.rootSelect = .none →
      exec (.formRoot w) s = .next
        ((u.onKln fun n => { n with formed := true, root := .none, rootKey := [] }).klnDone .done)) ∧
    (∀ (w : Word) (s u : State), s.klnTakes u w → u.kln.formed = false → u.boot.stage < 5 → u.rootSelect ≠ .none →
      ∃ t, exec (.formRoot w) s = .next t ∧ t.kln.formed = true ∧
        t.kln.forming = some (u.rootSelect, u.rootOf u.rootSelect) ∧
        (t.slot 0).key = keyOf (kdf (u.rootOf u.rootSelect) "DEVID" (leBytes 4 (seedAttr u.rootSelect).toNat))) ∧
    (∀ (w : Word) (s u : State) (i : Nat), s.klnTakes u w → lowest u.jobRefusals = none → u.freeRecord = some i →
      exec (.jobCreate w) s = .next ((u.setRecord i (some
        { part := u.klnPart, pgen := u.partGen u.klnPart, job := u.klnJob, mask := fld (u.reg .klnOpMask) 0 16,
          bind := u.regBytes .klnCtx 0 16, joint := u.klnSlot,
          streams := u.jobList.map fun e => { sid := BitVec.ofNat 12 e } })).klnDone .done)) ∧
    ∀ (w : Word) (s u : State), s.klnTakes u w → u.d3Serves = true → u.up .d4 = true → u.rootless = false →
      u.partDefined u.klnPart = true → ∃ t, exec (.saltLoad w) s = .next t ∧ t.kln.code = .done ∧
        t.sme.salts = Sparse.put none u.sme.salts u.klnPart.toNat (some (kdf u.kln.rootKey "SALT"
          (leBytes 1 u.klnPart.toNat ++ leBytes 1 (u.partGen u.klnPart).toNat ++ u.kln.nonce)))) ∧
  (∀ (s : State) (e : SmeEvent) (l : List SmeEvent), s.kln.queue = e :: l → s.kln.halted = false → s.klnHeld = false →
    let u := s.quiet.onKln fun k => { k with queue := l }
    let drop := u.onKln fun k => { k with cntDrop := tally k.cntDrop, intDrop := true }
    (s.record e.part.toNat e.job = none → exec .klnEventApply s = .next drop) ∧
    ∀ (i : Nat) (r : KRecord), s.record e.part.toNat e.job = some (i, r) →
      ((∀ x ∈ r.streams, x.sid ≠ e.sid) → exec .klnEventApply s = .next drop) ∧
      ∀ x, (r.streams.find? fun y => y.sid == e.sid) = some x →
        let current := (x.bound.map fun b => b.1) = some e.gen
        let put (y : ReqStream) : KRecord :=
          { r with streams := r.streams.map fun z => if z.sid == y.sid then y else z }
        (r.state = .collecting → e.kind = .bind → exec .klnEventApply s = .next
          (u.setRecord i (some (put { x with bound := some (e.gen, e.entry), equal := false })))) ∧
        (r.state = .collecting → e.kind = .token → current → ¬ (put { x with equal := true }).full →
          exec .klnEventApply s = .next (u.setRecord i (some (put { x with equal := true })))) ∧
        (r.state = .collecting → e.kind = .token → current → (put { x with equal := true }).full →
          exec .klnEventApply s = .next ((u.setRecord i (some (put { x with equal := true }))).formRecord i
            (put { x with equal := true }) .kilnEvt)) ∧
        (r.state = .collecting → e.kind ≠ .bind → ¬ current → exec .klnEventApply s = .next drop) ∧
        (r.state = .collecting → e.kind = .fail → current → exec .klnEventApply s = .next (u.failRecord i r .kilnEvt)) ∧
        (r.state = .formed → e.kind ≠ .token → exec .klnEventApply s = .next (u.failRecord i r .kilnEvt)) ∧
        ((r.state = .formed ∧ e.kind = .token ∨ r.state = .failed ∨ r.state = .faulted) →
          exec .klnEventApply s = .next drop)) ∧
  (∀ (s : State) (i : Nat) (r : KRecord) (src : EmberSrc), Sparse.wf ({} : Slot) s.kst.slots = true →
    Sparse.wf (none : Option KRecord) s.kln.recs = true →
    let t := s.failRecord i r src
    Sparse.get none t.kln.recs i = some { r with state := .failed } ∧ t.kln.intFailed = true ∧
      (∀ h ∈ r.shares, (s.slot h.slot).gen = h.gen → t.keyless h.slot) ∧
      (r.state = .formed → t.keyless r.joint ∧
        ∀ j : SlotIx, (s.slot j).lineage.toNat = i → (s.slot j).valid = true → t.keyless j)) ∧
  ∀ (s : State) (i : Nat) (r : KRecord) (src : EmberSrc), Sparse.wf ({} : Slot) s.kst.slots = true →
    Sparse.wf (none : Option KRecord) s.kln.recs = true →
    let t := s.formRecord i r src
    let sound := (∀ h ∈ r.shares, s.slotUnusable h.slot = false ∧ (s.slot h.slot).valid = true ∧
        (s.slot h.slot).usage = usageShare ∧ (s.slot h.slot).part = r.part ∧ (s.slot h.slot).gen = h.gen ∧
        h.slot ≠ r.joint) ∧
      (s.slot r.joint).valid = false ∧ s.slotUnusable r.joint = false
    (sound → Sparse.get none t.kln.recs i = some { r with state := .formed } ∧ t.kln.intFormed = true ∧
      (t.slot r.joint).key = keyOf (s.jointKey r) ∧ (t.slot r.joint).usage = usageJoint ∧
      (t.slot r.joint).part = r.part ∧ (t.slot r.joint).deriveOk = true ∧
      (t.slot r.joint).lineage = BitVec.ofNat 7 i ∧ ∀ h ∈ r.shares, t.keyless h.slot) ∧
    (((s.slot r.joint).valid = true ∨ ∃ h ∈ r.shares, (s.slot h.slot).valid = false ∨ (s.slot h.slot).gen ≠ h.gen) →
      Sparse.get none t.kln.recs i = some { r with state := .faulted } ∧ t.kln.intFailed = true ∧
      ∀ j : SlotIx, (t.slot j).key = (s.slot j).key ∨ t.keyless j)

/-- No step clears FAILED from a record but one that frees it, and none makes a record FORMED before all its bits are
set. For every state whose record table is in canonical form, a step leaves it in canonical form, and a record that is
FAILED is afterwards the same record, FAILED still, or no record at all: no share, token, resend or other command or
event clears FAILED, and a key can come only from a new record. And a record that is FORMED after the step was FORMED
before it, or holds a share of every owner of its mask and the EQUAL bit of every required stream. -/
def Obligations.FailedRecordsStayFailed : Prop :=
  ∀ s t : State, Sparse.wf (none : Option KRecord) s.kln.recs = true → step s = .next t →
    Sparse.wf (none : Option KRecord) t.kln.recs = true ∧
    (∀ (i : Nat) (r : KRecord), Sparse.get none s.kln.recs i = some r →
      r.state = .failed → Sparse.get none t.kln.recs i = none ∨ Sparse.get none t.kln.recs i = some r) ∧
    ∀ (i : Nat) (r : KRecord), Sparse.get none t.kln.recs i = some r → r.state = .formed →
      r.full ∨ ∃ q, Sparse.get none s.kln.recs i = some q ∧ q.state = .formed

/-- A tamper input zeroes the peat store, the root and every key slot, and begins a COLD episode. From every state, a
tamper input completes: the peat store reads zero, LATCH is set, its bit of INPUTS is set and EVENTS counts it; a COLD
or POWER episode runs; no root, root key, boot nonce, device ID digest or key slot is left; every internal domain but
D4 is in reset. While D2 serves, KLN_TAMPER_CLEAR with its key and no input active clears LATCH and INPUTS with DONE
and keeps EVENTS; with an input active it records BUSY and keeps them; with another key it does nothing. COMPLETION:
under the conditions stated on state and operands alone, exec answers a next state for tamperInput, klnTamperClear. -/
def Obligations.TamperClearsTheSecretAndHaltsTheKiln : Prop :=
  (∀ (i : Fin 8) (s : State), ∃ t, exec (.tamperInput i) s = .next t ∧ t.peat.secret = 0 ∧ t.peat.secretN = 0 ∧
      t.peat.latch = true ∧ t.peat.inputs = s.peat.inputs ||| (1#8 <<< i.val) ∧
      t.peat.events = satInc 0xFFFF s.peat.events ∧ t.coldReach = true ∧ t.kln.root = .none ∧ t.kln.rootKey = [] ∧
      t.kln.nonce = [] ∧ t.kln.devid = [] ∧ t.kst.slots = [] ∧ ∀ d ∈ [Dom.d1, .d2, .d3, .d5, .d6], t.up d = false) ∧
    ∀ (w : Word) (active : BitVec 8) (s : State), s.serves .d2 = true → exec (.klnTamperClear w active) s = .next
      (if w.extractLsb' 24 8 ≠ 0xC4#8 then s.quiet
      else if active = 0 then s.quiet.onPeat fun p => { p with active := 0, latch := false, inputs := 0, clearCode := .done }
      else s.quiet.onPeat fun p => { p with active := active, clearCode := .busy })

/-- The Tinder ROM runs once in each release of D2, and the start and the image lock only ever go up. With D2 released
and the ROM not yet run: in ASH or INVALID the ROM halts at stage 7 with code 1, unless its datapath fails first; a
failure at step 1 halts it with the code of BOOT_ABORT (which steps a failure of the datapath can stop is the model's
reading, log 53); in every other state, with D3 to D6 released, it completes and has run. START written at stage 5
sets BOOT_MAIN_START, and nothing but a written 1 at stage 5 does. A write of an image-lock end, once the lock is set,
takes effect exactly where it raises the end within the part's range, and no write lowers one. COMPLETION: under the
conditions stated on state and operands alone, exec answers a next state for tinderBoot, bootMainStart, bootLockWrite.
-/
def Obligations.BootRunsOncePerRelease : Prop :=
  (∀ (a : Option (Fin 27)) (s : State), s.up .d2 = true → s.boot.ran = false →
      (s.lcs.state = .ash ∨ s.lcs.state = .invalid) →
      (a.all fun k => decide (1 < k.val)) = true →
      exec (.tinderBoot a) s = .next (s.quiet.onBoot fun b =>
        { b with ran := true, stage := 7, fail := 1, resCode := .deniedLc, resEntry := none })) ∧
    (∀ (k : Fin 27) (s : State), s.up .d2 = true → s.boot.ran = false →
      (s.lcs.state = .ash ∨ s.lcs.state = .invalid ∨ s.up .d3 = true ∧ s.up .d4 = true ∧ s.up .d5 = true ∧ s.up .d6 = true) →
      k.val ≤ 1 → exec (.tinderBoot (some k)) s = .next (s.quiet.onBoot fun b =>
        { b with ran := true, stage := 7, fail := 0x0E, resCode := .aborted, resEntry := none })) ∧
    (∀ (a : Option (Fin 27)) (s : State), s.up .d2 = true → s.boot.ran = false → s.up .d3 = true → s.up .d4 = true →
      s.up .d5 = true → s.up .d6 = true → s.lcs.state ≠ .ash → s.lcs.state ≠ .invalid →
        ∃ t, exec (.tinderBoot a) s = .next t ∧ t.boot.ran = true ∧ 5 ≤ t.boot.stage) ∧
    (∀ (w : Word) (s : State), s.serves .d2 = true → ∃ t, exec (.bootMainStart w) s = .next t ∧
      t.boot = { s.boot with mainStart := s.boot.mainStart || (bit w 0 && s.boot.stage == 5) }) ∧
    ∀ (k : Fin 3) (w : Word) (s : State), s.serves .d2 = true → s.boot.lockSet = true → ∃ t,
      exec (.bootLockWrite k w) s = .next t ∧
      (let e := (w &&& 0x00FFF000#32).toNat
      t.boot.lockMain = (if k = 0 ∧ s.boot.lockMain < e ∧ e ≤ 0x0C00000 then e else s.boot.lockMain) ∧
        t.boot.lockGate = (if k = 1 ∧ s.boot.lockGate < e ∧ e ≤ 0x0E40000 then e else s.boot.lockGate) ∧
        t.boot.lockSens = if k = 2 ∧ s.boot.lockSens < e ∧ e ≤ 0x0E50000 then e else s.boot.lockSens)

/-- A fabric command sends one message, or is refused and leaves the fabric as it was. Taken up and refused by
nothing, each records DONE with a ticket, which waits for every endpoint addressed, and changes nothing but what is
named here and what the read of the slot counts. LOAD advances the key generation of the endpoint or group and queues
the slot's key under its tag; a slot that its read finds unusable refuses it. The lowest free ticket is the model's
choice (log entry 76). ROTATE queues the new END. BIND makes the endpoint PRESENT with the KIND, partition, gate flag
and cell range written and EGEN one higher, and sends it the partition's generation. For each of the six KFB commands,
while D4 serves: with 32 commands in flight the command completes with BUSY and no ticket, and with fewer but a
reserved bit written it completes with a code other than DONE and no ticket; either way the fabric is otherwise
unchanged, ports, queues, table and tickets included, and so is every counter cell. COMPLETION: under the conditions
stated on state and operands alone, exec answers a next state for kfbLoad, kfbRotate, kfbBind. -/
def Obligations.FabricCommandsSendOneMessage : Prop :=
  ((∀ (w : Word) (e : MemErr) (s u : State), u = s.quiet.fetchSlot s.kfbSlot e → s.kfbTakes w → s.kst.block = false →
      (u.slotUnusable s.kfbSlot = false → s.slotStale s.kfbSlot s.kfbSlotGen = false →
        s.loadDenied (s.slot s.kfbSlot) = false → s.anyFaulted (s.loadTargets (s.slot s.kfbSlot).usage) = false →
        exec (.kfbLoad w e) s = .next
          (((u.kfbAccept (s.loadTargets (s.slot s.kfbSlot).usage).length).putKgen s.nextKgen).queueMsg
            (s.loadMsg (s.slot s.kfbSlot) s.nextKgen s.freeTicket))) ∧
      (u.slotUnusable s.kfbSlot = true → ∃ t c, exec (.kfbLoad w e) s = .next t ∧ c ≠ Code.done ∧
        t.kfb = { s.kfb with resCode := c, resTicket := 0 })) ∧
    (∀ (w : Word) (s : State), s.kfbTakes w → s.rotateDenied = false →
      s.anyFaulted (s.addressed s.opDkind s.opDest) = false → exec (.kfbRotate w) s = .next
        ((s.quiet.kfbAccept (s.addressed s.opDkind s.opDest).length).queueMsg
          { typ := tRotate, dkind := s.opDkind, dest := if s.opDkind = 1 then s.opDest &&& 0x3F else s.opDest,
            gen := s.headerGen s.opDkind s.opDest, usage := s.opUsage,
            seq := if s.opDkind = 0 then s.opKgen.setWidth 32 else 0, body := [s.opEnd.setWidth 64 <<< 24],
            eps := s.addressed s.opDkind s.opDest, sent := 0, stamp := 0, ticket := some s.freeTicket })) ∧
    ∀ (w : Word) (s : State), s.kfbTakes w → s.bindDenied = false → s.anyFaulted [s.opDest] = false →
      exec (.kfbBind w) s = .next
        (((s.quiet.kfbAccept 1).setEndpoint s.opDest
          { present := true, kind := s.opUsage, part := s.opBindPart, gate := s.opBindGate,
            egen := (s.endpoint s.opDest).egen + 1, kgen := (s.endpoint s.opDest).kgen,
            cellLo := (s.reg .kfbOpRange).extractLsb' 0 16, cellHi := (s.reg .kfbOpRange).extractLsb' 16 16 }).queueMsg
          { typ := tBind, dkind := 0, dest := s.opDest, gen := (s.endpoint s.opDest).egen + 1, usage := s.opUsage,
            seq := s.opBindPart.setWidth 32 ||| ((s.partGen s.opBindPart).setWidth 32 <<< 6) ||| putB s.opBindGate 14,
            body := [(s.reg .kfbOpRange).setWidth 64], eps := [s.opDest], sent := 0, stamp := 0,
            ticket := some s.freeTicket })) ∧
  (∀ (w : Word) (e : MemErr) (s : State), s.serves .d4 = true →
    ∀ i ∈ [Instr.kfbLoad w e, .kfbRotate w, .kfbZeroise w, .kfbRevoke w, .kfbBind w, .kfbRelease w],
      (s.kfbFull = true → ∃ t, exec i s = .next t ∧ t.cnt = s.cnt ∧
        t.kfb = { s.kfb with resCode := .busy, resTicket := 0 }) ∧
      (rsvSet .kfbCmd w = true → ∃ t c, exec i s = .next t ∧ t.cnt = s.cnt ∧ c ≠ Code.done ∧
        t.kfb = { s.kfb with resCode := c, resTicket := 0 }))

/-- ZEROISE, REVOKE and RELEASE commit an EMBER revoke, and a ZEROISE of all endpoints cancels every queued key. Taken
up, with room in every EMBER queue the revoke needs and refused by nothing, ZEROISE and REVOKE take a ticket and
commit their revoke in its name; RELEASE also clears PRESENT of its endpoint. After a ZEROISE to all endpoints no
port's LOAD or ROTATE queue holds a LOAD or a ROTATE, no endpoint is mirrored to hold a key, and each port's EMBER
queue has gained exactly that beat, not yet sent, and masked if the port has used its 16 EMBER grants of the window.
COMPLETION: under the conditions stated on state and operands alone, exec answers a next state for kfbZeroise,
kfbRevoke, kfbRelease. -/
def Obligations.RevokesAreCommittedAndCancelQueuedKeys : Prop :=
  (∀ (w : Word) (s : State), s.kfbTakes w → s.opDkind ≠ 3 → s.emberRoom s.zeroiseReq = true →
      exec (.kfbZeroise w) s =
        .next ((s.quiet.kfbAccept 1).commitEmber { s.zeroiseReq with owner := .ticket s.freeTicket })) ∧
    (∀ (w : Word) (s : State), s.kfbTakes w → s.emberRoom (revokeSlot s.kfbSlot s.kfbSlotGen .kilnCmd) = true →
      exec (.kfbRevoke w) s = .next ((s.quiet.kfbAccept 1).commitEmber
        { revokeSlot s.kfbSlot s.kfbSlotGen .kilnCmd with owner := .ticket s.freeTicket })) ∧
    (∀ (w : Word) (s : State), s.kfbTakes w → s.opDkind = 0 → (s.endpoint s.opDest).present = true →
      s.emberRoom s.zeroiseReq = true → exec (.kfbRelease w) s = .next
        (((s.quiet.kfbAccept 1).commitEmber
          { typ := tZeroise, dkind := 0, dest := s.opDest, slot := 0, sgen := 0, owner := .ticket s.freeTicket,
            src := .kilnCmd }).unbind s.opDest)) ∧
    ∀ (w : Word) (s : State), s.kfbTakes w → s.opDkind = 2 → s.kfb.up = true → s.kfb.ports.length = 8 →
      (∀ p < 8, (s.port p).ember.length < 64) → ∃ t, exec (.kfbZeroise w) s = .next t ∧ t.kfb.resCode = .done ∧
        t.kfb.mirror = [] ∧ ∀ p < 8, (∀ m ∈ (t.port p).load ++ (t.port p).rotate, m.typ ≠ tLoad ∧ m.typ ≠ tRotate) ∧
          (t.port p).ember = (s.port p).ember ++
            [⟨s.kfb.nextId, headerBeat tZeroise 0 2 0 0 0 0, false, decide (16 ≤ (s.port p).used)⟩]

/-- A port sends an EMBER beat first while its window has quota, and acknowledgements end revokes in order. While an
EMBER beat waits unsent and fewer than 16 EMBER grants of the window are used, KF_BEAT_SEND sends an EMBER beat with
its check bits and uses one grant, and revokes that waited for room and a RELEASE that waited go on. A new window of a
port, the PKE, the DGE or the comparator returns its used grants to 0 and changes nothing else. EACK acknowledges the
oldest sent beat of a port that is not FAULTED, and with none sent faults the port; EMBER_TIMEOUT of a sent beat does
too; both flag and report it, and revokes that waited for the room the port leaves are committed. EMBER_LATE of a
revoke not yet late, and not masked on a port that has yet to grant it, counts it and sets its flag. COMPLETION: under
the conditions stated on state and operands alone, exec answers a next state for kfBeatSend, arbiterWindow, eack,
emberLate, emberTimeout. -/
def Obligations.PortsSendEmberFirstAndAcknowledgeInOrder : Prop :=
  (∀ (p : Fin 8) (s : State), (s.port p.val).used < 16 → ((s.port p.val).ember.any fun m => !m.sent) = true →
      exec (.kfBeatSend p) s = .next (s.quiet.sendEmber p.val).drainEmber.prtGoOn ∧
        (s.quiet.sendEmber p.val).kfb.cntEmber = tally s.kfb.cntEmber ∧
        ((s.quiet.sendEmber p.val).port p.val).used = (s.port p.val).used + 1 ∧
        ∃ m ∈ (s.port p.val).ember, m.sent = false ∧ (s.quiet.sendEmber p.val).outs = [downBeat p.val true 0 m.beat]) ∧
    (∀ (a : Arbiter) (s : State), exec (.arbiterWindow a) s = .next
      (match a with
      | .port n => s.quiet.onKfb fun k => { k with ports := k.ports.modify n.val fun q => { q with used := 0 } }
      | .pke => s.quiet.onPke fun p => { p with used := 0 }
      | .dge => s.quiet.onDge fun d => { d with used := 0 }
      | .cmp => s.quiet.onCmp fun m => { m with used := 0 })) ∧
    (∀ (p : Fin 8) (age : Nat) (s : State), s.kfb.up = true → (s.port p.val).faulted = false →
      s.oldestSent p.val = none → exec (.eack p age) s = .next (s.quiet.faultPort p.val).drainEmber.prtGoOn ∧
        (s.quiet.faultPort p.val).kfb.intFault = true ∧ (s.quiet.faultPort p.val).fnc.healthUnits.getLsbD 3 = true) ∧
    (∀ (p : Fin 8) (age : Nat) (s : State) (m : EmberSlot), s.kfb.up = true → (s.port p.val).faulted = false →
      s.oldestSent p.val = some m → exec (.eack p age) s = .next
        (((s.quiet.onPort p.val fun q => { q with
          ember := q.ember.eraseP fun x => x.id == m.id && x.sent }).ackRevoke p.val m.id age).drainEmber).prtGoOn) ∧
    (∀ (p : Fin 8) (s : State), (s.port p.val).faulted = false → (s.oldestSent p.val).isSome = true →
      exec (.emberTimeout p) s = .next (s.quiet.faultPort p.val).drainEmber) ∧
    ∀ (id : Nat) (s : State), (s.kfb.revokes.any fun r => r.id == id && !r.late) = true → s.maskedYet id = false →
      exec (.emberLate id) s = .next
      (s.quiet.onKfb fun k => { k with
        revokes := k.revokes.map fun r => if r.id == id then { r with late := true } else r
        cntLate := tally k.cntLate
        intLate := true })

/-- Upstream beats: a foreign, reserved or unbound source is dropped and counted; else each UTYPE has its effect.
While KF_UP is low a beat does nothing. While it is high, a corrected error is counted (the clauses are about beats
without one), and a beat whose source names another port, has a reserved UTYPE or is not PRESENT is dropped and
counted and does nothing else, as UPSTREAM_DROP is. Otherwise the beat acts by its UTYPE: an ACK that matches an owed
message settles it and returns its credit (the last one of a command posts its completion and sets
KFB_INT_STATUS.DONE), and of a LOAD with DONE mirrors the key at its place; one that matches none, or whose code R13
reserves (log entry 40), is counted as a drop; CNT_REQ joins its port's queue unless its RTAG is outstanding; NEXT_REQ
joins a queue of 64 and sets NEXT; FAULT is counted and flagged. A pop of KFB_DONE_POP or KFB_NEXT_POP while D4 serves
returns the oldest entry and removes it. COMPLETION: under the conditions stated on state and operands alone, exec
answers a next state for kfAck, kfbDonePop, kfbNextPop, upstreamDrop. -/
def Obligations.UpstreamBeatsAreCheckedAndQueued : Prop :=
  (∀ (p : Fin 8) (b : BitVec 64) (s : State), let drop := s.quiet.onKfb fun k => { k with cntUpdrop := tally k.cntUpdrop }
      let u := fldN b 60 4
      ∀ i ∈ [Instr.kfAck p b false, .kfCntReq p b false, .kfNextReq p b false, .kfFault p b false],
        (s.kfb.up = false → exec i s = .next s.quiet ∧ exec (.upstreamDrop p b false) s = .next s.quiet) ∧
        (s.kfb.up = true → (portOf (upEp b) ≠ p.val ∨ u = 0 ∨ 5 ≤ u ∨ (s.endpoint (upEp b)).present = false) →
          exec i s = .next drop ∧ exec (.upstreamDrop p b false) s = .next drop) ∧
        (s.kfb.up = true → s.upDropped p.val b = false →
          (u = 1 → codeOf (fldN b 32 8) = none → exec i s = .next drop) ∧
          (u = 2 → s.rtagOut (upEp b) (bit b 19) = false → exec i s = .next
            ((s.quiet.onCnt fun n => { n with queues := n.queues.modify p.val fun q =>
              q ++ [⟨upEp b, upEgen b, b.extractLsb' 24 16, fldN b 20 4, bit b 19, s.kfb.stamp⟩] }).onKfb fun k =>
                { k with stamp := k.stamp + 1 })) ∧
          (u = 3 → s.kfb.nextQ.length < 64 → exec i s = .next (s.quiet.onKfb fun k =>
            { k with nextQ := k.nextQ ++ [(upEp b, b.extractLsb' 36 4, b.extractLsb' 28 8)], intNext := true })) ∧
          (u = 4 → exec i s = .next (s.quiet.onKfb fun k => { k with
            cntEpfault := tally k.cntEpfault
            cntStale := if fldN b 32 8 = 0xF then tally k.cntStale else k.cntStale
            intFault := true })))) ∧
    (∀ (p : Fin 8) (b : BitVec 64) (c : Code) (s : State), s.kfb.up = true → s.upDropped p.val b = false →
      fldN b 60 4 = 1 → codeOf (fldN b 32 8) = some c → ∃ t, exec (.kfAck p b false) s = .next t ∧
        (match s.kfb.owed.find? fun o => o.ep == upEp b && o.typ.extractLsb' 0 3 == b.extractLsb' 20 3 with
        | none => t = s.quiet.onKfb fun k => { k with cntUpdrop := tally k.cntUpdrop }
        | some o => t.kfb.owed.length + 1 = s.kfb.owed.length ∧ t.kfb.cntUpdrop = s.kfb.cntUpdrop ∧
            (o.typ = tLoad → c = .done → ∃ k ∈ t.kfb.mirror, k.ep = o.ep ∧ k.usage = o.usage ∧ k.other = bit b 23 ∧
              k.kgen = o.kgen ∧ k.slot = o.slot ∧ k.sgen = o.sgen) ∧
            (c ≠ .done → t.kfb.mirror = s.kfb.mirror) ∧
            ∀ x, (s.kfb.tickets.find? fun y => y.id == o.ticket) = some x → x.wait = 1 →
              t.kfb.doneQ = s.kfb.doneQ ++ [(o.ticket, worse x.code c)] ∧ t.kfb.intDone = true)) ∧
    ∀ s : State, s.serves .d4 = true →
      exec .kfbDonePop s = .next ((s.quiet.onKfb fun k => { k with doneQ := k.doneQ.drop 1 }).emit (.read s.donePopWord)) ∧
      exec .kfbNextPop s = .next ((s.quiet.onKfb fun k => { k with nextQ := k.nextQ.drop 1 }).emit (.read s.nextPopWord))

/-- Counter commands wait for their bank, and each bank grants ranges and runs them in order. While D4 serves, each of
the four commands written without a reserved bit, with no counter command waiting, waits as the bank's requester with
the next age and changes nothing else; while one waits, CNT_RESULT reads BUSY and nothing else changes. A read of
CNT_EXH_POP returns the oldest entry and removes it. Where the bank picks a request and nothing refuses it, the cell's
value moves on by the size, the request leaves its queue, and a GRANT with the old value as BASE and code DONE is
queued; refused, the value stays and the GRANT carries the code, and a FAULTED cell stays as it is and is not queued
again (R348). Where it picks a command: READ copies the cell into the read registers; ADVANCE of a cell neither
EXHAUSTED nor FAULTED sets its value to the greater of the two; RETIRE leaves the cell EXHAUSTED; CONFIGURE of such a
cell for a defined partition sets the partition and ENABLE only. Each command records DONE and waits no longer.
COMPLETION: under the conditions stated on state and operands alone, exec answers a next state for cntGrant,
cntConfigure, cntRead, cntAdvance, cntRetire, cntExhPop. -/
def Obligations.CounterBanksQueueAndRunCommands : Prop :=
  (∀ (w : Word) (s : State), s.serves .d4 = true →
    (rsvSet .cntCmd w = false → s.cnt.cmd = none →
      ∀ e ∈ [(Instr.cntConfigure w, CntCmd.configure), (.cntRead w, .read), (.cntAdvance w, .advance),
          (.cntRetire w, .retire)],
        exec e.1 s = .next ((s.quiet.onCnt fun n => { n with cmd := some (e.2, s.kfb.stamp) }).onKfb fun k =>
          { k with stamp := k.stamp + 1 })) ∧
    (s.cnt.cmd.isSome = true → ∀ i ∈ [Instr.cntConfigure w, .cntRead w, .cntAdvance w, .cntRetire w],
      exec i s = .next (s.quiet.onCnt fun n => { n with resCode := .busy })) ∧
    exec .cntExhPop s = .next ((s.quiet.onCnt fun n => { n with exhQ := n.exhQ.drop 1 }).emit (.read s.exhPopWord))) ∧
  ((∀ (b : Fin 16) (s : State) (p : Nat) (r : CntReq), s.bankPick b.val = some (.port p r) →
      s.grantRefusal r .none = none → exec (.cntGrant b .none) s = .next
        ((((s.quiet.onCnt fun n => { n with queues := n.queues.modify p fun q => q.erase r }).setCell r.cell
          { s.cell r.cell with
            value := BitVec.ofNat 64 ((s.cell r.cell).value.toNat + 2 ^ r.size)
            res := ((s.cell r.cell).value.toNat + 2 ^ r.size) % 3 }).onCnt fun n =>
          { n with cntGrants := tally n.cntGrants }).queueMsg (s.grantMsg r .done (s.cell r.cell).value)) ∧
        (s.cell r.cell).value.toNat + 2 ^ r.size < 2 ^ 64) ∧
    (∀ (b : Fin 16) (s : State) (p : Nat) (r : CntReq) (c : Code), s.bankPick b.val = some (.port p r) →
      s.grantRefusal r .none = some c → c ≠ .noResource → c ≠ .integrity → residueBad (s.cell r.cell) r.size = false →
        exec (.cntGrant b .none) s = .next
          (((s.quiet.onCnt fun n => { n with queues := n.queues.modify p fun q => q.erase r }).onCnt fun n =>
            { n with cntDenied := tally n.cntDenied }).queueMsg (s.grantMsg r c 0))) ∧
    (∀ (b : Fin 16) (err : CellErr) (s : State) (p : Nat) (r : CntReq) (c : Code), Sparse.wf ({} : CtrCell) s.cnt.cells = true →
      s.bankPick b.val = some (.port p r) → (s.cell r.cell).faulted = true → s.grantRefusal r err = some c →
        ∃ t, exec (.cntGrant b err) s = .next t ∧ t.cell r.cell = s.cell r.cell ∧ t.cnt.exhQ = s.cnt.exhQ) ∧
    (∀ (b : Fin 16) (s : State), s.bankPick b.val = some (.cmd .read) → exec (.cntGrant b .none) s = .next
      (s.quiet.onCnt fun n => { n with
        rdValue := (s.cell s.opCell).value
        rdPart := (s.cell s.opCell).part
        rdEnable := (s.cell s.opCell).enable
        rdExhausted := (s.cell s.opCell).exhausted
        rdFaulted := (s.cell s.opCell).faulted
        cmd := none
        resCode := .done })) ∧
    (∀ (b : Fin 16) (s : State), s.bankPick b.val = some (.cmd .advance) → (s.cell s.opCell).exhausted = false →
      (s.cell s.opCell).faulted = false →
        let n := max (s.cell s.opCell).value.toNat s.opCellValue.toNat
        exec (.cntGrant b .none) s = .next
          ((s.quiet.setCell s.opCell { s.cell s.opCell with value := BitVec.ofNat 64 n, res := n % 3 }).cntEnd .done)) ∧
    (∀ (b : Fin 16) (s : State), s.bankPick b.val = some (.cmd .configure) → (s.cell s.opCell).exhausted = false →
      (s.cell s.opCell).faulted = false → s.partDefined s.opCellPart = true → exec (.cntGrant b .none) s = .next
        ((s.quiet.setCell s.opCell { s.cell s.opCell with part := s.opCellPart, enable := s.opCellEnable }).cntEnd
          .done)) ∧
    ∀ (b : Fin 16) (s : State), Sparse.wf ({} : CtrCell) s.cnt.cells = true → s.bankPick b.val = some (.cmd .retire) →
      ∃ t, exec (.cntGrant b .none) s = .next t ∧ t.cnt.cmd = none ∧ t.cnt.resCode = .done ∧
        t.cell s.opCell = { s.cell s.opCell with exhausted := true } ∧ ∀ c, c ≠ s.opCell → t.cell c = s.cell c)

/-- No step takes a counter cell back, or clears EXHAUSTED or FAULTED, but a COLD or POWER episode. For every state
whose cell array is in canonical form, a step leaves it so; and unless an episode of COLD or POWER reach runs
afterwards, every cell's value is at least what it was, a cell that was EXHAUSTED is so still, and a cell that was
FAULTED is so still. No command, grant or WARM reset reuses a range that was granted. -/
def Obligations.CountersNeverGoBack : Prop :=
  ∀ s t : State, Sparse.wf ({} : CtrCell) s.cnt.cells = true → step s = .next t →
    Sparse.wf ({} : CtrCell) t.cnt.cells = true ∧ (t.coldReach = true ∨ ∀ c : CellId,
      (s.cell c).value ≤ (t.cell c).value ∧ ((s.cell c).exhausted = true → (t.cell c).exhausted = true) ∧
        ((s.cell c).faulted = true → (t.cell c).faulted = true))

/-- Every register has an address of its own, and the address decodes to that register, copy and element. For every
register of the map, every copy and every element, its byte address is a multiple of 4 below 0x80_0000 and decodes to
exactly that register, copy and element; and whatever decodes to a register is that register's address. -/
def Obligations.RegisterMapDecodesEveryRegister : Prop :=
  (∀ (r : Reg) (b k : Nat), b < r.row.copies → k < r.row.count →
      r.row.addr b k % 4 = 0 ∧ r.row.addr b k < 0x800000 ∧ decodeReg (r.row.addr b k) = some ⟨r, b, k⟩) ∧
    ∀ (a : Nat) (p : RegAt), decodeReg a = some p → p.addr = a ∧ p.blk < p.reg.row.copies ∧ p.ix < p.reg.row.count

/-- A write of an operand register by who owns it stores its defined bits and nothing else; the window writes control
SRAM. For each operand, mask and staging register named here, at every element: while its domain serves, a write by
the security core stores the written word with its reserved bits zero, and changes nothing else; the register then
holds exactly that word, and every other stored register what it held. The same of block C of the SME, CMP, PKE and
ATT for a control core outside a gate run, and of the registers of a digest context for the requester that holds it.
While nothing zeroes control SRAM, an aligned write of 1, 2 or 4 bytes by the security core through the window puts
its low bytes at the offset that BOOT_WINDOW selects and changes nothing else; a misaligned one is an access fault and
changes no memory. COMPLETION: under the conditions stated on state and operands alone, exec answers a next state for
registerWrite. -/
def Obligations.RegistersStoreTheirDefinedBits : Prop :=
  (∀ r ∈ [Reg.crsSdEnable, .crsGap, .otpRow, .otpArg, .otpWdata0, .otpWdata1, .lcsTarget, .lcsToken, .bootWindow,
      .smeOpStream, .smeOpJob, .smeOpLenLo, .smeOpLenHi, .smeOpChunkLo, .smeOpChunkHi, .smeOpIndex, .smeOpDigest, .smeIntMask,
      .smeLgCfg, .cmpA, .cmpB, .kstSel, .klnOpSlot, .klnOpParent, .klnOpAttr, .klnOpJob, .klnOpMask, .klnOpAddr, .klnOpDst,
      .klnOpLen, .klnOpSession, .klnOpCtxlen, .klnCtx, .klnJobSel, .klnIntMask, .kfbOpSlot, .kfbOpDest, .kfbOpCell,
      .kfbOpEndLo, .kfbOpEndHi, .kfbOpBind, .kfbOpRange, .kfbPortCtrl, .kfbIntMask, .kfbEpSel, .cntOpCell, .cntOpValueLo,
      .cntOpValueHi, .cntCtrl, .cntIntMask, .pkeOpSlot, .pkeOpMsg, .pkeOpKey, .pkeOpSig, .pkeOpOut, .pkeOpLen, .pkeOpCtxlen,
      .pkeOpDigest, .pkeOpCtx, .attOpOut, .attOpList, .attOpMax, .attOpJob, .attOpSel, .attOpCount, .attOpNonce, .attOpHash,
      .attFwrecSel, .prtOp, .prtOpGate, .prtOpPolicy, .prtStg, .prtStgArrays, .prtRgnSel, .prtSel, .prtGateBudget, .prtJobSel,
      .prtIntMask, .topFwStage, .topMpCtx, .cwyCtrl, .cwyStageLo, .cwyStageHi, .cwyStageLimit, .cwyIdleLimit, .cwyCopySrc,
      .cwyCopyDst, .cwyCopyLen, .cwyNvmAddr, .fncPlan, .fncWearSteps, .fncDeltaV, .fncDeltaT, .fncDeltaMisc, .fncDeltaI,
      .fncSensorSel],
    ∀ (k : Nat) (v : Word) (s : State), k < r.row.count → s.serves r.row.dom = true →
      ∃ t, exec (.registerWrite .sec (BitVec.ofNat 28 (r.row.addr 0 k)) 2 v) s = .next t ∧
        t = s.quiet.setReg r (v &&& r.row.store) 0 k ∧ t.reg r 0 k = v &&& r.row.store ∧
        ∀ (q : Reg) (b j : Nat), q.row.addr b j ≠ r.row.addr 0 k → t.reg q b j = s.reg q b j) ∧
  (∀ r ∈ [Reg.smeOpStream, .smeOpJob, .smeOpLenLo, .smeOpLenHi, .smeOpChunkLo, .smeOpChunkHi, .smeOpIndex, .smeOpDigest,
      .smeIntMask, .cmpA, .cmpB, .pkeOpSlot, .pkeOpMsg, .pkeOpKey, .pkeOpSig, .pkeOpOut, .pkeOpLen, .pkeOpCtxlen,
      .pkeOpDigest, .pkeOpCtx, .attOpOut, .attOpList, .attOpMax, .attOpJob, .attOpSel, .attOpCount, .attOpNonce, .attOpHash],
    ∀ (n : Fin 8) (k : Nat) (v : Word) (s : State), k < r.row.count → s.prt.gate.active = false →
      s.serves r.row.dom = true → ∃ t, exec (.registerWrite (.ctl n) (BitVec.ofNat 28 (r.row.addr 1 k)) 2 v) s = .next t ∧
        t = s.quiet.setReg r (v &&& r.row.store) 1 k ∧ t.reg r 1 k = v &&& r.row.store ∧
        ∀ (q : Reg) (b j : Nat), q.row.addr b j ≠ r.row.addr 1 k → t.reg q b j = s.reg q b j) ∧
  (∀ r ∈ [Reg.dgeCtxSrcLo, .dgeCtxSrcHi, .dgeCtxLen, .dgeCtxData, .dgeCtxExpect],
    ∀ (c : Fin 4) (q : Req) (k : Nat) (v : Word) (s : State), k < r.row.count → s.d3Serves = true →
      (s.ctx c.val).st ≠ .free → dgeId q = some (s.ctx c.val).holder.toNat →
      ∃ t, exec (.registerWrite q (BitVec.ofNat 28 (r.row.addr c.val k)) 2 v) s = .next t ∧
        t = s.quiet.setReg r (v &&& r.row.store) c.val k ∧ t.reg r c.val k = v &&& r.row.store ∧
        ∀ (p : Reg) (b j : Nat), p.row.addr b j ≠ r.row.addr c.val k → t.reg p b j = s.reg p b j) ∧
  ∀ (a : RegAddr) (n : Fin 3) (v : Word) (s : State), 0x800000 ≤ a.toNat → a.toNat < 0x1000000 → s.crs.zeroing = false →
    (a.toNat % 2 ^ n.val = 0 → exec (.registerWrite .sec a n v) s = .next
      (s.quiet.csramPut (fldN (s.reg .bootWindow) 0 1 * 0x800000 + (a.toNat - 0x800000))
        ((leBytes 4 v.toNat).take (2 ^ n.val)))) ∧
    (a.toNat % 2 ^ n.val ≠ 0 → ∃ t, exec (.registerWrite .sec a n v) s = .next t ∧ t.csram = s.csram ∧ t.psram = s.psram ∧
      t.top.cntAfault = tally s.top.cntAfault)

/-- A control-port request that is misaligned, of a reserved class, in the window or not granted has no effect. While
D1 runs and fewer than 16 requests are outstanding, a request whose address is no multiple of 4, whose class is 2 or
3, whose address lies from 0x80_0000 on, whose register is not granted to the class, or, where no register occupies
the offset, whose unit grants the class no register, is owed a response with DENIED_ATTR and data 0, and nothing else
changes. Any other request to an unoccupied offset answers 0 with DONE and changes nothing, or meets a domain that
does not serve (R7). COMPLETION: under the conditions stated on state and operands alone, exec answers a next state
for icpRequest. -/
def Obligations.ControlPortRefusesWithoutEffect : Prop :=
  (∀ (wr : Bool) (a : IcpAddr) (v : Word) (src : BitVec 2) (tag : BitVec 4) (s : State), s.up .d1 = true →
      s.icp.length < 16 →
      (a.toNat % 4 ≠ 0 ∨ 2 ≤ src.toNat ∨ 0x800000 ≤ a.toNat ∨
        (∃ p, decodeReg a.toNat = some p ∧ s.grant (.icp src) wr p = false) ∨
        (decodeReg a.toNat = none ∧ unitGrant (.icp src) (decodeUnit a.toNat) = false)) →
      exec (.icpRequest wr a v src tag) s = .next { s.quiet with icp := s.icp ++ [⟨tag, .deniedAttr, 0⟩] }) ∧
    ∀ (wr : Bool) (a : IcpAddr) (v : Word) (src : BitVec 2) (tag : BitVec 4) (s : State), s.up .d1 = true →
      s.icp.length < 16 → a.toNat % 4 = 0 → src.toNat < 2 → a.toNat < 0x800000 → decodeReg a.toNat = none →
      unitGrant (.icp src) (decodeUnit a.toNat) = true → s.serves (decodeUnit a.toNat).dom = true →
        exec (.icpRequest wr a v src tag) s = .next { s.quiet with icp := s.icp ++ [⟨tag, .done, 0⟩] }

/-- TOP_VERSION reads 0x0002_0100. In every state TOP_VERSION holds 0x0002_0100 for every requester; and while D1
serves with fewer than 16 requests outstanding, a read of it through the control port by class 0 or 1 is owed that
value with DONE and changes nothing else. A write of it does not change it. COMPLETION: under the conditions stated on
state and operands alone, exec answers a next state for icpRequest. -/
def Obligations.TopVersionReadsItsValue : Prop :=
  (∀ (q : Req) (s : State), s.regRead q ⟨.topVersion, 0, 0⟩ = 0x00020100#32) ∧
    (∀ (v : Word) (src : BitVec 2) (tag : BitVec 4) (s : State), s.serves .d1 = true → s.icp.length < 16 → src.toNat < 2 →
      exec (.icpRequest false 0x000000 v src tag) s =
        .next { s.quiet with icp := s.icp ++ [⟨tag, .done, 0x00020100#32⟩] })

/-- The control port answers in order; memory-port beats and self-test results reach what awaits them. While D1 runs:
with 16 requests outstanding another is not accepted and has no effect (R41 lets the host die send none; the model's
choice, log entry 40); a granted request to a register of a domain other than D3 and D5 that does not serve is owed
BUSY with data 0 and changes nothing else; every request that is accepted adds one response behind those already owed.
ICP_RESPONSE drives the oldest and removes it. While D4 runs: a beat that is not the last of a read with beats left,
and not interleaved with another read, joins that read's data; a last beat or an acknowledgement frees the tag and its
unit goes on; one that no request awaits, whose LAST is wrong, or that comes among another read's has no effect (log
entry 40), nor has any while D4 is held (R36). A self-test response that is owed records its result, 3 as a fail, and
one that is not owed is dropped and counted; a timeout of an owed one records a fail. COMPLETION: under the conditions
stated on state and operands alone, exec answers a next state for icpRequest, icpResponse, mpReadData, mpWriteAck,
astResponse, astTimeout. -/
def Obligations.PortsFollowTheirProtocols : Prop :=
  ((∀ (wr : Bool) (a : IcpAddr) (v : Word) (src : BitVec 2) (tag : BitVec 4) (s : State),
      (s.up .d1 = false ∨ 16 ≤ s.icp.length) → exec (.icpRequest wr a v src tag) s = .next s.quiet) ∧
    (∀ (wr : Bool) (a : IcpAddr) (v : Word) (src : BitVec 2) (tag : BitVec 4) (s : State) (p : RegAt), s.up .d1 = true →
      s.icp.length < 16 → a.toNat % 4 = 0 → src.toNat < 2 → a.toNat < 0x800000 → decodeReg a.toNat = some p →
      s.grant (.icp src) wr p = true → s.serves p.reg.row.dom = false → p.reg.row.dom ≠ .d3 → p.reg.row.dom ≠ .d5 →
        exec (.icpRequest wr a v src tag) s = .next { s.quiet with icp := s.icp ++ [⟨tag, .busy, 0⟩] }) ∧
    (∀ (wr : Bool) (a : IcpAddr) (v : Word) (src : BitVec 2) (tag : BitVec 4) (s : State), s.up .d1 = true →
      s.icp.length < 16 → ∃ t r, exec (.icpRequest wr a v src tag) s = .next t ∧ r.tag = tag ∧ t.icp = s.icp ++ [r]) ∧
    ∀ (s : State) (r : IcpRsp) (rest : List IcpRsp), s.icp = r :: rest →
      exec .icpResponse s = .next (State.emit { s.quiet with icp := rest } (.icp r.tag r.code r.data))) ∧
  ((∀ (tag : BitVec 8) (err : Bool) (d : BitVec 512) (s : State) (r : MpReq), s.up .d4 = true →
      (s.mp.find? fun x => x.tag == tag && !x.write) = some r → 2 ≤ r.left →
      (∀ x ∈ s.mp, x.write = false → x.tag ≠ tag → x.data = []) → exec (.mpReadData tag false err d) s = .next
        { s.quiet with mp := s.mp.map fun x => if x = r then
            { r with left := r.left - 1, data := r.data ++ leBytes 64 d.toNat, err := r.err || err } else x }) ∧
    (∀ (tag : BitVec 8) (err : Bool) (d : BitVec 512) (s : State) (r : MpReq), s.up .d4 = true →
      (s.mp.find? fun x => x.tag == tag && !x.write) = some r → r.left = 1 →
      (∀ x ∈ s.mp, x.write = false → x.tag ≠ tag → x.data = []) → exec (.mpReadData tag true err d) s = .next
        ((State.mpDeliver { s.quiet with mp := s.mp.erase r }
          { r with left := 0, data := r.data ++ leBytes 64 d.toNat, err := r.err || err }).mpGoOn)) ∧
    (∀ (tag : BitVec 8) (last err : Bool) (d : BitVec 512) (s : State),
      (s.up .d4 = false ∨ (∀ x ∈ s.mp, x.tag ≠ tag) ∨
        ∃ r, (s.mp.find? fun x => x.tag == tag && !x.write) = some r ∧ (last ≠ decide (r.left = 1) ∨
          ∃ x ∈ s.mp, x.write = false ∧ x.tag ≠ tag ∧ x.data ≠ [])) →
      exec (.mpReadData tag last err d) s = .next s.quiet) ∧
    (∀ (tag : BitVec 8) (err : Bool) (s : State), (s.up .d4 = false ∨ ∀ x ∈ s.mp, x.tag ≠ tag) →
      exec (.mpWriteAck tag err) s = .next s.quiet) ∧
    (∀ (tag : BitVec 8) (err : Bool) (s : State) (r : MpReq), s.up .d4 = true →
      (s.mp.find? fun x => x.tag == tag && x.write) = some r → exec (.mpWriteAck tag err) s = .next
        ((State.mpAcked { s.quiet with mp := s.mp.erase r } r err).mpGoOn)) ∧
    (∀ (a : BitVec 8) (res : BitVec 2) (s : State), s.up .d4 = true → exec (.astResponse a res) s = .next
      (let v : AstState := if res = 0 then .pass else if res = 2 then .absent else .fail
      if Sparse.get .notRun s.ast a.toNat = .owed then { s.quiet with ast := Sparse.put .notRun s.ast a.toNat v }
      else { s.quiet with cntAstdrop := tally s.cntAstdrop })) ∧
    ∀ (a : BitVec 8) (s : State), Sparse.get .notRun s.ast a.toNat = .owed → exec (.astTimeout a) s = .next
      { s.quiet with ast := Sparse.put .notRun s.ast a.toNat .fail })

/-- A forbidden access changes nothing but the fault record, its count and the exception of its core. An access of a
control core that the maps forbid, outside gate mode, is recorded where no fault is recorded yet, counted, and raises
the exception of its kind in that core: cause 1, 5 or 7; nothing else changes. The same for the security core, with
SEC set, also for a misaligned access of the window and for any access of it during the zeroing of control SRAM (R550;
how long that lasts is a free value, log entry 42). Core 7 in gate mode leaves it on such an access, held with reason
ACCESS. A permitted access of either that meets an uncorrectable error is counted the same way and reported as a
health event of unit 7. A claim by a context of the control cluster answers a source that it enables and that can be
claimed, of the highest priority among these, or 0; it takes that source, clears it if an edge raised it, and changes
nothing else; a claim at a vector of the security core answers one of sources 17 to 26 that is pending, else 0 (the
controller's map is presumed, log entry 39). COMPLETION: under the conditions stated on state and operands alone, exec
answers a next state for accessFault, secAccessFault, interruptClaim. -/
def Obligations.AccessFaultsAreCountedAndTheFirstIsKept : Prop :=
  ((∀ (c : Fin 8) (k : AccKind) (sp : AccSpace) (a : BitVec 64) (m : Bool) (s : State), s.up .d5 = true →
      s.ctlAllowed c.val k m a.toNat = false → (c.val = 7 → s.prt.gate.active = false) → ∀ e : Bool,
      exec (.accessFault c k sp a m e) s = .next
        (State.emit { s.quiet with top := { s.top with
          afault := if s.top.afault.valid then s.top.afault else
            { valid := true, core := c.val, kind := accCode k, space := spaceCode sp a.toNat, gate := false, addr := a }
          cntAfault := tally s.top.cntAfault } } (.exception (some c.val) (accCause k)))) ∧
    (∀ (k : AccKind) (sp : AccSpace) (a : BitVec 64) (m e : Bool) (s : State), s.up .d5 = true →
      s.ctlAllowed 7 k m a.toNat = false → s.prt.gate.active = true → ∃ t, exec (.accessFault 7 k sp a m e) s = .next t ∧
        t.prt.gate.active = false ∧ t.prt.gate.held = true ∧ t.prt.gate.reason = .access ∧ t.prt.intGate = true ∧
        t.top.cntAfault = tally s.top.cntAfault) ∧
    (∀ (c : Fin 8) (k : AccKind) (sp : AccSpace) (a : BitVec 64) (m : Bool) (s : State), s.up .d5 = true →
      s.ctlUncorr c.val k m a.toNat = true → ∃ t, exec (.accessFault c k sp a m true) s = .next t ∧
        t.top.cntAfault = tally s.top.cntAfault ∧ t.fnc.healthUnits.getLsbD 7 = true)) ∧
  ((∀ (k : AccKind) (sp : AccSpace) (n : Fin 3) (a : BitVec 32) (e : Bool) (s : State), s.up .d2 = true →
      (secAllowed k n.val a.toNat = false ∨ s.crs.zeroing = true ∧ 0x20800000 ≤ a.toNat ∧ a.toNat ≤ 0x20FFFFFF) →
        exec (.secAccessFault k sp n a e) s = .next
        (State.emit { s.quiet with top := { s.top with
          afault := if s.top.afault.valid then s.top.afault else
            { valid := true, kind := accCode k, space := spaceCode sp a.toNat, sec := true, addr := a.setWidth 64 }
          cntAfault := tally s.top.cntAfault } } (.exception none (accCause k)))) ∧
    ∀ (k : AccKind) (sp : AccSpace) (n : Fin 3) (a : BitVec 32) (s : State), s.up .d2 = true →
      secUncorr k n.val a.toNat = true → s.crs.zeroing = false → ∃ t, exec (.secAccessFault k sp n a true) s = .next t ∧
        t.top.cntAfault = tally s.top.cntAfault ∧ t.fnc.healthUnits.getLsbD 7 = true) ∧
  (∀ (c : Fin 16) (s : State), s.up .d5 = true → (c.val / 2 = 7 → s.prt.gate.active = false) →
      let n := s.plicBest c.val
      exec (.interruptClaim (.cluster c)) s = .next
        (if n = 0 then { s with outs := [.read 0] }
        else { s with
          outs := [.read (BitVec.ofNat 32 n)]
          top := { s.top with
            edgePke := s.top.edgePke && n != 5
            edgeAtt := s.top.edgeAtt && n != 6
            edgeSec := s.top.edgeSec && n != 25 }
          plic := { s.plic with claimed := s.plic.claimed ||| 1#32 <<< n } }) ∧
      (n ≠ 0 → s.claimable n = true ∧ bit (s.plic.enabled c.val) n = true ∧ ∀ m < 8, s.claimable m = true →
        bit (s.plic.enabled c.val) m = true → s.plic.prio.getD m 0 ≤ s.plic.prio.getD n 0)) ∧
  ∀ (n : Fin 32) (s : State), s.up .d2 = true → exec (.interruptClaim (.security n)) s = .next
    (if 17 ≤ n.val ∧ n.val ≤ 26 ∧ s.sourcePending n.val = true then
      { s with
        outs := [.read (BitVec.ofNat 32 n.val)]
        top := { s.top with edgeSec := s.top.edgeSec && n.val != 25 } }
    else { s with outs := [.read 0] })

/-- A tap beat joins its OPEN stream or is dropped with STREAM_FAULT, and a taken beat enters leaf buffers. While
TAP_UP is high and the tap's 32 credits are not used up, and after what SECDED finds in the stream's context is
counted: a beat of NB bytes of an OPEN stream on its tap, within the length, FIRST exactly at the start, adds NB to
its count, closes it if LAST, and waits at the tap; a beat past the length, whatever its FIRST, marks the stream,
closes it if LAST and is dropped; a beat with FIRST wrong, or of a stream that is not OPEN there, is dropped. The
front beat of a tap begins a leaf on the lowest lane free, or joins the leaf that is filling, and its credit returns;
one that straddles two leaves fills the first, and what is left of it begins the next leaf, or waits at the front of
the tap where no lane is free. While TAP_UP is low, or beyond the 32 credits (which R51 rules out; the model's choice,
log entry 40), a beat does nothing. What SECDED finds in the context is counted, and an uncorrectable error marks an
OPEN or CLOSING stream and makes the outcome of a CLOSED one INTEGRITY, without a digest (R234). COMPLETION: under the
conditions stated on state and operands alone, exec answers a next state for tapBeat, beatIntake. -/
def Obligations.TapBeatsAreCountedOrDropped : Prop :=
  (∀ (tap : Fin 16) (d : BitVec 1024) (sid : StreamId) (first last : Bool) (nb : BitVec 7) (e : MemErr) (s : State),
      ((s.sme.tapUp = false ∨ 32 ≤ (s.sme.taps.getD tap.val []).length) →
        exec (.tapBeat tap d sid first last nb e) s = .next s.quiet) ∧
      let u := s.quiet.ctxErr e sid
      let v := u.stream sid
      (e = .none → u = s.quiet) ∧
      (e = .corrected → u = s.quiet.onSme fun m => { m with cntCorrected := tally m.cntCorrected }) ∧
      (e = .uncorr → Sparse.wf ({} : Stream) s.sme.streams = true → u.sme.cntUncorr = tally s.sme.cntUncorr ∧
        u.fnc.healthUnits.getLsbD 0 = true ∧
        (((s.stream sid).st = .open ∨ (s.stream sid).st = .closing) → v = { s.stream sid with bad := true, lost := true }) ∧
        ((s.stream sid).st = .closed → v = { s.stream sid with outcome := .integrity, digest := [] })) ∧
      (s.sme.tapUp = true → (s.sme.taps.getD tap.val []).length < 32 → (v.st ≠ .open ∨ v.tap ≠ tap.val) →
        exec (.tapBeat tap d sid first last nb e) s = .next (u.dropBeat tap.val sid)) ∧
      (s.sme.tapUp = true → (s.sme.taps.getD tap.val []).length < 32 → v.st = .open → v.tap = tap.val →
        exec (.tapBeat tap d sid first last nb e) s = .next
          (if v.tooLong = true ∨ v.len < v.got + (nb.toNat + 1) then
            (u.setStream sid { v with tooLong := true, st := if last then .closing else .open }).dropBeat tap.val sid
          else if decide (v.got = 0) = first then
            (u.setStream sid { v with
              got := v.got + (nb.toNat + 1)
              st := if last then .closing else .open }).onSme fun m =>
                { m with taps := m.taps.modify tap.val fun q => q ++ [⟨sid, (leBytes 128 d.toNat).take (nb.toNat + 1)⟩] }
          else u.dropBeat tap.val sid))) ∧
    (∀ (tap : Fin 16) (s : State) (b : TapBeat) (rest : List TapBeat) (l : Nat), s.sme.taps.getD tap.val [] = b :: rest →
      s.fillingLane b.sid = none → s.freeLane (s.stream b.sid).group = some l → exec (.beatIntake tap) s = .next
        ((((s.quiet.setLane l { s.lane l with bufs := (s.lane l).bufs ++ [⟨b.sid, (s.stream b.sid).leaves, b.bytes⟩] }).setStream
          b.sid { s.stream b.sid with leaves := (s.stream b.sid).leaves + 1 }).onSme fun m =>
            { m with taps := m.taps.set tap.val rest }).emit (.tapCredit tap.val))) ∧
    ∀ (tap : Fin 16) (s : State) (b : TapBeat) (rest : List TapBeat) (l : Nat) (f : Leaf),
      s.sme.taps.getD tap.val [] = b :: rest → s.fillingLane b.sid = some l →
      ((s.lane l).bufs.find? fun f => f.sid == b.sid && f.bytes.length < 8192) = some f →
      let room := 8192 - f.bytes.length
      let u := s.quiet.fillLeaf l b.sid (b.bytes.take room)
      (b.bytes.length ≤ room → exec (.beatIntake tap) s = .next
        ((u.onSme fun m => { m with taps := m.taps.set tap.val rest }).emit (.tapCredit tap.val))) ∧
      (room < b.bytes.length → u.freeLane (u.stream b.sid).group = none → exec (.beatIntake tap) s = .next
        (u.onSme fun m => { m with taps := m.taps.set tap.val ({ b with bytes := b.bytes.drop room } :: rest) })) ∧
      ∀ m : Nat, room < b.bytes.length → u.freeLane (u.stream b.sid).group = some m → exec (.beatIntake tap) s = .next
        (((u.beginLeaf m b.sid (b.bytes.drop room)).onSme fun x =>
          { x with taps := x.taps.set tap.val rest }).emit (.tapCredit tap.val))

/-- A whole leaf becomes its SHAKE256 or salted chunk value, and a combine lane absorbs leaf values in leaf order.
While the first leaf of a lane is whole and its output slot is empty, LEAF_DONE without an error puts its 64-byte
SHAKE256 value in the slot, or in chunk-digest mode the cSHAKE256 value under the partition's salt, which is then also
written to device memory at CHUNK_BASE + 64 times its index, unless the endpoint it names is bound as a gate, which
marks the stream (log entry 78), or its context was lost, after which nothing of it is written (R234). An
uncorrectable error marks the stream instead. COMBINE_ABSORB takes a slot whose leaf is the next of its stream,
empties it, and absorbs the value; what SECDED finds in the stream's context is counted, and marks the stream where it
is uncorrectable. COMPLETION: under the conditions stated on state and operands alone, exec answers a next state for
leafDone, combineAbsorb. -/
def Obligations.LeavesAreHashedAndAbsorbedInOrder : Prop :=
  (∀ (l : Fin 192) (s : State) (f : Leaf) (rest : List Leaf), (s.lane l.val).bufs = f :: rest → s.leafWhole f = true →
      (s.lane l.val).slot = none →
      let v := s.stream f.sid
      (v.chunk = false → v.lost = false → exec (.leafDone l .none) s = .next
        (s.quiet.setLane l.val { bufs := rest, slot := some { f with bytes := shake256 f.bytes 64 } })) ∧
      ((v.chunk = false ∨ s.mpRoom = true) → (v.lost = true ∨ v.chunk = true ∧ s.gateBound v.ctx = true) → ∃ z,
        exec (.leafDone l .none) s = .next
        ((s.quiet.setLane l.val { bufs := rest, slot := some { f with bytes := z } }).onStream f.sid fun v =>
          { v with bad := true })) ∧
      (v.chunk = true → s.mpRoom = true → s.gateBound v.ctx = false → v.lost = false →
        let z := cshake256 f.bytes 64 [] ((s.salt v.part).getD [])
        exec (.leafDone l .none) s = .next
          (((s.quiet.setLane l.val { bufs := rest, slot := some { f with bytes := z } }).onStream f.sid fun v =>
            { v with writes := v.writes + 1 }).mpIssue true (v.base + 64 * f.ix) 1 v.part v.ctx z (.chunk f.sid v.gen))) ∧
      exec (.leafDone l .uncorr) s = .next
        (((s.quiet.smeErr .uncorr (some v.part)).setLane l.val
          { bufs := rest, slot := some { f with bytes := List.replicate 64 0 } }).onStream f.sid fun v =>
            { v with bad := true })) ∧
    (∀ (c : Fin 4) (e : MemErr) (s : State) (l : Nat) (f : Leaf), s.readySlot c.val = some (l, f) →
      f.ix = (s.stream f.sid).passed ∧
      (s.lane l).slot = some f ∧ exec (.combineAbsorb c e) s = .next
        ((((s.quiet.ctxErr e f.sid).setLane l { s.lane l with slot := none }).onStream f.sid fun v =>
          { v with sum := v.sum.add 136 f.bytes, passed := v.passed + 1 }).feedSlice c.val))

/-- A stream that is done closes once, with its outcome in its context, its entry and its block's result queue. For a
stream that is done, and compared where it must be, STREAM_RESULT leaves it CLOSED with the outcome of R218; no result
of a compare-path stream keeps its digest; a bound entry is no longer IN_USE and holds the outcome in LAST; and the
result is queued for the block that opened it, or, with 256 queued, dropped and counted. RES_POP answers the oldest
result and removes it, and an event that waits goes to the Kiln's queue once that has room. COMPLETION: under the
conditions stated on state and operands alone, exec answers a next state for streamResult, smeEventSend, resPop. -/
def Obligations.StreamsCloseWithOneOutcome : Prop :=
  (∀ (sid : StreamId) (e : MemErr) (s : State), Sparse.wf ({} : Stream) s.sme.streams = true →
      Sparse.wf ({} : ExpEntry) s.sme.exps = true → s.streamDone sid = true →
      ((s.stream sid).fallback || (s.stream sid).fault != .done || (s.stream sid).equal.isSome) = true →
      let v := s.stream sid
      ∃ t, exec (.streamResult sid e) s = .next t ∧ (t.stream sid).st = .closed ∧
        (t.stream sid).outcome = s.outcomeOf v e ∧ (t.stream sid).gen = v.gen ∧
        (t.stream sid).digest = (if v.fallback = true ∧ s.outcomeOf v e = .done then v.final else []) ∧
        (v.fallback = false → t.exp v.entry.toNat =
          { s.exp v.entry.toNat with inUse := false, last := (s.outcomeOf v e).byte }) ∧
        ((s.smeBlk v.blk).resQ.length < 256 →
          (t.smeBlk v.blk).resQ = (s.smeBlk v.blk).resQ ++ [⟨sid, v.gen, s.outcomeOf v e⟩]) ∧
        (256 ≤ (s.smeBlk v.blk).resQ.length → (t.smeBlk v.blk).resQ = (s.smeBlk v.blk).resQ ∧
          (t.smeBlk v.blk).intOverflow = true ∧ t.sme.cntOverflow = tally s.sme.cntOverflow)) ∧
    (∀ (b : Blk) (s : State), s.d3Serves = true → exec (.resPop b) s = .next
      ((s.quiet.onSmeBlk b fun x => { x with resQ := x.resQ.drop 1 }).emit (.read (s.resPopWord b)))) ∧
    ∀ (s : State) (e : SmeEvent) (l : List SmeEvent), s.sme.events = e :: l → s.kln.queue.length < 64 → s.up .d2 = true →
      exec .smeEventSend s = .next ((s.quiet.onSme fun m => { m with events := l }).onKln fun k =>
        { k with queue := k.queue ++ [e] })

/-- OPEN, ABORT, STATUS, EXP_WRITE, EXP_CLEAR, EXP_READ and SME_COMMIT that nothing refuses take their effect. Taken
up by the SME: an OPEN that R197 does not refuse opens the stream with its generation one higher; ABORT of an OPEN
stream makes it CLOSING and marked; STATUS loads the stream's registers; EXP_WRITE by block S of a free entry with no
twin arms it with the operands; EXP_CLEAR by block S of an entry not IN_USE frees it; EXP_READ loads the entry's
fields. Each records DONE and clears OP_DIGEST. SME_COMMIT with nothing to refuse puts the staged lane groups in
force; a group that is DEDICATED to a confidential partition changes only once RELEASE has let it go, and a group that
changes loses that mark (the marks are log entry 79, DEDUCED). COMPLETION: under the conditions stated on state and
operands alone, exec answers a next state for smeOpen, smeAbort, smeStatus, expWrite, expClear, expRead, smeCommit. -/
def Obligations.StreamAndEntryCommandsTakeEffect : Prop :=
  (∀ (b : Blk) (w : Word) (s : State), s.smeTakes b w → lowest (s.openRefusals b) = none →
      Sparse.wf ({} : Stream) s.sme.streams = true → ∃ t, exec (.smeOpen b w) s = .next t ∧ (t.smeBlk b).code = .done ∧
        (t.stream (s.opSid b)).st = .open ∧ (t.stream (s.opSid b)).gen = (s.stream (s.opSid b)).gen + 1 ∧
        (t.stream (s.opSid b)).part = s.opPart b ∧ (t.stream (s.opSid b)).len = s.opLen b ∧
        (t.stream (s.opSid b)).got = 0 ∧ (t.stream (s.opSid b)).blk = b ∧
        ∀ j, j ≠ s.opSid b → t.stream j = s.stream j) ∧
    (∀ (b : Blk) (w : Word) (s : State), s.smeTakes b w → (s.stream (s.opSid b)).st = .open →
      exec (.smeAbort b w) s = .next ((s.quiet.setStream (s.opSid b)
        { s.stream (s.opSid b) with st := .closing, aborted := true }).smeDone b .done)) ∧
    (∀ (b : Blk) (w : Word) (s : State), s.smeTakes b w → exec (.smeStatus b w .none) s = .next
      ((s.quiet.loadStream b (s.opSid b)
        (if (s.stream (s.opSid b)).st = .closed ∧ (s.stream (s.opSid b)).fallback = true ∧
            (s.stream (s.opSid b)).outcome = .done then some (s.stream (s.opSid b)).digest else none)).smeDone b .done)) ∧
    (∀ (w : Word) (s : State), s.smeTakes .s w → (s.exp (s.opIndex .s)).armed = false →
      s.armedEntry (s.opPart .s) (s.opJob .s) (s.opSid .s) = none → exec (.expWrite .s w .none) s = .next
        ((s.quiet.setExp (s.opIndex .s)
          { digest := s.regBytes .smeOpDigest 0 16, sid := s.opSid .s, part := s.opPart .s, job := s.opJob .s,
            owner := (s.reg .smeOpIndex 0).extractLsb' 10 4, armed := true }).smeDone .s .done)) ∧
    (∀ (w : Word) (s : State), s.smeTakes .s w → (s.exp (s.opIndex .s)).inUse = false →
      exec (.expClear .s w) s = .next ((s.quiet.setExp (s.opIndex .s) {}).smeDone .s .done)) ∧
    (∀ (b : Blk) (w : Word) (s : State), s.smeTakes b w → ∃ t, exec (.expRead b w .none) s = .next t ∧
      (t.smeBlk b).code = .done ∧ t.sme.exps = s.sme.exps ∧
      (let x := s.exp (s.opIndex b)
      (t.smeBlk b).info = put x.sid 0 ||| put x.part 12 ||| put x.owner 18 ||| putB x.armed 22 ||| putB x.inUse 23 |||
          put x.last 24 ∧ (t.smeBlk b).aux = put x.job 0)) ∧
    ∀ (w : Word) (s : State), s.d3Serves = true → bit w 0 = true →
      let staged : List LaneGroup := (List.range 16).map fun n =>
        ⟨(s.reg .smeLgCfg 0 n).extractLsb' 8 2, (s.reg .smeLgCfg 0 n).extractLsb' 0 6⟩
      (∀ g ∈ staged, g.mode ≠ 3) →
      (∀ n < 16, (staged.getD n {}).differs (s.sme.groups.getD n {}) = true → s.openOn n = 0 ∧
        ((s.sme.groups.getD n {}).mode = 2 → s.partConf (s.sme.groups.getD n {}).part = true →
          s.sme.released.getLsbD n = true)) →
      ∃ marks : BitVec 16, exec (.smeCommit w) s =
          .next (s.quiet.onSme fun m => { m with groups := staged, released := marks, commitCode := .done }) ∧
        ∀ n < 16, marks.getLsbD n =
          (s.sme.released.getLsbD n && !(staged.getD n {}).differs (s.sme.groups.getD n {}))

/-- A register moves only to SHA3-512 of itself and the value, by permitted requesters, until it is assigned anew. An
extension applied without an error to a sound register sets it to SHA3-512(MR, value) and adds 1 to its count.
MR_EXTEND that R222 permits is queued, and one that it does not is refused with DENIED_ATTR and queues nothing; MR0 to
MR5 are closed to all from stage 5 on. MR_ASSIGN by block S zeroes the register and sets its owner, MR_READ loads
value, owner and count. PURGE of a partition closes its OPEN streams, and ends once nothing of it is CLOSING or waits.
COMPLETION: under the conditions stated on state and operands alone, exec answers a next state for extensionApply,
mrExtend, mrAssign, mrRead, smePurge, purgeResume. -/
def Obligations.MeasurementRegistersOnlyExtend : Prop :=
  (∀ (s : State) (r : ExtReq) (l : List ExtReq), s.sme.ext = r :: l → s.up .d2 = true → (s.mreg r.mr).bad = false →
      let u := (s.quiet.onSme fun x => { x with ext := l }).applyExt r
      exec (.extensionApply .none) s = .next u.prtGoOn ∧
        (Sparse.wf ({} : MReg) s.mrs = true → s.sme.waitS = none → s.sme.waitC = none →
          u.mreg r.mr = { s.mreg r.mr with
            value := sha3_512 ((s.mreg r.mr).value ++ r.value)
            count := (s.mreg r.mr).count + 1 } ∧ ∀ j, j ≠ r.mr → u.mreg j = s.mreg j)) ∧
    (∀ (b : Blk) (w : Word) (s : State), s.smeTakes b w →
      (s.extendOk (b == .s) (s.opIndex b) = true → exec (.mrExtend b w) s = .next
        (s.quiet.onSme fun m => { m with
          ext := m.ext ++ [⟨s.opIndex b, s.regBytes .smeOpDigest (blkIx b) 16, .blk b⟩]
          run := some (.extend b) })) ∧
      (s.extendOk (b == .s) (s.opIndex b) = false → exec (.mrExtend b w) s = .next (s.quiet.smeDone b .deniedAttr))) ∧
    (∀ (s : State) (sec : Bool) (i : Nat), i < 6 → 5 ≤ s.boot.stage → s.extendOk sec i = false) ∧
    (∀ (w : Word) (s : State), s.smeTakes .s w → s.fallbackOpen (s.opIndex .s) = false → 16 ≤ s.opIndex .s →
      s.opIndex .s < 64 → bit (s.reg .smeOpIndex) 16 = true → s.opPart .s ≠ 0 → s.partDefined (s.opPart .s) = true →
      ((s.mreg (s.opIndex .s)).owner = none ∨ (s.mreg (s.opIndex .s)).owner = some (s.opPart .s)) →
        exec (.mrAssign .s w) s = .next ((s.quiet.zeroMreg (s.opIndex .s) (some (s.opPart .s))).smeDone .s .done)) ∧
    (∀ (b : Blk) (w : Word) (s : State), s.smeTakes b w → s.opIndex b < 64 → (b = .c → s.opIndex b < 16) →
      (s.mreg (s.opIndex b)).bad = false → ∃ t, exec (.mrRead b w .none) s = .next t ∧ (t.smeBlk b).code = .done ∧
        (t.smeBlk b).digest = (s.mreg (s.opIndex b)).value ∧ (t.smeBlk b).aux = (s.mreg (s.opIndex b)).count ∧
        t.mrs = s.mrs) ∧
    (∀ (w : Word) (s : State), s.smeTakes .s w → s.opPart .s ≠ 0 →
      let u := s.quiet.purgeStart (s.opPart .s) (.purge (s.opPart .s))
      exec (.smePurge .s w) s = .next (if u.purgeReady (s.opPart .s) then
        ((u.purgeEnd (s.opPart .s)).onSme fun m => { m with run := none }).smeDone .s .done else u)) ∧
    ∀ (s : State) (p : PartId), s.sme.run = some (.purge p) → s.purgeReady p = true → exec .purgeResume s = .next
      (((s.quiet.purgeEnd p).onSme fun m => { m with run := none }).smeDone .s .done).smeNext.prtGoOn

/-- Digest contexts: request, withdrawal, grant, UPDATE, FINAL, ABANDON, forced abandonment and a block's end. While
D3 serves: a request joins the queue once and a withdrawal leaves it, each clearing the requester's grant. A due grant
gives the lowest free context to the winner, its generation one higher, zeroed. For its holder with the right GEN, an
UPDATE that nothing refuses takes its bytes and counts them, at once with DONE if no block is full; a FINAL adds the
padding; an UPDATE from the window that meets an uncorrectable error there records INTEGRITY and is counted and
reported; an ABANDON frees a context with no read outstanding and not on a core. DGE_ARB abandons the contexts it
names and stores FREEZE. A block's end absorbs the block and goes on; a digest of the attestation unit that is
complete then reaches it. COMPLETION: under the conditions stated on state and operands alone, exec answers a next
state for dgeAcquireReq, dgeAcquireWithdraw, dgeGrant, dgeUpdate, dgeFinal, dgeAbandon, dgeForceAbandon, dgeBlockDone.
-/
def Obligations.DigestContextsAreHeldZeroedAndRun : Prop :=
  (∀ (q : Req) (i : Nat) (w : Word) (s : State), s.d3Serves = true → dgeId q = some i →
      (bit w 0 = true → (s.dge.reqs.any fun r => r.who == BitVec.ofNat 4 i) = false → exec (.dgeAcquireReq q w) s =
        .next (s.quiet.onDge fun d => { d with
          acq := d.acq.modify i fun a => { a with granted := false }
          reqs := d.reqs ++ [⟨BitVec.ofNat 4 i, w.extractLsb' 1 2⟩] })) ∧
      (bit w 0 = false → exec (.dgeAcquireWithdraw q w) s = .next (s.quiet.onDge fun d => { d with
        acq := d.acq.modify i fun a => { a with granted := false }
        reqs := d.reqs.filter fun r => r.who != BitVec.ofNat 4 i }))) ∧
    (∀ (s : State) (r : DgeReq) (c : Nat), s.dgeFreeze = false → s.up .d3 = true → s.dge.ctxs.length = 4 →
      s.dgeWinner = some r → s.freeCtx = some c → r.who ≠ 9 → ∀ e : MemErr, ∃ t, exec (.dgeGrant e) s = .next t ∧
        (t.ctx c).st = .held ∧
        (t.ctx c).holder = r.who ∧ (t.ctx c).alg = r.alg ∧ (t.ctx c).gen = (s.ctx c).gen + 1 ∧ (t.ctx c).count = 0 ∧
        (t.ctx c).part = [] ∧ (∀ x ∈ t.dge.reqs, x.who ≠ r.who) ∧ ∀ d, d ≠ c → t.ctx d = s.ctx d) ∧
    (∀ (q : Req) (c : Fin 4) (w : Word) (s : State), s.holdsCtx q c.val w → s.dge.ctxs.length = 4 → fldN w 4 2 = 0 →
      1 ≤ s.updLen c.val → s.updLen c.val ≤ 136 → (s.ctx c.val).count + s.updLen c.val < 2 ^ 48 →
      s.onCore c.val = false → (s.ctx c.val).part.length + s.updLen c.val < dgeBlock (s.ctx c.val).alg →
      ∃ t, exec (.dgeUpdate q c w .none) s = .next t ∧ (t.ctx c.val).run = none ∧ (t.ctx c.val).code = .done ∧
        (t.ctx c.val).count = (s.ctx c.val).count + s.updLen c.val ∧
        (t.ctx c.val).part = (s.ctx c.val).part ++ (s.regBytes .dgeCtxData c.val 34).take (s.updLen c.val)) ∧
    (∀ (q : Req) (c : Fin 4) (w : Word) (s : State), s.holdsCtx q c.val w → lowest (s.updateRefusals c.val w) = none →
      exec (.dgeUpdate q c w .none) s = .next (s.quiet.updateStart c.val w)) ∧
    (∀ (q : Req) (c : Fin 4) (w : Word) (s : State), s.holdsCtx q c.val w → s.dge.ctxs.length = 4 → fldN w 4 2 = 0 →
      lowest (s.updateRefusals c.val w) = none → ∃ t, exec (.dgeUpdate q c w .uncorr) s = .next t ∧
        (t.ctx c.val).code = .integrity ∧ t.dge.cntUncorr = tally s.dge.cntUncorr ∧ t.fnc.healthUnits.getLsbD 1 = true) ∧
    (∀ (q : Req) (c : Fin 4) (w : Word) (s : State) (d : DgeDest), s.holdsCtx q c.val w → finalDest w = some d →
      s.destOk (s.ctx c.val).holder d = true → exec (.dgeFinal q c w .none) s =
        .next (((s.quiet.onDge fun g => { g with stamp := g.stamp + 1 }).setCtx c.val { s.ctx c.val with
          part := (s.ctx c.val).part ++ (s.ctx c.val).padding
          run := some (.final d)
          since := s.dge.stamp + 1 }).feedCores)) ∧
    (∀ (q : Req) (c : Fin 4) (w : Word) (s : State), s.holdsCtx q c.val w → s.dge.ctxs.length = 4 →
      s.onCore c.val = false → (s.ctx c.val).reads = 0 → ∃ t, exec (.dgeAbandon q c w) s = .next t ∧
        (t.ctx c.val).st = .free ∧ (t.ctx c.val).part = [] ∧ (t.ctx c.val).digest = [] ∧ (t.ctx c.val).code = .done) ∧
    (∀ (w : Word) (s : State), s.d3Serves = true → s.dge.ctxs.length = 4 → ∃ t, exec (.dgeForceAbandon w) s = .next t ∧
      t.reg .dgeArb = w &&& 1 ∧ ∀ c < 4, bit w (4 + c) = true → (s.ctx c).st ≠ .abandoning → (s.ctx c).reads = 0 →
        s.onCore c = false → (t.ctx c).st = .free) ∧
    ∀ (c : Fin 4) (s : State), s.onCore c.val = true → (s.ctx c.val).abandon = none →
      exec (.dgeBlockDone c .none) s = .next
        ((((s.quiet.onDge fun d => { d with
          core2 := if d.core2 = some c.val then none else d.core2
          coreK := if d.coreK = some c.val then none else d.coreK
          stamp := d.stamp + 1 }).setCtx c.val { (s.ctx c.val).block with since := s.dge.stamp + 1 }).dgeProgress
            c.val).feedCores.attHashed)

/-- A COMPARE of 1 to 64 bytes is queued, granted slice 4, and answers DONE or NOT_EQUAL with its operands cleared.
While D3 serves and the block has no comparison: COMPARE of a length from 1 to 64 queues the two operands cut to that
length; a length outside completes with BAD_LENGTH, and with a comparison open with BUSY, each clearing both operands.
While slice 4 is free the winner takes it. A comparison of a block on slice 4 that ends without an error records DONE
if the operands are equal, else NOT_EQUAL, frees the slice and clears both operands; one of a stream tells the stream
only whether they are equal. COMPLETION: under the conditions stated on state and operands alone, exec answers a next
state for cmpCompare, cmpSliceGrant, comparisonDone. -/
def Obligations.ComparisonsAnswerEqualOrNotEqualOnly : Prop :=
  (∀ (b : Blk) (w : Word) (s : State), s.d3Serves = true →
      (s.cmpBusy b = true → exec (.cmpCompare b w) s = .next (s.quiet.cmpDone b .busy)) ∧
      (s.cmpBusy b = false → rsvSet .cmpCmd w = false → fldN w 0 4 = 1 → 1 ≤ fldN w 4 7 → fldN w 4 7 ≤ 64 →
        exec (.cmpCompare b w) s = .next (s.quiet.onCmp fun m => { m with reqs := m.reqs ++
          [⟨.blk b, (s.regBytes .cmpA (blkIx b) 16).take (fldN w 4 7),
            (s.regBytes .cmpB (blkIx b) 16).take (fldN w 4 7)⟩] })) ∧
      (s.cmpBusy b = false → rsvSet .cmpCmd w = false → fldN w 0 4 = 1 → (fldN w 4 7 = 0 ∨ 64 < fldN w 4 7) →
        exec (.cmpCompare b w) s = .next (s.quiet.cmpDone b .badLength))) ∧
    (∀ (s : State) (r : CmpReq), s.cmp.slices.getD 4 none = none → s.cmpWinner = some r → exec .cmpSliceGrant s = .next
      (s.quiet.onCmp fun m => { m with
        reqs := m.reqs.erase r
        slices := m.slices.set 4 (some r)
        used := if r.src = .blk .s then m.used + 1 else m.used })) ∧
    (∀ (s : State) (r : CmpReq) (b : Blk), s.cmp.slices.getD 4 none = some r → r.src = .blk b →
      exec (.comparisonDone 4 .none) s = .next
        ((s.quiet.onCmp fun m => { m with slices := m.slices.set 4 none }).cmpDone b
          (if r.a = r.b then .done else .notEqual))) ∧
    ∀ (s : State) (n : Fin 5) (r : CmpReq) (sid : StreamId), s.cmp.slices.getD n.val none = some r → r.src = .stream sid →
      n.val < 4 → exec (.comparisonDone n .none) s = .next
        (((s.quiet.onCmp fun m => { m with slices := m.slices.set n.val none }).onStream sid fun v =>
          { v with equal := some (decide (r.a = r.b)) }).feedSlice n.val)

/-- A public-key command that nothing refuses is queued, granted in order, and ends with what its operation answers.
While D2 serves and the engine is not halted: each command of a block that R363 does not refuse joins the queue with
its operands as they stand, PUBKEY after the read of its slot. HYB_SIGN by a block records BUSY or DENIED_ATTR; by the
attestation unit, with its slot a VALID seed and sound as just read, it is queued, as PUBKEY is; under FREEZE neither
is. A grant takes the attestation unit's command within its quota, else the oldest other. The end of an operation
answers its result; EC_VERIFY of block S without a fault records DONE exactly if the signature verifies and writes no
memory. ABANDON ends the running operation with ABORTED, and nothing if none runs. COMPLETION: under the conditions
stated on state and operands alone, exec answers a next state for ecVerify, mldsaVerify, hybVerify, hybSign,
pkePubkey, ecdhKeygen, ecdhDerive, kemKeygen, kemDecaps, kemEncaps, pkeExpand, pkeGrant, pkeOpDone, pkeAbandon. -/
def Obligations.PublicKeyCommandsQueueRunAndAnswer : Prop :=
  (∀ (b : Blk) (w : Word) (s : State), s.serves .d2 = true → s.pke.halted = false →
      (∀ e ∈ [(Instr.ecVerify b w, PkeOp.ecVerify), (.mldsaVerify b w, .mldsaVerify), (.hybVerify b w, .hybVerify),
          (.ecdhKeygen b w, .ecdhKeygen), (.ecdhDerive b w, .ecdhDerive), (.kemKeygen b w, .kemKeygen),
          (.kemDecaps b w, .kemDecaps), (.kemEncaps b w, .kemEncaps)],
        lowest (s.pkeRefusals b e.2 w) = none → exec e.1 s = .next (s.quiet.onPke fun p =>
          { p with queue := p.queue ++ [s.pkeOperands b e.2 w] })) ∧
      ∀ e : MemErr,
        (let c := s.pkeOperands b .pubkey w
        let u := if c.slot.toNat < 2 then s.quiet.fetchSlot c.slot e else s.quiet
        lowest (u.pkeRefusals b .pubkey w) = none → exec (.pkePubkey (if b = .s then .s else .c) w e) s =
          .next (u.onPke fun p => { p with queue := p.queue ++ [c] })) ∧
        exec (.hybSign (if b = .s then .s else .c) w e) s =
          .next (s.quiet.pkeCode b (if s.pkeBusy (pkeId b) || s.pkeFreeze then .busy else .deniedAttr))) ∧
    (∀ (w : Word) (e : MemErr) (s : State) (r : AttRun), s.att.run = some r → s.pke.halted = false →
      let c : PkeCmd := { op := .pubkey, req := 1, slot := 1, gen := (s.slot 1).gen, digest := r.digest, ctx := r.ctx,
                          attMsg := r.msg, len := r.msg.length }
      let sig : PkeCmd := { c with op := .hybSign, slot := r.slot, gen := (s.slot r.slot).gen }
      let u := s.quiet.fetchSlot r.slot e
      let v := s.quiet.fetchSlot 1 e
      (r.phase = .sign → s.pkeFreeze = false → u.seedSlot r.slot = true → u.slotUnusable r.slot = false →
        exec (.hybSign .att w e) s = .next ((u.onAtt fun a => { a with run := some { r with phase := .signing } }).onPke
          fun p => { p with queue := p.queue ++ [sig] })) ∧
      (r.phase = .pubkey → s.pkeFreeze = false → v.seedSlot 1 = true → v.slotUnusable 1 = false →
        exec (.pkePubkey .att w e) s = .next ((v.onAtt fun a => { a with run := some { r with phase := .keys } }).onPke
          fun p => { p with queue := p.queue ++ [c] })) ∧
      (r.phase = .sign → s.pkeFreeze = true → exec (.hybSign .att w e) s = .next u) ∧
      (r.phase = .pubkey → s.pkeFreeze = true → exec (.pkePubkey .att w e) s = .next v)) ∧
    (∀ (s : State) (c : PkeCmd), s.pke.running = none → s.pkeFreeze = false → s.pkeWinner = some c →
      exec .pkeGrant s = .next (s.quiet.pkeGrant c) ∧ c ∈ s.pke.queue ∧
        (s.pke.used < 2 → (∃ x ∈ s.pke.queue, x.req = 1) → c.req = 1) ∧
        (∃ r, (s.pkeGrant c).pke.running = some r ∧ r.op = c.op ∧ r.req = c.req)) ∧
    (∀ (s : State) (c : PkeCmd) (f : PkeFault), s.pke.running = some c → pkeFaultFits c f = true →
      exec (.pkeOpDone f) s = .next
        ((s.quiet.pkeResult c f).1.pkeAnswer c (s.quiet.pkeResult c f).2.1 (s.quiet.pkeResult c f).2.2)) ∧
    (∀ (s : State) (c : PkeCmd), s.pke.running = some c → c.op = .ecVerify → c.req = 2 →
      ∃ t, exec (.pkeOpDone .none) s = .next t ∧ t.pke.running = none ∧ t.psram = s.psram ∧ t.csram = s.csram ∧
        t.pke.resS = if ecdsaVerify (s.psramBytes c.key 96) c.digest (s.psramBytes c.sig 96) then .done
          else .badSignature) ∧
    (∀ (k : Fin 2) (s : State) (c : PkeCmd), s.pke.running = some c → c.op = .expand → c.slot.toNat = k.val →
      exec (.pkeExpand k) s = .next ((s.quiet.setCache c.slot (some (s.expandSlot c.slot))).pkeAnswer c .done
        (sha3_384 (s.expandSlot c.slot).public))) ∧
    ∀ (w : Word) (s : State), s.serves .d2 = true → bit w 1 = true → (s.pke.running = none →
        exec (.pkeAbandon w) s = .next (s.quiet.setReg .pkeCtrl (w &&& 1))) ∧
      ∀ c, s.pke.running = some c →
        exec (.pkeAbandon w) s = .next ((s.quiet.setReg .pkeCtrl (w &&& 1)).pkeAnswer c .aborted [])

/-- Attestation commands wait for their turn, and the firmware record changes only by a valid commit. While D2 serves:
a command that R423 does not refuse waits in its block and is taken up as soon as the unit is free; CERT_READ with the
unit free and room writes the certificate at OP_OUT with DONE and its length. A commit of a valid record takes it into
force, adds 1 to the epoch, ends the handover and loads TOP_FW_DIGEST; one that is not valid records DENIED_ATTR and
changes nothing else. HANDOVER is set and cleared by its writes, a clear dropping the staged record, and MAIN_READY
only sets. A waiting report is sampled once the handover is over; a build asks for the alias keys first. COMPLETION:
under the conditions stated on state and operands alone, exec answers a next state for platformReport, jobReport,
signBind, certRead, attComposite, certBuild, reportSample, attCommit, handoverSet, handoverClear, mainReady. -/
def Obligations.AttestationRecordsAndReports : Prop :=
  (∀ (b : Blk) (w : Word) (s : State), s.serves .d2 = true →
      ∀ e ∈ [(Instr.platformReport b w, AttOp.platform), (.jobReport b w, .job), (.signBind b w, .signBind),
          (.certRead b w, .certRead), (.attComposite b w, .composite)],
        lowest (s.attRefusals (s.attOperands b e.2) w) = none → exec e.1 s = .next
          ((s.quiet.onAtt fun a =>
            let c := s.attOperands b e.2
            let a := if c.deferred then { a with cntDeferred := tally a.cntDeferred } else a
            match b with
            | .s => { a with pendS := some c, defS := c.deferred }
            | .c => { a with pendC := some c, defC := c.deferred }).attGoOn)) ∧
    (∀ (w : Word) (s : State) (ec ml : Bytes), s.serves .d2 = true → s.rootless = false → s.att.run = none →
      s.att.pendS = none → s.att.pendC = none → s.att.certs = some (ec, ml) → rsvSet .attCmd w = false →
      s.attDenied (s.attOperands .s .certRead) = false →
      let out := if (s.attOperands .s .certRead).sel = 0 then ec else ml
      out.length ≤ (s.attOperands .s .certRead).max → ∃ t, exec (.certRead .s w) s = .next t ∧ t.att.resS = .done ∧
        t.att.lenS = out.length ∧ t.att.run = none ∧
        t.psram = Sparse.putBytes 0 s.psram (s.attOperands .s .certRead).out out) ∧
    (∀ (w : Word) (s : State), s.serves .d2 = true → bit w 0 = true →
      (s.att.staged.ok = true → exec (.attCommit w) s = .next
        { s.quiet with
          att := { s.att with
            record := s.att.staged, epoch := s.att.epoch + 1, handover := false, commitCode := .done }
          top := { s.top with fwDigest := s.regBytes .topFwStage 0 16 } }) ∧
      (s.att.staged.ok = false → exec (.attCommit w) s =
        .next (s.quiet.onAtt fun a => { a with commitCode := .deniedAttr }))) ∧
    (∀ (w : Word) (s : State), s.serves .d2 = true →
      (bit w 0 = true → exec (.handoverSet w) s = .next (s.quiet.onAtt fun a => { a with handover := true })) ∧
      (bit w 0 = false → exec (.handoverClear w) s =
        .next (s.quiet.onAtt fun a => { a with handover := false, staged := a.record })) ∧
      exec (.mainReady w) s = .next (s.quiet.onAtt fun a => { a with mainReady := a.mainReady || bit w 1 })) ∧
    (∀ (s : State) (r : AttRun) (c : AttCmd), s.att.run = some r → r.phase = .sample → r.cmd = some c →
      s.att.handover = false → ∀ e : MemErr, exec (.reportSample e) s = .next (s.quiet.attSample r c e).attGoOn) ∧
    ∀ s : State, s.boot.stage = 5 → s.rootless = false → s.att.certs = none → s.att.run = none →
      exec .certBuild s = .next (s.quiet.onAtt fun a => { a with run := some { cmd := none, phase := .pubkey } })

/-- The SPDM responder negotiates in order, answers from slot 0, and signs challenges, measurements and exchanges.
Every SPDM row waits while the main firmware does not serve, is at another request, or the comparator is not free for
the tag of a record. It leaves a request of another row alone, answers one that no row serves with UnsupportedRequest,
or not at all where no vendor is named, one of another version with VersionMismatch, and ends a session whose record
fails its tag. Else: GET_VERSION, GET_CAPABILITIES and NEGOTIATE_ALGORITHMS in their order answer and move the
negotiation on; an offer that lacks a selection of R401 is error 0x0E, a step out of order error 0x04. With the
certificates built, GET_DIGESTS and GET_CERTIFICATE answer from the chain of the NVM's certificates and the alias.
CHALLENGE, signed and unsigned GET_MEASUREMENTS and KEY_EXCHANGE answer with fresh bytes and, where asked for, a
SIGN_BIND signature of their purpose, or error 0x05 where there is none; a KEY_EXCHANGE signed then adds one session,
its handshake open. Within a session the negotiation, CHALLENGE and KEY_EXCHANGE are not served. The model's choices:
message layouts, the order of the checks and the error codes other than 0x07 and 0x0E (logs 11, 12), portions of 8,184
bytes and where the certificates stand (log 13), the RspSessionID (log 10), and the comparator's and the digest
engine's turns (log 110). COMPLETION: under the conditions stated on state and operands alone, exec answers a next
state for getVersion, getCapabilities, negotiateAlgorithms, getDigests, getCertificate, challenge, getMeasurements,
keyExchange. -/
def Obligations.SpdmNegotiatesAndProves : Prop :=
  (∀ (ss : Option Word) (r : Bytes) (out : Option Bytes) (s : State),
      ∀ e ∈ [(((0x84, 0) : Byte × Byte), Instr.getVersion ss r), ((0xE1, 0), .getCapabilities ss r),
          ((0xE3, 0), .negotiateAlgorithms ss r), ((0x81, 0), .getDigests ss r), ((0x82, 0), .getCertificate ss r),
          ((0x83, 0), .challenge ss r), ((0xE0, 0), .getMeasurements ss r), ((0xE4, 0), .keyExchange ss r),
          ((0xE5, 0), .finish ss r), ((0xEC, 0), .endSession ss r), ((0xFE, 1), .pqStart ss r), ((0xFE, 2), .pqAccept ss r),
          ((0xFE, 3), .pqCert ss r), ((0xFE, 4), .vdmReport ss r), ((0xFE, 5), .getPage ss r), ((0xFE, 6), .keyMsg ss r out),
          ((0xFE, 7), .supplyCheck ss r)],
        ((s.mainServes = false ∨ s.signing = true) → exec e.2 s = .next s.quiet) ∧
        (s.mainServes = true → s.signing = false → (ss.bind s.spdmSession).isSome = true → s.cmpReady = false →
          exec e.2 s = .next s.quiet.d3Missed) ∧
        (s.mainServes = true → s.signing = false → ((ss.bind s.spdmSession).isSome = true → s.cmpReady = true) →
          (s.opened ss r = none → (ss.bind s.spdmSession = none → exec e.2 s = .next s.quiet) ∧
            ∀ x, ss.bind s.spdmSession = some x →
              exec e.2 s = .next (((s.tagged ss false).endSpdm x.id).answerError none 0x06).fwDestroys) ∧
          ∀ m, s.opened ss r = some m →
            let u := s.tagged ss true
            (s.requestKind m = none → (reqCode m = 0xFE ∧ s.vendorOn = false → exec e.2 s = .next u) ∧
              (¬(reqCode m = 0xFE ∧ s.vendorOn = false) →
                exec e.2 s = .next ((u.countRecord ss).answerError ss 0x07))) ∧
            (∀ k, s.requestKind m = some k → k ≠ e.1 → exec e.2 s = .next u) ∧
            (s.requestKind m = some e.1 → (e.1.1 = 0xFE → s.vendorOn = true) → m.headD 0 ≠ requestVersion m →
              exec e.2 s = .next ((u.countRecord ss).answerError ss 0x41)))) ∧
    (∀ (r : Bytes) (s : State),
      (s.spdmReads none r r (0x84, 0) → exec (.getVersion none r) s =
        .next ((s.heard none 0x84).negotiated 1 r versionMsg)) ∧
      (s.spdmReads none r r (0xE1, 0) → (s.fw.conn < 1 → exec (.getCapabilities none r) s =
          .next ((s.heard none 0xE1).answerError none 0x04)) ∧
        (1 ≤ s.fw.conn → 20 ≤ r.length → exec (.getCapabilities none r) s =
          .next ((s.heard none 0xE1).negotiated 2 r capabilitiesMsg))) ∧
      (s.spdmReads none r r (0xE3, 0) → (s.fw.conn < 2 → exec (.negotiateAlgorithms none r) s =
          .next ((s.heard none 0xE3).answerError none 0x04)) ∧
        (2 ≤ s.fw.conn → 32 ≤ r.length → exec (.negotiateAlgorithms none r) s = .next
          (if offersAll r spdmAlgs then (s.heard none 0xE3).negotiated 3 r (algorithmsMsg spdmAlgs)
           else (s.heard none 0xE3).answerError none 0x0E)))) ∧
    (∀ (id : Word) (r m : Bytes) (s : State), ∀ e ∈ [((0x84 : Byte), Instr.getVersion (some id) r),
        (0xE1, .getCapabilities (some id) r), (0xE3, .negotiateAlgorithms (some id) r), (0x83, .challenge (some id) r),
        (0xE4, .keyExchange (some id) r)], s.spdmReads (some id) r m (e.1, 0) →
      exec e.2 s = .next ((s.heard (some id) e.1).answerError (some id) 0x07)) ∧
    (∀ (ss : Option Word) (r m : Bytes) (s : State) (c : List Bytes), s.spdmOpen ss → s.chainCerts true = some c →
      let chain := spdmChain c
      (s.spdmReads ss r m (0x81, 0) →
        let rsp := digestsMsg (sha384 chain)
        exec (.getDigests ss r) s = .next ((((s.heard ss 0x81).fetchCerts true).noteB ss m rsp).answer ss rsp)) ∧
      (s.spdmReads ss r m (0x82, 0) → 8 ≤ m.length → msgNum m 2 1 % 16 = 0 → msgNum m 4 2 < chain.length →
        let part := slice chain (msgNum m 4 2) (min (msgNum m 6 2) 8184)
        let rsp := certificateMsg part (chain.length - msgNum m 4 2 - part.length)
        exec (.getCertificate ss r) s = .next ((((s.heard ss 0x82).fetchCerts true).noteB ss m rsp).answer ss rsp))) ∧
    (∀ (r : Bytes) (s : State) (c : List Bytes) (l : List Nat), s.spdmReads none r r (0x83, 0) → 3 ≤ s.fw.conn →
      44 ≤ r.length → s.attIdle .c = true → s.trng.fail = false → s.chainCerts true = some c →
      summaryList (BitVec.ofNat 8 (msgNum r 3 1)) = some l → msgNum r 2 1 = 0 → s.mrsBad l = false →
      ∃ v nonce, ((s.heard none 0x83).fetchCerts true).fwRandom 32 = some (v, nonce) ∧
        let body := challengeAuthBody (sha384 (spdmChain c)) nonce (s.summary l) (slice r 36 8)
        exec (.challenge none r) s =
          .next (v.withSignature 0 (s.vca ++ s.fw.msgB ++ r ++ body) (.challenge body))) ∧
    (∀ (ss : Option Word) (r m : Bytes) (s : State), s.spdmReads ss r m (0xE0, 0) → s.spdmOpen ss → s.trng.fail = false →
      let op := msgNum m 3 1
      let l := measurementList op
      (op ≤ 16 ∨ op = 0xFF) → s.mrsBad l = false →
      ∃ v nonce, (s.heard ss 0xE0).fwRandom 32 = some (v, nonce) ∧
        let blocks := s.measurements l
        let body (at_ : Nat) := measurementsBody (if op = 0 then 16 else 0) blocks.length (blocks.flatMap blockBytes) nonce
          (slice m at_ 8)
        (msgNum m 2 1 % 2 = 0 → 12 ≤ m.length → exec (.getMeasurements ss r) s = .next
          ((v.setMsgL ss (s.msgL ss ++ m ++ body 4)).answer ss (body 4))) ∧
        (msgNum m 2 1 % 2 = 1 → 45 ≤ m.length → msgNum m 36 1 % 16 = 0 → s.attIdle .c = true →
          exec (.getMeasurements ss r) s =
            .next (v.withSignature 2 (s.vca ++ (s.msgL ss ++ m ++ body 37)) (.measure ss (body 37))))) ∧
    (∀ (r : Bytes) (s : State) (c : List Bytes) (l : List Nat) (q : Nat × Nat), s.spdmReads none r r (0xE4, 0) →
      3 ≤ s.fw.conn → 138 + msgNum r 136 2 ≤ r.length → s.attIdle .c = true → s.trng.fail = false → s.chainCerts true = some c →
      summaryList (BitVec.ofNat 8 (msgNum r 2 1)) = some l → pointOf (slice r 40 96) = some q → msgNum r 3 1 % 16 = 0 →
      s.fw.sessions.length < 255 → s.mrsBad l = false →
      ∃ v rnd, ((s.heard none 0xE4).fetchCerts true).fwRandom 80 = some (v, rnd) ∧
        let d := scalarOf (rnd.take 48)
        let id := sessionId s.freshRsp (BitVec.ofNat 16 (msgNum r 4 2))
        let body := keyExchangeBody s.freshRsp (slice rnd 48 32) (ecPublic d) (s.summary l)
        let t := s.vca ++ sha384 (spdmChain c) ++ r ++ body
        let hs := handshakeSecret (ecdhShared d q)
        exec (.keyExchange none r) s = .next (v.withSignature 1 t (.exchange id t body hs))) ∧
    (∀ (n : Nat) (t : Bytes) (j : FwJob) (s : State),
      (s.withSignature n t j).fw.attC.map (fun x => x.job) = some j ∧
        (s.withSignature n t j).reg .attOpSel 1 = BitVec.ofNat 32 n) ∧
    ∀ (s : State) (j : FwJob) (k : Code) (n : Nat), s.fw.attC = some ⟨j, some (k, n)⟩ → s.mainServes = true →
      let u := s.setTask .c none
      let sig := s.fwOutput .c 96
      (∀ body, j = .challenge body → s.attResumeC =
        if k = .done then (u.onFw fun w => { w with msgB := [] }).answer none (body ++ sig) else u.answerError none 0x05) ∧
      (∀ ss body, j = .measure ss body → s.attResumeC =
        if k = .done then (u.setMsgL ss []).answer ss (body ++ sig) else u.answerError ss 0x05) ∧
      ∀ id t body hs, j = .exchange id t body hs → (k ≠ .done → s.attResumeC = u.answerError none 0x05) ∧
        (k = .done → s.dgeReady = true →
          let x := newSession id (t ++ sig) hs
          let v := rspVerify hs (sha384 (t ++ sig)) (sha384 (t ++ sig))
          x.established = false ∧ x.id = id ∧ s.attResumeC =
            ((u.dgeTurns 1 18 v).onFw fun f => { f with
              sessions := f.sessions ++ [x], nextRsp := id.extractLsb' 16 16 + 1 }).answer none (body ++ sig ++ v))

/-- FINISH, the post-quantum leg, reports, pages, key messages, the supply check and END_SESSION in a session. Of a
request that its row reads: FINISH with its verify data establishes an open handshake under new keys; with other data
the session is gone. In an established session: PQ_START without a Kiln session goes through MBX1 and waits for the
leg, or for MBX1, and is denied where a session or leg is there; PQ_ACCEPT of the open leg hands it on, of another is
ABORTED; a step of the leg that fails answers its code, the signature the offer, SESSION_OPEN the end; a platform or
job report is asked for and kept, one of a partition above 63 refused, a composite begins on a manager, and GET_PAGE
answers up to 4,096 bytes of the report; KEY_MSG hands the message to the Kiln and answers its code and DATA_OUT;
END_SESSION ends the session and owes the DESTROY of its slot. In a session or outside, PQ_CERT answers a page of the
ML-DSA chain and SUPPLY_CHECK with a key its MAC, once a digest context is free. The leg's timeout closes it. The
model's choices: argument layouts (log 13), the messages of MBX1 and the firmware's buffers (log 68), the turns on the
digest engine and the comparator (log 110). COMPLETION: under the conditions stated on state and operands alone, exec
answers a next state for finish, endSession, pqStart, pqAccept, pqLegTimeout, pqCert, vdmReport, getPage, keyMsg,
supplyCheck. -/
def Obligations.SpdmSessionsCarryVendorMessages : Prop :=
  (∀ (id : Word) (r m : Bytes) (s : State) (x : SpdmSession), s.spdmReads (some id) r m (0xE5, 0) →
      s.spdmSession id = some x → x.established = false → 52 ≤ m.length → msgNum m 2 1 % 2 = 0 →
      let v := x.verifyData m
      let u := ((s.heard (some id) 0xE5).dgeTurns 1 4 v).cmpTurn (slice m 4 48 == v)
      let rsp := spdmMsg 0x65 0 0 []
      (s.dgeReady = false → exec (.finish (some id) r) s = .next s.quiet) ∧
      (s.dgeReady = true → slice m 4 48 = v → ∃ t, exec (.finish (some id) r) s = .next t ∧
        t = (((u.dgeTurns 1 16 (lastHmac x.hs (x.finished (m.take 52) rsp).th2)).answer (some id) rsp).onSpdm id fun x =>
          x.finished (m.take 52) rsp) ∧
        ∀ y ∈ t.fw.sessions, y.id = id → y.established = true) ∧
      (s.dgeReady = true → slice m 4 48 ≠ v → ∃ t, exec (.finish (some id) r) s = .next t ∧
        t = ((u.answerError (some id) 0x06).endSpdm id).fwDestroys ∧
        ∀ y ∈ ((u.answerError (some id) 0x06).endSpdm id).fw.sessions, y.id ≠ id)) ∧
    (∀ (id : Word) (r m : Bytes) (s : State) (x : SpdmSession), s.spdmReads (some id) r m (0xEC, 0) →
      s.spdmSession id = some x → x.established = true →
      let t := ((s.heard (some id) 0xEC).answer (some id) (spdmMsg 0x6C 0 0 [])).endSpdm id
      exec (.endSession (some id) r) s = .next t.fwDestroys ∧ (∀ y ∈ t.fw.sessions, y.id ≠ id) ∧
        ∀ k, x.kiln = some k → k ∈ t.fw.destroys) ∧
    (∀ (id : Word) (r m : Bytes) (s : State) (x : SpdmSession), s.spdmReads (some id) r m (0xFE, 1) →
      s.spdmSession id = some x → x.established = true → argsFit m 4 1 →
      let u := s.heard (some id) 0xFE
      ((x.kiln ≠ none ∨ x.waiting = true) → exec (.pqStart (some id) r) s = .next (u.answerCode (some id) 1 .deniedAttr)) ∧
      (x.kiln = none → x.waiting = false → (s.slotFree 3 = false → exec (.pqStart (some id) r) s = .next s.quiet) ∧
        (s.slotFree 3 = true → exec (.pqStart (some id) r) s = .next
          (((u.onSpdm id fun x => { x with waiting := true }).mbx1Pass 3 0).onFw fun w =>
            { w with legs := w.legs ++ [(id, (vendorArgs m).headD 0)] })))) ∧
    (∀ (id : Word) (r m : Bytes) (s : State) (x : SpdmSession), s.spdmReads (some id) r m (0xFE, 2) →
      s.spdmSession id = some x → x.established = true → argsFit m 1664 1664 →
      let u := s.heard (some id) 0xFE
      ((∀ l, s.fw.leg = some l → l.id ≠ id) → exec (.pqAccept (some id) r) s =
        .next (u.answerCode (some id) 2 .aborted)) ∧
      ∀ l, s.fw.leg = some l → l.id = id →
        ((s.fw.pq.isSome = true ∨ s.secServes = false ∨ s.slotFree 3 = false) →
          exec (.pqAccept (some id) r) s = .next s.quiet) ∧
        (s.fw.pq = none → s.secServes = true → s.slotFree 3 = true →
          let a := vendorArgs m
          exec (.pqAccept (some id) r) s = .next ((u.mbx1Pass 3 5).setPq (some
            { id := id, part := l.part, step := .derive, h := l.h, peer := a.take 96, cipher := a.drop 96 })))) ∧
    (∀ (s : State) (q : PqWork) (k : Code), s.fw.pq = some q → q.code = some k → s.secServes = true →
      (s.mainServes = false ∨ s.slotFree 2 = false → k ≠ .done → s.pqGo = s) ∧
      (s.mainServes = true → s.slotFree 2 = true →
        (k ≠ .done → ∃ op, s.pqGo = s.pqOver q op k ∧ (op = 1 ∨ op = 2)) ∧
        (k = .done → q.step = .sign → ∃ t, s.pqGo = t ∧ t.fw.leg = some ⟨q.id, q.part, q.h⟩ ∧ t.fw.pq = none) ∧
        (k = .done → q.step = .openSlot → s.pqGo = s.pqOver q 2 .done))) ∧
    (∀ (s : State) (l : PqLeg), s.up .d2 = true → s.fw.leg = some l → s.fw.pq = none → exec .pqLegTimeout s = .next
      ((s.quiet.onSpdm l.id fun x => { x with waiting := false }).onFw fun w => { w with leg := none })) ∧
    (∀ (ss : Option Word) (r m : Bytes) (s : State) (c : List Bytes), s.spdmReads ss r m (0xFE, 3) → s.spdmOpen ss →
      argsFit m 8 6 → s.chainCerts false = some c →
      let chain := c.flatten
      let a := vendorArgs m
      exec (.pqCert ss r) s = .next (((s.heard ss 0xFE).fetchCerts false).answerVendor ss 3
        (slice chain (msgNum a 0 4) (min (msgNum a 4 2) 4096) ++ leBytes 4 chain.length))) ∧
    (∀ (id : Word) (r m : Bytes) (s : State) (x : SpdmSession), s.spdmSession id = some x → x.established = true →
      let u := s.heard (some id) 0xFE
      let a := vendorArgs m
      (s.spdmReads (some id) r m (0xFE, 5) → argsFit m 8 6 → exec (.getPage (some id) r) s = .next
        (u.answerVendor (some id) 5 (slice x.report (msgNum a 0 4) (min (msgNum a 4 2) 4096) ++ leBytes 4 x.report.length))) ∧
      (s.spdmReads (some id) r m (0xFE, 4) → argsFit m 36 36 →
        (∀ op, (msgNum a 0 1 = 0 ∧ op = .platform ∨ msgNum a 0 1 = 1 ∧ op = .job) →
          (op = .job → 64 ≤ msgNum a 1 1 → exec (.vdmReport (some id) r) s = .next (u.answerError (some id) 0x05)) ∧
          ((op = .job → msgNum a 1 1 < 64) → (s.attIdle .c = false → exec (.vdmReport (some id) r) s = .next s.quiet) ∧
            (s.attIdle .c = true → exec (.vdmReport (some id) r) s = .next
              ((u.setReg .attOpJob (putN (msgNum a 2 2) 0 16 ||| putN (msgNum a 1 1) 16 6) 1).askReport .c op (slice a 4 32)
                131072 (.session id))))) ∧
        (msgNum a 0 1 = 2 → s.isManager = true → s.fw.compose = none → (s.fw.coll.any fun c => !c.ended) = false →
          exec (.vdmReport (some id) r) s = .next (u.beginComposite id (slice a 4 32))))) ∧
    (∀ (id : Word) (k : Code) (n : Nat) (s : State), s.fw.attC = some ⟨.session id, some (k, n)⟩ → s.mainServes = true →
      let u := s.setTask .c none
      s.attResumeC = if n = 0 then u.answerError (some id) 0x05
        else (u.onSpdm id fun x => { x with report := s.fwOutput .c n }).answerVendor (some id) 4 []) ∧
    (∀ (id : Word) (r m : Bytes) (out : Option Bytes) (s : State) (x : SpdmSession), s.spdmReads (some id) r m (0xFE, 6) →
      let u := s.heard (some id) 0xFE
      u.spdmSession id = some x → x.established = true →
      let a := vendorArgs m
      a ≠ [] → a.length ≤ 4288 →
      ((s.klnFree = false ∨ s.secServes = false) → exec (.keyMsg (some id) r out) s = .next s.quiet) ∧
      (s.klnFree = true → s.secServes = true →
      let v := (((u.psramPut fwMsg a).setReg .klnOpAddr (BitVec.ofNat 32 fwMsg)).setReg .klnOpDst
        (BitVec.ofNat 32 fwDst)).setReg .klnOpLen (BitVec.ofNat 32 a.length)
      (msgNum a 6 1 ≠ 5 →
        let w := (v.setReg .klnOpSlot ((v.freeSlot.getD 0).setWidth 32)).doUnwrap 0 .none
        exec (.keyMsg (some id) r out) s =
          .next (if w.klnBusy then s.quiet else w.answerVendor (some id) 6 [w.kln.code.byte])) ∧
      (msgNum a 6 1 = 5 →
        let g := v.dataIn x a.length
        (out = none → exec (.keyMsg (some id) r out) s = .next (g.1.answerVendor (some id) 6 [g.2.byte])) ∧
        ∀ text, out = some text → exec (.keyMsg (some id) r out) s = .next
          ((g.1.dataOut id text).1.answerVendor (some id) 6 ([g.2.byte] ++ (g.1.dataOut id text).2))))) ∧
    ∀ (ss : Option Word) (r m : Bytes) (s : State), s.spdmReads ss r m (0xFE, 7) → s.spdmOpen ss → argsFit m 32 32 →
      let k := (List.range 4).flatMap fun i => leBytes 8 (s.configRow (0x10C + i)).toNat
      let v := hmac384 k (ascii "icvia-supply-v2" ++ vendorArgs m ++ s.identBytes 0x084 4)
      ((∃ b ∈ k, b ≠ 0) → (s.dgeReady = false → exec (.supplyCheck ss r) s = .next s.quiet.d3Missed) ∧
        (s.dgeReady = true → exec (.supplyCheck ss r) s =
          .next (((s.heard ss 0xFE).dgeTurns 1 2 v).answerVendor ss 7 v))) ∧
      ((∀ b ∈ k, b = 0) → exec (.supplyCheck ss r) s = .next ((s.heard ss 0xFE).answerError ss 0x07))

/-- A commit defines a partition with a new generation; a job's digests are recorded and forgotten; QUARANTINE holds
it. While D2 serves: a commit that nothing refuses makes the staged partition ACTIVE with its staged fields and
regions, advances its generation and the epoch, records DONE, and, if confidential, closes the debug gate and ends
boost; a refused one records its code and nothing else; one that meets an uncorrectable error in the tables, and that
no refusal which needs no table stops (the model's reading, log 86), records INTEGRITY and reports a health event of
unit 6, and so do JOB_RECORD, JOB_FORGET and QUARANTINE. JOB_RECORD of an ACTIVE partition and a job without digests
fills the lowest free entry (the model's choice, log 119: R440 says a free one), or answers NO_RESOURCE; JOB_FORGET
frees the entry, or answers DENIED_ATTR. QUARANTINE of an ACTIVE partition but 0 sets its state, raises ZEROISE of its
group, ends its gate run and counts; of partition 0 it is DENIED_ATTR, whatever the tables hold. COMPLETION: under the
conditions stated on state and operands alone, exec answers a next state for prtCommit, prtQuarantine, jobRecord,
jobForget. -/
def Obligations.PartitionsAreDefinedWithTheirJobs : Prop :=
  (∀ (w : Word) (s : State), s.serves .d2 = true → bit w 0 = true →
      (∀ c, lowest (s.commitEarly ++ s.commitRefusals) = some c →
        exec (.prtCommit w .none) s = .next (s.quiet.onPrt fun t => { t with commitCode := c })) ∧
      (∀ c, lowest s.commitEarly = some c →
        exec (.prtCommit w .uncorr) s = .next (s.quiet.onPrt fun t => { t with commitCode := c })) ∧
      (lowest s.commitEarly = none → exec (.prtCommit w .uncorr) s =
        .next ((s.quiet.health 6 .integrity).onPrt fun t => { t with commitCode := .integrity })) ∧
      (lowest (s.commitEarly ++ s.commitRefusals) = none → Sparse.wf 0 s.prt.gens = true → Sparse.wf {} s.prt.staged = true →
        let p := s.stgPart
        ∃ t, exec (.prtCommit w .none) s = .next t ∧ t.prt.commitCode = .done ∧ t.partGen p = s.partGen p + 1 ∧
          t.prt.epoch = s.prt.epoch + 1 ∧
          t.partEntry p = { st := .active, conf := s.stgConf, chunk := s.stgChunk, arrays := s.stgArrays } ∧
          (∀ q, q ≠ p → t.partEntry q = s.partEntry q ∧ t.partGen q = s.partGen q) ∧
          (∀ e ∈ s.stagedRegions p, t.region e.1 = e.2) ∧
          (∀ i, (∀ e ∈ s.stagedRegions p, e.1 ≠ i) → t.region i = s.region i) ∧
          (s.stgConf = true → t.lcs.confClosed = true ∧ t.lcs.debugOpen = false ∧ t.fnc.d = min s.fnc.d s.fnc.planDuty) ∧
          (s.stgConf = false → t.lcs = s.lcs) ∧ t.psram = s.psram ∧ t.csram = s.csram ∧ t.regs = s.regs)) ∧
    (∀ (w : Word) (s : State), s.prtTakes w →
      (∀ i ∈ [Instr.jobRecord w .uncorr, .jobForget w .uncorr], exec i s =
        .next ((s.quiet.health 6 .integrity).prtDone .integrity)) ∧
      exec (.prtQuarantine w .uncorr) s =
        .next (if s.prtPart = 0 then s.quiet.prtDone .deniedAttr else (s.quiet.health 6 .integrity).prtDone .integrity) ∧
      (s.prtPart = 0 → exec (.prtQuarantine w .none) s = .next (s.quiet.prtDone .deniedAttr))) ∧
    (∀ (w : Word) (s : State), s.prtTakes w → s.partState s.prtPart = .active →
      s.jobDigest s.prtPart s.prtJob = none →
      (∀ i, s.freeJob = some i → exec (.jobRecord w .none) s = .next ((s.quiet.setJob i
        (some ⟨s.prtPart, s.prtJob, s.regBytes .prtOpGate 0 16, s.regBytes .prtOpPolicy 0 16⟩)).prtDone .done)) ∧
      (s.freeJob = none → exec (.jobRecord w .none) s = .next (s.quiet.prtDone .noResource))) ∧
    (∀ (w : Word) (s : State), s.prtTakes w →
      (∀ i d, s.jobDigest s.prtPart s.prtJob = some (i, d) →
        exec (.jobForget w .none) s = .next ((s.quiet.setJob i none).prtDone .done)) ∧
      (s.jobDigest s.prtPart s.prtJob = none → exec (.jobForget w .none) s = .next (s.quiet.prtDone .deniedAttr))) ∧
    ∀ (w : Word) (s : State), s.prtTakes w → s.prtPart ≠ 0 → s.partState s.prtPart = .active →
      let p := s.prtPart
      let s1 := s.quiet.setPart p { s.partEntry p with st := .quarantined }
      exec (.prtQuarantine w .none) s = .next
        ((((s1.raiseEmber (zeroiseGroup p .none .prt)).gateStop p .quarantine).onPrt fun t =>
          { t with cntQuar := tally t.cntQuar }).prtDone .done)

/-- A gate run begins in a zeroed scratch area and ends with core 7 held; a RELEASE drains, scrubs and frees. While D2
serves and D4 is released: GATE_ENTER with every condition of R448 met, and no activation that withholds it (R512, log
63: the firmware does not give it then), loads the budget, makes the run active and zeroes the scratch area and no
other byte. A yield, or the budget at zero, ends the run with core 7 held; GATE_EXIT then restores it. RELEASE of a
partition with arrays makes it RELEASING and asks each array to drain; a token awaited is struck off and any other
counted. In phase 4, SCRUB_REGION starts the zero fill of a region of the partition, and SCRUB_DONE frees it and its
regions. SCRUB_ORPHANS takes up the ORPHAN regions. COMPLETION: under the conditions stated on state and operands
alone, exec answers a next state for prtRelease, scrubRegion, scrubDone, gateEnter, gateExit, scrubOrphans, gateYield,
gateBudgetExpire, drainToken. -/
def Obligations.GateRunsAndReleasesHandCoresAndPartitionsOver : Prop :=
  (∀ (w : Word) (s : State), s.prtTakes w → s.prt.gate.active = false → s.prt.gate.held = false →
      s.partState s.prtPart = .active → (s.jobDigest s.prtPart s.prtJob).isSome = true →
      (s.record s.prtPart.toNat s.prtJob).any (fun e => e.2.state == .formed) = true →
      (s.mreg s.prtIndex).owner = some s.prtPart → s.hasRegion s.prtPart 2 = true → s.hasRegion s.prtPart 3 = true →
      s.gateKeyed s.prtPart = true → s.gateWithheld = false → Memory.wf 0 s.csram → ∃ t,
        exec (.gateEnter w .none) s = .next t ∧ t.prt.code = .done ∧
        t.prt.gate = { active := true, part := s.prtPart, mr := s.prtIndex, job := s.prtJob,
                       budget := (s.reg .prtGateBudget).toNat } ∧
        t.psram = s.psram ∧ ∀ a, Sparse.get 0 t.csram a =
          if 0x0EC0000 ≤ a ∧ a < 0x0EF0000 then 0 else Sparse.get 0 s.csram a) ∧
    (∀ (w : Word) (s : State), s.prtTakes w → s.prt.gate.held = true →
      exec (.gateExit w) s = .next ((s.quiet.zeroScratch.onPrt fun t => { t with gate := {} }).prtDone .done)) ∧
    (∀ (w : Word) (s : State), s.prt.gate.active = true →
      let left (why : GateReason) : State := s.quiet.onPrt fun t =>
        { t with gate := { t.gate with active := false, held := true, reason := why }, intGate := true }
      exec .gateBudgetExpire s = .next (left .budget) ∧
        (s.serves .d2 = true → bit w 0 = true → exec (.gateYield w) s = .next (left .yield))) ∧
    (∀ (w : Word) (s : State), s.prtTakes w → s.prtBackground = false → s.prtPart ≠ 0 →
      (s.partState s.prtPart = .active ∨ s.partState s.prtPart = .quarantined) →
      let p := s.prtPart
      ∃ t, exec (.prtRelease w .none) s = .next t ∧ t = ((s.quiet.relStart p).prtDone .done).prtGoOn ∧
        ((s.partEntry p).arrays ≠ 0 → t.prt.code = .done ∧ t.partState p = .releasing ∧
          t.prt.rel = some ⟨p, .drain, (s.partEntry p).arrays, []⟩ ∧
          ∀ i, i < 256 → (s.partEntry p).arrays.getLsbD i = true → .drain i p (s.partGen p) ∈ t.outs)) ∧
    (∀ (i : BitVec 8) (p : PartId) (g : Gen) (s : State), s.up .d2 = true → s.up .d4 = true →
      (∀ r, s.prt.rel = some r → r.stage = .drain → r.part = p → r.wait.getLsbD i.toNat = true → s.partGen p = g →
        exec (.drainToken i p g) s = .next (State.prtGoOn (s.quiet.onPrt fun t =>
          { t with rel := some { r with wait := r.wait &&& ~~~ (1#256 <<< i.toNat) } }))) ∧
      ((∀ r, s.prt.rel = some r → r.stage ≠ .drain ∨ r.part ≠ p ∨ r.wait.getLsbD i.toNat = false ∨ s.partGen p ≠ g) →
        exec (.drainToken i p g) s = .next (s.quiet.onPrt fun t =>
          { t with cntTokdrop := tally t.cntTokdrop, intTokdrop := true }))) ∧
    (∀ (w : Word) (s : State), s.prtTakes w → s.partPhase s.prtPart = 4 →
      ((s.region s.prtIndex).part = s.prtPart → ((s.region s.prtIndex).kind = 2 ∨ (s.region s.prtIndex).kind = 3) →
        exec (.scrubRegion w .none) s = .next
          (State.prtGoOn (s.quiet.onPrt fun t => { t with fill := some ⟨s.prtIndex, 0, false⟩ }))) ∧
      ((∀ i ∈ s.regionsOf s.prtPart, (s.region i).kind = 1 ∨ (s.region i).scrubbed = true) →
        (s.prt.gate.held = true → s.prt.gate.part ≠ s.prtPart) → s.prtPart ≠ 0 → Sparse.wf {} s.prt.parts = true →
        Sparse.wf {} s.prt.regions = true → ∃ t, exec (.scrubDone w .none) s = .next t ∧ t.prt.code = .done ∧
          t.prt.rel = none ∧ t.partState s.prtPart = .free ∧ (∀ i ∈ s.regionsOf s.prtPart, t.region i = {}) ∧
          t.prt.cntRelease = tally s.prt.cntRelease ∧ t.prt.intReleased = true)) ∧
    ∀ (w : Word) (s : State), s.prtTakes w → s.prtBackground = false →
      let l := (s.prt.regions.filter fun e => e.2.orphan).map (·.1)
      exec (.scrubOrphans w .none) s = .next
        (((s.quiet.onPrt fun t => { t with orphans := some l }).prtDone .done).prtGoOn)

/-- A mailbox passes one message at a time to its receiver, adds doorbells, and is emptied by a host reset. While D6
serves, for a requester outside gate mode: a SEND of the sending side that R473 refuses records its code; one to
another core or the host posts its LEN words with the next SEQ and DONE, a CAP_OFFER on MBX0 then opening the
negotiation of its area and generation; one to the frame engine is posted if its header may be sent and ends with
ABORTED if not. A POP of the receiving side answers the message and clears FULL. DB_SET adds bits 0 to 30, RINGDB a
ring's pending bit and doorbell 30; in DIM a host doorbell of MBX0 ends it. A host reset with its key empties MBX0,
sets doorbell 31 for side B and ABORTED in what it sends, and the firmware notes it; without the key it does nothing.
Another requester gets DENIED_ATTR, and core 7 in gate mode an access fault. COMPLETION: under the conditions stated
on state and operands alone, exec answers a next state for mbxSend, mbxPop, dbSet, mbxHostReset, mbxRingdb. -/
def Obligations.MailboxesPassMessagesAndDoorbells : Prop :=
  (∀ (q : Req) (m : Fin 4) (d : MbxDir) (w : Word) (s : State), s.gateCore q = false → s.serves .d6 = true →
      s.mbxSender q m.val d = true →
      let i := slotIx m.val d
      let n := fldN w 0 5
      (∀ c, lowest (s.sendRefusals i n) = some c →
        exec (.mbxSend q m d w) s = .next (s.quiet.onMslot i fun v => { v with code := c })) ∧
      (lowest (s.sendRefusals i n) = none → i ≠ 1 → i ≠ 5 → i ≠ 7 →
        exec (.mbxSend q m d w) s = .next (s.quiet.post i n)) ∧
      (lowest (s.sendRefusals i n) = none → i = 7 → exec (.mbxSend q m d w) s = .next
        (if postable (s.mslot 7).msg then s.quiet.post 7 n else s.quiet.onMslot 7 fun v => { v with code := .aborted })) ∧
      (lowest (s.sendRefusals i n) = none → i = 1 → s.msgType 1 ≠ 1 → exec (.mbxSend q m d w) s = .next (s.quiet.post 1 n)) ∧
      (lowest (s.sendRefusals i n) = none → i = 1 → s.msgType 1 = 1 → s.mbx.slots.length = 8 → ∃ t,
        exec (.mbxSend q m d w) s = .next t ∧ t = (s.quiet.post 1 n).capPrepare (s.msgAddr 1 1) (fld (s.msgWord 1 3) 0 8) ∧
        t.fw.offered = true ∧ t.fw.unanswered = true ∧ t.fw.capActive = false ∧ t.fw.capgen = fld (s.msgWord 1 3) 0 8 ∧
        t.fw.area = s.msgAddr 1 1 ∧ (t.mslot 1).full = true) ∧
      ((i = 0 → s.crs.dim = false ∨ w &&& 0x7FFFFFFF#32 = 0) → exec (.dbSet q m d w) s = .next
        (s.quiet.onMslot i fun v => { v with db := v.db ||| (w &&& 0x7FFFFFFF#32) })) ∧
      (i = 0 → s.crs.dim = true → w &&& 0x7FFFFFFF#32 ≠ 0 → ∃ t, exec (.dbSet q m d w) s = .next t ∧
        t.crs.dim = false ∧ t.crs.dimExit = 1 ∧
        t.mbx = (s.onMslot 0 fun v => { v with db := v.db ||| (w &&& 0x7FFFFFFF#32) }).mbx)) ∧
    (∀ (q : Req) (m : Fin 4) (d : MbxDir) (s : State), s.gateCore q = false → s.serves .d6 = true →
      s.mbxReceiver q m.val d = true → exec (.mbxPop q m d) s = .next
        ((s.quiet.emit (.read (s.mslot (slotIx m.val d)).popWord)).onMslot (slotIx m.val d) fun v =>
          { v with full := false })) ∧
    (∀ (q : Req) (m : Fin 4) (d : MbxDir) (w : Word) (s : State), s.gateCore q = false → s.serves .d6 = true →
      (s.mbxSender q m.val d = false → exec (.mbxSend q m d w) s = .next (s.quiet.emit (.code .deniedAttr)) ∧
        exec (.dbSet q m d w) s = .next (s.quiet.emit (.code .deniedAttr))) ∧
      (s.mbxReceiver q m.val d = false →
        exec (.mbxPop q m d) s = .next (s.quiet.emit (.code .deniedAttr)))) ∧
    (∀ (m : Fin 4) (d : MbxDir) (w : Word) (s : State), s.prt.gate.active = true →
      ∀ i ∈ [Instr.mbxSend (.ctl 7) m d w, .dbSet (.ctl 7) m d w, .mbxPop (.ctl 7) m d], ∃ t, exec i s = .next t ∧
        t.mbx = s.mbx ∧ t.prt.gate.active = false ∧ t.prt.gate.held = true ∧ t.prt.gate.reason = .access) ∧
    (∀ (w : Word) (s : State), s.serves .d6 = true → ∃ t, exec (.mbxRingdb w) s = .next t ∧ t.mbx =
        (State.onMslot { s with mbx := { s.mbx with ringPend := s.mbx.ringPend ||| (1#64 <<< fldN w 0 6) } } 0 fun v =>
          { v with db := v.db ||| (1#32 <<< 30) }).mbx ∧
        t.crs.dim = false ∧ (s.crs.dim = true → t.crs.dimExit = 1) ∧ (s.crs.dim = false → t = { s.quiet with mbx := t.mbx })) ∧
    ∀ (w : Word) (s : State), s.serves .d6 = true →
      (fld w 24 8 = 0xC4#8 → s.mbx.slots.length = 8 → ∃ t, exec (.mbxHostReset w) s = .next t ∧
        t = { s.quiet.onFw fun f => { f with hostReset := true, page := none } with mbx := t.mbx } ∧
          t.mslot 0 = { (s.mslot 0).cleared with db := 1#32 <<< 31 } ∧
        t.mslot 1 = { (s.mslot 1).cleared with aborted := true } ∧ ∀ i, 2 ≤ i → t.mslot i = s.mslot i) ∧
      (fld w 24 8 ≠ 0xC4#8 → exec (.mbxHostReset w) s = .next s.quiet)

/-- The firmware answers the host driver's messages and completes each ring submission with one code. While the main
firmware has nothing else to do and a host message waits that can be answered: CAP_ACCEPT is answered from the driver
page read, with its code, and activates, with the level and the common features, only with DONE, which needs an open
offer; a page that could not be read is INTEGRITY; RING_CREATE that nothing denies makes the ring RUNNING with the
next GEN, RING_DESTROY without reserved bits FREE, and both answer; REPORT asks for a report and, once it is there,
writes it and answers its length; a message of no type of R478 is answered with ERROR and DENIED_ATTR, and an ERROR is
taken (log 65). While a write is not acknowledged, nothing that follows it is done. A rung ring's control block is
read with partition 0 and TOP_MP_CTX (the order of the rings is log 109). A submission of another GEN is dropped and
counted, the count written to the STALE field; one of another PART, of an unknown opcode, with a reserved field set or
without its feature completes with DENIED_ATTR, else NOP with DONE, JOB_STEP with DONE as its step is scheduled,
VERSION where no level fits its workers (log 66), or INTEGRITY where its descriptor could not be read, COPY with DONE
as the bytes move through a HOSTBUS endpoint of the partition, STREAM_OPEN with the SME's code, or BUSY while D3 does
not serve, which ends DIM, STREAM_RESULT with the outcome and generation. When the driver is gone, no ring runs and a
new offer is made. COMPLETION: under the conditions stated on state and operands alone, exec answers a next state for
capAccept, ringCreate, ringDestroy, hostReport, ringNop, jobStep, ringStreamOpen, ringStreamResult, ringCopy,
driverGone. -/
def Obligations.HostDriverNegotiatesAndUsesRings : Prop :=
  (∀ (a : Bool) (s : State), s.mainFree = true → ∀ x ∈ [(2, Instr.capAccept), (4, .ringCreate a), (5, .ringDestroy)],
      s.hostMsg x.1 = true → s.msgType 0 ≠ x.1 →
        (s.msgType 0 ≠ 9 → exec x.2 s = .next
          (s.quiet.reply [9, BitVec.ofNat 32 (s.msgType 0), Code.deniedAttr.byte.setWidth 32])) ∧
        (s.msgType 0 = 9 → exec x.2 s = .next (s.quiet.take 0))) ∧
    (∀ (page : Option Bytes) (s : State), s.mainFree = true → s.hostMsg 2 = true → s.msgType 0 = 2 → s.fw.page = some page →
      let p := page.getD []
      let c := if page.isNone then .integrity else s.capCode p
      (c = .done → s.fw.offered = true) ∧
      ∃ t, exec .capAccept s = .next t ∧ t.fw.unanswered = false ∧ t.fw.page = none ∧
        (c = .done → t.fw.offered = false ∧ t.fw.capActive = true ∧ t.fw.level = capLevel p ∧
          t.fw.features = capFeatures p) ∧
        (c ≠ .done → t.fw.offered = s.fw.offered ∧ t.fw.capActive = s.fw.capActive ∧ t.fw.level = s.fw.level ∧
          t.fw.features = s.fw.features ∧ (s.fw.io = [] → s.serves .d6 = true → s.mbx.slots.length = 8 →
            (t.mslot 0).full = false ∧ (t.mslot 1).full = true ∧
            (t.mslot 1).msg.take 3 = [3, s.fw.capgen.setWidth 32, c.byte.setWidth 32]))) ∧
    (∀ (a : Bool) (s : State), s.mainFree = true → s.hostMsg 4 = true → s.msgType 0 = 4 →
      let w := s.msgWord 0 1
      let r := fldN w 0 6
      let v : Ring := { st := .running, gen := (s.ringOf r).gen + 1, part := fld w 8 6, sqBase := s.msgAddr 0 2,
                        cqBase := s.msgAddr 0 4, sqLog := fldN w 16 4, cqLog := fldN w 20 4 }
      (s.ringDenied a = true → exec (.ringCreate a) s = .next (s.quiet.ringRefuse r)) ∧
      (s.ringDenied a = false → ∃ t, exec (.ringCreate a) s = .next t ∧ t = s.quiet.ringPut r v ∧ t.ringOf r = v ∧
        ∀ k, k ≠ r → t.ringOf k = s.ringOf k)) ∧
    (∀ s : State, s.mainFree = true → s.hostMsg 5 = true → s.msgType 0 = 5 → Sparse.wf {} s.fw.rings = true →
      let r := fldN (s.msgWord 0 1) 0 6
      let rsv := s.msgReserved = true ∨ fld (s.msgWord 0 1) 6 26 ≠ 0
      (rsv → exec .ringDestroy s = .next (s.quiet.ringRefuse r)) ∧
      (¬rsv → ∃ t, exec .ringDestroy s = .next t ∧ t = s.quiet.ringPut r { gen := (s.ringOf r).gen } ∧
        t.ringOf r = { gen := (s.ringOf r).gen })) ∧
    (∀ s : State, s.hostMsg 7 = true → s.reportDue = true →
      let nonce := wordsToBytes ((List.range 8).map fun k => s.msgWord 0 (1 + k))
      (s.msgType 0 = 7 → s.msgReserved = false → exec .hostReport s = .next ((s.quiet.take 0).askReport s.reportBlk .platform
        nonce (min (s.msgWord 0 11).toNat 131072) (.host (s.msgAddr 0 9)))) ∧
      (s.msgType 0 = 7 → s.msgReserved = true → exec .hostReport s = .next
        (s.quiet.reply [8, Code.deniedAttr.byte.setWidth 32, 0])) ∧
      (s.msgType 0 ≠ 7 → s.msgType 0 ≠ 9 → exec .hostReport s = .next
        (s.quiet.reply [9, BitVec.ofNat 32 (s.msgType 0), Code.deniedAttr.byte.setWidth 32]))) ∧
    (∀ (b : Blk) (addr : Nat) (k : Code) (s : State), s.fw.io = [] → s.serves .d6 = true → (s.mslot 1).full = false →
      s.mbx.slots.length = 8 → ((s.hostReported b addr k 0).mslot 1).full = true ∧
        ((s.hostReported b addr k 0).mslot 1).msg.take 3 = [8, k.byte.setWidth 32, 0]) ∧
    (∀ (ws : List Word) (s : State), s.fw.io = [] → s.serves .d6 = true → (s.mslot 1).full = false →
      s.mbx.slots.length = 8 → ∃ t, t = s.reply ws ∧ (t.mslot 0).full = false ∧ (t.mslot 1).full = true ∧
        (t.mslot 1).len = ws.length ∧ (t.mslot 1).msg.take ws.length = ws ∧ t.fw.io = []) ∧
    (∀ (s : State) (g : FwIo) (l : List FwIo) (a : Nat) (d : Bytes) (ops : List FwOp), s.fw.io = g :: l →
      g.ops = .write a d :: ops → s.fw.ioOut = true → s.ioGo = s) ∧
    (∀ (s : State) (r : Nat), s.mainFree = true → s.fw.look = none → s.mpRoom = true → s.gateBound s.coreCtx = false →
      s.acceptWaits = false → s.nextRing = some r → ∃ t, t = s.lookNext ∧
        t.fw.look = some (.block r (s.ringOf r).gen) ∧ (s.ringDue r = true ∧ bit (t.mbx.ringPend >>> r) 0 = false) ∧
        .mp s.mpTag false ((s.fw.area + 0x1000 + 64 * r) % 2 ^ 48) 1 0 (fld (s.reg .topMpCtx) 0 12) [] ∈ t.outs) ∧
    (∀ (ring : BitVec 6) (ws : List (BitVec 12)) (e : Bytes) (s : State),
      let r := ring.toNat
      let v := s.ringOf r
      let s1 := s.quiet.setRing r { v with sqHead := (v.sqHead + 1) % 2 ^ v.sqLog, head := .none }
      let s2 := s1.onFw fun f => { f with stale := tally f.stale }
      let free := s.sme.run = none ∧ s.sme.waitS = none ∧ s.sme.waitC = none
      (v.head = .bad e → s.submitted r 2 = true → entryNum e 3 1 = v.gen.toNat → s.entryGood r e 2 0 = true →
        exec (.jobStep ring ws) s = .next (s1.complete r e .integrity [])) ∧
      (v.head = .whole e →
      (∀ y ∈ [(1, 0, Instr.ringNop ring), (2, 0, .jobStep ring ws), (3, 1, .ringStreamOpen ring),
          (4, 1, .ringStreamResult ring), (5, 0, .ringCopy ring)],
        s.submitted r y.1 = true → (y.1 = 3 → free) →
        (entryNum e 3 1 ≠ v.gen.toNat →
          exec y.2.2 s = .next (s2.ioRun false (s2.pageOps 0x83C (leBytes 4 (tally s.fw.stale))))) ∧
        (entryNum e 3 1 = v.gen.toNat → (entryNum e 2 1 ≠ v.part.toNat ∨ entryNum e 0 1 ≠ y.1 ∨ s.feature y.2.1 = false ∨
            entryReserved e = true) → exec y.2.2 s = .next (s1.complete r e .deniedAttr []))) ∧
      (entryNum e 3 1 = v.gen.toNat → entryNum e 2 1 = v.part.toNat → entryReserved e = false →
        (s.feature 0 = true → s.submitted r 1 = true → entryNum e 0 1 = 1 →
          exec (.ringNop ring) s = .next (s1.complete r e .done [])) ∧
        (s.feature 0 = true → s.submitted r 2 = true → entryNum e 0 1 = 2 →
          let left := s.fw.jobs.filter fun j => j.ring != r
          let out (n : Nat) : Out := .jobStep v.part (entryNum e 8 8) (entryNum e 0x10 8) ws n
          (ws = [] → exec (.jobStep ring ws) s = .next
            (((s1.onFw fun f => { f with jobs := left }).emit (out 0)).complete r e .done [])) ∧
          (ws ≠ [] → s.spanLevel ws = none → exec (.jobStep ring ws) s = .next
            ((s1.onFw fun f => { f with jobs := left }).complete r e .version [])) ∧
          ∀ n, ws ≠ [] → s.spanLevel ws = some n → exec (.jobStep ring ws) s = .next
            (((s1.onFw fun f => { f with jobs := left ++ [{ ring := r, workers := ws, level := n }] }).emit
              (out n)).complete r e .done [])) ∧
        (s.feature 0 = true → s.submitted r 5 = true → entryNum e 0 1 = 5 →
          let i : EndpointId := BitVec.ofNat 12 (entryNum e 0x20 2)
          let p := s.endpoint i
          let wire := p.present = true ∧ p.part = v.part ∧ p.kind = usageHostbus
          (wire → exec (.ringCopy ring) s = .next
            ((s1.emit (.wireCopy v.part i (entryNum e 8 8) (entryNum e 0x10 8) (entryNum e 0x18 8))).complete r e .done [])) ∧
          (¬wire → exec (.ringCopy ring) s = .next (s1.complete r e .deniedAttr []))) ∧
        (s.feature 1 = true → s.submitted r 3 = true → entryNum e 0 1 = 3 → free →
          let u := s1.ringOpen e v.part
          (s.d3Serves = true → exec (.ringStreamOpen ring) s = .next (u.complete r e u.sme.blkC.code [])) ∧
          (s.d3Serves = false → exec (.ringStreamOpen ring) s = .next ((s1.dimEnd 4).complete r e .busy []))) ∧
        (s.feature 1 = true → s.submitted r 4 = true → entryNum e 0 1 = 4 →
          let z := s.stream (BitVec.ofNat 12 (entryNum e 8 2))
          (z.st = .closed → z.part = v.part →
            exec (.ringStreamResult ring) s = .next (s1.complete r e .done [z.outcome.byte, z.gen])) ∧
          (z.st ≠ .free → z.part ≠ v.part →
            exec (.ringStreamResult ring) s = .next (s1.complete r e .deniedAttr [])))))) ∧
    ∀ (why : GoneCause) (s : State), s.mainFree = true → s.driverGone why = true → (s.mslot 1).full = false →
      ∃ t, exec (.driverGone why) s = .next t ∧ t.fw.capgen = s.fw.capgen + 1 ∧ t.fw.offered = true ∧ t.fw.capActive = false ∧
        t.fw.hostReset = false ∧ t.fw.unanswered = true ∧ (∀ r, r < 64 → (t.ringOf r).st ≠ .running) ∧
        (s.gateBound s.coreCtx = false → ∃ g ∈ t.fw.io, .post [1, BitVec.ofNat 32 s.fw.area,
          BitVec.ofNat 32 (s.fw.area / 2 ^ 32), (s.fw.capgen + 1).setWidth 32] none ∈ g.ops)

/-- The worker channel drops, counts or keeps a message, returns every credit, and sends beat by beat. With WCP_UP
high: a message with a header that R57 forbids is dropped and counted, a stale one counted, and one to keep is written
to control SRAM and posted in MBX2, ending DIM, or held until MBX2 has room; each returns a credit for every beat. A
message without its LEN beats, which R56 does not allow a peer, is dropped (the model's choice, log 40). With WCP_UP
low nothing happens. A SEND to the engine with a header that it may send takes the beats and sends as many as there
are credits; another ends with ABORTED. A credit sends the next beat, or is kept; the last beat sent clears FULL.
COMPLETION: under the conditions stated on state and operands alone, exec answers a next state for wcpRxMessage,
mbxSend, wcpCredit, wcpMessageSent. -/
def Obligations.WorkerMessagesAreCheckedKeptAndSent : Prop :=
  (∀ (h : WBeat) (l : List WBeat) (s : State),
      (s.wcpUp = false → exec (.wcpRxMessage (h :: l)) s = .next s.quiet) ∧
      (s.wcpUp = true → l.length ≠ hLen h → exec (.wcpRxMessage (h :: l)) s = .next s.quiet) ∧
      (s.wcp.rx = [] → s.wcpUp = true → l.length = hLen h → s.headerBad h true = true → exec (.wcpRxMessage (h :: l)) s = .next
        ((s.quiet.onWcp fun c => { c with cntDrop := tally c.cntDrop }).emit (.wcpCredits (1 + l.length)))) ∧
      (s.wcp.rx = [] → s.wcpUp = true → l.length = hLen h → s.headerBad h true = false → s.wantedGen h ≠ some (hGen h) →
        exec (.wcpRxMessage (h :: l)) s = .next
          ((s.quiet.onWcp fun c => { c with cntStale := tally c.cntStale }).emit (.wcpCredits (1 + l.length)))) ∧
      (s.wcp.rx = [] → s.wcpUp = true → l.length = hLen h → s.headerBad h true = false → s.wantedGen h = some (hGen h) →
        (s.wcpRoom = false → exec (.wcpRxMessage (h :: l)) s = .next (s.quiet.onWcp fun c => { c with rx := [h :: l] })) ∧
        (s.wcpRoom = true → s.mbx.slots.length = 8 →
          let a := fldN (s.reg .mbxWcpRxbase) 12 12 * 4096 + 4096 * (((s.mslot 4).seq + 1).toNat % 16)
          ∃ t, exec (.wcpRxMessage (h :: l)) s = .next t ∧ t.csram = Sparse.putBytes 0 s.csram a (l.flatMap beatBytes) ∧
            t.psram = s.psram ∧ (t.mslot 4).full = true ∧ (t.mslot 4).seq = (s.mslot 4).seq + 1 ∧
            (t.mslot 4).msg.take 6 = [beatWord h 0, beatWord h 1, beatWord h 2, beatWord h 3, BitVec.ofNat 32 a,
              BitVec.ofNat 32 l.length] ∧
            .wcpCredits (1 + l.length) ∈ t.outs ∧ t.crs.dim = false ∧ (s.crs.dim = true → t.crs.dimExit = 2)))) ∧
    (∀ s : State, (s.wcpUp = false → exec .wcpCredit s = .next s.quiet) ∧
      (s.wcpUp = true → s.wcp.tx = [] →
        exec .wcpCredit s = .next (s.quiet.onWcp fun c => { c with credits := c.credits + 1 })) ∧
      ∀ b l, s.wcpUp = true → s.wcp.tx = b :: l →
        exec .wcpCredit s = .next ((s.quiet.onWcp fun c => { c with tx := l }).emit (.wcp b))) ∧
    (∀ s : State, s.wcp.posted = true → s.wcp.tx = [] →
      let t := (s.quiet.onMslot 5 fun v => { v with full := false }).onWcp fun c => { c with posted := false }
      exec .wcpMessageSent s = .next t.wcpNext ∧ (s.wcp.queue = [] → t.wcpNext = t)) ∧
    ∀ (q : Req) (w : Word) (s : State), s.gateCore q = false → s.serves .d6 = true → s.mbxSender q 2 .ba = true →
      lowest (s.sendRefusals 5 (fldN w 0 5)) = none → s.mbx.slots.length = 8 →
      let h := descHeader (s.mslot 5).msg
      let beats := beatsOf (hLen h) (s.csramBytes (fldN ((s.mslot 5).msg.getD 4 0) 0 24) (16 * hLen h))
      ((s.wcpUp = false ∨ s.headerBad h false = true) →
        exec (.mbxSend q 2 .ba w) s = .next (s.quiet.onMslot 5 fun v => { v with code := .aborted })) ∧
      (s.wcpUp = true → s.headerBad h false = false → ∃ t, exec (.mbxSend q 2 .ba w) s = .next t ∧
        (t.mslot 5).full = true ∧ (t.mslot 5).code = .done ∧ t.wcp.posted = true ∧ t.csram = s.csram ∧
        t.wcp.tx = (h :: beats).drop s.wcp.credits ∧ t.outs = ((h :: beats).take s.wcp.credits).map Out.wcp ∧
        t.wcp.credits = s.wcp.credits - (1 + hLen h))

/-- A worker answers requests for its report and version; a manager collects the answers until its time is out. While
the main firmware serves and a message waits in MBX2: a malformed one is dropped (log entry 67). A worker takes
REPORT_REQ and asks for a report with the request's nonce; once it is made its parts are queued; it takes VERSION_REQ
and queues its committed record's entries; CANCEL drops what is queued or asked for of that request. A manager adds a
REPORT_PART of the running collection's generation to the answer of its worker and keeps a whole report; another is
dropped. A well-formed VERSION_INFO replaces what the worker last told of its versions, and where that changes, the
jobs that it takes part in are checked again; a cancelling worker of the collection's generation that has not answered
counts absent. A collection that runs out of time ends, and every worker without its whole report is absent.
COMPLETION: under the conditions stated on state and operands alone, exec answers a next state for reportReq,
reportPart, versionReq, versionInfo, wcpCancel, collectionTimeout. -/
def Obligations.WorkersAnswerAndManagersCollect : Prop :=
  (∀ s : State, s.isWorker = true → s.wcpMsg 1 = true → s.attIdle .c = true →
      let h := s.wcpHead
      (messageBad h 2 84 = true → exec .reportReq s = .next (s.quiet.take 4)) ∧
      (messageBad h 2 84 = false → exec .reportReq s = .next
        ((s.quiet.take 4).askReport .c .platform (padTo 32 s.wcpBytes) 131072 (.worker h)))) ∧
    (∀ (s : State) (h : WBeat) (k : Code) (n : Nat), s.fw.attC = some ⟨.worker h, some (k, n)⟩ → s.mainServes = true →
      let u := s.setTask .c none
      let parts := (n + 4079) / 4080
      s.attResumeC = if k = .done then u.wcpQueue (reportParts (hWorker h) (hGen h) (parts - 1) parts 0 (s.fwOutput .c n))
        else u) ∧
    (∀ s : State, s.isWorker = true → s.wcpMsg 3 = true →
      let h := s.wcpHead
      let es := s.att.record.entries.filter fun e => e.valid
      let payload : BitVec 84 := (s.att.record.release.setWidth 84 <<< 52) ||| (BitVec.ofNat 84 es.length <<< 44)
      (messageBad h 0 84 = true → exec .versionReq s = .next (s.quiet.take 4)) ∧
      (messageBad h 0 84 = false → 4 ≤ es.length → exec .versionReq s = .next ((s.quiet.take 4).wcpQueue
        [header (hWorker h) true 4 es.length (hGen h) payload ::
          es.map fun e => entryBeat e (s.minPeer e.typ.toNat)]))) ∧
    (∀ s : State, s.wcpMsg 5 = true →
      let h := s.wcpHead
      (messageBad h 0 76 = true → exec .wcpCancel s = .next (s.quiet.take 4)) ∧
      (messageBad h 0 76 = false → s.isWorker = true → ∃ t, exec .wcpCancel s = .next t ∧
        t = ((s.quiet.take 4).onFw fun w => { w with attC := t.fw.attC }).onWcp (fun c => { c with queue := t.wcp.queue }) ∧
        (∀ x d, t.fw.attC = some ⟨.worker x, d⟩ → hGen x = hGen h → 2 < cancelType h) ∧ ∀ m, m ∈ t.wcp.queue ↔ m ∈ s.wcp.queue ∧
          ¬(hGen (m.headD 0) = hGen h ∧ hType (m.headD 0) = if cancelType h ≤ 2 then 2 else 4)) ∧
      (messageBad h 0 76 = false → s.isWorker = false → ∃ t, exec .wcpCancel s = .next t ∧
        ∀ c, s.fw.coll = some c → (c.ended = true → t = s.quiet.take 4) ∧
          (c.ended = false → ∃ d, t.fw.coll = some d ∧ d.gen = c.gen ∧ d.workers = c.workers.map fun a =>
            if a.worker = hWorker h ∧ c.gen = hGen h then { a with absent := !a.answered } else a))) ∧
    (∀ s : State, s.isManager = true → s.wcpMsg 2 = true →
      let h := s.wcpHead
      (s.fw.coll = none ∨ s.workerAnswer (hWorker h) = none ∨ (∃ c, s.fw.coll = some c ∧ c.gen ≠ hGen h) →
        exec .reportPart s = .next (s.quiet.take 4)) ∧
      ∀ c a, s.fw.coll = some c → c.ended = false → c.gen = hGen h → s.workerAnswer (hWorker h) = some a →
        let b := a.takes h s.wcpBytes c.nonce
        ∃ t d, exec .reportPart s = .next t ∧ t.fw.coll = some d ∧ d.gen = c.gen ∧
          d.workers = (c.workers.map fun x => if x = a then b else x) ∧
          (b.answered = true → a.answered = false → (hWorker h, b.report.getD []) ∈ t.fw.reports) ∧
          (b.answered = a.answered → t.fw.reports = s.fw.reports)) ∧
    (∀ s : State, s.isManager = true → s.wcpMsg 4 = true →
      let h := s.wcpHead
      let es := beatsOf (hLen h) s.wcpBytes
      let bad := hLen h < 4 ∨ 16 < hLen h ∨ fldN (hPayload h) 44 8 ≠ hLen h ∨ fldN (hPayload h) 0 44 ≠ 0 ∨
        ∃ b ∈ es, fldN b 0 48 ≠ 0
      let info : WorkerInfo :=
        { worker := hWorker h, release := fld (hPayload h) 52 32,
          entries := es.map fun b => (fld b 120 8, fld b 112 8, fld b 80 32, fld b 48 32) }
      let t := (s.quiet.take 4).onFw fun w => { w with infos := (w.infos.filter fun x => x.worker != hWorker h) ++ [info] }
      (bad → exec .versionInfo s = .next (s.quiet.take 4)) ∧
      (¬bad → s.info (hWorker h) = some info → exec .versionInfo s = .next t) ∧
      (¬bad → s.info (hWorker h) ≠ some info → exec .versionInfo s = .next (t.recheckJobs (hWorker h)))) ∧
    ∀ (s : State) (c : Collection), s.isManager = true → s.mainServes = true → s.fw.coll = some c → c.ended = false →
      ∃ t d, exec .collectionTimeout s = .next t ∧ t = s.quiet.onFw (fun w => { w with coll := some d }) ∧
        d.ended = true ∧ d.workers.length = c.workers.length ∧
        ∀ a ∈ d.workers, a.answered = true ∨ a.absent = true

/-- The fence commits a plan that only tightens, scans its sensors, and moves the supply through the AVSBus. While D1
serves, a commit of a plan that R527 allows takes all staged values together and moves the point, any other is refused
with DENIED_ATTR, and so is every one while a confidential partition exists; without COMMIT = 1 nothing happens. A
scan asks sensors 0 to 191 in order; an awaited answer or timeout is recorded, as a reading only if present, and any
other is counted. A complete scan below every limit sets TMAX and begins anew; one at the trip temperature holds
FENCE_TRIP with cause 1. A good AVSBus answer is kept and the next subframe starts, an alert queues a read of Status,
a bad answer is sent once more, the second is the fault; a raise that reads back within 10 mV settles, one outside
waits on, a bad readback is retried once, and a second or a timeout is the fault. A health pop answers the oldest
entry and removes it. The model's choices: a scan is complete once its thermal sensors are in (log 72, DEDUCED), and
an alert queues one read of Status unless one waits (log 102, DESIGN CHOICE). COMPLETION: under the conditions stated
on state and operands alone, exec answers a next state for snsRequest, snsResponse, snsTimeout, scanComplete,
avsResponse, avsReadback, avsSettleTimeout, fncCommit, fncHealthPop. -/
def Obligations.FenceCommitsAndScans : Prop :=
  (∀ (w : Word) (s : State), s.serves .d1 = true → bit w 0 = true →
      let p := s.stagedPlan
      ((s.confAny = true ∨ p.loosens s.fnc.plan = true ∨ p.wear < s.fnc.plan.wear ∨
          Fnc.planBad { s.fnc with plan := p } = true) →
        exec (.fncCommit w) s = .next (s.quiet.onFnc fun f => { f with commitCode := .deniedAttr })) ∧
      (s.confAny = false → p.loosens s.fnc.plan = false → s.fnc.plan.wear ≤ p.wear →
          Fnc.planBad { s.fnc with plan := p } = false →
        exec (.fncCommit w) s = .next (s.quiet.onFnc fun f => { f with plan := p, commitCode := .done }).takePoint)) ∧
    (∀ (w : Word) (s : State), s.serves .d1 = true → bit w 0 = false → exec (.fncCommit w) s = .next s.quiet) ∧
    (∀ s : State, s.serves .d1 = true → ∃ t, exec .fncHealthPop s = .next t ∧
      t = { s with outs := [.read s.healthPopWord], fnc := { s.fnc with healthQ := s.fnc.healthQ.drop 1 } }) ∧
    (∀ s : State, s.up .d1 = true → s.fnc.next < 192 → ∃ t, exec .snsRequest s = .next t ∧
      t.fnc.next = s.fnc.next + 1 ∧ t.fnc.owed = s.fnc.owed ++ [BitVec.ofNat 8 s.fnc.next] ∧
      .sensor (BitVec.ofNat 8 s.fnc.next) ∈ t.outs ∧
      (s.fnc.next ≠ 0 → t.outs = [.sensor (BitVec.ofNat 8 s.fnc.next)] ∧ t.fnc.avs = s.fnc.avs)) ∧
    (∀ (a : BitVec 8) (v : BitVec 16) (s : State),
      (s.fnc.owed.contains a = false →
        exec (.snsResponse a v) s = .next (s.quiet.onFnc fun f => { f with cntSnsdrop := tally f.cntSnsdrop })) ∧
      (s.fnc.owed.contains a = true → readingPresent v = true → ∃ t, exec (.snsResponse a v) s = .next t ∧
        Sparse.get 0 t.fnc.sensors a.toNat = v ∧ t.fnc.owed = s.fnc.owed.erase a ∧
        (a.toNat < 128 → ∃ m, t.fnc.scanMax = some m ∧ (fld v 0 12).toInt + s.fnc.limits.tOffset.toInt ≤ m ∧
          ∀ x, s.fnc.scanMax = some x → x ≤ m) ∧ (128 ≤ a.toNat → t.fnc.scanMax = s.fnc.scanMax)) ∧
      (s.fnc.owed.contains a = true → readingPresent v = false →
        exec (.snsResponse a v) s = exec (.snsTimeout a) s) ∧
      (s.fnc.owed.contains a = true → ∃ t, exec (.snsTimeout a) s = .next t ∧ t.fnc.owed = s.fnc.owed.erase a ∧
        t.fnc.scanMax = s.fnc.scanMax ∧
        t.fnc.scanAbsent = (if a.toNat < 128 then s.fnc.scanAbsent + 1 else s.fnc.scanAbsent) ∧
        t.fnc.cntAbsent = if a.toNat < 128 then s.fnc.cntAbsent else tally s.fnc.cntAbsent)) ∧
    (∀ s : State, s.up .d1 = true → s.fnc.next = 192 → (∀ a ∈ s.fnc.owed, 128 ≤ a.toNat) →
      (s.fnc.trips = none → ∃ t, exec .scanComplete s = .next t ∧ t.fnc.next = 0 ∧ t.fnc.scanMax = none ∧
        t.fnc.scanAbsent = 0 ∧ t.crs = s.crs ∧
        t.fnc.tmax = s.fnc.scanMax.elim s.fnc.tmax fun m => BitVec.ofInt 12 m) ∧
      ∀ m, s.fnc.scanMax = some m → s.fnc.tripT ≤ m → ∃ t, exec .scanComplete s = .next t ∧ t.fncCore.cause = 1 ∧
        t.fncCore.holding = true ∧ t.fncCore.count = satInc 0xFFFF s.fncCore.count ∧
        t.asserts .fenceTrip = true) ∧
    (∀ (v : BitVec 16) (al : Bool) (s : State) (op : AvsOp) (l : List AvsOp), s.fnc.avs = op :: l →
      let q := if al = true ∧ l.contains .readStatus = false then l ++ [.readStatus] else l
      (∃ t, exec (.avsResponse true al v) s = .next t ∧ t.fnc.avs = q ∧ t.outs = (q.take 1).map Out.avs ∧
        t.fnc.vread = (if op = .readV then v else s.fnc.vread) ∧
        t.fnc.cread = if op = .readI then v else s.fnc.cread) ∧
      (s.fnc.avsRetried = false → exec (.avsResponse false al v) s = .next (State.emit (s.quiet.onFnc fun f =>
        { f with avsRetried := true, cntAvsretry := tally f.cntAvsretry }) (.avs op))) ∧
      (s.fnc.avsRetried = true → ∃ t, exec (.avsResponse false al v) s = .next t ∧ t.fnc.avsFault = true)) ∧
    ∀ (mv : BitVec 16) (s : State) (v : Nat), s.fnc.raiseWritten = true → s.fnc.settling = some v →
      (v ≤ mv.toNat + 10 → mv.toNat ≤ v + 10 → ∃ t, exec (.avsReadback true mv) s = .next t ∧ t.fnc.settling = none ∧
        t.fnc.vread = mv ∧ t.fnc.d = s.settledDuty ∧ t.outs = [.avs .readV]) ∧
      ((mv.toNat + 10 < v ∨ v + 10 < mv.toNat) → ∃ t, exec (.avsReadback true mv) s = .next t ∧ t.fnc.settling = some v ∧
        t.fnc.vread = mv ∧ t.fnc.d = s.fnc.d ∧ t.outs = [.avs .readV]) ∧
      (s.fnc.readRetried = false → exec (.avsReadback false mv) s = .next ((s.quiet.emit (.avs .readV)).onFnc fun f =>
        { f with readRetried := true, cntAvsretry := tally f.cntAvsretry })) ∧
      (s.fnc.readRetried = true → ∃ t, exec (.avsReadback false mv) s = .next t ∧ t.fnc.avsFault = true ∧
        t.fnc.readRetried = false) ∧
      ∃ t, exec .avsSettleTimeout s = .next t ∧ t.fnc.avsFault = true

/-- Each TRNG bank is filled in turn, gives each word once, and is emptied by a failed health test. While D1 serves, a
read by the security core or a control core outside gate mode answers its bank's oldest word and removes it, or 0 from
an empty bank; the control port is denied. A refill appends one word (a free value) to the next bank in turn if it
holds fewer than 16, and touches no other. A failed health test sets FAIL, counts and empties every bank; the start-up
test clears FAIL only if it passes, and no refill delivers a word until then. A boot ID that could not be drawn at the
release of D2 is drawn then (the model's choice, log 118). COMPLETION: under the conditions stated on state and
operands alone, exec answers a next state for trngRead, trngHealthFail, trngResume, trngRefill. -/
def Obligations.RandomWordsAreGivenOnceEach : Prop :=
  (∀ (q : Req) (b : Nat) (s : State), trngBank q = some b → s.gateCore q = false → s.serves .d1 = true →
      (∀ w l, s.trng.banks[b]? = some (w :: l) → exec (.trngRead q) s =
        .next (State.onTrng (s.quiet.emit (.read w)) fun t => { t with banks := t.banks.set b l })) ∧
      (s.trng.banks.getD b [] = [] → exec (.trngRead q) s = .next (s.quiet.emit (.read 0)))) ∧
    (∀ (q : Req) (s : State), trngBank q = none → exec (.trngRead q) s = .next (s.quiet.emit (.code .deniedAttr))) ∧
    (∀ s : State, s.up .d1 = true → s.trng.fail = false → s.trng.banks.length = 9 → s.trng.next < 9 →
      ∃ t w, exec .trngRefill s = .next t ∧ t.trng.next = (s.trng.next + 1) % 9 ∧ t.trng.fail = false ∧
        t.trng.banks = if (s.trng.banks.getD s.trng.next []).length < 16 then
          s.trng.banks.set s.trng.next (s.trng.banks.getD s.trng.next [] ++ [w]) else s.trng.banks) ∧
    (∀ s : State, s.trng.fail = true → exec .trngRefill s = .next s.quiet) ∧
    ∀ s : State, s.up .d1 = true →
      exec .trngHealthFail s = .next (s.quiet.onTrng fun t =>
        { t with fail := true, fails := satInc 0xFFFF t.fails, banks := List.replicate 9 [] }) ∧
      (s.trng.fail = true → (let t := s.quiet.onTrng fun t => { t with fail := false }
          exec (.trngResume true) s = .next (if s.up .d2 then t.drawBootId else t)) ∧
        exec (.trngResume false) s = .next s.quiet)

/-- The frame engine drops, repeats, answers or accepts a frame; HELLO opens a session and an idle one ends. The link
comes up and goes down, and a dropped frame is counted by its fault. With the link up, D6 serving and the block not in
DIM, for every kind of frame: one without its length or CRC is counted; one while the last is unanswered is counted
and changes nothing else; a repeat gets the stored answer. A HELLO in service opens the next session, with PHASE 1
unless work on a set goes on, and posts an answer; a frame of another session is answered STALE_GEN, and one out of
sequence or table DENIED_ATTR. In the session, STATUS is answered, ABORT ends it, with PHASE 0 unless work on a set
goes on, a reserved COMMIT is refused, a staged MANIFEST or CHUNK goes to control SRAM where staging is there. An idle
session ends, and a COMMIT under verification is answered with ABORTED (log 63). A posted frame is sent, and stored
for repeats. The model's choices: the order of the checks, STALE_GEN where no session is open, and the drop while
SERVICE is 0 (log 59). COMPLETION: under the conditions stated on state and operands alone, exec answers a next state
for linkUp, linkDown, frameDrop, repeatFrame, cwyHello, cwyManifest, cwyChunk, statusQuery, abortFrame,
sessionIdleTimeout, causewayFrameSent. -/
def Obligations.CausewayFramesAreCheckedInOrder : Prop :=
  (∀ s : State, (s.cwyOn = true → s.cwy.link = false →
        exec .linkUp s = .next (s.quiet.onCwy fun c => { c with link := true })) ∧
      (s.cwy.link = true → exec .linkDown s = .next (s.quiet.onCwy fun c => { c with link := false }) ∧
        exec (.frameDrop .symbol) s = .next (s.quiet.onCwy fun c => { c with cntSymbol := tally c.cntSymbol }) ∧
        ∀ w, w ≠ .symbol → exec (.frameDrop w) s = .next (s.quiet.onCwy fun c => { c with cntCrc := tally c.cntCrc }))) ∧
    (∀ (f : Bytes) (v : Nat) (s : State), s.crs.dim = false →
      let rows := [(Instr.cwyHello f, ofType f 1), (.cwyManifest f, ofType f 2), (.cwyChunk f, ofType f 3),
        (.cwyActivate f, ofCommit f 1), (.cwyNextBoot f, ofCommit f 2), (.commitAdvance f v, ofCommit f 3),
        (.statusQuery f, ofType f 5), (.abortFrame f, ofType f 6)]
      ∀ x ∈ rows, x.2 = true →
        ((s.cwy.link = false ∨ s.serves .d6 = false) → exec x.1 s = .next s.quiet) ∧
        (s.cwy.link = true → s.serves .d6 = true →
          (frWhole f = false → exec x.1 s = .next (s.quiet.onCwy fun c => { c with cntCrc := tally c.cntCrc })) ∧
          (frWhole f = true → s.cwy.unanswered = true → s.cwy.rx = none →
            exec x.1 s = .next (s.quiet.onCwy fun c => { c with cntSeq := tally c.cntSeq })) ∧
          (frWhole f = true → s.cwy.unanswered = false → s.cwy.fresh = false → frSeq f = s.cwy.lastSeq →
            exec x.1 s = .next (s.quiet.emit (.frame s.cwy.sent)) ∧
            exec (.repeatFrame f) s = .next (s.quiet.emit (.frame s.cwy.sent))) ∧
          (frWhole f = true → s.cwy.unanswered = false → (s.cwy.fresh = false → frSeq f ≠ s.cwy.lastSeq) → frType f ≠ 1 →
            (frSeq f ≠ s.cwy.lastSeq + 1 → exec x.1 s = .next (State.engineAnswer (s.quiet.onCwy fun c =>
              { c with cntSeq := tally c.cntSeq }) f .deniedAttr false)) ∧
            (frSeq f = s.cwy.lastSeq + 1 → frBad f = true → s.cwy.sessionOpen = true → frSession f = s.cwy.session →
              exec x.1 s = .next (State.engineAnswer (s.quiet.onCwy fun c => { c with lastSeq := frSeq f }) f .deniedAttr
                true)) ∧
            (frSeq f = s.cwy.lastSeq + 1 → frBad f = false → (s.cwy.sessionOpen = false ∨ frSession f ≠ s.cwy.session) →
              exec x.1 s = .next (State.engineAnswer (s.quiet.onCwy fun c => { c with cntStale := tally c.cntStale }) f
                .staleGen false))))) ∧
    (∀ (f : Bytes) (s : State), s.crs.dim = false → s.cwy.link = true → s.serves .d6 = true → frWhole f = true →
      s.cwy.unanswered = false → (s.cwy.fresh = false → frSeq f ≠ s.cwy.lastSeq) → frType f = 1 → frBad f = false →
      (bit (s.reg .cwyCtrl) 0 = false → exec (.cwyHello f) s = .next s.quiet) ∧
      (bit (s.reg .cwyCtrl) 0 = true → s.updServes = true → s.mbx.slots.length = 8 → ∃ t, exec (.cwyHello f) s = .next t ∧
        t.cwy.sessionOpen = true ∧ t.cwy.lastSeq = frSeq f ∧ t.cwy.unanswered = true ∧ t.cwy.fresh = false ∧
        t.cwy.session = (if s.cwy.session = 0xFFFF then 1 else s.cwy.session + 1) ∧ (s.upd = none → t.phase = 1) ∧
        (t.mslot 7).full = true ∧ t.csram = s.csram ∧ t.nvm = s.nvm)) ∧
    (∀ (f : Bytes) (v : Nat) (s : State), s.crs.dim = false → s.cwy.link = true →
      s.serves .d6 = true → s.updServes = true → frWhole f = true → frBad f = false → s.cwy.unanswered = false →
      frSeq f = s.cwy.lastSeq + 1 → s.cwy.sessionOpen = true → frSession f = s.cwy.session →
      let s1 := State.describe (s.quiet.onCwy fun c => { c with lastSeq := frSeq f, unanswered := true }) f .done false
      (frType f = 5 → exec (.statusQuery f) s = .next (s1.statusFull f s.queryCode)) ∧
      (frType f = 6 → exec (.abortFrame f) s = .next (s1.endService.status f .done) ∧
        s1.endService.cwy.sessionOpen = false ∧ (s.upd = none → s1.endService.phase = 0)) ∧
      (frType f = 4 → (frOp f = 0 ∨ 3 < frOp f) →
        ∀ i ∈ [Instr.cwyActivate f, .cwyNextBoot f, .commitAdvance f v],
          exec i s = .next (s1.statusFull f .deniedAttr)) ∧
      (s.stageFits (frAddr f) = true → s.stageLocal = true →
        (frType f = 3 → bit (s.reg .cwyCtrl) 3 = true → ∃ t, exec (.cwyChunk f) s = .next t ∧
          t.csram = Sparse.putBytes 0 s.csram (s.stageBase + frAddr f) (padTo 4096 (frPayload f)) ∧
          t.cwy.unanswered = true ∧ t.cwy.lastSeq = frSeq f ∧ t.phase = s.phase ∧ t.nvm = s.nvm) ∧
        (frType f = 2 → frFlags f = 0 → ∃ t, exec (.cwyManifest f) s = .next t ∧
          t.csram = Sparse.putBytes 0 s.csram (s.stageBase + frAddr f) (padTo 4096 (frPayload f)) ∧
          t.cwy.rxbuf = frPayload f ∧ t.cwy.unanswered = true ∧ t.nvm = s.nvm ∧
          t.phase = if s.upd = none ∧ 2 ≤ s.phase then 1 else s.phase))) ∧
    (∀ s : State, s.cwy.sessionOpen = true → ∃ t, exec .sessionIdleTimeout s = .next t ∧ t.cwy.sessionOpen = false ∧
      (s.upd = none → t.phase = 0) ∧ t.csram = s.csram ∧ t.nvm = s.nvm ∧
      ∀ f, s.verifying = some f → s.mbx.slots.length = 8 → t.upd = none ∧ (t.mslot 7).full = true ∧
        fldN ((t.mslot 7).msg.getD 3 0) 0 8 = Code.aborted.num) ∧
    ∀ s : State, s.cwy.txOn = true → (s.mslot 7).full = true → s.mbx.slots.length = 8 →
      ∃ t, exec .causewayFrameSent s = .next t ∧ t.outs = [.frame t.cwy.sent] ∧ t.cwy.unanswered = false ∧
        (t.mslot 7).full = false ∧ ∀ i, i ≠ 7 → t.mslot i = s.mslot i

/-- A set takes effect, waits for the next boot, or advances counters; the copy and NVM engines run one command each.
In an open session a COMMIT of ACTIVATE or NEXT_BOOT is answered INCOMPLETE with no set accepted or while work on one
goes on, in recovery with the code of the check that failed; else in field mode PHASE becomes 3 and the verification
of its parts begins, and in recovery its parts in control SRAM are checked at once and the set is rewritten from its
first sector on, or refused. Once every part has compared equal, ACTIVATE is answered with PHASE 4 and goes on, or
with VERSION where R509 rules it out, and NEXT_BOOT with PHASE 5 and is rewritten; a rewrite that is over leaves LAST
DONE and PHASE 7 in field mode; a sector that differs again after its repeat ends it with LAST INTEGRITY. ADVANCE with
the NVM holding the committed record, the OTP free and a life cycle that allows it is answered DONE and begins. A copy
or NVM command that R522 refuses records its code, any other starts; at its end an erase leaves a sector of ones, a
program clears bits of the sector only, VERIFY answers DONE or NOT_EQUAL, a device's failure INTEGRITY, and what its
staging reads met is the code of one that they ended. The model's choices (DEDUCED): the answers while work goes on
(log 61), the eight-byte STATUS (log 62), the recovery answer that comes first (log 64), the codes of spoilt staging
reads (log 60). COMPLETION: under the conditions stated on state and operands alone, exec answers a next state for
cwyActivate, cwyNextBoot, commitAdvance, cwyCopy, nvmErase, nvmProgram, nvmVerify, cwyEngineDone. -/
def Obligations.SetsAreCommittedCopiedAndWritten : Prop :=
  (∀ (f : Bytes) (v : Nat) (s : State), s.crs.dim = false → s.cwy.link = true →
      s.serves .d6 = true → s.updServes = true → frWhole f = true → frBad f = false → s.cwy.unanswered = false →
      frSeq f = s.cwy.lastSeq + 1 → s.cwy.sessionOpen = true → frSession f = s.cwy.session → frType f = 4 →
      let s1 := State.describe (s.quiet.onCwy fun c => { c with lastSeq := frSeq f, unanswered := true }) f .done false
      let m := s.newManifest
      let record := if s.recordSent then (s.manifestBytes 0 0x4000).getD [] else []
      let work (now : Bool) (st : UpdStep) : UpdWork := { frame := f, now := now, manifest := m, record := record, step := st }
      (∀ x ∈ [(1, true, Instr.cwyActivate f), (2, false, .cwyNextBoot f)], frOp f = x.1 →
        ((s.phase ≠ 2 ∨ s.upd ≠ none) → exec x.2.2 s = .next (s1.statusFull f
          (if s.recovery && s.upd.isNone && s.cwy.fail != 0 then s.cwy.failCode else .incomplete))) ∧
        (s.phase = 2 → s.upd = none → s.recovery = false →
          exec x.2.2 s = .next { s1.cwyField 4 3 3 with upd := some (work x.2.1 (.ask 0)) }) ∧
        (s.phase = 2 → s.upd = none → s.recovery = true →
          let fails := partsFail m fun a n => s.csramBytes (s.stageBase + a) n
          (∀ k, fails = some k → exec x.2.2 s = .next (s1.answerFail f (some k))) ∧
          (fails = none → exec x.2.2 s = .next
            { (((s1.onCwy fun c => { c with sectors := 0 }).cwyField 8 8 0).cwyField 4 3 5).answerFail f none with
              upd := some (work x.2.1 (.sector (setSectors m record) .erase false)) }))) ∧
      (frOp f = 3 → s.recovery = false → (s.phase < 3 ∨ 5 < s.phase) → s.otpBusy = false →
        (early s.lcs.state || s.lcs.state == .field) = true →
        let u := s1.nvmFetch 0x4000 0x2540
        let v' := u.nvmFetch 0 16
        (s.nvmIsRecord = false → exec (.commitAdvance f v) s = .next (u.statusFull f .incomplete)) ∧
        (s.nvmIsRecord = true → exec (.commitAdvance f v) s =
          .next (State.advanceGoOn v v'.svnTargets ((v'.cwyField 4 3 6).statusFull f .done))))) ∧
    (∀ (s : State) (u : UpdWork), s.upd = some u → s.recovery = false →
      (∀ i, u.step = .ask i → (manParts u.manifest)[i]? = none → ∃ t, s.updGoOn = t ∧
        (u.now = true → s.layoutBad u.manifest = true → t = (((({ s with upd := none } : State).cwyField 4 3 2).noteFail
          none).statusFull u.frame .version)) ∧
        (u.now = true → s.layoutBad u.manifest = false → t.phase = 4 ∧
          t.upd = some { u with step := .gate, started := false }) ∧
        (u.now = false → t.phase = 5 ∧
          t.upd = some { u with step := .sector (setSectors u.manifest u.record) .check false, started := false })) ∧
      (∀ st b, u.step = .sector [] st b → ∃ t, s.updGoOn = t ∧ t.upd = none ∧ t.phase = 7 ∧
        fldN (t.reg .cwyCtrl) 8 8 = Code.done.num) ∧
      (∀ a l, u.step = .sector (a :: l) .verify true → u.started = true → s.cwy.nvm = none → s.cwy.nvmCode ≠ .done →
        s.updGoOn = ({ s with upd := none } : State).cwyField 8 8 Code.integrity.num)) ∧
    (∀ (w : Word) (s : State), s.serves .d6 = true →
      (∀ c, lowest (s.copyRefusals w) = some c →
        exec (.cwyCopy w) s = .next (s.quiet.onCwy fun x => { x with copyCode := c })) ∧
      (lowest (s.copyRefusals w) = none → exec (.cwyCopy w) s = .next (State.copyNext (s.quiet.onCwy fun c =>
        { c with copy := some { src := (s.reg .cwyCopySrc).toNat, dst := (s.reg .cwyCopyDst).toNat,
                                left := (s.reg .cwyCopyLen).toNat } })))) ∧
    (∀ (w : Word) (s : State), s.serves .d6 = true → s.cwy.nvm = none → rsvSet .cwyNvmCmd w = false →
      let a := (s.reg .cwyNvmAddr).toNat
      a % 4096 = 0 →
      (fldN w 0 4 = 1 → exec (.nvmErase w) s =
        .next (s.quiet.onCwy fun c => { c with nvm := some { op := .erase, sector := a, data := [] } })) ∧
      (s.stageFits a = true → s.stageLocal = true → ∀ x ∈ [(2, Instr.nvmProgram w, NvmOp.program), (3, .nvmVerify w, .verify)],
        fldN w 0 4 = x.1 → exec x.2.1 s = .next (s.quiet.onCwy fun c =>
          { c with nvm := some { op := x.2.2, sector := a, data := s.csramBytes (s.stageBase + a) 4096 } })) ∧
      (s.stageFits a = true → s.stageLocal = false → s.gateBound s.stageCtx = false → ∀ x ∈ [(2, Instr.nvmProgram w,
        NvmOp.program), (3, .nvmVerify w, .verify)],
        fldN w 0 4 = x.1 → exec x.2.1 s = .next (State.nvmNext (s.quiet.onCwy fun c =>
          { c with nvm := some { op := x.2.2, sector := a, data := [] } })))) ∧
    (∀ (w : Word) (s : State), s.serves .d6 = true → s.cwy.nvm ≠ none →
      ∀ i ∈ [Instr.nvmErase w, .nvmProgram w, .nvmVerify w],
        exec i s = .next (s.quiet.onCwy fun x => { x with nvmCode := .busy })) ∧
    (∀ (ok : Bool) (s : State) (x : CwyCopy), s.cwy.copy = some x → (x.bad ≠ none ∨ x.left = 0) →
      exec (.cwyEngineDone ok) s = .next (s.quiet.onCwy fun c =>
        { c with copy := none, copyCode := x.bad.getD .done })) ∧
    (∀ (ok : Bool) (s : State) (r : NvmRun) (c : Code), s.cwy.copy = none → s.cwy.nvm = some r → r.bad = some c →
      exec (.cwyEngineDone ok) s = .next (s.quiet.onCwy fun x => { x with nvm := none, nvmCode := c })) ∧
    ∀ (s : State) (r : NvmRun), s.cwy.copy = none → s.cwy.nvm = some r → r.bad = none →
      (r.op = .verify → r.data.length = 4096 → ∀ ok, exec (.cwyEngineDone ok) s = .next ((s.quiet.nvmBus r).onCwy fun x =>
        { x with nvm := none, nvmCode := if s.nvmBytes r.sector 4096 = r.data then .done else .notEqual })) ∧
      (r.op = .erase → Memory.wf 0xFF s.nvm → ∃ t, exec (.cwyEngineDone true) s = .next t ∧ t.cwy.nvmCode = .done ∧
        t.cwy.nvm = none ∧ ∀ a, Sparse.get 0xFF t.nvm a =
          if r.sector ≤ a ∧ a < r.sector + 4096 then 0xFF else Sparse.get 0xFF s.nvm a) ∧
      (r.op = .program → r.data.length = 4096 → Memory.wf 0xFF s.nvm → ∃ t, exec (.cwyEngineDone true) s = .next t ∧
        t.cwy.nvmCode = .done ∧ t.cwy.nvm = none ∧ ∀ a, Sparse.get 0xFF t.nvm a =
          if r.sector ≤ a ∧ a < r.sector + 4096 then Sparse.get 0xFF s.nvm a &&& r.data.getD (a - r.sector) 0
          else Sparse.get 0xFF s.nvm a) ∧
      (r.op ≠ .verify → (r.op = .program → r.data.length = 4096) → ∃ t, exec (.cwyEngineDone false) s = .next t ∧
        t.cwy.nvmCode = .integrity ∧ t.cwy.nvm = none)

/-- After reset the registers read the values that the spec gives, and the invariants hold. In State.reset no command
waits, the memories are in canonical form and observation is shut. CRS_STATUS reads PLL_LOCK with SEQ 2,
CRS_RESET_CAUSE POR with reach 5, CRS_DOMAIN_STATUS only D1 released, CRS_SD_STATUS 0, both watchdogs 0x0100_0000,
every gap 0x100 and the enable mask 0xFF_FFFF; OTP_STATUS reads BUSY, LCS_STATUS the state 7; a register that software
stores reads its reset value. The root is not formed and every key slot is empty. -/
def Obligations.ResetLeavesTheSpecsValues : Prop :=
  let s := State.reset
  s.pending = [] ∧ s.memWf ∧ s.gateShut ∧
    s.regRead .sec ⟨.crsStatus, 0, 0⟩ = 0x5#32 ∧ s.regRead .sec ⟨.crsResetCause, 0, 0⟩ = 0x51#32 ∧
    s.regRead .sec ⟨.crsDomainStatus, 0, 0⟩ = 0x1#32 ∧ s.regRead .sec ⟨.crsSdStatus, 0, 0⟩ = 0#32 ∧
    s.regRead .sec ⟨.crsWdtSecCount, 0, 0⟩ = 0x01000000#32 ∧ s.regRead .sec ⟨.crsWdtCtlCount, 0, 0⟩ = 0x01000000#32 ∧
    s.regRead .sec ⟨.otpStatus, 0, 0⟩ = 0x2#32 ∧ s.regRead .sec ⟨.lcsStatus, 0, 0⟩ = 0x7#32 ∧
    s.crs.gaps = List.replicate 29 0x100 ∧ s.crs.enable = 0xFFFFFF#24 ∧
    (∀ (r : Reg) (b k : Nat), s.reg r b k = r.row.reset) ∧ (∀ i : SlotIx, (s.slot i).valid = false)

/-- Every step keeps the private SRAM, the control SRAM and the NVM in their canonical form. For every state whose
three memories are in canonical form (addresses strictly rising, no entry equal to what an unlisted address reads as),
every step that answers a next state leaves them so. The form is the model's own: equal memories are equal data. -/
def Obligations.MemoriesStayCanonical : Prop :=
  ∀ s t : State, s.memWf → step s = .next t → t.memWf

/-- No step opens observation over confidential work, and CONF_CLOSED clears only where D1 is reset. For every state
in which observation is shut (a private debug register is selected only while DEBUG_OPEN reads 1, and DEBUG_OPEN reads
0 while CONF_CLOSED reads 1), every step that answers a next state leaves it shut; and CONF_CLOSED stays set unless
the step leaves D1 held in reset, which only episodes of COLD and POWER reach do. -/
def Obligations.ObservationStaysShutOverConfidentialWork : Prop :=
  ∀ s t : State, s.gateShut → step s = .next t →
    t.gateShut ∧ (s.lcs.confClosed = true → t.lcs.confClosed = true ∨ t.up .d1 = false)
end

