-- ==== Sys2Proof/Laws/Sparse.lean ====
section
/-!
SUPPORT. Laws/Sparse.lean: what the operations over sparse arrays and memories do, and that they keep the canonical form.
-/
namespace Sys2Proof.Machine

variable {α : Type}

/-- Every key of `m` is above `k`. -/
def Sparse.Above (k : Nat) (m : Sparse α) : Prop := ∀ e ∈ m, k < e.1

theorem Sparse.rising_cons {e : Nat × α} {m : Sparse α} :
    Sparse.rising (e :: m) = true ↔ Sparse.Above e.1 m ∧ Sparse.rising m = true := by
  induction m generalizing e with
  | nil => simp [Sparse.rising, Sparse.Above]
  | cons f m ih =>
    obtain ⟨j, w⟩ := e
    obtain ⟨k, v⟩ := f
    simp only [Sparse.rising, Bool.and_eq_true, decide_eq_true_eq, ih, Sparse.Above, List.mem_cons, forall_eq_or_imp]
    exact ⟨fun ⟨h, ha, hr⟩ => ⟨⟨h, fun e he => h.trans (ha e he)⟩, ha, hr⟩, fun ⟨⟨h, _⟩, ha, hr⟩ => ⟨h, ha, hr⟩⟩

theorem Sparse.wf_nil [DecidableEq α] (d : α) : Sparse.wf d ([] : Sparse α) = true := rfl

theorem Sparse.wf_cons [DecidableEq α] {d : α} {e : Nat × α} {m : Sparse α} :
    Sparse.wf d (e :: m) = true ↔ Sparse.Above e.1 m ∧ e.2 ≠ d ∧ Sparse.wf d m = true := by
  simp only [Sparse.wf, Bool.and_eq_true, Sparse.rising_cons, List.all_cons, bne_iff_ne]
  tauto

theorem Sparse.above_put [DecidableEq α] {d : α} {j k : Nat} {v : α} {m : Sparse α} (h : Sparse.Above j m) (hk : j < k) :
    Sparse.Above j (Sparse.put d m k v) := by
  induction m with
  | nil => unfold Sparse.put; split <;> simp [Sparse.Above, hk]
  | cons e m ih =>
    obtain ⟨i, w⟩ := e
    have hm : Sparse.Above j m := fun e he => h e (List.mem_cons_of_mem _ he)
    have hi : j < i := h _ (List.mem_cons_self ..)
    unfold Sparse.put
    split
    · split <;> [exact hm; (intro e he; rcases List.mem_cons.1 he with rfl | he <;> [exact hk; exact hm e he])]
    · split
      · split <;> [exact h; (intro e he; rcases List.mem_cons.1 he with rfl | he <;> [exact hk; exact h e he])]
      · intro e he
        rcases List.mem_cons.1 he with rfl | he <;> [exact hi; exact ih hm e he]

/-- A write keeps the canonical form. -/
theorem Sparse.wf_put [DecidableEq α] {d : α} {k : Nat} {v : α} {m : Sparse α} (h : Sparse.wf d m = true) :
    Sparse.wf d (Sparse.put d m k v) = true := by
  induction m with
  | nil => unfold Sparse.put; split <;> simp_all [Sparse.wf, Sparse.rising]
  | cons e m ih =>
    obtain ⟨j, w⟩ := e
    obtain ⟨ha, hw, hm⟩ := Sparse.wf_cons.1 h
    unfold Sparse.put
    split
    · rename_i hj; subst hj
      split <;> [exact hm; exact Sparse.wf_cons.2 ⟨ha, ‹_›, hm⟩]
    · split
      · rename_i hk
        split <;> [exact h; exact Sparse.wf_cons.2
          ⟨fun e he => by rcases List.mem_cons.1 he with rfl | he <;> [exact hk; exact hk.trans (ha e he)], ‹_›, h⟩]
      · exact Sparse.wf_cons.2 ⟨Sparse.above_put ha (by simp only at *; omega), hw, ih hm⟩

/-- Entries left out keep the canonical form. -/
theorem Sparse.wf_filter [DecidableEq α] {d : α} {p : Nat × α → Bool} {m : Sparse α} (h : Sparse.wf d m = true) :
    Sparse.wf d (m.filter p : Sparse α) = true := by
  induction m with
  | nil => rfl
  | cons e m ih =>
    obtain ⟨ha, hw, hm⟩ := Sparse.wf_cons.1 h
    rw [List.filter_cons]
    split <;> [exact Sparse.wf_cons.2 ⟨fun e he => ha e (List.mem_filter.1 he).1, hw, ih hm⟩; exact ih hm]

/-- Several writes keep the canonical form. -/
theorem Sparse.wf_putMany [DecidableEq α] {d : α} {l : List (Nat × α)} {m : Sparse α} (h : Sparse.wf d m = true) :
    Sparse.wf d (Sparse.putMany d m l) = true := by
  unfold Sparse.putMany
  induction l generalizing m with
  | nil => exact h
  | cons e l ih => exact ih (Sparse.wf_put h)

/-- Bytes written keep the canonical form. -/
theorem Sparse.wf_putBytes {d : Byte} {bs : Bytes} {a : Nat} {m : Sparse Byte} (h : Sparse.wf d m = true) :
    Sparse.wf d (Sparse.putBytes d m a bs) = true := by
  induction bs generalizing m a with
  | nil => exact h
  | cons b bs ih => exact ih (Sparse.wf_put h)

/-- A change of every entry keeps the canonical form. -/
theorem Sparse.wf_mapAll [DecidableEq α] {d : α} {f : Nat → α → α} {m : Sparse α} (h : Sparse.wf d m = true) :
    Sparse.wf d (Sparse.mapAll d f m) = true := by
  induction m with
  | nil => rfl
  | cons e m ih =>
    obtain ⟨ha, -, hm⟩ := Sparse.wf_cons.1 h
    have hmap : Sparse.Above e.1 (Sparse.mapAll d f m) := by
      intro x hx
      simp only [Sparse.mapAll, List.mem_filter, List.mem_map] at hx
      obtain ⟨⟨y, hy, rfl⟩, -⟩ := hx
      exact ha y hy
    have := ih hm
    simp only [Sparse.mapAll, List.map_cons, List.filter_cons] at this hmap ⊢
    split <;> [exact Sparse.wf_cons.2 ⟨hmap, by simp_all, this⟩; exact this]

/-- What stands below every key reads as the default. -/
theorem Sparse.get_above {d : α} {k : Nat} {m : Sparse α} (h : Sparse.Above k m) : Sparse.get d m k = d := by
  cases m with
  | nil => rfl
  | cons e m =>
    obtain ⟨j, w⟩ := e
    have : k < j := h _ (List.mem_cons_self ..)
    simp [Sparse.get, this, Nat.ne_of_gt this]

/-- A read after a write of the same key gives the value written. -/
theorem Sparse.get_put [DecidableEq α] {d : α} {k : Nat} {v : α} {m : Sparse α} (h : Sparse.wf d m = true) :
    Sparse.get d (Sparse.put d m k v) k = v := by
  induction m with
  | nil => unfold Sparse.put; split <;> simp_all [Sparse.get]
  | cons e m ih =>
    obtain ⟨j, w⟩ := e
    obtain ⟨ha, -, hm⟩ := Sparse.wf_cons.1 h
    unfold Sparse.put
    split
    · rename_i hj; subst hj
      split <;> [(rename_i hv; rw [Sparse.get_above ha, hv]); simp [Sparse.get]]
    · split
      · rename_i hj hk
        split <;> [(rename_i hv; simp [Sparse.get, hj, hk, hv]); simp [Sparse.get]]
      · rename_i hj hk
        simp only [Sparse.get, hj, hk, if_false]
        exact ih hm

/-- A write leaves every other key as it was. -/
theorem Sparse.get_put_ne [DecidableEq α] {d : α} {k i : Nat} {v : α} {m : Sparse α} (h : Sparse.wf d m = true)
    (hi : i ≠ k) : Sparse.get d (Sparse.put d m k v) i = Sparse.get d m i := by
  induction m with
  | nil =>
    unfold Sparse.put
    split <;> [rfl; (simp only [Sparse.get, hi.symm, if_false, ite_self])]
  | cons e m ih =>
    obtain ⟨j, w⟩ := e
    obtain ⟨ha, -, hm⟩ := Sparse.wf_cons.1 h
    unfold Sparse.put
    split
    · rename_i hj; subst hj
      split
      · simp only [Sparse.get, hi.symm, if_false]
        split <;> [(exact Sparse.get_above fun e he => (‹i < j›).trans (ha e he)); rfl]
      · simp only [Sparse.get, hi.symm, if_false]
    · split
      · rename_i hk
        split <;> [rfl; skip]
        simp only [Sparse.get, hi.symm, if_false]
        split <;> [(have : ¬ j = i := by omega); rfl]
        have : i < j := by omega
        simp [*]
      · simp only [Sparse.get]
        split <;> [rfl; (split <;> [rfl; exact ih hm])]

/-- The same for a value that is not the default, on any list of entries. -/
theorem Sparse.get_put_of_ne [DecidableEq α] {d : α} {k i : Nat} {v : α} {m : Sparse α} (hv : v ≠ d) :
    Sparse.get d (Sparse.put d m k v) i = if i = k then v else Sparse.get d m i := by
  induction m with
  | nil => simp only [Sparse.put, hv, if_false, Sparse.get]; split <;> simp_all [eq_comm]
  | cons e m ih =>
    obtain ⟨j, w⟩ := e
    unfold Sparse.put
    simp only [hv, if_false]
    split
    · rename_i hj; subst hj
      simp only [Sparse.get]
      by_cases hi : i = j
      · rw [if_pos hi.symm, if_pos hi]
      · rw [if_neg (Ne.symm hi), if_neg hi, if_neg (Ne.symm hi)]
    · split
      · simp only [Sparse.get]
        by_cases h1 : i = k
        · simp [h1]
        · rw [if_neg (Ne.symm h1), if_neg h1]
          split <;> [(rw [if_neg (by omega), if_pos (by omega)]); rfl]
      · simp only [Sparse.get, ih]
        split <;> [(rw [if_neg (by omega)]); (split <;> [(rw [if_neg (by omega)]); rfl])]

/-- A read of what a filter keeps. -/
theorem Sparse.get_filter [DecidableEq α] {d : α} {p : Nat × α → Bool} {m : Sparse α} (h : Sparse.wf d m = true) (k : Nat) :
    Sparse.get d (m.filter p : Sparse α) k = if p (k, Sparse.get d m k) = true then Sparse.get d m k else d := by
  induction m with
  | nil => exact (ite_self _).symm
  | cons e m ih =>
    obtain ⟨j, w⟩ := e
    obtain ⟨ha, -, hm⟩ := Sparse.wf_cons.1 h
    have hlow : ∀ i ≤ j, Sparse.get d (m.filter p : Sparse α) i = d := fun i hi =>
      Sparse.get_above fun e he => lt_of_le_of_lt hi (ha e (List.mem_filter.1 he).1)
    rw [List.filter_cons]
    by_cases hp : p (j, w) = true
    · simp only [hp, if_true, Sparse.get]
      split <;> [(rename_i hj; subst hj; simp [hp]); (split <;> [simp; exact ih hm])]
    · rw [if_neg hp]
      simp only [Sparse.get]
      split <;> [(rename_i hj; subst hj; simp [hp, hlow]); (split <;> [(rw [hlow k (by omega)]; simp); exact ih hm])]

/-- A read after bytes were written: the byte written there, else what stood there before. -/
theorem Sparse.get_putBytes {d : Byte} {bs : Bytes} {a i : Nat} {m : Sparse Byte} (h : Sparse.wf d m = true) :
    Sparse.get d (Sparse.putBytes d m a bs) i = if a ≤ i ∧ i < a + bs.length then bs.getD (i - a) 0 else Sparse.get d m i := by
  induction bs generalizing m a with
  | nil => simp only [Sparse.putBytes, List.length_nil]; rw [if_neg (by omega)]
  | cons b bs ih =>
    rw [Sparse.putBytes, ih (Sparse.wf_put h)]
    by_cases h0 : i = a
    · subst h0
      rw [if_neg (by omega), if_pos (by simp), Sparse.get_put h]
      simp
    · rw [Sparse.get_put_ne h h0]
      by_cases h1 : a + 1 ≤ i ∧ i < a + 1 + bs.length
      · rw [if_pos h1, if_pos (by simp only [List.length_cons]; omega)]
        obtain ⟨n, hn⟩ : ∃ n, i = a + 1 + n := ⟨i - (a + 1), by omega⟩
        subst hn
        simp [show a + 1 + n - a = n + 1 by omega]
      · rw [if_neg h1, if_neg (by simp only [List.length_cons]; omega)]

/-- Reading bytes gives as many as were asked for. -/
@[simp] theorem Sparse.length_bytes (d : Byte) (m : Sparse Byte) (a n : Nat) : (Sparse.bytes d m a n).length = n := by
  simp [Sparse.bytes]

/-- Equal canonical arrays: two that read alike are alike. -/
theorem Sparse.ext_get [DecidableEq α] {d : α} {m n : Sparse α} (hm : Sparse.wf d m = true) (hn : Sparse.wf d n = true)
    (h : ∀ k, Sparse.get d m k = Sparse.get d n k) : m = n := by
  induction m generalizing n with
  | nil =>
    cases n with
    | nil => rfl
    | cons f n =>
      obtain ⟨-, hf, -⟩ := Sparse.wf_cons.1 hn
      have := h f.1
      simp only [Sparse.get, if_true] at this
      exact absurd this.symm hf
  | cons e m ih =>
    obtain ⟨ha, he, hm'⟩ := Sparse.wf_cons.1 hm
    cases n with
    | nil =>
      have := h e.1
      simp only [Sparse.get, if_true] at this
      exact absurd this he
    | cons f n =>
      obtain ⟨hb, hf, hn'⟩ := Sparse.wf_cons.1 hn
      obtain ⟨j, v⟩ := e
      obtain ⟨k, w⟩ := f
      simp only at ha he hb hf
      have hjk : j = k := by
        by_contra hne
        rcases Nat.lt_or_gt_of_ne hne with hlt | hlt
        · have := h j
          simp only [Sparse.get, if_true, if_neg (Ne.symm hne), if_pos hlt] at this
          exact he this
        · have := h k
          simp only [Sparse.get, if_true, if_neg hne, if_pos hlt] at this
          exact hf this.symm
      subst hjk
      have hvw : v = w := by simpa [Sparse.get] using h j
      subst hvw
      have : m = n := ih hm' hn' fun i => by
        by_cases hi : i ≤ j
        · rw [Sparse.get_above fun e he => lt_of_le_of_lt hi (ha e he),
            Sparse.get_above fun e he => lt_of_le_of_lt hi (hb e he)]
        · have := h i
          simp only [Sparse.get] at this
          rwa [if_neg (by omega), if_neg (by omega), if_neg (by omega), if_neg (by omega)] at this
      rw [this]

/-- An entry of an array in canonical form is what its key reads as. -/
theorem Sparse.get_of_mem [DecidableEq α] {d : α} {m : Sparse α} (h : Sparse.wf d m = true) {e : Nat × α} (he : e ∈ m) : Sparse.get d m e.1 = e.2 := by
  induction m with
  | nil => cases he
  | cons f m ih =>
    obtain ⟨ha, -, hm⟩ := Sparse.wf_cons.1 h
    obtain ⟨j, w⟩ := f
    rcases List.mem_cons.1 he with rfl | he
    · simp [Sparse.get]
    · have := ha e he
      simp only [Sparse.get]
      rw [if_neg (by simp only at this; omega), if_neg (by simp only at this; omega)]
      exact ih hm he

/-- A listed entry holds what `mapAll` makes of it; an unlisted one stays unlisted. -/
theorem Sparse.get_mapAll [DecidableEq α] {d : α} {f : Nat → α → α} {m : Sparse α} (h : Sparse.wf d m = true) (k : Nat) :
    Sparse.get d (Sparse.mapAll d f m) k = f k (Sparse.get d m k) ∨ Sparse.get d m k = d ∧
      Sparse.get d (Sparse.mapAll d f m) k = d := by
  induction m with
  | nil => exact .inr ⟨rfl, rfl⟩
  | cons e m ih =>
    obtain ⟨j, w⟩ := e
    obtain ⟨ha, -, hm⟩ := Sparse.wf_cons.1 h
    have hmap : Sparse.Above j (Sparse.mapAll d f m) := by
      intro x hx
      simp only [Sparse.mapAll, List.mem_filter, List.mem_map] at hx
      obtain ⟨⟨y, hy, rfl⟩, -⟩ := hx
      exact ha y hy
    have hcons : Sparse.mapAll d f ((j, w) :: m) = if f j w = d then Sparse.mapAll d f m else (j,
      f j w) :: Sparse.mapAll d f m := by
      simp only [Sparse.mapAll, List.map_cons, List.filter_cons, bne_iff_ne, ne_eq]
      split <;> simp_all
    rw [hcons]
    simp only [Sparse.get]
    by_cases h1 : j = k
    · subst h1
      rw [if_pos rfl]
      split <;> [(rename_i hd; rw [Sparse.get_above hmap, hd]; exact .inl rfl); (simp [Sparse.get])]
    · rw [if_neg h1]
      by_cases h2 : k < j
      · rw [if_pos h2]
        refine .inr ⟨rfl, ?_⟩
        split <;> [exact Sparse.get_above fun e he => h2.trans (hmap e he); (simp only [Sparse.get]; rw [if_neg h1, if_pos h2])]
      · rw [if_neg h2]
        split <;> [exact ih hm; (simp only [Sparse.get]; rw [if_neg h1, if_neg h2]; exact ih hm)]

end Sys2Proof.Machine
end

