-- ==== Sys2Proof/Laws/State.lean ====
section
/-!
SUPPORT. Laws/State.lean: each field after each update of the state, so that no proof unfolds a record update.
-/
namespace Sys2Proof.Machine

variable (s : State)

/-! `onCrs` -/

@[simp] theorem State.onCrs_crs (f : Crs → Crs) : (s.onCrs f).crs = f s.crs := rfl
@[simp] theorem State.onCrs_otp (f : Crs → Crs) : (s.onCrs f).otp = s.otp := rfl
@[simp] theorem State.onCrs_lcs (f : Crs → Crs) : (s.onCrs f).lcs = s.lcs := rfl
@[simp] theorem State.onCrs_kfb (f : Crs → Crs) : (s.onCrs f).kfb = s.kfb := rfl
@[simp] theorem State.onCrs_cnt (f : Crs → Crs) : (s.onCrs f).cnt = s.cnt := rfl
@[simp] theorem State.onCrs_kst (f : Crs → Crs) : (s.onCrs f).kst = s.kst := rfl
@[simp] theorem State.onCrs_kln (f : Crs → Crs) : (s.onCrs f).kln = s.kln := rfl
@[simp] theorem State.onCrs_peat (f : Crs → Crs) : (s.onCrs f).peat = s.peat := rfl
@[simp] theorem State.onCrs_prt (f : Crs → Crs) : (s.onCrs f).prt = s.prt := rfl
@[simp] theorem State.onCrs_fnc (f : Crs → Crs) : (s.onCrs f).fnc = s.fnc := rfl
@[simp] theorem State.onCrs_fncCore (f : Crs → Crs) : (s.onCrs f).fncCore = s.fncCore := rfl
@[simp] theorem State.onCrs_sme (f : Crs → Crs) : (s.onCrs f).sme = s.sme := rfl
@[simp] theorem State.onCrs_mrs (f : Crs → Crs) : (s.onCrs f).mrs = s.mrs := rfl
@[simp] theorem State.onCrs_dge (f : Crs → Crs) : (s.onCrs f).dge = s.dge := rfl
@[simp] theorem State.onCrs_cmp (f : Crs → Crs) : (s.onCrs f).cmp = s.cmp := rfl
@[simp] theorem State.onCrs_pke (f : Crs → Crs) : (s.onCrs f).pke = s.pke := rfl
@[simp] theorem State.onCrs_att (f : Crs → Crs) : (s.onCrs f).att = s.att := rfl
@[simp] theorem State.onCrs_boot (f : Crs → Crs) : (s.onCrs f).boot = s.boot := rfl
@[simp] theorem State.onCrs_mbx (f : Crs → Crs) : (s.onCrs f).mbx = s.mbx := rfl
@[simp] theorem State.onCrs_wcp (f : Crs → Crs) : (s.onCrs f).wcp = s.wcp := rfl
@[simp] theorem State.onCrs_cwy (f : Crs → Crs) : (s.onCrs f).cwy = s.cwy := rfl
@[simp] theorem State.onCrs_trng (f : Crs → Crs) : (s.onCrs f).trng = s.trng := rfl
@[simp] theorem State.onCrs_top (f : Crs → Crs) : (s.onCrs f).top = s.top := rfl
@[simp] theorem State.onCrs_plic (f : Crs → Crs) : (s.onCrs f).plic = s.plic := rfl
@[simp] theorem State.onCrs_fw (f : Crs → Crs) : (s.onCrs f).fw = s.fw := rfl
@[simp] theorem State.onCrs_upd (f : Crs → Crs) : (s.onCrs f).upd = s.upd := rfl
@[simp] theorem State.onCrs_mp (f : Crs → Crs) : (s.onCrs f).mp = s.mp := rfl
@[simp] theorem State.onCrs_icp (f : Crs → Crs) : (s.onCrs f).icp = s.icp := rfl
@[simp] theorem State.onCrs_tap (f : Crs → Crs) : (s.onCrs f).tap = s.tap := rfl
@[simp] theorem State.onCrs_ast (f : Crs → Crs) : (s.onCrs f).ast = s.ast := rfl
@[simp] theorem State.onCrs_cntAstdrop (f : Crs → Crs) : (s.onCrs f).cntAstdrop = s.cntAstdrop := rfl
@[simp] theorem State.onCrs_regs (f : Crs → Crs) : (s.onCrs f).regs = s.regs := rfl
@[simp] theorem State.onCrs_psram (f : Crs → Crs) : (s.onCrs f).psram = s.psram := rfl
@[simp] theorem State.onCrs_csram (f : Crs → Crs) : (s.onCrs f).csram = s.csram := rfl
@[simp] theorem State.onCrs_nvm (f : Crs → Crs) : (s.onCrs f).nvm = s.nvm := rfl
@[simp] theorem State.onCrs_outs (f : Crs → Crs) : (s.onCrs f).outs = s.outs := rfl
@[simp] theorem State.onCrs_trngDrawn (f : Crs → Crs) : (s.onCrs f).trngDrawn = s.trngDrawn := rfl
@[simp] theorem State.onCrs_nvmTears (f : Crs → Crs) : (s.onCrs f).nvmTears = s.nvmTears := rfl
@[simp] theorem State.onCrs_pending (f : Crs → Crs) : (s.onCrs f).pending = s.pending := rfl

/-! `onOtp` -/

@[simp] theorem State.onOtp_crs (f : Otp → Otp) : (s.onOtp f).crs = s.crs := rfl
@[simp] theorem State.onOtp_otp (f : Otp → Otp) : (s.onOtp f).otp = f s.otp := rfl
@[simp] theorem State.onOtp_lcs (f : Otp → Otp) : (s.onOtp f).lcs = s.lcs := rfl
@[simp] theorem State.onOtp_kfb (f : Otp → Otp) : (s.onOtp f).kfb = s.kfb := rfl
@[simp] theorem State.onOtp_cnt (f : Otp → Otp) : (s.onOtp f).cnt = s.cnt := rfl
@[simp] theorem State.onOtp_kst (f : Otp → Otp) : (s.onOtp f).kst = s.kst := rfl
@[simp] theorem State.onOtp_kln (f : Otp → Otp) : (s.onOtp f).kln = s.kln := rfl
@[simp] theorem State.onOtp_peat (f : Otp → Otp) : (s.onOtp f).peat = s.peat := rfl
@[simp] theorem State.onOtp_prt (f : Otp → Otp) : (s.onOtp f).prt = s.prt := rfl
@[simp] theorem State.onOtp_fnc (f : Otp → Otp) : (s.onOtp f).fnc = s.fnc := rfl
@[simp] theorem State.onOtp_fncCore (f : Otp → Otp) : (s.onOtp f).fncCore = s.fncCore := rfl
@[simp] theorem State.onOtp_sme (f : Otp → Otp) : (s.onOtp f).sme = s.sme := rfl
@[simp] theorem State.onOtp_mrs (f : Otp → Otp) : (s.onOtp f).mrs = s.mrs := rfl
@[simp] theorem State.onOtp_dge (f : Otp → Otp) : (s.onOtp f).dge = s.dge := rfl
@[simp] theorem State.onOtp_cmp (f : Otp → Otp) : (s.onOtp f).cmp = s.cmp := rfl
@[simp] theorem State.onOtp_pke (f : Otp → Otp) : (s.onOtp f).pke = s.pke := rfl
@[simp] theorem State.onOtp_att (f : Otp → Otp) : (s.onOtp f).att = s.att := rfl
@[simp] theorem State.onOtp_boot (f : Otp → Otp) : (s.onOtp f).boot = s.boot := rfl
@[simp] theorem State.onOtp_mbx (f : Otp → Otp) : (s.onOtp f).mbx = s.mbx := rfl
@[simp] theorem State.onOtp_wcp (f : Otp → Otp) : (s.onOtp f).wcp = s.wcp := rfl
@[simp] theorem State.onOtp_cwy (f : Otp → Otp) : (s.onOtp f).cwy = s.cwy := rfl
@[simp] theorem State.onOtp_trng (f : Otp → Otp) : (s.onOtp f).trng = s.trng := rfl
@[simp] theorem State.onOtp_top (f : Otp → Otp) : (s.onOtp f).top = s.top := rfl
@[simp] theorem State.onOtp_plic (f : Otp → Otp) : (s.onOtp f).plic = s.plic := rfl
@[simp] theorem State.onOtp_fw (f : Otp → Otp) : (s.onOtp f).fw = s.fw := rfl
@[simp] theorem State.onOtp_upd (f : Otp → Otp) : (s.onOtp f).upd = s.upd := rfl
@[simp] theorem State.onOtp_mp (f : Otp → Otp) : (s.onOtp f).mp = s.mp := rfl
@[simp] theorem State.onOtp_icp (f : Otp → Otp) : (s.onOtp f).icp = s.icp := rfl
@[simp] theorem State.onOtp_tap (f : Otp → Otp) : (s.onOtp f).tap = s.tap := rfl
@[simp] theorem State.onOtp_ast (f : Otp → Otp) : (s.onOtp f).ast = s.ast := rfl
@[simp] theorem State.onOtp_cntAstdrop (f : Otp → Otp) : (s.onOtp f).cntAstdrop = s.cntAstdrop := rfl
@[simp] theorem State.onOtp_regs (f : Otp → Otp) : (s.onOtp f).regs = s.regs := rfl
@[simp] theorem State.onOtp_psram (f : Otp → Otp) : (s.onOtp f).psram = s.psram := rfl
@[simp] theorem State.onOtp_csram (f : Otp → Otp) : (s.onOtp f).csram = s.csram := rfl
@[simp] theorem State.onOtp_nvm (f : Otp → Otp) : (s.onOtp f).nvm = s.nvm := rfl
@[simp] theorem State.onOtp_outs (f : Otp → Otp) : (s.onOtp f).outs = s.outs := rfl
@[simp] theorem State.onOtp_trngDrawn (f : Otp → Otp) : (s.onOtp f).trngDrawn = s.trngDrawn := rfl
@[simp] theorem State.onOtp_nvmTears (f : Otp → Otp) : (s.onOtp f).nvmTears = s.nvmTears := rfl
@[simp] theorem State.onOtp_pending (f : Otp → Otp) : (s.onOtp f).pending = s.pending := rfl

/-! `onLcs` -/

@[simp] theorem State.onLcs_crs (f : Lcs → Lcs) : (s.onLcs f).crs = s.crs := rfl
@[simp] theorem State.onLcs_otp (f : Lcs → Lcs) : (s.onLcs f).otp = s.otp := rfl
@[simp] theorem State.onLcs_lcs (f : Lcs → Lcs) : (s.onLcs f).lcs = f s.lcs := rfl
@[simp] theorem State.onLcs_kfb (f : Lcs → Lcs) : (s.onLcs f).kfb = s.kfb := rfl
@[simp] theorem State.onLcs_cnt (f : Lcs → Lcs) : (s.onLcs f).cnt = s.cnt := rfl
@[simp] theorem State.onLcs_kst (f : Lcs → Lcs) : (s.onLcs f).kst = s.kst := rfl
@[simp] theorem State.onLcs_kln (f : Lcs → Lcs) : (s.onLcs f).kln = s.kln := rfl
@[simp] theorem State.onLcs_peat (f : Lcs → Lcs) : (s.onLcs f).peat = s.peat := rfl
@[simp] theorem State.onLcs_prt (f : Lcs → Lcs) : (s.onLcs f).prt = s.prt := rfl
@[simp] theorem State.onLcs_fnc (f : Lcs → Lcs) : (s.onLcs f).fnc = s.fnc := rfl
@[simp] theorem State.onLcs_fncCore (f : Lcs → Lcs) : (s.onLcs f).fncCore = s.fncCore := rfl
@[simp] theorem State.onLcs_sme (f : Lcs → Lcs) : (s.onLcs f).sme = s.sme := rfl
@[simp] theorem State.onLcs_mrs (f : Lcs → Lcs) : (s.onLcs f).mrs = s.mrs := rfl
@[simp] theorem State.onLcs_dge (f : Lcs → Lcs) : (s.onLcs f).dge = s.dge := rfl
@[simp] theorem State.onLcs_cmp (f : Lcs → Lcs) : (s.onLcs f).cmp = s.cmp := rfl
@[simp] theorem State.onLcs_pke (f : Lcs → Lcs) : (s.onLcs f).pke = s.pke := rfl
@[simp] theorem State.onLcs_att (f : Lcs → Lcs) : (s.onLcs f).att = s.att := rfl
@[simp] theorem State.onLcs_boot (f : Lcs → Lcs) : (s.onLcs f).boot = s.boot := rfl
@[simp] theorem State.onLcs_mbx (f : Lcs → Lcs) : (s.onLcs f).mbx = s.mbx := rfl
@[simp] theorem State.onLcs_wcp (f : Lcs → Lcs) : (s.onLcs f).wcp = s.wcp := rfl
@[simp] theorem State.onLcs_cwy (f : Lcs → Lcs) : (s.onLcs f).cwy = s.cwy := rfl
@[simp] theorem State.onLcs_trng (f : Lcs → Lcs) : (s.onLcs f).trng = s.trng := rfl
@[simp] theorem State.onLcs_top (f : Lcs → Lcs) : (s.onLcs f).top = s.top := rfl
@[simp] theorem State.onLcs_plic (f : Lcs → Lcs) : (s.onLcs f).plic = s.plic := rfl
@[simp] theorem State.onLcs_fw (f : Lcs → Lcs) : (s.onLcs f).fw = s.fw := rfl
@[simp] theorem State.onLcs_upd (f : Lcs → Lcs) : (s.onLcs f).upd = s.upd := rfl
@[simp] theorem State.onLcs_mp (f : Lcs → Lcs) : (s.onLcs f).mp = s.mp := rfl
@[simp] theorem State.onLcs_icp (f : Lcs → Lcs) : (s.onLcs f).icp = s.icp := rfl
@[simp] theorem State.onLcs_tap (f : Lcs → Lcs) : (s.onLcs f).tap = s.tap := rfl
@[simp] theorem State.onLcs_ast (f : Lcs → Lcs) : (s.onLcs f).ast = s.ast := rfl
@[simp] theorem State.onLcs_cntAstdrop (f : Lcs → Lcs) : (s.onLcs f).cntAstdrop = s.cntAstdrop := rfl
@[simp] theorem State.onLcs_regs (f : Lcs → Lcs) : (s.onLcs f).regs = s.regs := rfl
@[simp] theorem State.onLcs_psram (f : Lcs → Lcs) : (s.onLcs f).psram = s.psram := rfl
@[simp] theorem State.onLcs_csram (f : Lcs → Lcs) : (s.onLcs f).csram = s.csram := rfl
@[simp] theorem State.onLcs_nvm (f : Lcs → Lcs) : (s.onLcs f).nvm = s.nvm := rfl
@[simp] theorem State.onLcs_outs (f : Lcs → Lcs) : (s.onLcs f).outs = s.outs := rfl
@[simp] theorem State.onLcs_trngDrawn (f : Lcs → Lcs) : (s.onLcs f).trngDrawn = s.trngDrawn := rfl
@[simp] theorem State.onLcs_nvmTears (f : Lcs → Lcs) : (s.onLcs f).nvmTears = s.nvmTears := rfl
@[simp] theorem State.onLcs_pending (f : Lcs → Lcs) : (s.onLcs f).pending = s.pending := rfl

/-! `onKfb` -/

@[simp] theorem State.onKfb_crs (f : Kfb → Kfb) : (s.onKfb f).crs = s.crs := rfl
@[simp] theorem State.onKfb_otp (f : Kfb → Kfb) : (s.onKfb f).otp = s.otp := rfl
@[simp] theorem State.onKfb_lcs (f : Kfb → Kfb) : (s.onKfb f).lcs = s.lcs := rfl
@[simp] theorem State.onKfb_kfb (f : Kfb → Kfb) : (s.onKfb f).kfb = f s.kfb := rfl
@[simp] theorem State.onKfb_cnt (f : Kfb → Kfb) : (s.onKfb f).cnt = s.cnt := rfl
@[simp] theorem State.onKfb_kst (f : Kfb → Kfb) : (s.onKfb f).kst = s.kst := rfl
@[simp] theorem State.onKfb_kln (f : Kfb → Kfb) : (s.onKfb f).kln = s.kln := rfl
@[simp] theorem State.onKfb_peat (f : Kfb → Kfb) : (s.onKfb f).peat = s.peat := rfl
@[simp] theorem State.onKfb_prt (f : Kfb → Kfb) : (s.onKfb f).prt = s.prt := rfl
@[simp] theorem State.onKfb_fnc (f : Kfb → Kfb) : (s.onKfb f).fnc = s.fnc := rfl
@[simp] theorem State.onKfb_fncCore (f : Kfb → Kfb) : (s.onKfb f).fncCore = s.fncCore := rfl
@[simp] theorem State.onKfb_sme (f : Kfb → Kfb) : (s.onKfb f).sme = s.sme := rfl
@[simp] theorem State.onKfb_mrs (f : Kfb → Kfb) : (s.onKfb f).mrs = s.mrs := rfl
@[simp] theorem State.onKfb_dge (f : Kfb → Kfb) : (s.onKfb f).dge = s.dge := rfl
@[simp] theorem State.onKfb_cmp (f : Kfb → Kfb) : (s.onKfb f).cmp = s.cmp := rfl
@[simp] theorem State.onKfb_pke (f : Kfb → Kfb) : (s.onKfb f).pke = s.pke := rfl
@[simp] theorem State.onKfb_att (f : Kfb → Kfb) : (s.onKfb f).att = s.att := rfl
@[simp] theorem State.onKfb_boot (f : Kfb → Kfb) : (s.onKfb f).boot = s.boot := rfl
@[simp] theorem State.onKfb_mbx (f : Kfb → Kfb) : (s.onKfb f).mbx = s.mbx := rfl
@[simp] theorem State.onKfb_wcp (f : Kfb → Kfb) : (s.onKfb f).wcp = s.wcp := rfl
@[simp] theorem State.onKfb_cwy (f : Kfb → Kfb) : (s.onKfb f).cwy = s.cwy := rfl
@[simp] theorem State.onKfb_trng (f : Kfb → Kfb) : (s.onKfb f).trng = s.trng := rfl
@[simp] theorem State.onKfb_top (f : Kfb → Kfb) : (s.onKfb f).top = s.top := rfl
@[simp] theorem State.onKfb_plic (f : Kfb → Kfb) : (s.onKfb f).plic = s.plic := rfl
@[simp] theorem State.onKfb_fw (f : Kfb → Kfb) : (s.onKfb f).fw = s.fw := rfl
@[simp] theorem State.onKfb_upd (f : Kfb → Kfb) : (s.onKfb f).upd = s.upd := rfl
@[simp] theorem State.onKfb_mp (f : Kfb → Kfb) : (s.onKfb f).mp = s.mp := rfl
@[simp] theorem State.onKfb_icp (f : Kfb → Kfb) : (s.onKfb f).icp = s.icp := rfl
@[simp] theorem State.onKfb_tap (f : Kfb → Kfb) : (s.onKfb f).tap = s.tap := rfl
@[simp] theorem State.onKfb_ast (f : Kfb → Kfb) : (s.onKfb f).ast = s.ast := rfl
@[simp] theorem State.onKfb_cntAstdrop (f : Kfb → Kfb) : (s.onKfb f).cntAstdrop = s.cntAstdrop := rfl
@[simp] theorem State.onKfb_regs (f : Kfb → Kfb) : (s.onKfb f).regs = s.regs := rfl
@[simp] theorem State.onKfb_psram (f : Kfb → Kfb) : (s.onKfb f).psram = s.psram := rfl
@[simp] theorem State.onKfb_csram (f : Kfb → Kfb) : (s.onKfb f).csram = s.csram := rfl
@[simp] theorem State.onKfb_nvm (f : Kfb → Kfb) : (s.onKfb f).nvm = s.nvm := rfl
@[simp] theorem State.onKfb_outs (f : Kfb → Kfb) : (s.onKfb f).outs = s.outs := rfl
@[simp] theorem State.onKfb_trngDrawn (f : Kfb → Kfb) : (s.onKfb f).trngDrawn = s.trngDrawn := rfl
@[simp] theorem State.onKfb_nvmTears (f : Kfb → Kfb) : (s.onKfb f).nvmTears = s.nvmTears := rfl
@[simp] theorem State.onKfb_pending (f : Kfb → Kfb) : (s.onKfb f).pending = s.pending := rfl

/-! `onCnt` -/

@[simp] theorem State.onCnt_crs (f : Cnt → Cnt) : (s.onCnt f).crs = s.crs := rfl
@[simp] theorem State.onCnt_otp (f : Cnt → Cnt) : (s.onCnt f).otp = s.otp := rfl
@[simp] theorem State.onCnt_lcs (f : Cnt → Cnt) : (s.onCnt f).lcs = s.lcs := rfl
@[simp] theorem State.onCnt_kfb (f : Cnt → Cnt) : (s.onCnt f).kfb = s.kfb := rfl
@[simp] theorem State.onCnt_cnt (f : Cnt → Cnt) : (s.onCnt f).cnt = f s.cnt := rfl
@[simp] theorem State.onCnt_kst (f : Cnt → Cnt) : (s.onCnt f).kst = s.kst := rfl
@[simp] theorem State.onCnt_kln (f : Cnt → Cnt) : (s.onCnt f).kln = s.kln := rfl
@[simp] theorem State.onCnt_peat (f : Cnt → Cnt) : (s.onCnt f).peat = s.peat := rfl
@[simp] theorem State.onCnt_prt (f : Cnt → Cnt) : (s.onCnt f).prt = s.prt := rfl
@[simp] theorem State.onCnt_fnc (f : Cnt → Cnt) : (s.onCnt f).fnc = s.fnc := rfl
@[simp] theorem State.onCnt_fncCore (f : Cnt → Cnt) : (s.onCnt f).fncCore = s.fncCore := rfl
@[simp] theorem State.onCnt_sme (f : Cnt → Cnt) : (s.onCnt f).sme = s.sme := rfl
@[simp] theorem State.onCnt_mrs (f : Cnt → Cnt) : (s.onCnt f).mrs = s.mrs := rfl
@[simp] theorem State.onCnt_dge (f : Cnt → Cnt) : (s.onCnt f).dge = s.dge := rfl
@[simp] theorem State.onCnt_cmp (f : Cnt → Cnt) : (s.onCnt f).cmp = s.cmp := rfl
@[simp] theorem State.onCnt_pke (f : Cnt → Cnt) : (s.onCnt f).pke = s.pke := rfl
@[simp] theorem State.onCnt_att (f : Cnt → Cnt) : (s.onCnt f).att = s.att := rfl
@[simp] theorem State.onCnt_boot (f : Cnt → Cnt) : (s.onCnt f).boot = s.boot := rfl
@[simp] theorem State.onCnt_mbx (f : Cnt → Cnt) : (s.onCnt f).mbx = s.mbx := rfl
@[simp] theorem State.onCnt_wcp (f : Cnt → Cnt) : (s.onCnt f).wcp = s.wcp := rfl
@[simp] theorem State.onCnt_cwy (f : Cnt → Cnt) : (s.onCnt f).cwy = s.cwy := rfl
@[simp] theorem State.onCnt_trng (f : Cnt → Cnt) : (s.onCnt f).trng = s.trng := rfl
@[simp] theorem State.onCnt_top (f : Cnt → Cnt) : (s.onCnt f).top = s.top := rfl
@[simp] theorem State.onCnt_plic (f : Cnt → Cnt) : (s.onCnt f).plic = s.plic := rfl
@[simp] theorem State.onCnt_fw (f : Cnt → Cnt) : (s.onCnt f).fw = s.fw := rfl
@[simp] theorem State.onCnt_upd (f : Cnt → Cnt) : (s.onCnt f).upd = s.upd := rfl
@[simp] theorem State.onCnt_mp (f : Cnt → Cnt) : (s.onCnt f).mp = s.mp := rfl
@[simp] theorem State.onCnt_icp (f : Cnt → Cnt) : (s.onCnt f).icp = s.icp := rfl
@[simp] theorem State.onCnt_tap (f : Cnt → Cnt) : (s.onCnt f).tap = s.tap := rfl
@[simp] theorem State.onCnt_ast (f : Cnt → Cnt) : (s.onCnt f).ast = s.ast := rfl
@[simp] theorem State.onCnt_cntAstdrop (f : Cnt → Cnt) : (s.onCnt f).cntAstdrop = s.cntAstdrop := rfl
@[simp] theorem State.onCnt_regs (f : Cnt → Cnt) : (s.onCnt f).regs = s.regs := rfl
@[simp] theorem State.onCnt_psram (f : Cnt → Cnt) : (s.onCnt f).psram = s.psram := rfl
@[simp] theorem State.onCnt_csram (f : Cnt → Cnt) : (s.onCnt f).csram = s.csram := rfl
@[simp] theorem State.onCnt_nvm (f : Cnt → Cnt) : (s.onCnt f).nvm = s.nvm := rfl
@[simp] theorem State.onCnt_outs (f : Cnt → Cnt) : (s.onCnt f).outs = s.outs := rfl
@[simp] theorem State.onCnt_trngDrawn (f : Cnt → Cnt) : (s.onCnt f).trngDrawn = s.trngDrawn := rfl
@[simp] theorem State.onCnt_nvmTears (f : Cnt → Cnt) : (s.onCnt f).nvmTears = s.nvmTears := rfl
@[simp] theorem State.onCnt_pending (f : Cnt → Cnt) : (s.onCnt f).pending = s.pending := rfl

/-! `onKst` -/

@[simp] theorem State.onKst_crs (f : Kst → Kst) : (s.onKst f).crs = s.crs := rfl
@[simp] theorem State.onKst_otp (f : Kst → Kst) : (s.onKst f).otp = s.otp := rfl
@[simp] theorem State.onKst_lcs (f : Kst → Kst) : (s.onKst f).lcs = s.lcs := rfl
@[simp] theorem State.onKst_kfb (f : Kst → Kst) : (s.onKst f).kfb = s.kfb := rfl
@[simp] theorem State.onKst_cnt (f : Kst → Kst) : (s.onKst f).cnt = s.cnt := rfl
@[simp] theorem State.onKst_kst (f : Kst → Kst) : (s.onKst f).kst = f s.kst := rfl
@[simp] theorem State.onKst_kln (f : Kst → Kst) : (s.onKst f).kln = s.kln := rfl
@[simp] theorem State.onKst_peat (f : Kst → Kst) : (s.onKst f).peat = s.peat := rfl
@[simp] theorem State.onKst_prt (f : Kst → Kst) : (s.onKst f).prt = s.prt := rfl
@[simp] theorem State.onKst_fnc (f : Kst → Kst) : (s.onKst f).fnc = s.fnc := rfl
@[simp] theorem State.onKst_fncCore (f : Kst → Kst) : (s.onKst f).fncCore = s.fncCore := rfl
@[simp] theorem State.onKst_sme (f : Kst → Kst) : (s.onKst f).sme = s.sme := rfl
@[simp] theorem State.onKst_mrs (f : Kst → Kst) : (s.onKst f).mrs = s.mrs := rfl
@[simp] theorem State.onKst_dge (f : Kst → Kst) : (s.onKst f).dge = s.dge := rfl
@[simp] theorem State.onKst_cmp (f : Kst → Kst) : (s.onKst f).cmp = s.cmp := rfl
@[simp] theorem State.onKst_pke (f : Kst → Kst) : (s.onKst f).pke = s.pke := rfl
@[simp] theorem State.onKst_att (f : Kst → Kst) : (s.onKst f).att = s.att := rfl
@[simp] theorem State.onKst_boot (f : Kst → Kst) : (s.onKst f).boot = s.boot := rfl
@[simp] theorem State.onKst_mbx (f : Kst → Kst) : (s.onKst f).mbx = s.mbx := rfl
@[simp] theorem State.onKst_wcp (f : Kst → Kst) : (s.onKst f).wcp = s.wcp := rfl
@[simp] theorem State.onKst_cwy (f : Kst → Kst) : (s.onKst f).cwy = s.cwy := rfl
@[simp] theorem State.onKst_trng (f : Kst → Kst) : (s.onKst f).trng = s.trng := rfl
@[simp] theorem State.onKst_top (f : Kst → Kst) : (s.onKst f).top = s.top := rfl
@[simp] theorem State.onKst_plic (f : Kst → Kst) : (s.onKst f).plic = s.plic := rfl
@[simp] theorem State.onKst_fw (f : Kst → Kst) : (s.onKst f).fw = s.fw := rfl
@[simp] theorem State.onKst_upd (f : Kst → Kst) : (s.onKst f).upd = s.upd := rfl
@[simp] theorem State.onKst_mp (f : Kst → Kst) : (s.onKst f).mp = s.mp := rfl
@[simp] theorem State.onKst_icp (f : Kst → Kst) : (s.onKst f).icp = s.icp := rfl
@[simp] theorem State.onKst_tap (f : Kst → Kst) : (s.onKst f).tap = s.tap := rfl
@[simp] theorem State.onKst_ast (f : Kst → Kst) : (s.onKst f).ast = s.ast := rfl
@[simp] theorem State.onKst_cntAstdrop (f : Kst → Kst) : (s.onKst f).cntAstdrop = s.cntAstdrop := rfl
@[simp] theorem State.onKst_regs (f : Kst → Kst) : (s.onKst f).regs = s.regs := rfl
@[simp] theorem State.onKst_psram (f : Kst → Kst) : (s.onKst f).psram = s.psram := rfl
@[simp] theorem State.onKst_csram (f : Kst → Kst) : (s.onKst f).csram = s.csram := rfl
@[simp] theorem State.onKst_nvm (f : Kst → Kst) : (s.onKst f).nvm = s.nvm := rfl
@[simp] theorem State.onKst_outs (f : Kst → Kst) : (s.onKst f).outs = s.outs := rfl
@[simp] theorem State.onKst_trngDrawn (f : Kst → Kst) : (s.onKst f).trngDrawn = s.trngDrawn := rfl
@[simp] theorem State.onKst_nvmTears (f : Kst → Kst) : (s.onKst f).nvmTears = s.nvmTears := rfl
@[simp] theorem State.onKst_pending (f : Kst → Kst) : (s.onKst f).pending = s.pending := rfl

/-! `onKln` -/

@[simp] theorem State.onKln_crs (f : Kln → Kln) : (s.onKln f).crs = s.crs := rfl
@[simp] theorem State.onKln_otp (f : Kln → Kln) : (s.onKln f).otp = s.otp := rfl
@[simp] theorem State.onKln_lcs (f : Kln → Kln) : (s.onKln f).lcs = s.lcs := rfl
@[simp] theorem State.onKln_kfb (f : Kln → Kln) : (s.onKln f).kfb = s.kfb := rfl
@[simp] theorem State.onKln_cnt (f : Kln → Kln) : (s.onKln f).cnt = s.cnt := rfl
@[simp] theorem State.onKln_kst (f : Kln → Kln) : (s.onKln f).kst = s.kst := rfl
@[simp] theorem State.onKln_kln (f : Kln → Kln) : (s.onKln f).kln = f s.kln := rfl
@[simp] theorem State.onKln_peat (f : Kln → Kln) : (s.onKln f).peat = s.peat := rfl
@[simp] theorem State.onKln_prt (f : Kln → Kln) : (s.onKln f).prt = s.prt := rfl
@[simp] theorem State.onKln_fnc (f : Kln → Kln) : (s.onKln f).fnc = s.fnc := rfl
@[simp] theorem State.onKln_fncCore (f : Kln → Kln) : (s.onKln f).fncCore = s.fncCore := rfl
@[simp] theorem State.onKln_sme (f : Kln → Kln) : (s.onKln f).sme = s.sme := rfl
@[simp] theorem State.onKln_mrs (f : Kln → Kln) : (s.onKln f).mrs = s.mrs := rfl
@[simp] theorem State.onKln_dge (f : Kln → Kln) : (s.onKln f).dge = s.dge := rfl
@[simp] theorem State.onKln_cmp (f : Kln → Kln) : (s.onKln f).cmp = s.cmp := rfl
@[simp] theorem State.onKln_pke (f : Kln → Kln) : (s.onKln f).pke = s.pke := rfl
@[simp] theorem State.onKln_att (f : Kln → Kln) : (s.onKln f).att = s.att := rfl
@[simp] theorem State.onKln_boot (f : Kln → Kln) : (s.onKln f).boot = s.boot := rfl
@[simp] theorem State.onKln_mbx (f : Kln → Kln) : (s.onKln f).mbx = s.mbx := rfl
@[simp] theorem State.onKln_wcp (f : Kln → Kln) : (s.onKln f).wcp = s.wcp := rfl
@[simp] theorem State.onKln_cwy (f : Kln → Kln) : (s.onKln f).cwy = s.cwy := rfl
@[simp] theorem State.onKln_trng (f : Kln → Kln) : (s.onKln f).trng = s.trng := rfl
@[simp] theorem State.onKln_top (f : Kln → Kln) : (s.onKln f).top = s.top := rfl
@[simp] theorem State.onKln_plic (f : Kln → Kln) : (s.onKln f).plic = s.plic := rfl
@[simp] theorem State.onKln_fw (f : Kln → Kln) : (s.onKln f).fw = s.fw := rfl
@[simp] theorem State.onKln_upd (f : Kln → Kln) : (s.onKln f).upd = s.upd := rfl
@[simp] theorem State.onKln_mp (f : Kln → Kln) : (s.onKln f).mp = s.mp := rfl
@[simp] theorem State.onKln_icp (f : Kln → Kln) : (s.onKln f).icp = s.icp := rfl
@[simp] theorem State.onKln_tap (f : Kln → Kln) : (s.onKln f).tap = s.tap := rfl
@[simp] theorem State.onKln_ast (f : Kln → Kln) : (s.onKln f).ast = s.ast := rfl
@[simp] theorem State.onKln_cntAstdrop (f : Kln → Kln) : (s.onKln f).cntAstdrop = s.cntAstdrop := rfl
@[simp] theorem State.onKln_regs (f : Kln → Kln) : (s.onKln f).regs = s.regs := rfl
@[simp] theorem State.onKln_psram (f : Kln → Kln) : (s.onKln f).psram = s.psram := rfl
@[simp] theorem State.onKln_csram (f : Kln → Kln) : (s.onKln f).csram = s.csram := rfl
@[simp] theorem State.onKln_nvm (f : Kln → Kln) : (s.onKln f).nvm = s.nvm := rfl
@[simp] theorem State.onKln_outs (f : Kln → Kln) : (s.onKln f).outs = s.outs := rfl
@[simp] theorem State.onKln_trngDrawn (f : Kln → Kln) : (s.onKln f).trngDrawn = s.trngDrawn := rfl
@[simp] theorem State.onKln_nvmTears (f : Kln → Kln) : (s.onKln f).nvmTears = s.nvmTears := rfl
@[simp] theorem State.onKln_pending (f : Kln → Kln) : (s.onKln f).pending = s.pending := rfl

/-! `onPeat` -/

@[simp] theorem State.onPeat_crs (f : Peat → Peat) : (s.onPeat f).crs = s.crs := rfl
@[simp] theorem State.onPeat_otp (f : Peat → Peat) : (s.onPeat f).otp = s.otp := rfl
@[simp] theorem State.onPeat_lcs (f : Peat → Peat) : (s.onPeat f).lcs = s.lcs := rfl
@[simp] theorem State.onPeat_kfb (f : Peat → Peat) : (s.onPeat f).kfb = s.kfb := rfl
@[simp] theorem State.onPeat_cnt (f : Peat → Peat) : (s.onPeat f).cnt = s.cnt := rfl
@[simp] theorem State.onPeat_kst (f : Peat → Peat) : (s.onPeat f).kst = s.kst := rfl
@[simp] theorem State.onPeat_kln (f : Peat → Peat) : (s.onPeat f).kln = s.kln := rfl
@[simp] theorem State.onPeat_peat (f : Peat → Peat) : (s.onPeat f).peat = f s.peat := rfl
@[simp] theorem State.onPeat_prt (f : Peat → Peat) : (s.onPeat f).prt = s.prt := rfl
@[simp] theorem State.onPeat_fnc (f : Peat → Peat) : (s.onPeat f).fnc = s.fnc := rfl
@[simp] theorem State.onPeat_fncCore (f : Peat → Peat) : (s.onPeat f).fncCore = s.fncCore := rfl
@[simp] theorem State.onPeat_sme (f : Peat → Peat) : (s.onPeat f).sme = s.sme := rfl
@[simp] theorem State.onPeat_mrs (f : Peat → Peat) : (s.onPeat f).mrs = s.mrs := rfl
@[simp] theorem State.onPeat_dge (f : Peat → Peat) : (s.onPeat f).dge = s.dge := rfl
@[simp] theorem State.onPeat_cmp (f : Peat → Peat) : (s.onPeat f).cmp = s.cmp := rfl
@[simp] theorem State.onPeat_pke (f : Peat → Peat) : (s.onPeat f).pke = s.pke := rfl
@[simp] theorem State.onPeat_att (f : Peat → Peat) : (s.onPeat f).att = s.att := rfl
@[simp] theorem State.onPeat_boot (f : Peat → Peat) : (s.onPeat f).boot = s.boot := rfl
@[simp] theorem State.onPeat_mbx (f : Peat → Peat) : (s.onPeat f).mbx = s.mbx := rfl
@[simp] theorem State.onPeat_wcp (f : Peat → Peat) : (s.onPeat f).wcp = s.wcp := rfl
@[simp] theorem State.onPeat_cwy (f : Peat → Peat) : (s.onPeat f).cwy = s.cwy := rfl
@[simp] theorem State.onPeat_trng (f : Peat → Peat) : (s.onPeat f).trng = s.trng := rfl
@[simp] theorem State.onPeat_top (f : Peat → Peat) : (s.onPeat f).top = s.top := rfl
@[simp] theorem State.onPeat_plic (f : Peat → Peat) : (s.onPeat f).plic = s.plic := rfl
@[simp] theorem State.onPeat_fw (f : Peat → Peat) : (s.onPeat f).fw = s.fw := rfl
@[simp] theorem State.onPeat_upd (f : Peat → Peat) : (s.onPeat f).upd = s.upd := rfl
@[simp] theorem State.onPeat_mp (f : Peat → Peat) : (s.onPeat f).mp = s.mp := rfl
@[simp] theorem State.onPeat_icp (f : Peat → Peat) : (s.onPeat f).icp = s.icp := rfl
@[simp] theorem State.onPeat_tap (f : Peat → Peat) : (s.onPeat f).tap = s.tap := rfl
@[simp] theorem State.onPeat_ast (f : Peat → Peat) : (s.onPeat f).ast = s.ast := rfl
@[simp] theorem State.onPeat_cntAstdrop (f : Peat → Peat) : (s.onPeat f).cntAstdrop = s.cntAstdrop := rfl
@[simp] theorem State.onPeat_regs (f : Peat → Peat) : (s.onPeat f).regs = s.regs := rfl
@[simp] theorem State.onPeat_psram (f : Peat → Peat) : (s.onPeat f).psram = s.psram := rfl
@[simp] theorem State.onPeat_csram (f : Peat → Peat) : (s.onPeat f).csram = s.csram := rfl
@[simp] theorem State.onPeat_nvm (f : Peat → Peat) : (s.onPeat f).nvm = s.nvm := rfl
@[simp] theorem State.onPeat_outs (f : Peat → Peat) : (s.onPeat f).outs = s.outs := rfl
@[simp] theorem State.onPeat_trngDrawn (f : Peat → Peat) : (s.onPeat f).trngDrawn = s.trngDrawn := rfl
@[simp] theorem State.onPeat_nvmTears (f : Peat → Peat) : (s.onPeat f).nvmTears = s.nvmTears := rfl
@[simp] theorem State.onPeat_pending (f : Peat → Peat) : (s.onPeat f).pending = s.pending := rfl

/-! `onPrt` -/

@[simp] theorem State.onPrt_crs (f : Prt → Prt) : (s.onPrt f).crs = s.crs := rfl
@[simp] theorem State.onPrt_otp (f : Prt → Prt) : (s.onPrt f).otp = s.otp := rfl
@[simp] theorem State.onPrt_lcs (f : Prt → Prt) : (s.onPrt f).lcs = s.lcs := rfl
@[simp] theorem State.onPrt_kfb (f : Prt → Prt) : (s.onPrt f).kfb = s.kfb := rfl
@[simp] theorem State.onPrt_cnt (f : Prt → Prt) : (s.onPrt f).cnt = s.cnt := rfl
@[simp] theorem State.onPrt_kst (f : Prt → Prt) : (s.onPrt f).kst = s.kst := rfl
@[simp] theorem State.onPrt_kln (f : Prt → Prt) : (s.onPrt f).kln = s.kln := rfl
@[simp] theorem State.onPrt_peat (f : Prt → Prt) : (s.onPrt f).peat = s.peat := rfl
@[simp] theorem State.onPrt_prt (f : Prt → Prt) : (s.onPrt f).prt = f s.prt := rfl
@[simp] theorem State.onPrt_fnc (f : Prt → Prt) : (s.onPrt f).fnc = s.fnc := rfl
@[simp] theorem State.onPrt_fncCore (f : Prt → Prt) : (s.onPrt f).fncCore = s.fncCore := rfl
@[simp] theorem State.onPrt_sme (f : Prt → Prt) : (s.onPrt f).sme = s.sme := rfl
@[simp] theorem State.onPrt_mrs (f : Prt → Prt) : (s.onPrt f).mrs = s.mrs := rfl
@[simp] theorem State.onPrt_dge (f : Prt → Prt) : (s.onPrt f).dge = s.dge := rfl
@[simp] theorem State.onPrt_cmp (f : Prt → Prt) : (s.onPrt f).cmp = s.cmp := rfl
@[simp] theorem State.onPrt_pke (f : Prt → Prt) : (s.onPrt f).pke = s.pke := rfl
@[simp] theorem State.onPrt_att (f : Prt → Prt) : (s.onPrt f).att = s.att := rfl
@[simp] theorem State.onPrt_boot (f : Prt → Prt) : (s.onPrt f).boot = s.boot := rfl
@[simp] theorem State.onPrt_mbx (f : Prt → Prt) : (s.onPrt f).mbx = s.mbx := rfl
@[simp] theorem State.onPrt_wcp (f : Prt → Prt) : (s.onPrt f).wcp = s.wcp := rfl
@[simp] theorem State.onPrt_cwy (f : Prt → Prt) : (s.onPrt f).cwy = s.cwy := rfl
@[simp] theorem State.onPrt_trng (f : Prt → Prt) : (s.onPrt f).trng = s.trng := rfl
@[simp] theorem State.onPrt_top (f : Prt → Prt) : (s.onPrt f).top = s.top := rfl
@[simp] theorem State.onPrt_plic (f : Prt → Prt) : (s.onPrt f).plic = s.plic := rfl
@[simp] theorem State.onPrt_fw (f : Prt → Prt) : (s.onPrt f).fw = s.fw := rfl
@[simp] theorem State.onPrt_upd (f : Prt → Prt) : (s.onPrt f).upd = s.upd := rfl
@[simp] theorem State.onPrt_mp (f : Prt → Prt) : (s.onPrt f).mp = s.mp := rfl
@[simp] theorem State.onPrt_icp (f : Prt → Prt) : (s.onPrt f).icp = s.icp := rfl
@[simp] theorem State.onPrt_tap (f : Prt → Prt) : (s.onPrt f).tap = s.tap := rfl
@[simp] theorem State.onPrt_ast (f : Prt → Prt) : (s.onPrt f).ast = s.ast := rfl
@[simp] theorem State.onPrt_cntAstdrop (f : Prt → Prt) : (s.onPrt f).cntAstdrop = s.cntAstdrop := rfl
@[simp] theorem State.onPrt_regs (f : Prt → Prt) : (s.onPrt f).regs = s.regs := rfl
@[simp] theorem State.onPrt_psram (f : Prt → Prt) : (s.onPrt f).psram = s.psram := rfl
@[simp] theorem State.onPrt_csram (f : Prt → Prt) : (s.onPrt f).csram = s.csram := rfl
@[simp] theorem State.onPrt_nvm (f : Prt → Prt) : (s.onPrt f).nvm = s.nvm := rfl
@[simp] theorem State.onPrt_outs (f : Prt → Prt) : (s.onPrt f).outs = s.outs := rfl
@[simp] theorem State.onPrt_trngDrawn (f : Prt → Prt) : (s.onPrt f).trngDrawn = s.trngDrawn := rfl
@[simp] theorem State.onPrt_nvmTears (f : Prt → Prt) : (s.onPrt f).nvmTears = s.nvmTears := rfl
@[simp] theorem State.onPrt_pending (f : Prt → Prt) : (s.onPrt f).pending = s.pending := rfl

/-! `onFnc` -/

@[simp] theorem State.onFnc_crs (f : Fnc → Fnc) : (s.onFnc f).crs = s.crs := rfl
@[simp] theorem State.onFnc_otp (f : Fnc → Fnc) : (s.onFnc f).otp = s.otp := rfl
@[simp] theorem State.onFnc_lcs (f : Fnc → Fnc) : (s.onFnc f).lcs = s.lcs := rfl
@[simp] theorem State.onFnc_kfb (f : Fnc → Fnc) : (s.onFnc f).kfb = s.kfb := rfl
@[simp] theorem State.onFnc_cnt (f : Fnc → Fnc) : (s.onFnc f).cnt = s.cnt := rfl
@[simp] theorem State.onFnc_kst (f : Fnc → Fnc) : (s.onFnc f).kst = s.kst := rfl
@[simp] theorem State.onFnc_kln (f : Fnc → Fnc) : (s.onFnc f).kln = s.kln := rfl
@[simp] theorem State.onFnc_peat (f : Fnc → Fnc) : (s.onFnc f).peat = s.peat := rfl
@[simp] theorem State.onFnc_prt (f : Fnc → Fnc) : (s.onFnc f).prt = s.prt := rfl
@[simp] theorem State.onFnc_fnc (f : Fnc → Fnc) : (s.onFnc f).fnc = f s.fnc := rfl
@[simp] theorem State.onFnc_fncCore (f : Fnc → Fnc) : (s.onFnc f).fncCore = s.fncCore := rfl
@[simp] theorem State.onFnc_sme (f : Fnc → Fnc) : (s.onFnc f).sme = s.sme := rfl
@[simp] theorem State.onFnc_mrs (f : Fnc → Fnc) : (s.onFnc f).mrs = s.mrs := rfl
@[simp] theorem State.onFnc_dge (f : Fnc → Fnc) : (s.onFnc f).dge = s.dge := rfl
@[simp] theorem State.onFnc_cmp (f : Fnc → Fnc) : (s.onFnc f).cmp = s.cmp := rfl
@[simp] theorem State.onFnc_pke (f : Fnc → Fnc) : (s.onFnc f).pke = s.pke := rfl
@[simp] theorem State.onFnc_att (f : Fnc → Fnc) : (s.onFnc f).att = s.att := rfl
@[simp] theorem State.onFnc_boot (f : Fnc → Fnc) : (s.onFnc f).boot = s.boot := rfl
@[simp] theorem State.onFnc_mbx (f : Fnc → Fnc) : (s.onFnc f).mbx = s.mbx := rfl
@[simp] theorem State.onFnc_wcp (f : Fnc → Fnc) : (s.onFnc f).wcp = s.wcp := rfl
@[simp] theorem State.onFnc_cwy (f : Fnc → Fnc) : (s.onFnc f).cwy = s.cwy := rfl
@[simp] theorem State.onFnc_trng (f : Fnc → Fnc) : (s.onFnc f).trng = s.trng := rfl
@[simp] theorem State.onFnc_top (f : Fnc → Fnc) : (s.onFnc f).top = s.top := rfl
@[simp] theorem State.onFnc_plic (f : Fnc → Fnc) : (s.onFnc f).plic = s.plic := rfl
@[simp] theorem State.onFnc_fw (f : Fnc → Fnc) : (s.onFnc f).fw = s.fw := rfl
@[simp] theorem State.onFnc_upd (f : Fnc → Fnc) : (s.onFnc f).upd = s.upd := rfl
@[simp] theorem State.onFnc_mp (f : Fnc → Fnc) : (s.onFnc f).mp = s.mp := rfl
@[simp] theorem State.onFnc_icp (f : Fnc → Fnc) : (s.onFnc f).icp = s.icp := rfl
@[simp] theorem State.onFnc_tap (f : Fnc → Fnc) : (s.onFnc f).tap = s.tap := rfl
@[simp] theorem State.onFnc_ast (f : Fnc → Fnc) : (s.onFnc f).ast = s.ast := rfl
@[simp] theorem State.onFnc_cntAstdrop (f : Fnc → Fnc) : (s.onFnc f).cntAstdrop = s.cntAstdrop := rfl
@[simp] theorem State.onFnc_regs (f : Fnc → Fnc) : (s.onFnc f).regs = s.regs := rfl
@[simp] theorem State.onFnc_psram (f : Fnc → Fnc) : (s.onFnc f).psram = s.psram := rfl
@[simp] theorem State.onFnc_csram (f : Fnc → Fnc) : (s.onFnc f).csram = s.csram := rfl
@[simp] theorem State.onFnc_nvm (f : Fnc → Fnc) : (s.onFnc f).nvm = s.nvm := rfl
@[simp] theorem State.onFnc_outs (f : Fnc → Fnc) : (s.onFnc f).outs = s.outs := rfl
@[simp] theorem State.onFnc_trngDrawn (f : Fnc → Fnc) : (s.onFnc f).trngDrawn = s.trngDrawn := rfl
@[simp] theorem State.onFnc_nvmTears (f : Fnc → Fnc) : (s.onFnc f).nvmTears = s.nvmTears := rfl
@[simp] theorem State.onFnc_pending (f : Fnc → Fnc) : (s.onFnc f).pending = s.pending := rfl

/-! `onSme` -/

@[simp] theorem State.onSme_crs (f : Sme → Sme) : (s.onSme f).crs = s.crs := rfl
@[simp] theorem State.onSme_otp (f : Sme → Sme) : (s.onSme f).otp = s.otp := rfl
@[simp] theorem State.onSme_lcs (f : Sme → Sme) : (s.onSme f).lcs = s.lcs := rfl
@[simp] theorem State.onSme_kfb (f : Sme → Sme) : (s.onSme f).kfb = s.kfb := rfl
@[simp] theorem State.onSme_cnt (f : Sme → Sme) : (s.onSme f).cnt = s.cnt := rfl
@[simp] theorem State.onSme_kst (f : Sme → Sme) : (s.onSme f).kst = s.kst := rfl
@[simp] theorem State.onSme_kln (f : Sme → Sme) : (s.onSme f).kln = s.kln := rfl
@[simp] theorem State.onSme_peat (f : Sme → Sme) : (s.onSme f).peat = s.peat := rfl
@[simp] theorem State.onSme_prt (f : Sme → Sme) : (s.onSme f).prt = s.prt := rfl
@[simp] theorem State.onSme_fnc (f : Sme → Sme) : (s.onSme f).fnc = s.fnc := rfl
@[simp] theorem State.onSme_fncCore (f : Sme → Sme) : (s.onSme f).fncCore = s.fncCore := rfl
@[simp] theorem State.onSme_sme (f : Sme → Sme) : (s.onSme f).sme = f s.sme := rfl
@[simp] theorem State.onSme_mrs (f : Sme → Sme) : (s.onSme f).mrs = s.mrs := rfl
@[simp] theorem State.onSme_dge (f : Sme → Sme) : (s.onSme f).dge = s.dge := rfl
@[simp] theorem State.onSme_cmp (f : Sme → Sme) : (s.onSme f).cmp = s.cmp := rfl
@[simp] theorem State.onSme_pke (f : Sme → Sme) : (s.onSme f).pke = s.pke := rfl
@[simp] theorem State.onSme_att (f : Sme → Sme) : (s.onSme f).att = s.att := rfl
@[simp] theorem State.onSme_boot (f : Sme → Sme) : (s.onSme f).boot = s.boot := rfl
@[simp] theorem State.onSme_mbx (f : Sme → Sme) : (s.onSme f).mbx = s.mbx := rfl
@[simp] theorem State.onSme_wcp (f : Sme → Sme) : (s.onSme f).wcp = s.wcp := rfl
@[simp] theorem State.onSme_cwy (f : Sme → Sme) : (s.onSme f).cwy = s.cwy := rfl
@[simp] theorem State.onSme_trng (f : Sme → Sme) : (s.onSme f).trng = s.trng := rfl
@[simp] theorem State.onSme_top (f : Sme → Sme) : (s.onSme f).top = s.top := rfl
@[simp] theorem State.onSme_plic (f : Sme → Sme) : (s.onSme f).plic = s.plic := rfl
@[simp] theorem State.onSme_fw (f : Sme → Sme) : (s.onSme f).fw = s.fw := rfl
@[simp] theorem State.onSme_upd (f : Sme → Sme) : (s.onSme f).upd = s.upd := rfl
@[simp] theorem State.onSme_mp (f : Sme → Sme) : (s.onSme f).mp = s.mp := rfl
@[simp] theorem State.onSme_icp (f : Sme → Sme) : (s.onSme f).icp = s.icp := rfl
@[simp] theorem State.onSme_tap (f : Sme → Sme) : (s.onSme f).tap = s.tap := rfl
@[simp] theorem State.onSme_ast (f : Sme → Sme) : (s.onSme f).ast = s.ast := rfl
@[simp] theorem State.onSme_cntAstdrop (f : Sme → Sme) : (s.onSme f).cntAstdrop = s.cntAstdrop := rfl
@[simp] theorem State.onSme_regs (f : Sme → Sme) : (s.onSme f).regs = s.regs := rfl
@[simp] theorem State.onSme_psram (f : Sme → Sme) : (s.onSme f).psram = s.psram := rfl
@[simp] theorem State.onSme_csram (f : Sme → Sme) : (s.onSme f).csram = s.csram := rfl
@[simp] theorem State.onSme_nvm (f : Sme → Sme) : (s.onSme f).nvm = s.nvm := rfl
@[simp] theorem State.onSme_outs (f : Sme → Sme) : (s.onSme f).outs = s.outs := rfl
@[simp] theorem State.onSme_trngDrawn (f : Sme → Sme) : (s.onSme f).trngDrawn = s.trngDrawn := rfl
@[simp] theorem State.onSme_nvmTears (f : Sme → Sme) : (s.onSme f).nvmTears = s.nvmTears := rfl
@[simp] theorem State.onSme_pending (f : Sme → Sme) : (s.onSme f).pending = s.pending := rfl

/-! `onDge` -/

@[simp] theorem State.onDge_crs (f : Dge → Dge) : (s.onDge f).crs = s.crs := rfl
@[simp] theorem State.onDge_otp (f : Dge → Dge) : (s.onDge f).otp = s.otp := rfl
@[simp] theorem State.onDge_lcs (f : Dge → Dge) : (s.onDge f).lcs = s.lcs := rfl
@[simp] theorem State.onDge_kfb (f : Dge → Dge) : (s.onDge f).kfb = s.kfb := rfl
@[simp] theorem State.onDge_cnt (f : Dge → Dge) : (s.onDge f).cnt = s.cnt := rfl
@[simp] theorem State.onDge_kst (f : Dge → Dge) : (s.onDge f).kst = s.kst := rfl
@[simp] theorem State.onDge_kln (f : Dge → Dge) : (s.onDge f).kln = s.kln := rfl
@[simp] theorem State.onDge_peat (f : Dge → Dge) : (s.onDge f).peat = s.peat := rfl
@[simp] theorem State.onDge_prt (f : Dge → Dge) : (s.onDge f).prt = s.prt := rfl
@[simp] theorem State.onDge_fnc (f : Dge → Dge) : (s.onDge f).fnc = s.fnc := rfl
@[simp] theorem State.onDge_fncCore (f : Dge → Dge) : (s.onDge f).fncCore = s.fncCore := rfl
@[simp] theorem State.onDge_sme (f : Dge → Dge) : (s.onDge f).sme = s.sme := rfl
@[simp] theorem State.onDge_mrs (f : Dge → Dge) : (s.onDge f).mrs = s.mrs := rfl
@[simp] theorem State.onDge_dge (f : Dge → Dge) : (s.onDge f).dge = f s.dge := rfl
@[simp] theorem State.onDge_cmp (f : Dge → Dge) : (s.onDge f).cmp = s.cmp := rfl
@[simp] theorem State.onDge_pke (f : Dge → Dge) : (s.onDge f).pke = s.pke := rfl
@[simp] theorem State.onDge_att (f : Dge → Dge) : (s.onDge f).att = s.att := rfl
@[simp] theorem State.onDge_boot (f : Dge → Dge) : (s.onDge f).boot = s.boot := rfl
@[simp] theorem State.onDge_mbx (f : Dge → Dge) : (s.onDge f).mbx = s.mbx := rfl
@[simp] theorem State.onDge_wcp (f : Dge → Dge) : (s.onDge f).wcp = s.wcp := rfl
@[simp] theorem State.onDge_cwy (f : Dge → Dge) : (s.onDge f).cwy = s.cwy := rfl
@[simp] theorem State.onDge_trng (f : Dge → Dge) : (s.onDge f).trng = s.trng := rfl
@[simp] theorem State.onDge_top (f : Dge → Dge) : (s.onDge f).top = s.top := rfl
@[simp] theorem State.onDge_plic (f : Dge → Dge) : (s.onDge f).plic = s.plic := rfl
@[simp] theorem State.onDge_fw (f : Dge → Dge) : (s.onDge f).fw = s.fw := rfl
@[simp] theorem State.onDge_upd (f : Dge → Dge) : (s.onDge f).upd = s.upd := rfl
@[simp] theorem State.onDge_mp (f : Dge → Dge) : (s.onDge f).mp = s.mp := rfl
@[simp] theorem State.onDge_icp (f : Dge → Dge) : (s.onDge f).icp = s.icp := rfl
@[simp] theorem State.onDge_tap (f : Dge → Dge) : (s.onDge f).tap = s.tap := rfl
@[simp] theorem State.onDge_ast (f : Dge → Dge) : (s.onDge f).ast = s.ast := rfl
@[simp] theorem State.onDge_cntAstdrop (f : Dge → Dge) : (s.onDge f).cntAstdrop = s.cntAstdrop := rfl
@[simp] theorem State.onDge_regs (f : Dge → Dge) : (s.onDge f).regs = s.regs := rfl
@[simp] theorem State.onDge_psram (f : Dge → Dge) : (s.onDge f).psram = s.psram := rfl
@[simp] theorem State.onDge_csram (f : Dge → Dge) : (s.onDge f).csram = s.csram := rfl
@[simp] theorem State.onDge_nvm (f : Dge → Dge) : (s.onDge f).nvm = s.nvm := rfl
@[simp] theorem State.onDge_outs (f : Dge → Dge) : (s.onDge f).outs = s.outs := rfl
@[simp] theorem State.onDge_trngDrawn (f : Dge → Dge) : (s.onDge f).trngDrawn = s.trngDrawn := rfl
@[simp] theorem State.onDge_nvmTears (f : Dge → Dge) : (s.onDge f).nvmTears = s.nvmTears := rfl
@[simp] theorem State.onDge_pending (f : Dge → Dge) : (s.onDge f).pending = s.pending := rfl

/-! `onCmp` -/

@[simp] theorem State.onCmp_crs (f : Cmp → Cmp) : (s.onCmp f).crs = s.crs := rfl
@[simp] theorem State.onCmp_otp (f : Cmp → Cmp) : (s.onCmp f).otp = s.otp := rfl
@[simp] theorem State.onCmp_lcs (f : Cmp → Cmp) : (s.onCmp f).lcs = s.lcs := rfl
@[simp] theorem State.onCmp_kfb (f : Cmp → Cmp) : (s.onCmp f).kfb = s.kfb := rfl
@[simp] theorem State.onCmp_cnt (f : Cmp → Cmp) : (s.onCmp f).cnt = s.cnt := rfl
@[simp] theorem State.onCmp_kst (f : Cmp → Cmp) : (s.onCmp f).kst = s.kst := rfl
@[simp] theorem State.onCmp_kln (f : Cmp → Cmp) : (s.onCmp f).kln = s.kln := rfl
@[simp] theorem State.onCmp_peat (f : Cmp → Cmp) : (s.onCmp f).peat = s.peat := rfl
@[simp] theorem State.onCmp_prt (f : Cmp → Cmp) : (s.onCmp f).prt = s.prt := rfl
@[simp] theorem State.onCmp_fnc (f : Cmp → Cmp) : (s.onCmp f).fnc = s.fnc := rfl
@[simp] theorem State.onCmp_fncCore (f : Cmp → Cmp) : (s.onCmp f).fncCore = s.fncCore := rfl
@[simp] theorem State.onCmp_sme (f : Cmp → Cmp) : (s.onCmp f).sme = s.sme := rfl
@[simp] theorem State.onCmp_mrs (f : Cmp → Cmp) : (s.onCmp f).mrs = s.mrs := rfl
@[simp] theorem State.onCmp_dge (f : Cmp → Cmp) : (s.onCmp f).dge = s.dge := rfl
@[simp] theorem State.onCmp_cmp (f : Cmp → Cmp) : (s.onCmp f).cmp = f s.cmp := rfl
@[simp] theorem State.onCmp_pke (f : Cmp → Cmp) : (s.onCmp f).pke = s.pke := rfl
@[simp] theorem State.onCmp_att (f : Cmp → Cmp) : (s.onCmp f).att = s.att := rfl
@[simp] theorem State.onCmp_boot (f : Cmp → Cmp) : (s.onCmp f).boot = s.boot := rfl
@[simp] theorem State.onCmp_mbx (f : Cmp → Cmp) : (s.onCmp f).mbx = s.mbx := rfl
@[simp] theorem State.onCmp_wcp (f : Cmp → Cmp) : (s.onCmp f).wcp = s.wcp := rfl
@[simp] theorem State.onCmp_cwy (f : Cmp → Cmp) : (s.onCmp f).cwy = s.cwy := rfl
@[simp] theorem State.onCmp_trng (f : Cmp → Cmp) : (s.onCmp f).trng = s.trng := rfl
@[simp] theorem State.onCmp_top (f : Cmp → Cmp) : (s.onCmp f).top = s.top := rfl
@[simp] theorem State.onCmp_plic (f : Cmp → Cmp) : (s.onCmp f).plic = s.plic := rfl
@[simp] theorem State.onCmp_fw (f : Cmp → Cmp) : (s.onCmp f).fw = s.fw := rfl
@[simp] theorem State.onCmp_upd (f : Cmp → Cmp) : (s.onCmp f).upd = s.upd := rfl
@[simp] theorem State.onCmp_mp (f : Cmp → Cmp) : (s.onCmp f).mp = s.mp := rfl
@[simp] theorem State.onCmp_icp (f : Cmp → Cmp) : (s.onCmp f).icp = s.icp := rfl
@[simp] theorem State.onCmp_tap (f : Cmp → Cmp) : (s.onCmp f).tap = s.tap := rfl
@[simp] theorem State.onCmp_ast (f : Cmp → Cmp) : (s.onCmp f).ast = s.ast := rfl
@[simp] theorem State.onCmp_cntAstdrop (f : Cmp → Cmp) : (s.onCmp f).cntAstdrop = s.cntAstdrop := rfl
@[simp] theorem State.onCmp_regs (f : Cmp → Cmp) : (s.onCmp f).regs = s.regs := rfl
@[simp] theorem State.onCmp_psram (f : Cmp → Cmp) : (s.onCmp f).psram = s.psram := rfl
@[simp] theorem State.onCmp_csram (f : Cmp → Cmp) : (s.onCmp f).csram = s.csram := rfl
@[simp] theorem State.onCmp_nvm (f : Cmp → Cmp) : (s.onCmp f).nvm = s.nvm := rfl
@[simp] theorem State.onCmp_outs (f : Cmp → Cmp) : (s.onCmp f).outs = s.outs := rfl
@[simp] theorem State.onCmp_trngDrawn (f : Cmp → Cmp) : (s.onCmp f).trngDrawn = s.trngDrawn := rfl
@[simp] theorem State.onCmp_nvmTears (f : Cmp → Cmp) : (s.onCmp f).nvmTears = s.nvmTears := rfl
@[simp] theorem State.onCmp_pending (f : Cmp → Cmp) : (s.onCmp f).pending = s.pending := rfl

/-! `onPke` -/

@[simp] theorem State.onPke_crs (f : Pke → Pke) : (s.onPke f).crs = s.crs := rfl
@[simp] theorem State.onPke_otp (f : Pke → Pke) : (s.onPke f).otp = s.otp := rfl
@[simp] theorem State.onPke_lcs (f : Pke → Pke) : (s.onPke f).lcs = s.lcs := rfl
@[simp] theorem State.onPke_kfb (f : Pke → Pke) : (s.onPke f).kfb = s.kfb := rfl
@[simp] theorem State.onPke_cnt (f : Pke → Pke) : (s.onPke f).cnt = s.cnt := rfl
@[simp] theorem State.onPke_kst (f : Pke → Pke) : (s.onPke f).kst = s.kst := rfl
@[simp] theorem State.onPke_kln (f : Pke → Pke) : (s.onPke f).kln = s.kln := rfl
@[simp] theorem State.onPke_peat (f : Pke → Pke) : (s.onPke f).peat = s.peat := rfl
@[simp] theorem State.onPke_prt (f : Pke → Pke) : (s.onPke f).prt = s.prt := rfl
@[simp] theorem State.onPke_fnc (f : Pke → Pke) : (s.onPke f).fnc = s.fnc := rfl
@[simp] theorem State.onPke_fncCore (f : Pke → Pke) : (s.onPke f).fncCore = s.fncCore := rfl
@[simp] theorem State.onPke_sme (f : Pke → Pke) : (s.onPke f).sme = s.sme := rfl
@[simp] theorem State.onPke_mrs (f : Pke → Pke) : (s.onPke f).mrs = s.mrs := rfl
@[simp] theorem State.onPke_dge (f : Pke → Pke) : (s.onPke f).dge = s.dge := rfl
@[simp] theorem State.onPke_cmp (f : Pke → Pke) : (s.onPke f).cmp = s.cmp := rfl
@[simp] theorem State.onPke_pke (f : Pke → Pke) : (s.onPke f).pke = f s.pke := rfl
@[simp] theorem State.onPke_att (f : Pke → Pke) : (s.onPke f).att = s.att := rfl
@[simp] theorem State.onPke_boot (f : Pke → Pke) : (s.onPke f).boot = s.boot := rfl
@[simp] theorem State.onPke_mbx (f : Pke → Pke) : (s.onPke f).mbx = s.mbx := rfl
@[simp] theorem State.onPke_wcp (f : Pke → Pke) : (s.onPke f).wcp = s.wcp := rfl
@[simp] theorem State.onPke_cwy (f : Pke → Pke) : (s.onPke f).cwy = s.cwy := rfl
@[simp] theorem State.onPke_trng (f : Pke → Pke) : (s.onPke f).trng = s.trng := rfl
@[simp] theorem State.onPke_top (f : Pke → Pke) : (s.onPke f).top = s.top := rfl
@[simp] theorem State.onPke_plic (f : Pke → Pke) : (s.onPke f).plic = s.plic := rfl
@[simp] theorem State.onPke_fw (f : Pke → Pke) : (s.onPke f).fw = s.fw := rfl
@[simp] theorem State.onPke_upd (f : Pke → Pke) : (s.onPke f).upd = s.upd := rfl
@[simp] theorem State.onPke_mp (f : Pke → Pke) : (s.onPke f).mp = s.mp := rfl
@[simp] theorem State.onPke_icp (f : Pke → Pke) : (s.onPke f).icp = s.icp := rfl
@[simp] theorem State.onPke_tap (f : Pke → Pke) : (s.onPke f).tap = s.tap := rfl
@[simp] theorem State.onPke_ast (f : Pke → Pke) : (s.onPke f).ast = s.ast := rfl
@[simp] theorem State.onPke_cntAstdrop (f : Pke → Pke) : (s.onPke f).cntAstdrop = s.cntAstdrop := rfl
@[simp] theorem State.onPke_regs (f : Pke → Pke) : (s.onPke f).regs = s.regs := rfl
@[simp] theorem State.onPke_psram (f : Pke → Pke) : (s.onPke f).psram = s.psram := rfl
@[simp] theorem State.onPke_csram (f : Pke → Pke) : (s.onPke f).csram = s.csram := rfl
@[simp] theorem State.onPke_nvm (f : Pke → Pke) : (s.onPke f).nvm = s.nvm := rfl
@[simp] theorem State.onPke_outs (f : Pke → Pke) : (s.onPke f).outs = s.outs := rfl
@[simp] theorem State.onPke_trngDrawn (f : Pke → Pke) : (s.onPke f).trngDrawn = s.trngDrawn := rfl
@[simp] theorem State.onPke_nvmTears (f : Pke → Pke) : (s.onPke f).nvmTears = s.nvmTears := rfl
@[simp] theorem State.onPke_pending (f : Pke → Pke) : (s.onPke f).pending = s.pending := rfl

/-! `onAtt` -/

@[simp] theorem State.onAtt_crs (f : Att → Att) : (s.onAtt f).crs = s.crs := rfl
@[simp] theorem State.onAtt_otp (f : Att → Att) : (s.onAtt f).otp = s.otp := rfl
@[simp] theorem State.onAtt_lcs (f : Att → Att) : (s.onAtt f).lcs = s.lcs := rfl
@[simp] theorem State.onAtt_kfb (f : Att → Att) : (s.onAtt f).kfb = s.kfb := rfl
@[simp] theorem State.onAtt_cnt (f : Att → Att) : (s.onAtt f).cnt = s.cnt := rfl
@[simp] theorem State.onAtt_kst (f : Att → Att) : (s.onAtt f).kst = s.kst := rfl
@[simp] theorem State.onAtt_kln (f : Att → Att) : (s.onAtt f).kln = s.kln := rfl
@[simp] theorem State.onAtt_peat (f : Att → Att) : (s.onAtt f).peat = s.peat := rfl
@[simp] theorem State.onAtt_prt (f : Att → Att) : (s.onAtt f).prt = s.prt := rfl
@[simp] theorem State.onAtt_fnc (f : Att → Att) : (s.onAtt f).fnc = s.fnc := rfl
@[simp] theorem State.onAtt_fncCore (f : Att → Att) : (s.onAtt f).fncCore = s.fncCore := rfl
@[simp] theorem State.onAtt_sme (f : Att → Att) : (s.onAtt f).sme = s.sme := rfl
@[simp] theorem State.onAtt_mrs (f : Att → Att) : (s.onAtt f).mrs = s.mrs := rfl
@[simp] theorem State.onAtt_dge (f : Att → Att) : (s.onAtt f).dge = s.dge := rfl
@[simp] theorem State.onAtt_cmp (f : Att → Att) : (s.onAtt f).cmp = s.cmp := rfl
@[simp] theorem State.onAtt_pke (f : Att → Att) : (s.onAtt f).pke = s.pke := rfl
@[simp] theorem State.onAtt_att (f : Att → Att) : (s.onAtt f).att = f s.att := rfl
@[simp] theorem State.onAtt_boot (f : Att → Att) : (s.onAtt f).boot = s.boot := rfl
@[simp] theorem State.onAtt_mbx (f : Att → Att) : (s.onAtt f).mbx = s.mbx := rfl
@[simp] theorem State.onAtt_wcp (f : Att → Att) : (s.onAtt f).wcp = s.wcp := rfl
@[simp] theorem State.onAtt_cwy (f : Att → Att) : (s.onAtt f).cwy = s.cwy := rfl
@[simp] theorem State.onAtt_trng (f : Att → Att) : (s.onAtt f).trng = s.trng := rfl
@[simp] theorem State.onAtt_top (f : Att → Att) : (s.onAtt f).top = s.top := rfl
@[simp] theorem State.onAtt_plic (f : Att → Att) : (s.onAtt f).plic = s.plic := rfl
@[simp] theorem State.onAtt_fw (f : Att → Att) : (s.onAtt f).fw = s.fw := rfl
@[simp] theorem State.onAtt_upd (f : Att → Att) : (s.onAtt f).upd = s.upd := rfl
@[simp] theorem State.onAtt_mp (f : Att → Att) : (s.onAtt f).mp = s.mp := rfl
@[simp] theorem State.onAtt_icp (f : Att → Att) : (s.onAtt f).icp = s.icp := rfl
@[simp] theorem State.onAtt_tap (f : Att → Att) : (s.onAtt f).tap = s.tap := rfl
@[simp] theorem State.onAtt_ast (f : Att → Att) : (s.onAtt f).ast = s.ast := rfl
@[simp] theorem State.onAtt_cntAstdrop (f : Att → Att) : (s.onAtt f).cntAstdrop = s.cntAstdrop := rfl
@[simp] theorem State.onAtt_regs (f : Att → Att) : (s.onAtt f).regs = s.regs := rfl
@[simp] theorem State.onAtt_psram (f : Att → Att) : (s.onAtt f).psram = s.psram := rfl
@[simp] theorem State.onAtt_csram (f : Att → Att) : (s.onAtt f).csram = s.csram := rfl
@[simp] theorem State.onAtt_nvm (f : Att → Att) : (s.onAtt f).nvm = s.nvm := rfl
@[simp] theorem State.onAtt_outs (f : Att → Att) : (s.onAtt f).outs = s.outs := rfl
@[simp] theorem State.onAtt_trngDrawn (f : Att → Att) : (s.onAtt f).trngDrawn = s.trngDrawn := rfl
@[simp] theorem State.onAtt_nvmTears (f : Att → Att) : (s.onAtt f).nvmTears = s.nvmTears := rfl
@[simp] theorem State.onAtt_pending (f : Att → Att) : (s.onAtt f).pending = s.pending := rfl

/-! `onBoot` -/

@[simp] theorem State.onBoot_crs (f : Boot → Boot) : (s.onBoot f).crs = s.crs := rfl
@[simp] theorem State.onBoot_otp (f : Boot → Boot) : (s.onBoot f).otp = s.otp := rfl
@[simp] theorem State.onBoot_lcs (f : Boot → Boot) : (s.onBoot f).lcs = s.lcs := rfl
@[simp] theorem State.onBoot_kfb (f : Boot → Boot) : (s.onBoot f).kfb = s.kfb := rfl
@[simp] theorem State.onBoot_cnt (f : Boot → Boot) : (s.onBoot f).cnt = s.cnt := rfl
@[simp] theorem State.onBoot_kst (f : Boot → Boot) : (s.onBoot f).kst = s.kst := rfl
@[simp] theorem State.onBoot_kln (f : Boot → Boot) : (s.onBoot f).kln = s.kln := rfl
@[simp] theorem State.onBoot_peat (f : Boot → Boot) : (s.onBoot f).peat = s.peat := rfl
@[simp] theorem State.onBoot_prt (f : Boot → Boot) : (s.onBoot f).prt = s.prt := rfl
@[simp] theorem State.onBoot_fnc (f : Boot → Boot) : (s.onBoot f).fnc = s.fnc := rfl
@[simp] theorem State.onBoot_fncCore (f : Boot → Boot) : (s.onBoot f).fncCore = s.fncCore := rfl
@[simp] theorem State.onBoot_sme (f : Boot → Boot) : (s.onBoot f).sme = s.sme := rfl
@[simp] theorem State.onBoot_mrs (f : Boot → Boot) : (s.onBoot f).mrs = s.mrs := rfl
@[simp] theorem State.onBoot_dge (f : Boot → Boot) : (s.onBoot f).dge = s.dge := rfl
@[simp] theorem State.onBoot_cmp (f : Boot → Boot) : (s.onBoot f).cmp = s.cmp := rfl
@[simp] theorem State.onBoot_pke (f : Boot → Boot) : (s.onBoot f).pke = s.pke := rfl
@[simp] theorem State.onBoot_att (f : Boot → Boot) : (s.onBoot f).att = s.att := rfl
@[simp] theorem State.onBoot_boot (f : Boot → Boot) : (s.onBoot f).boot = f s.boot := rfl
@[simp] theorem State.onBoot_mbx (f : Boot → Boot) : (s.onBoot f).mbx = s.mbx := rfl
@[simp] theorem State.onBoot_wcp (f : Boot → Boot) : (s.onBoot f).wcp = s.wcp := rfl
@[simp] theorem State.onBoot_cwy (f : Boot → Boot) : (s.onBoot f).cwy = s.cwy := rfl
@[simp] theorem State.onBoot_trng (f : Boot → Boot) : (s.onBoot f).trng = s.trng := rfl
@[simp] theorem State.onBoot_top (f : Boot → Boot) : (s.onBoot f).top = s.top := rfl
@[simp] theorem State.onBoot_plic (f : Boot → Boot) : (s.onBoot f).plic = s.plic := rfl
@[simp] theorem State.onBoot_fw (f : Boot → Boot) : (s.onBoot f).fw = s.fw := rfl
@[simp] theorem State.onBoot_upd (f : Boot → Boot) : (s.onBoot f).upd = s.upd := rfl
@[simp] theorem State.onBoot_mp (f : Boot → Boot) : (s.onBoot f).mp = s.mp := rfl
@[simp] theorem State.onBoot_icp (f : Boot → Boot) : (s.onBoot f).icp = s.icp := rfl
@[simp] theorem State.onBoot_tap (f : Boot → Boot) : (s.onBoot f).tap = s.tap := rfl
@[simp] theorem State.onBoot_ast (f : Boot → Boot) : (s.onBoot f).ast = s.ast := rfl
@[simp] theorem State.onBoot_cntAstdrop (f : Boot → Boot) : (s.onBoot f).cntAstdrop = s.cntAstdrop := rfl
@[simp] theorem State.onBoot_regs (f : Boot → Boot) : (s.onBoot f).regs = s.regs := rfl
@[simp] theorem State.onBoot_psram (f : Boot → Boot) : (s.onBoot f).psram = s.psram := rfl
@[simp] theorem State.onBoot_csram (f : Boot → Boot) : (s.onBoot f).csram = s.csram := rfl
@[simp] theorem State.onBoot_nvm (f : Boot → Boot) : (s.onBoot f).nvm = s.nvm := rfl
@[simp] theorem State.onBoot_outs (f : Boot → Boot) : (s.onBoot f).outs = s.outs := rfl
@[simp] theorem State.onBoot_trngDrawn (f : Boot → Boot) : (s.onBoot f).trngDrawn = s.trngDrawn := rfl
@[simp] theorem State.onBoot_nvmTears (f : Boot → Boot) : (s.onBoot f).nvmTears = s.nvmTears := rfl
@[simp] theorem State.onBoot_pending (f : Boot → Boot) : (s.onBoot f).pending = s.pending := rfl

/-! `onMbx` -/

@[simp] theorem State.onMbx_crs (f : Mbx → Mbx) : (s.onMbx f).crs = s.crs := rfl
@[simp] theorem State.onMbx_otp (f : Mbx → Mbx) : (s.onMbx f).otp = s.otp := rfl
@[simp] theorem State.onMbx_lcs (f : Mbx → Mbx) : (s.onMbx f).lcs = s.lcs := rfl
@[simp] theorem State.onMbx_kfb (f : Mbx → Mbx) : (s.onMbx f).kfb = s.kfb := rfl
@[simp] theorem State.onMbx_cnt (f : Mbx → Mbx) : (s.onMbx f).cnt = s.cnt := rfl
@[simp] theorem State.onMbx_kst (f : Mbx → Mbx) : (s.onMbx f).kst = s.kst := rfl
@[simp] theorem State.onMbx_kln (f : Mbx → Mbx) : (s.onMbx f).kln = s.kln := rfl
@[simp] theorem State.onMbx_peat (f : Mbx → Mbx) : (s.onMbx f).peat = s.peat := rfl
@[simp] theorem State.onMbx_prt (f : Mbx → Mbx) : (s.onMbx f).prt = s.prt := rfl
@[simp] theorem State.onMbx_fnc (f : Mbx → Mbx) : (s.onMbx f).fnc = s.fnc := rfl
@[simp] theorem State.onMbx_fncCore (f : Mbx → Mbx) : (s.onMbx f).fncCore = s.fncCore := rfl
@[simp] theorem State.onMbx_sme (f : Mbx → Mbx) : (s.onMbx f).sme = s.sme := rfl
@[simp] theorem State.onMbx_mrs (f : Mbx → Mbx) : (s.onMbx f).mrs = s.mrs := rfl
@[simp] theorem State.onMbx_dge (f : Mbx → Mbx) : (s.onMbx f).dge = s.dge := rfl
@[simp] theorem State.onMbx_cmp (f : Mbx → Mbx) : (s.onMbx f).cmp = s.cmp := rfl
@[simp] theorem State.onMbx_pke (f : Mbx → Mbx) : (s.onMbx f).pke = s.pke := rfl
@[simp] theorem State.onMbx_att (f : Mbx → Mbx) : (s.onMbx f).att = s.att := rfl
@[simp] theorem State.onMbx_boot (f : Mbx → Mbx) : (s.onMbx f).boot = s.boot := rfl
@[simp] theorem State.onMbx_mbx (f : Mbx → Mbx) : (s.onMbx f).mbx = f s.mbx := rfl
@[simp] theorem State.onMbx_wcp (f : Mbx → Mbx) : (s.onMbx f).wcp = s.wcp := rfl
@[simp] theorem State.onMbx_cwy (f : Mbx → Mbx) : (s.onMbx f).cwy = s.cwy := rfl
@[simp] theorem State.onMbx_trng (f : Mbx → Mbx) : (s.onMbx f).trng = s.trng := rfl
@[simp] theorem State.onMbx_top (f : Mbx → Mbx) : (s.onMbx f).top = s.top := rfl
@[simp] theorem State.onMbx_plic (f : Mbx → Mbx) : (s.onMbx f).plic = s.plic := rfl
@[simp] theorem State.onMbx_fw (f : Mbx → Mbx) : (s.onMbx f).fw = s.fw := rfl
@[simp] theorem State.onMbx_upd (f : Mbx → Mbx) : (s.onMbx f).upd = s.upd := rfl
@[simp] theorem State.onMbx_mp (f : Mbx → Mbx) : (s.onMbx f).mp = s.mp := rfl
@[simp] theorem State.onMbx_icp (f : Mbx → Mbx) : (s.onMbx f).icp = s.icp := rfl
@[simp] theorem State.onMbx_tap (f : Mbx → Mbx) : (s.onMbx f).tap = s.tap := rfl
@[simp] theorem State.onMbx_ast (f : Mbx → Mbx) : (s.onMbx f).ast = s.ast := rfl
@[simp] theorem State.onMbx_cntAstdrop (f : Mbx → Mbx) : (s.onMbx f).cntAstdrop = s.cntAstdrop := rfl
@[simp] theorem State.onMbx_regs (f : Mbx → Mbx) : (s.onMbx f).regs = s.regs := rfl
@[simp] theorem State.onMbx_psram (f : Mbx → Mbx) : (s.onMbx f).psram = s.psram := rfl
@[simp] theorem State.onMbx_csram (f : Mbx → Mbx) : (s.onMbx f).csram = s.csram := rfl
@[simp] theorem State.onMbx_nvm (f : Mbx → Mbx) : (s.onMbx f).nvm = s.nvm := rfl
@[simp] theorem State.onMbx_outs (f : Mbx → Mbx) : (s.onMbx f).outs = s.outs := rfl
@[simp] theorem State.onMbx_trngDrawn (f : Mbx → Mbx) : (s.onMbx f).trngDrawn = s.trngDrawn := rfl
@[simp] theorem State.onMbx_nvmTears (f : Mbx → Mbx) : (s.onMbx f).nvmTears = s.nvmTears := rfl
@[simp] theorem State.onMbx_pending (f : Mbx → Mbx) : (s.onMbx f).pending = s.pending := rfl

/-! `onWcp` -/

@[simp] theorem State.onWcp_crs (f : Wcp → Wcp) : (s.onWcp f).crs = s.crs := rfl
@[simp] theorem State.onWcp_otp (f : Wcp → Wcp) : (s.onWcp f).otp = s.otp := rfl
@[simp] theorem State.onWcp_lcs (f : Wcp → Wcp) : (s.onWcp f).lcs = s.lcs := rfl
@[simp] theorem State.onWcp_kfb (f : Wcp → Wcp) : (s.onWcp f).kfb = s.kfb := rfl
@[simp] theorem State.onWcp_cnt (f : Wcp → Wcp) : (s.onWcp f).cnt = s.cnt := rfl
@[simp] theorem State.onWcp_kst (f : Wcp → Wcp) : (s.onWcp f).kst = s.kst := rfl
@[simp] theorem State.onWcp_kln (f : Wcp → Wcp) : (s.onWcp f).kln = s.kln := rfl
@[simp] theorem State.onWcp_peat (f : Wcp → Wcp) : (s.onWcp f).peat = s.peat := rfl
@[simp] theorem State.onWcp_prt (f : Wcp → Wcp) : (s.onWcp f).prt = s.prt := rfl
@[simp] theorem State.onWcp_fnc (f : Wcp → Wcp) : (s.onWcp f).fnc = s.fnc := rfl
@[simp] theorem State.onWcp_fncCore (f : Wcp → Wcp) : (s.onWcp f).fncCore = s.fncCore := rfl
@[simp] theorem State.onWcp_sme (f : Wcp → Wcp) : (s.onWcp f).sme = s.sme := rfl
@[simp] theorem State.onWcp_mrs (f : Wcp → Wcp) : (s.onWcp f).mrs = s.mrs := rfl
@[simp] theorem State.onWcp_dge (f : Wcp → Wcp) : (s.onWcp f).dge = s.dge := rfl
@[simp] theorem State.onWcp_cmp (f : Wcp → Wcp) : (s.onWcp f).cmp = s.cmp := rfl
@[simp] theorem State.onWcp_pke (f : Wcp → Wcp) : (s.onWcp f).pke = s.pke := rfl
@[simp] theorem State.onWcp_att (f : Wcp → Wcp) : (s.onWcp f).att = s.att := rfl
@[simp] theorem State.onWcp_boot (f : Wcp → Wcp) : (s.onWcp f).boot = s.boot := rfl
@[simp] theorem State.onWcp_mbx (f : Wcp → Wcp) : (s.onWcp f).mbx = s.mbx := rfl
@[simp] theorem State.onWcp_wcp (f : Wcp → Wcp) : (s.onWcp f).wcp = f s.wcp := rfl
@[simp] theorem State.onWcp_cwy (f : Wcp → Wcp) : (s.onWcp f).cwy = s.cwy := rfl
@[simp] theorem State.onWcp_trng (f : Wcp → Wcp) : (s.onWcp f).trng = s.trng := rfl
@[simp] theorem State.onWcp_top (f : Wcp → Wcp) : (s.onWcp f).top = s.top := rfl
@[simp] theorem State.onWcp_plic (f : Wcp → Wcp) : (s.onWcp f).plic = s.plic := rfl
@[simp] theorem State.onWcp_fw (f : Wcp → Wcp) : (s.onWcp f).fw = s.fw := rfl
@[simp] theorem State.onWcp_upd (f : Wcp → Wcp) : (s.onWcp f).upd = s.upd := rfl
@[simp] theorem State.onWcp_mp (f : Wcp → Wcp) : (s.onWcp f).mp = s.mp := rfl
@[simp] theorem State.onWcp_icp (f : Wcp → Wcp) : (s.onWcp f).icp = s.icp := rfl
@[simp] theorem State.onWcp_tap (f : Wcp → Wcp) : (s.onWcp f).tap = s.tap := rfl
@[simp] theorem State.onWcp_ast (f : Wcp → Wcp) : (s.onWcp f).ast = s.ast := rfl
@[simp] theorem State.onWcp_cntAstdrop (f : Wcp → Wcp) : (s.onWcp f).cntAstdrop = s.cntAstdrop := rfl
@[simp] theorem State.onWcp_regs (f : Wcp → Wcp) : (s.onWcp f).regs = s.regs := rfl
@[simp] theorem State.onWcp_psram (f : Wcp → Wcp) : (s.onWcp f).psram = s.psram := rfl
@[simp] theorem State.onWcp_csram (f : Wcp → Wcp) : (s.onWcp f).csram = s.csram := rfl
@[simp] theorem State.onWcp_nvm (f : Wcp → Wcp) : (s.onWcp f).nvm = s.nvm := rfl
@[simp] theorem State.onWcp_outs (f : Wcp → Wcp) : (s.onWcp f).outs = s.outs := rfl
@[simp] theorem State.onWcp_trngDrawn (f : Wcp → Wcp) : (s.onWcp f).trngDrawn = s.trngDrawn := rfl
@[simp] theorem State.onWcp_nvmTears (f : Wcp → Wcp) : (s.onWcp f).nvmTears = s.nvmTears := rfl
@[simp] theorem State.onWcp_pending (f : Wcp → Wcp) : (s.onWcp f).pending = s.pending := rfl

/-! `onCwy` -/

@[simp] theorem State.onCwy_crs (f : Cwy → Cwy) : (s.onCwy f).crs = s.crs := rfl
@[simp] theorem State.onCwy_otp (f : Cwy → Cwy) : (s.onCwy f).otp = s.otp := rfl
@[simp] theorem State.onCwy_lcs (f : Cwy → Cwy) : (s.onCwy f).lcs = s.lcs := rfl
@[simp] theorem State.onCwy_kfb (f : Cwy → Cwy) : (s.onCwy f).kfb = s.kfb := rfl
@[simp] theorem State.onCwy_cnt (f : Cwy → Cwy) : (s.onCwy f).cnt = s.cnt := rfl
@[simp] theorem State.onCwy_kst (f : Cwy → Cwy) : (s.onCwy f).kst = s.kst := rfl
@[simp] theorem State.onCwy_kln (f : Cwy → Cwy) : (s.onCwy f).kln = s.kln := rfl
@[simp] theorem State.onCwy_peat (f : Cwy → Cwy) : (s.onCwy f).peat = s.peat := rfl
@[simp] theorem State.onCwy_prt (f : Cwy → Cwy) : (s.onCwy f).prt = s.prt := rfl
@[simp] theorem State.onCwy_fnc (f : Cwy → Cwy) : (s.onCwy f).fnc = s.fnc := rfl
@[simp] theorem State.onCwy_fncCore (f : Cwy → Cwy) : (s.onCwy f).fncCore = s.fncCore := rfl
@[simp] theorem State.onCwy_sme (f : Cwy → Cwy) : (s.onCwy f).sme = s.sme := rfl
@[simp] theorem State.onCwy_mrs (f : Cwy → Cwy) : (s.onCwy f).mrs = s.mrs := rfl
@[simp] theorem State.onCwy_dge (f : Cwy → Cwy) : (s.onCwy f).dge = s.dge := rfl
@[simp] theorem State.onCwy_cmp (f : Cwy → Cwy) : (s.onCwy f).cmp = s.cmp := rfl
@[simp] theorem State.onCwy_pke (f : Cwy → Cwy) : (s.onCwy f).pke = s.pke := rfl
@[simp] theorem State.onCwy_att (f : Cwy → Cwy) : (s.onCwy f).att = s.att := rfl
@[simp] theorem State.onCwy_boot (f : Cwy → Cwy) : (s.onCwy f).boot = s.boot := rfl
@[simp] theorem State.onCwy_mbx (f : Cwy → Cwy) : (s.onCwy f).mbx = s.mbx := rfl
@[simp] theorem State.onCwy_wcp (f : Cwy → Cwy) : (s.onCwy f).wcp = s.wcp := rfl
@[simp] theorem State.onCwy_cwy (f : Cwy → Cwy) : (s.onCwy f).cwy = f s.cwy := rfl
@[simp] theorem State.onCwy_trng (f : Cwy → Cwy) : (s.onCwy f).trng = s.trng := rfl
@[simp] theorem State.onCwy_top (f : Cwy → Cwy) : (s.onCwy f).top = s.top := rfl
@[simp] theorem State.onCwy_plic (f : Cwy → Cwy) : (s.onCwy f).plic = s.plic := rfl
@[simp] theorem State.onCwy_fw (f : Cwy → Cwy) : (s.onCwy f).fw = s.fw := rfl
@[simp] theorem State.onCwy_upd (f : Cwy → Cwy) : (s.onCwy f).upd = s.upd := rfl
@[simp] theorem State.onCwy_mp (f : Cwy → Cwy) : (s.onCwy f).mp = s.mp := rfl
@[simp] theorem State.onCwy_icp (f : Cwy → Cwy) : (s.onCwy f).icp = s.icp := rfl
@[simp] theorem State.onCwy_tap (f : Cwy → Cwy) : (s.onCwy f).tap = s.tap := rfl
@[simp] theorem State.onCwy_ast (f : Cwy → Cwy) : (s.onCwy f).ast = s.ast := rfl
@[simp] theorem State.onCwy_cntAstdrop (f : Cwy → Cwy) : (s.onCwy f).cntAstdrop = s.cntAstdrop := rfl
@[simp] theorem State.onCwy_regs (f : Cwy → Cwy) : (s.onCwy f).regs = s.regs := rfl
@[simp] theorem State.onCwy_psram (f : Cwy → Cwy) : (s.onCwy f).psram = s.psram := rfl
@[simp] theorem State.onCwy_csram (f : Cwy → Cwy) : (s.onCwy f).csram = s.csram := rfl
@[simp] theorem State.onCwy_nvm (f : Cwy → Cwy) : (s.onCwy f).nvm = s.nvm := rfl
@[simp] theorem State.onCwy_outs (f : Cwy → Cwy) : (s.onCwy f).outs = s.outs := rfl
@[simp] theorem State.onCwy_trngDrawn (f : Cwy → Cwy) : (s.onCwy f).trngDrawn = s.trngDrawn := rfl
@[simp] theorem State.onCwy_nvmTears (f : Cwy → Cwy) : (s.onCwy f).nvmTears = s.nvmTears := rfl
@[simp] theorem State.onCwy_pending (f : Cwy → Cwy) : (s.onCwy f).pending = s.pending := rfl

/-! `onTrng` -/

@[simp] theorem State.onTrng_crs (f : Trng → Trng) : (s.onTrng f).crs = s.crs := rfl
@[simp] theorem State.onTrng_otp (f : Trng → Trng) : (s.onTrng f).otp = s.otp := rfl
@[simp] theorem State.onTrng_lcs (f : Trng → Trng) : (s.onTrng f).lcs = s.lcs := rfl
@[simp] theorem State.onTrng_kfb (f : Trng → Trng) : (s.onTrng f).kfb = s.kfb := rfl
@[simp] theorem State.onTrng_cnt (f : Trng → Trng) : (s.onTrng f).cnt = s.cnt := rfl
@[simp] theorem State.onTrng_kst (f : Trng → Trng) : (s.onTrng f).kst = s.kst := rfl
@[simp] theorem State.onTrng_kln (f : Trng → Trng) : (s.onTrng f).kln = s.kln := rfl
@[simp] theorem State.onTrng_peat (f : Trng → Trng) : (s.onTrng f).peat = s.peat := rfl
@[simp] theorem State.onTrng_prt (f : Trng → Trng) : (s.onTrng f).prt = s.prt := rfl
@[simp] theorem State.onTrng_fnc (f : Trng → Trng) : (s.onTrng f).fnc = s.fnc := rfl
@[simp] theorem State.onTrng_fncCore (f : Trng → Trng) : (s.onTrng f).fncCore = s.fncCore := rfl
@[simp] theorem State.onTrng_sme (f : Trng → Trng) : (s.onTrng f).sme = s.sme := rfl
@[simp] theorem State.onTrng_mrs (f : Trng → Trng) : (s.onTrng f).mrs = s.mrs := rfl
@[simp] theorem State.onTrng_dge (f : Trng → Trng) : (s.onTrng f).dge = s.dge := rfl
@[simp] theorem State.onTrng_cmp (f : Trng → Trng) : (s.onTrng f).cmp = s.cmp := rfl
@[simp] theorem State.onTrng_pke (f : Trng → Trng) : (s.onTrng f).pke = s.pke := rfl
@[simp] theorem State.onTrng_att (f : Trng → Trng) : (s.onTrng f).att = s.att := rfl
@[simp] theorem State.onTrng_boot (f : Trng → Trng) : (s.onTrng f).boot = s.boot := rfl
@[simp] theorem State.onTrng_mbx (f : Trng → Trng) : (s.onTrng f).mbx = s.mbx := rfl
@[simp] theorem State.onTrng_wcp (f : Trng → Trng) : (s.onTrng f).wcp = s.wcp := rfl
@[simp] theorem State.onTrng_cwy (f : Trng → Trng) : (s.onTrng f).cwy = s.cwy := rfl
@[simp] theorem State.onTrng_trng (f : Trng → Trng) : (s.onTrng f).trng = f s.trng := rfl
@[simp] theorem State.onTrng_top (f : Trng → Trng) : (s.onTrng f).top = s.top := rfl
@[simp] theorem State.onTrng_plic (f : Trng → Trng) : (s.onTrng f).plic = s.plic := rfl
@[simp] theorem State.onTrng_fw (f : Trng → Trng) : (s.onTrng f).fw = s.fw := rfl
@[simp] theorem State.onTrng_upd (f : Trng → Trng) : (s.onTrng f).upd = s.upd := rfl
@[simp] theorem State.onTrng_mp (f : Trng → Trng) : (s.onTrng f).mp = s.mp := rfl
@[simp] theorem State.onTrng_icp (f : Trng → Trng) : (s.onTrng f).icp = s.icp := rfl
@[simp] theorem State.onTrng_tap (f : Trng → Trng) : (s.onTrng f).tap = s.tap := rfl
@[simp] theorem State.onTrng_ast (f : Trng → Trng) : (s.onTrng f).ast = s.ast := rfl
@[simp] theorem State.onTrng_cntAstdrop (f : Trng → Trng) : (s.onTrng f).cntAstdrop = s.cntAstdrop := rfl
@[simp] theorem State.onTrng_regs (f : Trng → Trng) : (s.onTrng f).regs = s.regs := rfl
@[simp] theorem State.onTrng_psram (f : Trng → Trng) : (s.onTrng f).psram = s.psram := rfl
@[simp] theorem State.onTrng_csram (f : Trng → Trng) : (s.onTrng f).csram = s.csram := rfl
@[simp] theorem State.onTrng_nvm (f : Trng → Trng) : (s.onTrng f).nvm = s.nvm := rfl
@[simp] theorem State.onTrng_outs (f : Trng → Trng) : (s.onTrng f).outs = s.outs := rfl
@[simp] theorem State.onTrng_trngDrawn (f : Trng → Trng) : (s.onTrng f).trngDrawn = s.trngDrawn := rfl
@[simp] theorem State.onTrng_nvmTears (f : Trng → Trng) : (s.onTrng f).nvmTears = s.nvmTears := rfl
@[simp] theorem State.onTrng_pending (f : Trng → Trng) : (s.onTrng f).pending = s.pending := rfl

/-! `onFw` -/

@[simp] theorem State.onFw_crs (f : Fw → Fw) : (s.onFw f).crs = s.crs := rfl
@[simp] theorem State.onFw_otp (f : Fw → Fw) : (s.onFw f).otp = s.otp := rfl
@[simp] theorem State.onFw_lcs (f : Fw → Fw) : (s.onFw f).lcs = s.lcs := rfl
@[simp] theorem State.onFw_kfb (f : Fw → Fw) : (s.onFw f).kfb = s.kfb := rfl
@[simp] theorem State.onFw_cnt (f : Fw → Fw) : (s.onFw f).cnt = s.cnt := rfl
@[simp] theorem State.onFw_kst (f : Fw → Fw) : (s.onFw f).kst = s.kst := rfl
@[simp] theorem State.onFw_kln (f : Fw → Fw) : (s.onFw f).kln = s.kln := rfl
@[simp] theorem State.onFw_peat (f : Fw → Fw) : (s.onFw f).peat = s.peat := rfl
@[simp] theorem State.onFw_prt (f : Fw → Fw) : (s.onFw f).prt = s.prt := rfl
@[simp] theorem State.onFw_fnc (f : Fw → Fw) : (s.onFw f).fnc = s.fnc := rfl
@[simp] theorem State.onFw_fncCore (f : Fw → Fw) : (s.onFw f).fncCore = s.fncCore := rfl
@[simp] theorem State.onFw_sme (f : Fw → Fw) : (s.onFw f).sme = s.sme := rfl
@[simp] theorem State.onFw_mrs (f : Fw → Fw) : (s.onFw f).mrs = s.mrs := rfl
@[simp] theorem State.onFw_dge (f : Fw → Fw) : (s.onFw f).dge = s.dge := rfl
@[simp] theorem State.onFw_cmp (f : Fw → Fw) : (s.onFw f).cmp = s.cmp := rfl
@[simp] theorem State.onFw_pke (f : Fw → Fw) : (s.onFw f).pke = s.pke := rfl
@[simp] theorem State.onFw_att (f : Fw → Fw) : (s.onFw f).att = s.att := rfl
@[simp] theorem State.onFw_boot (f : Fw → Fw) : (s.onFw f).boot = s.boot := rfl
@[simp] theorem State.onFw_mbx (f : Fw → Fw) : (s.onFw f).mbx = s.mbx := rfl
@[simp] theorem State.onFw_wcp (f : Fw → Fw) : (s.onFw f).wcp = s.wcp := rfl
@[simp] theorem State.onFw_cwy (f : Fw → Fw) : (s.onFw f).cwy = s.cwy := rfl
@[simp] theorem State.onFw_trng (f : Fw → Fw) : (s.onFw f).trng = s.trng := rfl
@[simp] theorem State.onFw_top (f : Fw → Fw) : (s.onFw f).top = s.top := rfl
@[simp] theorem State.onFw_plic (f : Fw → Fw) : (s.onFw f).plic = s.plic := rfl
@[simp] theorem State.onFw_fw (f : Fw → Fw) : (s.onFw f).fw = f s.fw := rfl
@[simp] theorem State.onFw_upd (f : Fw → Fw) : (s.onFw f).upd = s.upd := rfl
@[simp] theorem State.onFw_mp (f : Fw → Fw) : (s.onFw f).mp = s.mp := rfl
@[simp] theorem State.onFw_icp (f : Fw → Fw) : (s.onFw f).icp = s.icp := rfl
@[simp] theorem State.onFw_tap (f : Fw → Fw) : (s.onFw f).tap = s.tap := rfl
@[simp] theorem State.onFw_ast (f : Fw → Fw) : (s.onFw f).ast = s.ast := rfl
@[simp] theorem State.onFw_cntAstdrop (f : Fw → Fw) : (s.onFw f).cntAstdrop = s.cntAstdrop := rfl
@[simp] theorem State.onFw_regs (f : Fw → Fw) : (s.onFw f).regs = s.regs := rfl
@[simp] theorem State.onFw_psram (f : Fw → Fw) : (s.onFw f).psram = s.psram := rfl
@[simp] theorem State.onFw_csram (f : Fw → Fw) : (s.onFw f).csram = s.csram := rfl
@[simp] theorem State.onFw_nvm (f : Fw → Fw) : (s.onFw f).nvm = s.nvm := rfl
@[simp] theorem State.onFw_outs (f : Fw → Fw) : (s.onFw f).outs = s.outs := rfl
@[simp] theorem State.onFw_trngDrawn (f : Fw → Fw) : (s.onFw f).trngDrawn = s.trngDrawn := rfl
@[simp] theorem State.onFw_nvmTears (f : Fw → Fw) : (s.onFw f).nvmTears = s.nvmTears := rfl
@[simp] theorem State.onFw_pending (f : Fw → Fw) : (s.onFw f).pending = s.pending := rfl

/-! `emit` -/

@[simp] theorem State.emit_crs (o : Out) : (s.emit o).crs = s.crs := rfl
@[simp] theorem State.emit_otp (o : Out) : (s.emit o).otp = s.otp := rfl
@[simp] theorem State.emit_lcs (o : Out) : (s.emit o).lcs = s.lcs := rfl
@[simp] theorem State.emit_kfb (o : Out) : (s.emit o).kfb = s.kfb := rfl
@[simp] theorem State.emit_cnt (o : Out) : (s.emit o).cnt = s.cnt := rfl
@[simp] theorem State.emit_kst (o : Out) : (s.emit o).kst = s.kst := rfl
@[simp] theorem State.emit_kln (o : Out) : (s.emit o).kln = s.kln := rfl
@[simp] theorem State.emit_peat (o : Out) : (s.emit o).peat = s.peat := rfl
@[simp] theorem State.emit_prt (o : Out) : (s.emit o).prt = s.prt := rfl
@[simp] theorem State.emit_fnc (o : Out) : (s.emit o).fnc = s.fnc := rfl
@[simp] theorem State.emit_fncCore (o : Out) : (s.emit o).fncCore = s.fncCore := rfl
@[simp] theorem State.emit_sme (o : Out) : (s.emit o).sme = s.sme := rfl
@[simp] theorem State.emit_mrs (o : Out) : (s.emit o).mrs = s.mrs := rfl
@[simp] theorem State.emit_dge (o : Out) : (s.emit o).dge = s.dge := rfl
@[simp] theorem State.emit_cmp (o : Out) : (s.emit o).cmp = s.cmp := rfl
@[simp] theorem State.emit_pke (o : Out) : (s.emit o).pke = s.pke := rfl
@[simp] theorem State.emit_att (o : Out) : (s.emit o).att = s.att := rfl
@[simp] theorem State.emit_boot (o : Out) : (s.emit o).boot = s.boot := rfl
@[simp] theorem State.emit_mbx (o : Out) : (s.emit o).mbx = s.mbx := rfl
@[simp] theorem State.emit_wcp (o : Out) : (s.emit o).wcp = s.wcp := rfl
@[simp] theorem State.emit_cwy (o : Out) : (s.emit o).cwy = s.cwy := rfl
@[simp] theorem State.emit_trng (o : Out) : (s.emit o).trng = s.trng := rfl
@[simp] theorem State.emit_top (o : Out) : (s.emit o).top = s.top := rfl
@[simp] theorem State.emit_plic (o : Out) : (s.emit o).plic = s.plic := rfl
@[simp] theorem State.emit_fw (o : Out) : (s.emit o).fw = s.fw := rfl
@[simp] theorem State.emit_upd (o : Out) : (s.emit o).upd = s.upd := rfl
@[simp] theorem State.emit_mp (o : Out) : (s.emit o).mp = s.mp := rfl
@[simp] theorem State.emit_icp (o : Out) : (s.emit o).icp = s.icp := rfl
@[simp] theorem State.emit_tap (o : Out) : (s.emit o).tap = s.tap := rfl
@[simp] theorem State.emit_ast (o : Out) : (s.emit o).ast = s.ast := rfl
@[simp] theorem State.emit_cntAstdrop (o : Out) : (s.emit o).cntAstdrop = s.cntAstdrop := rfl
@[simp] theorem State.emit_regs (o : Out) : (s.emit o).regs = s.regs := rfl
@[simp] theorem State.emit_psram (o : Out) : (s.emit o).psram = s.psram := rfl
@[simp] theorem State.emit_csram (o : Out) : (s.emit o).csram = s.csram := rfl
@[simp] theorem State.emit_nvm (o : Out) : (s.emit o).nvm = s.nvm := rfl
@[simp] theorem State.emit_outs (o : Out) : (s.emit o).outs = s.outs ++ [o] := rfl
@[simp] theorem State.emit_trngDrawn (o : Out) : (s.emit o).trngDrawn = s.trngDrawn := rfl
@[simp] theorem State.emit_nvmTears (o : Out) : (s.emit o).nvmTears = s.nvmTears := rfl
@[simp] theorem State.emit_pending (o : Out) : (s.emit o).pending = s.pending := rfl

/-! `quiet` -/

@[simp] theorem State.quiet_crs : s.quiet.crs = s.crs := rfl
@[simp] theorem State.quiet_otp : s.quiet.otp = s.otp := rfl
@[simp] theorem State.quiet_lcs : s.quiet.lcs = s.lcs := rfl
@[simp] theorem State.quiet_kfb : s.quiet.kfb = s.kfb := rfl
@[simp] theorem State.quiet_cnt : s.quiet.cnt = s.cnt := rfl
@[simp] theorem State.quiet_kst : s.quiet.kst = s.kst := rfl
@[simp] theorem State.quiet_kln : s.quiet.kln = s.kln := rfl
@[simp] theorem State.quiet_peat : s.quiet.peat = s.peat := rfl
@[simp] theorem State.quiet_prt : s.quiet.prt = s.prt := rfl
@[simp] theorem State.quiet_fnc : s.quiet.fnc = s.fnc := rfl
@[simp] theorem State.quiet_fncCore : s.quiet.fncCore = s.fncCore := rfl
@[simp] theorem State.quiet_sme : s.quiet.sme = s.sme := rfl
@[simp] theorem State.quiet_mrs : s.quiet.mrs = s.mrs := rfl
@[simp] theorem State.quiet_dge : s.quiet.dge = s.dge := rfl
@[simp] theorem State.quiet_cmp : s.quiet.cmp = s.cmp := rfl
@[simp] theorem State.quiet_pke : s.quiet.pke = s.pke := rfl
@[simp] theorem State.quiet_att : s.quiet.att = s.att := rfl
@[simp] theorem State.quiet_boot : s.quiet.boot = s.boot := rfl
@[simp] theorem State.quiet_mbx : s.quiet.mbx = s.mbx := rfl
@[simp] theorem State.quiet_wcp : s.quiet.wcp = s.wcp := rfl
@[simp] theorem State.quiet_cwy : s.quiet.cwy = s.cwy := rfl
@[simp] theorem State.quiet_trng : s.quiet.trng = s.trng := rfl
@[simp] theorem State.quiet_top : s.quiet.top = s.top := rfl
@[simp] theorem State.quiet_plic : s.quiet.plic = s.plic := rfl
@[simp] theorem State.quiet_fw : s.quiet.fw = s.fw := rfl
@[simp] theorem State.quiet_upd : s.quiet.upd = s.upd := rfl
@[simp] theorem State.quiet_mp : s.quiet.mp = s.mp := rfl
@[simp] theorem State.quiet_icp : s.quiet.icp = s.icp := rfl
@[simp] theorem State.quiet_tap : s.quiet.tap = s.tap := rfl
@[simp] theorem State.quiet_ast : s.quiet.ast = s.ast := rfl
@[simp] theorem State.quiet_cntAstdrop : s.quiet.cntAstdrop = s.cntAstdrop := rfl
@[simp] theorem State.quiet_regs : s.quiet.regs = s.regs := rfl
@[simp] theorem State.quiet_psram : s.quiet.psram = s.psram := rfl
@[simp] theorem State.quiet_csram : s.quiet.csram = s.csram := rfl
@[simp] theorem State.quiet_nvm : s.quiet.nvm = s.nvm := rfl
@[simp] theorem State.quiet_outs : s.quiet.outs = [] := rfl
@[simp] theorem State.quiet_trngDrawn : s.quiet.trngDrawn = s.trngDrawn := rfl
@[simp] theorem State.quiet_nvmTears : s.quiet.nvmTears = s.nvmTears := rfl
@[simp] theorem State.quiet_pending : s.quiet.pending = s.pending := rfl

/-! `csramPut` -/

@[simp] theorem State.csramPut_crs (a : Nat) (bs : Bytes) : (s.csramPut a bs).crs = s.crs := rfl
@[simp] theorem State.csramPut_otp (a : Nat) (bs : Bytes) : (s.csramPut a bs).otp = s.otp := rfl
@[simp] theorem State.csramPut_lcs (a : Nat) (bs : Bytes) : (s.csramPut a bs).lcs = s.lcs := rfl
@[simp] theorem State.csramPut_kfb (a : Nat) (bs : Bytes) : (s.csramPut a bs).kfb = s.kfb := rfl
@[simp] theorem State.csramPut_cnt (a : Nat) (bs : Bytes) : (s.csramPut a bs).cnt = s.cnt := rfl
@[simp] theorem State.csramPut_kst (a : Nat) (bs : Bytes) : (s.csramPut a bs).kst = s.kst := rfl
@[simp] theorem State.csramPut_kln (a : Nat) (bs : Bytes) : (s.csramPut a bs).kln = s.kln := rfl
@[simp] theorem State.csramPut_peat (a : Nat) (bs : Bytes) : (s.csramPut a bs).peat = s.peat := rfl
@[simp] theorem State.csramPut_prt (a : Nat) (bs : Bytes) : (s.csramPut a bs).prt = s.prt := rfl
@[simp] theorem State.csramPut_fnc (a : Nat) (bs : Bytes) : (s.csramPut a bs).fnc = s.fnc := rfl
@[simp] theorem State.csramPut_fncCore (a : Nat) (bs : Bytes) : (s.csramPut a bs).fncCore = s.fncCore := rfl
@[simp] theorem State.csramPut_sme (a : Nat) (bs : Bytes) : (s.csramPut a bs).sme = s.sme := rfl
@[simp] theorem State.csramPut_mrs (a : Nat) (bs : Bytes) : (s.csramPut a bs).mrs = s.mrs := rfl
@[simp] theorem State.csramPut_dge (a : Nat) (bs : Bytes) : (s.csramPut a bs).dge = s.dge := rfl
@[simp] theorem State.csramPut_cmp (a : Nat) (bs : Bytes) : (s.csramPut a bs).cmp = s.cmp := rfl
@[simp] theorem State.csramPut_pke (a : Nat) (bs : Bytes) : (s.csramPut a bs).pke = s.pke := rfl
@[simp] theorem State.csramPut_att (a : Nat) (bs : Bytes) : (s.csramPut a bs).att = s.att := rfl
@[simp] theorem State.csramPut_boot (a : Nat) (bs : Bytes) : (s.csramPut a bs).boot = s.boot := rfl
@[simp] theorem State.csramPut_mbx (a : Nat) (bs : Bytes) : (s.csramPut a bs).mbx = s.mbx := rfl
@[simp] theorem State.csramPut_wcp (a : Nat) (bs : Bytes) : (s.csramPut a bs).wcp = s.wcp := rfl
@[simp] theorem State.csramPut_cwy (a : Nat) (bs : Bytes) : (s.csramPut a bs).cwy = s.cwy := rfl
@[simp] theorem State.csramPut_trng (a : Nat) (bs : Bytes) : (s.csramPut a bs).trng = s.trng := rfl
@[simp] theorem State.csramPut_top (a : Nat) (bs : Bytes) : (s.csramPut a bs).top = s.top := rfl
@[simp] theorem State.csramPut_plic (a : Nat) (bs : Bytes) : (s.csramPut a bs).plic = s.plic := rfl
@[simp] theorem State.csramPut_fw (a : Nat) (bs : Bytes) : (s.csramPut a bs).fw = s.fw := rfl
@[simp] theorem State.csramPut_upd (a : Nat) (bs : Bytes) : (s.csramPut a bs).upd = s.upd := rfl
@[simp] theorem State.csramPut_mp (a : Nat) (bs : Bytes) : (s.csramPut a bs).mp = s.mp := rfl
@[simp] theorem State.csramPut_icp (a : Nat) (bs : Bytes) : (s.csramPut a bs).icp = s.icp := rfl
@[simp] theorem State.csramPut_tap (a : Nat) (bs : Bytes) : (s.csramPut a bs).tap = s.tap := rfl
@[simp] theorem State.csramPut_ast (a : Nat) (bs : Bytes) : (s.csramPut a bs).ast = s.ast := rfl
@[simp] theorem State.csramPut_cntAstdrop (a : Nat) (bs : Bytes) : (s.csramPut a bs).cntAstdrop = s.cntAstdrop := rfl
@[simp] theorem State.csramPut_regs (a : Nat) (bs : Bytes) : (s.csramPut a bs).regs = s.regs := rfl
@[simp] theorem State.csramPut_psram (a : Nat) (bs : Bytes) : (s.csramPut a bs).psram = s.psram := rfl
@[simp] theorem State.csramPut_csram (a : Nat) (bs : Bytes) : (s.csramPut a bs).csram = Sparse.putBytes 0 s.csram a bs := rfl
@[simp] theorem State.csramPut_nvm (a : Nat) (bs : Bytes) : (s.csramPut a bs).nvm = s.nvm := rfl
@[simp] theorem State.csramPut_outs (a : Nat) (bs : Bytes) : (s.csramPut a bs).outs = s.outs := rfl
@[simp] theorem State.csramPut_trngDrawn (a : Nat) (bs : Bytes) : (s.csramPut a bs).trngDrawn = s.trngDrawn := rfl
@[simp] theorem State.csramPut_nvmTears (a : Nat) (bs : Bytes) : (s.csramPut a bs).nvmTears = s.nvmTears := rfl
@[simp] theorem State.csramPut_pending (a : Nat) (bs : Bytes) : (s.csramPut a bs).pending = s.pending := rfl

/-! `psramPut` -/

@[simp] theorem State.psramPut_crs (a : Nat) (bs : Bytes) : (s.psramPut a bs).crs = s.crs := rfl
@[simp] theorem State.psramPut_otp (a : Nat) (bs : Bytes) : (s.psramPut a bs).otp = s.otp := rfl
@[simp] theorem State.psramPut_lcs (a : Nat) (bs : Bytes) : (s.psramPut a bs).lcs = s.lcs := rfl
@[simp] theorem State.psramPut_kfb (a : Nat) (bs : Bytes) : (s.psramPut a bs).kfb = s.kfb := rfl
@[simp] theorem State.psramPut_cnt (a : Nat) (bs : Bytes) : (s.psramPut a bs).cnt = s.cnt := rfl
@[simp] theorem State.psramPut_kst (a : Nat) (bs : Bytes) : (s.psramPut a bs).kst = s.kst := rfl
@[simp] theorem State.psramPut_kln (a : Nat) (bs : Bytes) : (s.psramPut a bs).kln = s.kln := rfl
@[simp] theorem State.psramPut_peat (a : Nat) (bs : Bytes) : (s.psramPut a bs).peat = s.peat := rfl
@[simp] theorem State.psramPut_prt (a : Nat) (bs : Bytes) : (s.psramPut a bs).prt = s.prt := rfl
@[simp] theorem State.psramPut_fnc (a : Nat) (bs : Bytes) : (s.psramPut a bs).fnc = s.fnc := rfl
@[simp] theorem State.psramPut_fncCore (a : Nat) (bs : Bytes) : (s.psramPut a bs).fncCore = s.fncCore := rfl
@[simp] theorem State.psramPut_sme (a : Nat) (bs : Bytes) : (s.psramPut a bs).sme = s.sme := rfl
@[simp] theorem State.psramPut_mrs (a : Nat) (bs : Bytes) : (s.psramPut a bs).mrs = s.mrs := rfl
@[simp] theorem State.psramPut_dge (a : Nat) (bs : Bytes) : (s.psramPut a bs).dge = s.dge := rfl
@[simp] theorem State.psramPut_cmp (a : Nat) (bs : Bytes) : (s.psramPut a bs).cmp = s.cmp := rfl
@[simp] theorem State.psramPut_pke (a : Nat) (bs : Bytes) : (s.psramPut a bs).pke = s.pke := rfl
@[simp] theorem State.psramPut_att (a : Nat) (bs : Bytes) : (s.psramPut a bs).att = s.att := rfl
@[simp] theorem State.psramPut_boot (a : Nat) (bs : Bytes) : (s.psramPut a bs).boot = s.boot := rfl
@[simp] theorem State.psramPut_mbx (a : Nat) (bs : Bytes) : (s.psramPut a bs).mbx = s.mbx := rfl
@[simp] theorem State.psramPut_wcp (a : Nat) (bs : Bytes) : (s.psramPut a bs).wcp = s.wcp := rfl
@[simp] theorem State.psramPut_cwy (a : Nat) (bs : Bytes) : (s.psramPut a bs).cwy = s.cwy := rfl
@[simp] theorem State.psramPut_trng (a : Nat) (bs : Bytes) : (s.psramPut a bs).trng = s.trng := rfl
@[simp] theorem State.psramPut_top (a : Nat) (bs : Bytes) : (s.psramPut a bs).top = s.top := rfl
@[simp] theorem State.psramPut_plic (a : Nat) (bs : Bytes) : (s.psramPut a bs).plic = s.plic := rfl
@[simp] theorem State.psramPut_fw (a : Nat) (bs : Bytes) : (s.psramPut a bs).fw = s.fw := rfl
@[simp] theorem State.psramPut_upd (a : Nat) (bs : Bytes) : (s.psramPut a bs).upd = s.upd := rfl
@[simp] theorem State.psramPut_mp (a : Nat) (bs : Bytes) : (s.psramPut a bs).mp = s.mp := rfl
@[simp] theorem State.psramPut_icp (a : Nat) (bs : Bytes) : (s.psramPut a bs).icp = s.icp := rfl
@[simp] theorem State.psramPut_tap (a : Nat) (bs : Bytes) : (s.psramPut a bs).tap = s.tap := rfl
@[simp] theorem State.psramPut_ast (a : Nat) (bs : Bytes) : (s.psramPut a bs).ast = s.ast := rfl
@[simp] theorem State.psramPut_cntAstdrop (a : Nat) (bs : Bytes) : (s.psramPut a bs).cntAstdrop = s.cntAstdrop := rfl
@[simp] theorem State.psramPut_regs (a : Nat) (bs : Bytes) : (s.psramPut a bs).regs = s.regs := rfl
@[simp] theorem State.psramPut_psram (a : Nat) (bs : Bytes) : (s.psramPut a bs).psram = Sparse.putBytes 0 s.psram a bs := rfl
@[simp] theorem State.psramPut_csram (a : Nat) (bs : Bytes) : (s.psramPut a bs).csram = s.csram := rfl
@[simp] theorem State.psramPut_nvm (a : Nat) (bs : Bytes) : (s.psramPut a bs).nvm = s.nvm := rfl
@[simp] theorem State.psramPut_outs (a : Nat) (bs : Bytes) : (s.psramPut a bs).outs = s.outs := rfl
@[simp] theorem State.psramPut_trngDrawn (a : Nat) (bs : Bytes) : (s.psramPut a bs).trngDrawn = s.trngDrawn := rfl
@[simp] theorem State.psramPut_nvmTears (a : Nat) (bs : Bytes) : (s.psramPut a bs).nvmTears = s.nvmTears := rfl
@[simp] theorem State.psramPut_pending (a : Nat) (bs : Bytes) : (s.psramPut a bs).pending = s.pending := rfl

/-! `nvmPut` -/

@[simp] theorem State.nvmPut_crs (a : Nat) (bs : Bytes) : (s.nvmPut a bs).crs = s.crs := rfl
@[simp] theorem State.nvmPut_otp (a : Nat) (bs : Bytes) : (s.nvmPut a bs).otp = s.otp := rfl
@[simp] theorem State.nvmPut_lcs (a : Nat) (bs : Bytes) : (s.nvmPut a bs).lcs = s.lcs := rfl
@[simp] theorem State.nvmPut_kfb (a : Nat) (bs : Bytes) : (s.nvmPut a bs).kfb = s.kfb := rfl
@[simp] theorem State.nvmPut_cnt (a : Nat) (bs : Bytes) : (s.nvmPut a bs).cnt = s.cnt := rfl
@[simp] theorem State.nvmPut_kst (a : Nat) (bs : Bytes) : (s.nvmPut a bs).kst = s.kst := rfl
@[simp] theorem State.nvmPut_kln (a : Nat) (bs : Bytes) : (s.nvmPut a bs).kln = s.kln := rfl
@[simp] theorem State.nvmPut_peat (a : Nat) (bs : Bytes) : (s.nvmPut a bs).peat = s.peat := rfl
@[simp] theorem State.nvmPut_prt (a : Nat) (bs : Bytes) : (s.nvmPut a bs).prt = s.prt := rfl
@[simp] theorem State.nvmPut_fnc (a : Nat) (bs : Bytes) : (s.nvmPut a bs).fnc = s.fnc := rfl
@[simp] theorem State.nvmPut_fncCore (a : Nat) (bs : Bytes) : (s.nvmPut a bs).fncCore = s.fncCore := rfl
@[simp] theorem State.nvmPut_sme (a : Nat) (bs : Bytes) : (s.nvmPut a bs).sme = s.sme := rfl
@[simp] theorem State.nvmPut_mrs (a : Nat) (bs : Bytes) : (s.nvmPut a bs).mrs = s.mrs := rfl
@[simp] theorem State.nvmPut_dge (a : Nat) (bs : Bytes) : (s.nvmPut a bs).dge = s.dge := rfl
@[simp] theorem State.nvmPut_cmp (a : Nat) (bs : Bytes) : (s.nvmPut a bs).cmp = s.cmp := rfl
@[simp] theorem State.nvmPut_pke (a : Nat) (bs : Bytes) : (s.nvmPut a bs).pke = s.pke := rfl
@[simp] theorem State.nvmPut_att (a : Nat) (bs : Bytes) : (s.nvmPut a bs).att = s.att := rfl
@[simp] theorem State.nvmPut_boot (a : Nat) (bs : Bytes) : (s.nvmPut a bs).boot = s.boot := rfl
@[simp] theorem State.nvmPut_mbx (a : Nat) (bs : Bytes) : (s.nvmPut a bs).mbx = s.mbx := rfl
@[simp] theorem State.nvmPut_wcp (a : Nat) (bs : Bytes) : (s.nvmPut a bs).wcp = s.wcp := rfl
@[simp] theorem State.nvmPut_cwy (a : Nat) (bs : Bytes) : (s.nvmPut a bs).cwy = s.cwy := rfl
@[simp] theorem State.nvmPut_trng (a : Nat) (bs : Bytes) : (s.nvmPut a bs).trng = s.trng := rfl
@[simp] theorem State.nvmPut_top (a : Nat) (bs : Bytes) : (s.nvmPut a bs).top = s.top := rfl
@[simp] theorem State.nvmPut_plic (a : Nat) (bs : Bytes) : (s.nvmPut a bs).plic = s.plic := rfl
@[simp] theorem State.nvmPut_fw (a : Nat) (bs : Bytes) : (s.nvmPut a bs).fw = s.fw := rfl
@[simp] theorem State.nvmPut_upd (a : Nat) (bs : Bytes) : (s.nvmPut a bs).upd = s.upd := rfl
@[simp] theorem State.nvmPut_mp (a : Nat) (bs : Bytes) : (s.nvmPut a bs).mp = s.mp := rfl
@[simp] theorem State.nvmPut_icp (a : Nat) (bs : Bytes) : (s.nvmPut a bs).icp = s.icp := rfl
@[simp] theorem State.nvmPut_tap (a : Nat) (bs : Bytes) : (s.nvmPut a bs).tap = s.tap := rfl
@[simp] theorem State.nvmPut_ast (a : Nat) (bs : Bytes) : (s.nvmPut a bs).ast = s.ast := rfl
@[simp] theorem State.nvmPut_cntAstdrop (a : Nat) (bs : Bytes) : (s.nvmPut a bs).cntAstdrop = s.cntAstdrop := rfl
@[simp] theorem State.nvmPut_regs (a : Nat) (bs : Bytes) : (s.nvmPut a bs).regs = s.regs := rfl
@[simp] theorem State.nvmPut_psram (a : Nat) (bs : Bytes) : (s.nvmPut a bs).psram = s.psram := rfl
@[simp] theorem State.nvmPut_csram (a : Nat) (bs : Bytes) : (s.nvmPut a bs).csram = s.csram := rfl
@[simp] theorem State.nvmPut_nvm (a : Nat) (bs : Bytes) : (s.nvmPut a bs).nvm = Sparse.putBytes 0xFF s.nvm a bs := rfl
@[simp] theorem State.nvmPut_outs (a : Nat) (bs : Bytes) : (s.nvmPut a bs).outs = s.outs := rfl
@[simp] theorem State.nvmPut_trngDrawn (a : Nat) (bs : Bytes) : (s.nvmPut a bs).trngDrawn = s.trngDrawn := rfl
@[simp] theorem State.nvmPut_nvmTears (a : Nat) (bs : Bytes) : (s.nvmPut a bs).nvmTears = s.nvmTears := rfl
@[simp] theorem State.nvmPut_pending (a : Nat) (bs : Bytes) : (s.nvmPut a bs).pending = s.pending := rfl

/-! `drew` -/

@[simp] theorem State.drew_crs (n : Nat) : (s.drew n).crs = s.crs := rfl
@[simp] theorem State.drew_otp (n : Nat) : (s.drew n).otp = s.otp := rfl
@[simp] theorem State.drew_lcs (n : Nat) : (s.drew n).lcs = s.lcs := rfl
@[simp] theorem State.drew_kfb (n : Nat) : (s.drew n).kfb = s.kfb := rfl
@[simp] theorem State.drew_cnt (n : Nat) : (s.drew n).cnt = s.cnt := rfl
@[simp] theorem State.drew_kst (n : Nat) : (s.drew n).kst = s.kst := rfl
@[simp] theorem State.drew_kln (n : Nat) : (s.drew n).kln = s.kln := rfl
@[simp] theorem State.drew_peat (n : Nat) : (s.drew n).peat = s.peat := rfl
@[simp] theorem State.drew_prt (n : Nat) : (s.drew n).prt = s.prt := rfl
@[simp] theorem State.drew_fnc (n : Nat) : (s.drew n).fnc = s.fnc := rfl
@[simp] theorem State.drew_fncCore (n : Nat) : (s.drew n).fncCore = s.fncCore := rfl
@[simp] theorem State.drew_sme (n : Nat) : (s.drew n).sme = s.sme := rfl
@[simp] theorem State.drew_mrs (n : Nat) : (s.drew n).mrs = s.mrs := rfl
@[simp] theorem State.drew_dge (n : Nat) : (s.drew n).dge = s.dge := rfl
@[simp] theorem State.drew_cmp (n : Nat) : (s.drew n).cmp = s.cmp := rfl
@[simp] theorem State.drew_pke (n : Nat) : (s.drew n).pke = s.pke := rfl
@[simp] theorem State.drew_att (n : Nat) : (s.drew n).att = s.att := rfl
@[simp] theorem State.drew_boot (n : Nat) : (s.drew n).boot = s.boot := rfl
@[simp] theorem State.drew_mbx (n : Nat) : (s.drew n).mbx = s.mbx := rfl
@[simp] theorem State.drew_wcp (n : Nat) : (s.drew n).wcp = s.wcp := rfl
@[simp] theorem State.drew_cwy (n : Nat) : (s.drew n).cwy = s.cwy := rfl
@[simp] theorem State.drew_trng (n : Nat) : (s.drew n).trng = s.trng := rfl
@[simp] theorem State.drew_top (n : Nat) : (s.drew n).top = s.top := rfl
@[simp] theorem State.drew_plic (n : Nat) : (s.drew n).plic = s.plic := rfl
@[simp] theorem State.drew_fw (n : Nat) : (s.drew n).fw = s.fw := rfl
@[simp] theorem State.drew_upd (n : Nat) : (s.drew n).upd = s.upd := rfl
@[simp] theorem State.drew_mp (n : Nat) : (s.drew n).mp = s.mp := rfl
@[simp] theorem State.drew_icp (n : Nat) : (s.drew n).icp = s.icp := rfl
@[simp] theorem State.drew_tap (n : Nat) : (s.drew n).tap = s.tap := rfl
@[simp] theorem State.drew_ast (n : Nat) : (s.drew n).ast = s.ast := rfl
@[simp] theorem State.drew_cntAstdrop (n : Nat) : (s.drew n).cntAstdrop = s.cntAstdrop := rfl
@[simp] theorem State.drew_regs (n : Nat) : (s.drew n).regs = s.regs := rfl
@[simp] theorem State.drew_psram (n : Nat) : (s.drew n).psram = s.psram := rfl
@[simp] theorem State.drew_csram (n : Nat) : (s.drew n).csram = s.csram := rfl
@[simp] theorem State.drew_nvm (n : Nat) : (s.drew n).nvm = s.nvm := rfl
@[simp] theorem State.drew_outs (n : Nat) : (s.drew n).outs = s.outs := rfl
@[simp] theorem State.drew_trngDrawn (n : Nat) : (s.drew n).trngDrawn = s.trngDrawn + n := rfl
@[simp] theorem State.drew_nvmTears (n : Nat) : (s.drew n).nvmTears = s.nvmTears := rfl
@[simp] theorem State.drew_pending (n : Nat) : (s.drew n).pending = s.pending := rfl

/-! `setReg` -/

@[simp] theorem State.setReg_crs (r : Reg) (v : Word) (b k : Nat) : (s.setReg r v b k).crs = s.crs := rfl
@[simp] theorem State.setReg_otp (r : Reg) (v : Word) (b k : Nat) : (s.setReg r v b k).otp = s.otp := rfl
@[simp] theorem State.setReg_lcs (r : Reg) (v : Word) (b k : Nat) : (s.setReg r v b k).lcs = s.lcs := rfl
@[simp] theorem State.setReg_kfb (r : Reg) (v : Word) (b k : Nat) : (s.setReg r v b k).kfb = s.kfb := rfl
@[simp] theorem State.setReg_cnt (r : Reg) (v : Word) (b k : Nat) : (s.setReg r v b k).cnt = s.cnt := rfl
@[simp] theorem State.setReg_kst (r : Reg) (v : Word) (b k : Nat) : (s.setReg r v b k).kst = s.kst := rfl
@[simp] theorem State.setReg_kln (r : Reg) (v : Word) (b k : Nat) : (s.setReg r v b k).kln = s.kln := rfl
@[simp] theorem State.setReg_peat (r : Reg) (v : Word) (b k : Nat) : (s.setReg r v b k).peat = s.peat := rfl
@[simp] theorem State.setReg_prt (r : Reg) (v : Word) (b k : Nat) : (s.setReg r v b k).prt = s.prt := rfl
@[simp] theorem State.setReg_fnc (r : Reg) (v : Word) (b k : Nat) : (s.setReg r v b k).fnc = s.fnc := rfl
@[simp] theorem State.setReg_fncCore (r : Reg) (v : Word) (b k : Nat) : (s.setReg r v b k).fncCore = s.fncCore := rfl
@[simp] theorem State.setReg_sme (r : Reg) (v : Word) (b k : Nat) : (s.setReg r v b k).sme = s.sme := rfl
@[simp] theorem State.setReg_mrs (r : Reg) (v : Word) (b k : Nat) : (s.setReg r v b k).mrs = s.mrs := rfl
@[simp] theorem State.setReg_dge (r : Reg) (v : Word) (b k : Nat) : (s.setReg r v b k).dge = s.dge := rfl
@[simp] theorem State.setReg_cmp (r : Reg) (v : Word) (b k : Nat) : (s.setReg r v b k).cmp = s.cmp := rfl
@[simp] theorem State.setReg_pke (r : Reg) (v : Word) (b k : Nat) : (s.setReg r v b k).pke = s.pke := rfl
@[simp] theorem State.setReg_att (r : Reg) (v : Word) (b k : Nat) : (s.setReg r v b k).att = s.att := rfl
@[simp] theorem State.setReg_boot (r : Reg) (v : Word) (b k : Nat) : (s.setReg r v b k).boot = s.boot := rfl
@[simp] theorem State.setReg_mbx (r : Reg) (v : Word) (b k : Nat) : (s.setReg r v b k).mbx = s.mbx := rfl
@[simp] theorem State.setReg_wcp (r : Reg) (v : Word) (b k : Nat) : (s.setReg r v b k).wcp = s.wcp := rfl
@[simp] theorem State.setReg_cwy (r : Reg) (v : Word) (b k : Nat) : (s.setReg r v b k).cwy = s.cwy := rfl
@[simp] theorem State.setReg_trng (r : Reg) (v : Word) (b k : Nat) : (s.setReg r v b k).trng = s.trng := rfl
@[simp] theorem State.setReg_top (r : Reg) (v : Word) (b k : Nat) : (s.setReg r v b k).top = s.top := rfl
@[simp] theorem State.setReg_plic (r : Reg) (v : Word) (b k : Nat) : (s.setReg r v b k).plic = s.plic := rfl
@[simp] theorem State.setReg_fw (r : Reg) (v : Word) (b k : Nat) : (s.setReg r v b k).fw = s.fw := rfl
@[simp] theorem State.setReg_upd (r : Reg) (v : Word) (b k : Nat) : (s.setReg r v b k).upd = s.upd := rfl
@[simp] theorem State.setReg_mp (r : Reg) (v : Word) (b k : Nat) : (s.setReg r v b k).mp = s.mp := rfl
@[simp] theorem State.setReg_icp (r : Reg) (v : Word) (b k : Nat) : (s.setReg r v b k).icp = s.icp := rfl
@[simp] theorem State.setReg_tap (r : Reg) (v : Word) (b k : Nat) : (s.setReg r v b k).tap = s.tap := rfl
@[simp] theorem State.setReg_ast (r : Reg) (v : Word) (b k : Nat) : (s.setReg r v b k).ast = s.ast := rfl
@[simp] theorem State.setReg_cntAstdrop (r : Reg) (v : Word) (b k : Nat) : (s.setReg r v b k).cntAstdrop = s.cntAstdrop := rfl
@[simp] theorem State.setReg_psram (r : Reg) (v : Word) (b k : Nat) : (s.setReg r v b k).psram = s.psram := rfl
@[simp] theorem State.setReg_csram (r : Reg) (v : Word) (b k : Nat) : (s.setReg r v b k).csram = s.csram := rfl
@[simp] theorem State.setReg_nvm (r : Reg) (v : Word) (b k : Nat) : (s.setReg r v b k).nvm = s.nvm := rfl
@[simp] theorem State.setReg_outs (r : Reg) (v : Word) (b k : Nat) : (s.setReg r v b k).outs = s.outs := rfl
@[simp] theorem State.setReg_trngDrawn (r : Reg) (v : Word) (b k : Nat) : (s.setReg r v b k).trngDrawn = s.trngDrawn := rfl
@[simp] theorem State.setReg_nvmTears (r : Reg) (v : Word) (b k : Nat) : (s.setReg r v b k).nvmTears = s.nvmTears := rfl
@[simp] theorem State.setReg_pending (r : Reg) (v : Word) (b k : Nat) : (s.setReg r v b k).pending = s.pending := rfl

/-! `clearReg` -/

@[simp] theorem State.clearReg_crs (r : Reg) (b : Nat) : (s.clearReg r b).crs = s.crs := rfl
@[simp] theorem State.clearReg_otp (r : Reg) (b : Nat) : (s.clearReg r b).otp = s.otp := rfl
@[simp] theorem State.clearReg_lcs (r : Reg) (b : Nat) : (s.clearReg r b).lcs = s.lcs := rfl
@[simp] theorem State.clearReg_kfb (r : Reg) (b : Nat) : (s.clearReg r b).kfb = s.kfb := rfl
@[simp] theorem State.clearReg_cnt (r : Reg) (b : Nat) : (s.clearReg r b).cnt = s.cnt := rfl
@[simp] theorem State.clearReg_kst (r : Reg) (b : Nat) : (s.clearReg r b).kst = s.kst := rfl
@[simp] theorem State.clearReg_kln (r : Reg) (b : Nat) : (s.clearReg r b).kln = s.kln := rfl
@[simp] theorem State.clearReg_peat (r : Reg) (b : Nat) : (s.clearReg r b).peat = s.peat := rfl
@[simp] theorem State.clearReg_prt (r : Reg) (b : Nat) : (s.clearReg r b).prt = s.prt := rfl
@[simp] theorem State.clearReg_fnc (r : Reg) (b : Nat) : (s.clearReg r b).fnc = s.fnc := rfl
@[simp] theorem State.clearReg_fncCore (r : Reg) (b : Nat) : (s.clearReg r b).fncCore = s.fncCore := rfl
@[simp] theorem State.clearReg_sme (r : Reg) (b : Nat) : (s.clearReg r b).sme = s.sme := rfl
@[simp] theorem State.clearReg_mrs (r : Reg) (b : Nat) : (s.clearReg r b).mrs = s.mrs := rfl
@[simp] theorem State.clearReg_dge (r : Reg) (b : Nat) : (s.clearReg r b).dge = s.dge := rfl
@[simp] theorem State.clearReg_cmp (r : Reg) (b : Nat) : (s.clearReg r b).cmp = s.cmp := rfl
@[simp] theorem State.clearReg_pke (r : Reg) (b : Nat) : (s.clearReg r b).pke = s.pke := rfl
@[simp] theorem State.clearReg_att (r : Reg) (b : Nat) : (s.clearReg r b).att = s.att := rfl
@[simp] theorem State.clearReg_boot (r : Reg) (b : Nat) : (s.clearReg r b).boot = s.boot := rfl
@[simp] theorem State.clearReg_mbx (r : Reg) (b : Nat) : (s.clearReg r b).mbx = s.mbx := rfl
@[simp] theorem State.clearReg_wcp (r : Reg) (b : Nat) : (s.clearReg r b).wcp = s.wcp := rfl
@[simp] theorem State.clearReg_cwy (r : Reg) (b : Nat) : (s.clearReg r b).cwy = s.cwy := rfl
@[simp] theorem State.clearReg_trng (r : Reg) (b : Nat) : (s.clearReg r b).trng = s.trng := rfl
@[simp] theorem State.clearReg_top (r : Reg) (b : Nat) : (s.clearReg r b).top = s.top := rfl
@[simp] theorem State.clearReg_plic (r : Reg) (b : Nat) : (s.clearReg r b).plic = s.plic := rfl
@[simp] theorem State.clearReg_fw (r : Reg) (b : Nat) : (s.clearReg r b).fw = s.fw := rfl
@[simp] theorem State.clearReg_upd (r : Reg) (b : Nat) : (s.clearReg r b).upd = s.upd := rfl
@[simp] theorem State.clearReg_mp (r : Reg) (b : Nat) : (s.clearReg r b).mp = s.mp := rfl
@[simp] theorem State.clearReg_icp (r : Reg) (b : Nat) : (s.clearReg r b).icp = s.icp := rfl
@[simp] theorem State.clearReg_tap (r : Reg) (b : Nat) : (s.clearReg r b).tap = s.tap := rfl
@[simp] theorem State.clearReg_ast (r : Reg) (b : Nat) : (s.clearReg r b).ast = s.ast := rfl
@[simp] theorem State.clearReg_cntAstdrop (r : Reg) (b : Nat) : (s.clearReg r b).cntAstdrop = s.cntAstdrop := rfl
@[simp] theorem State.clearReg_psram (r : Reg) (b : Nat) : (s.clearReg r b).psram = s.psram := rfl
@[simp] theorem State.clearReg_csram (r : Reg) (b : Nat) : (s.clearReg r b).csram = s.csram := rfl
@[simp] theorem State.clearReg_nvm (r : Reg) (b : Nat) : (s.clearReg r b).nvm = s.nvm := rfl
@[simp] theorem State.clearReg_outs (r : Reg) (b : Nat) : (s.clearReg r b).outs = s.outs := rfl
@[simp] theorem State.clearReg_trngDrawn (r : Reg) (b : Nat) : (s.clearReg r b).trngDrawn = s.trngDrawn := rfl
@[simp] theorem State.clearReg_nvmTears (r : Reg) (b : Nat) : (s.clearReg r b).nvmTears = s.nvmTears := rfl
@[simp] theorem State.clearReg_pending (r : Reg) (b : Nat) : (s.clearReg r b).pending = s.pending := rfl

end Sys2Proof.Machine
end

