-- ==== Sys2Proof/Laws/Ops.lean ====
section
/-!
SUPPORT. Laws/Ops.lean: what the shared operations can do, once for each: the shapes of a command, the code of R14, the
stored registers, and that the operations on the memories keep their canonical form.
-/
namespace Sys2Proof.Machine

/-! ### The shapes of a command -/

theorem ran_eq {f : State → State} {s : State} : ran f s = .next (f s.quiet) := rfl

theorem ran_next {f : State → State} {s t : State} (h : ran f s = .next t) : t = f s.quiet := by cases h; rfl

theorem ranIf_due {b : Bool} {f : State → State} {s : State} (h : b = true) : ranIf b f s = .next (f s.quiet) := by
  subst h; rfl

theorem ranIf_not {b : Bool} {f : State → State} {s : State} (h : b = false) : ranIf b f s = .next s.quiet := by
  subst h; rfl

theorem ranIf_next {b : Bool} {f : State → State} {s t : State} (h : ranIf b f s = .next t) :
    b = true ∧ t = f s.quiet ∨ b = false ∧ t = s.quiet := by
  cases b with
  | true => rw [ranIf_due rfl] at h; cases h; exact .inl ⟨rfl, rfl⟩
  | false => rw [ranIf_not rfl] at h; cases h; exact .inr ⟨rfl, rfl⟩

@[simp] theorem State.quiet_up (s : State) (d : Dom) : s.quiet.up d = s.up d := by cases d <;> rfl

@[simp] theorem State.quiet_serves (s : State) (d : Dom) : s.quiet.serves d = s.serves d := by
  unfold State.serves; rw [State.quiet_up]; rfl

theorem ranOn_up {d : Dom} {f : State → State} {s : State} (h : s.serves d = true) : ranOn d f s = .next (f s.quiet) := by
  change ran _ s = _
  rw [ran_eq, if_pos (by rw [State.quiet_serves]; exact h)]

theorem ranOn_down {d : Dom} {f : State → State} {s : State} (h : s.serves d = false) :
    ranOn d f s = .next (s.quiet.emit (.code .busy)) := by
  change ran _ s = _
  rw [ran_eq, if_neg (by rw [State.quiet_serves, h]; exact Bool.false_ne_true)]

theorem ranOn_next {d : Dom} {f : State → State} {s t : State} (h : ranOn d f s = .next t) :
    s.serves d = true ∧ t = f s.quiet ∨ s.serves d = false ∧ t = s.quiet.emit (.code .busy) := by
  cases hs : s.serves d with
  | true => rw [ranOn_up hs] at h; cases h; exact .inl ⟨rfl, rfl⟩
  | false => rw [ranOn_down hs] at h; cases h; exact .inr ⟨rfl, rfl⟩


/-! ### The code of R14 -/

/-- No code, exactly if no refusal applies. -/
theorem lowest_eq_none {l : List (Bool × Code)} : lowest l = none ↔ ∀ x ∈ l, x.1 = false := by
  induction l with
  | nil => simp [lowest]
  | cons a l ih =>
    obtain ⟨b, c⟩ := a
    unfold lowest
    cases h : lowest l with
    | none => cases b <;> simp_all
    | some d =>
      have : ¬∀ x ∈ l, x.1 = false := fun hh => by rw [ih.2 hh] at h; cases h
      simp only [List.mem_cons, forall_eq_or_imp, this, and_false, iff_false]
      split <;> simp

/-- A refusal that applies makes some code. -/
theorem lowest_isSome {l : List (Bool × Code)} {c : Code} (h : (true, c) ∈ l) : ∃ d, lowest l = some d := by
  cases hl : lowest l with
  | some d => exact ⟨d, rfl⟩
  | none => exact absurd (lowest_eq_none.1 hl _ h) (by simp)

/-- The code is that of a refusal that applies, and no applying refusal has a lower one. -/
theorem lowest_least {l : List (Bool × Code)} {d : Code} (h : lowest l = some d) :
    (true, d) ∈ l ∧ ∀ c, (true, c) ∈ l → d.num ≤ c.num := by
  induction l generalizing d with
  | nil => cases h
  | cons a l ih =>
    obtain ⟨b, k⟩ := a
    unfold lowest at h
    cases hl : lowest l with
    | none =>
      rw [hl] at h
      have hn := lowest_eq_none.1 hl
      cases b <;> simp only [Bool.false_eq_true, if_false, if_true, reduceCtorEq, Option.some.injEq] at h
      subst h
      refine ⟨List.mem_cons_self, fun c hc => ?_⟩
      rcases List.mem_cons.1 hc with hc | hc
      · cases hc; exact Nat.le_refl _
      · exact absurd (hn _ hc) (by simp)
    | some e =>
      rw [hl] at h
      obtain ⟨hm, hle⟩ := ih hl
      simp only [Bool.and_eq_true, decide_eq_true_eq] at h
      split at h <;> cases h
      · rename_i hb
        obtain ⟨rfl, hlt⟩ := hb
        refine ⟨List.mem_cons_self, fun c hc => ?_⟩
        rcases List.mem_cons.1 hc with hc | hc
        · cases hc; exact Nat.le_refl _
        · exact (Nat.le_of_lt hlt).trans (hle c hc)
      · rename_i hb
        refine ⟨List.mem_cons_of_mem _ hm, fun c hc => ?_⟩
        rcases List.mem_cons.1 hc with hc | hc
        · cases hc
          exact Nat.le_of_not_lt fun hlt => hb ⟨rfl, hlt⟩
        · exact hle c hc

/-! ### Stored registers -/

theorem lookup_cons_if (i j : Nat) (w : Word) (m : Sparse Word) :
    List.lookup i ((j, w) :: m) = if i = j then some w else m.lookup i := by
  rw [List.lookup_cons]
  by_cases h : i = j
  · rw [if_pos h, show (i == j) = true from beq_iff_eq.2 h]
  · rw [if_neg h, show (i == j) = false from beq_eq_false_iff_ne.2 h]

/-- A put value is looked up, on any list of entries. -/
theorem lookup_put {d v : Word} {k : Nat} {m : Sparse Word} (hv : v ≠ d) (i : Nat) :
    (Sparse.put d m k v).lookup i = if i = k then some v else m.lookup i := by
  induction m with
  | nil => simp only [Sparse.put, hv, if_false, lookup_cons_if]
  | cons e m ih =>
    obtain ⟨j, w⟩ := e
    unfold Sparse.put
    simp only [hv, if_false]
    split
    · rename_i hj; subst hj
      rw [lookup_cons_if, lookup_cons_if]
      split <;> rfl
    · split
      · rw [lookup_cons_if]
      · rw [lookup_cons_if, lookup_cons_if, ih]
        by_cases hi : i = j
        · rw [if_pos hi, if_pos hi, if_neg (by omega)]
        · rw [if_neg hi, if_neg hi]

theorem lookup_filter_ne {k : Nat} {m : Sparse Word} (i : Nat) :
    (m.filter fun e => e.1 != k : Sparse Word).lookup i = if i = k then none else m.lookup i := by
  induction m with
  | nil => exact (ite_self _).symm
  | cons e m ih =>
    obtain ⟨j, w⟩ := e
    rw [List.filter_cons, lookup_cons_if]
    by_cases hj : j = k
    · rw [if_neg (by simp [hj]), ih]
      by_cases hi : i = j
      · rw [if_pos (by omega), if_pos (by omega)]
      · rw [if_neg hi]
    · rw [if_pos (by simp [hj]), lookup_cons_if, ih]
      by_cases hi : i = j
      · rw [if_pos hi, if_neg (by omega), if_pos hi]
      · rw [if_neg hi, if_neg hi]

/-- A register put reads as what was put. -/
theorem State.setReg_reg (s : State) (r : Reg) (v : Word) (b k : Nat) : (s.setReg r v b k).reg r b k = v := by
  unfold State.reg State.setReg
  by_cases h : v = r.row.reset
  · simp only [h, if_true, lookup_filter_ne]
  · simp only [h, if_false, lookup_put h, if_true]

/-- A register at another address reads as before. -/
theorem State.setReg_reg_ne (s : State) (r q : Reg) (v : Word) (b k c j : Nat) (h : q.row.addr c j ≠ r.row.addr b k) :
    (s.setReg r v b k).reg q c j = s.reg q c j := by
  unfold State.reg State.setReg
  by_cases hv : v = r.row.reset
  · simp only [hv, if_true, lookup_filter_ne, h, if_false]
  · simp only [hv, if_false, lookup_put hv, h]

/-! ### Memories in canonical form -/

theorem State.psramPut_memWf {s : State} {a : Nat} {bs : Bytes} (h : s.memWf) : (s.psramPut a bs).memWf :=
  ⟨Sparse.wf_putBytes h.1, h.2⟩

theorem State.csramPut_memWf {s : State} {a : Nat} {bs : Bytes} (h : s.memWf) : (s.csramPut a bs).memWf :=
  ⟨h.1, Sparse.wf_putBytes h.2.1, h.2.2⟩

/-- A byte of private SRAM after a write: a byte written, or what it read before. -/
theorem State.psramPut_get {s : State} {a i : Nat} {bs : Bytes} (h : s.memWf) : Sparse.get 0 (s.psramPut a bs).psram i =
    if a ≤ i ∧ i < a + bs.length then bs.getD (i - a) 0 else Sparse.get 0 s.psram i :=
  Sparse.get_putBytes h.1

/-- A byte of control SRAM after a write: a byte written, or what it read before. -/
theorem State.csramPut_get {s : State} {a i : Nat} {bs : Bytes} (h : s.memWf) : Sparse.get 0 (s.csramPut a bs).csram i =
    if a ≤ i ∧ i < a + bs.length then bs.getD (i - a) 0 else Sparse.get 0 s.csram i :=
  Sparse.get_putBytes h.2.1

end Sys2Proof.Machine
end

