-- ==== Sys2Proof/Laws/Bytes.lean ====
section
/-!
SUPPORT. Laws/Bytes.lean: the lengths of byte strings that the block computes, and reading back what was written.
-/
namespace Sys2Proof.Machine
/-- Bytes written are the bytes read back. -/
theorem Sparse.bytes_putBytes {d : Byte} {bs : Bytes} {a : Nat} {m : Sparse Byte} (h : Sparse.wf d m = true) :
    Sparse.bytes d (Sparse.putBytes d m a bs) a bs.length = bs := by
  apply List.ext_getElem (by simp)
  intro i h1 h2
  simp only [Sparse.bytes, List.getElem_map, List.getElem_range, Sparse.get_putBytes h]
  rw [if_pos (by omega), Nat.add_sub_cancel_left, List.getD_eq_getElem?_getD, List.getElem?_eq_getElem h2]
  rfl

@[simp] theorem length_leBytes (n v : Nat) : (leBytes n v).length = n := by
  induction n generalizing v with
  | zero => rfl
  | succ n ih => simp [leBytes, ih]

theorem length_keccakRound (a : Sponge) (rc : Lane) : (keccakRound a rc).length = 25 := by
  have h : (keccakChi (keccakRhoPi (keccakTheta a))).length = 25 := by simp [keccakChi, Sponge.ofFn]
  unfold keccakRound
  split
  · rename_i h0; rw [h0] at h; exact absurd h (by decide)
  · rename_i h0; rw [h0] at h; simpa using h

/-- KECCAK-f answers 25 lanes. -/
@[simp] theorem length_keccakF (a : Sponge) : (keccakF a).length = 25 := by
  have h : ∀ (l : List Lane) (b : Sponge), b.length = 25 ∨ l ≠ [] → (l.foldl keccakRound b).length = 25 := by
    intro l
    induction l with
    | nil => intro b hb; simpa using hb
    | cons c l ih => intro b _; exact ih _ (.inl (length_keccakRound b c))
  exact h _ _ (.inr (by decide))

/-- One block of output is as long as asked for. -/
theorem Sponge.length_out {a : Sponge} {n : Nat} (h : a.length = 25) (hn : n ≤ 200) : (a.out n).length = n := by
  have h8 : ∀ b : Sponge, (b.flatMap fun l => leBytes 8 l.toNat).length = 8 * b.length := by
    intro b; induction b with
    | nil => rfl
    | cons c b ih => rw [List.flatMap_cons, List.length_append, ih, length_leBytes, List.length_cons]; omega
  rw [Sponge.out, List.length_take, h8, h]
  omega

/-- KMAC256 answers as many bytes as asked for, up to one block of output. -/
theorem length_kmac256 (key m cust : Bytes) {n : Nat} (hn : n ≤ 136) : (kmac256 key m n cust).length = n := by
  unfold kmac256 cshake256 Absorb.finish
  rw [squeeze, if_pos hn]
  exact Sponge.length_out (length_keccakF _) (by omega)

/-! ### SHA-384 -/

theorem length_sha512Block {h : List (BitVec 64)} (blk : Bytes) (hh : h.length = 8) : (sha512Block h blk).length = 8 := by
  have hr (v : List (BitVec 64)) (k : BitVec 64) (hv : v.length = 8) : (sha512Round v k).length = 8 := by
    unfold sha512Round; split <;> simp_all
  have hf (l : List (BitVec 64)) : ∀ v : List (BitVec 64), v.length = 8 → (l.foldl sha512Round v).length = 8 := by
    induction l with
    | nil => exact fun _ hv => hv
    | cons k l ih => exact fun v hv => ih _ (hr v k hv)
  rw [sha512Block, List.length_zipWith, hh, hf _ h hh]
  rfl

theorem length_sha512Blocks (n : Nat) {h : List (BitVec 64)} {bs : Bytes} (hh : h.length = 8) :
    (sha512Blocks n h bs).1.length = 8 := by
  induction n generalizing h bs with
  | zero => exact hh
  | succ n ih =>
    rw [sha512Blocks]
    split
    · exact hh
    · exact ih (length_sha512Block _ hh)

@[simp] theorem length_sha384 (m : Bytes) : (sha384 m).length = 48 := by
  have h (l : List (BitVec 64)) : (l.flatMap fun w => beBytes 8 w.toNat).length = 8 * l.length := by
    induction l with
    | nil => rfl
    | cons w l ih => rw [List.flatMap_cons, List.length_append, ih, beBytes, List.length_reverse, length_leBytes,
        List.length_cons]; omega
  rw [sha384, sha512From, List.length_take, h, length_sha512Blocks _ rfl]
  rfl

@[simp] theorem length_hmac384 (key m : Bytes) : (hmac384 key m).length = 48 := length_sha384 _

/-! ### The records of sessions (R405) -/

/-- The number that `n` bytes of `v` spell. -/
theorem ofLE_leBytes (n v : Nat) : ofLE (leBytes n v) = v % 256 ^ n := by
  induction n generalizing v with
  | zero => simp [leBytes, ofLE, Nat.mod_one]
  | succ n ih =>
    rw [leBytes, ofLE, ih, Nat.pow_succ, Nat.mul_comm (256 ^ n), Nat.mod_mul]
    simp

@[simp] theorem length_xorBytes (a k : Bytes) : (xorBytes a k).length = a.length := by
  induction a generalizing k with
  | nil => rfl
  | cons x a ih => simp [xorBytes, ih]

/-- A key stream added twice falls away. -/
theorem xorBytes_xorBytes (a k : Bytes) : xorBytes (xorBytes a k) k = a := by
  induction a generalizing k with
  | nil => rfl
  | cons x a ih => simp [xorBytes, ih]

theorem length_gcmCounter (ks : List Bytes) (iv : Bytes) {n c : Nat} {bs : Bytes} (h : bs.length ≤ 16 * n) :
    (gcmCounter ks iv n c bs).length = bs.length := by
  induction n generalizing c bs with
  | zero => simp only [gcmCounter, List.length_nil]; omega
  | succ n ih =>
    rw [gcmCounter, List.length_append, length_xorBytes, ih (by simp; omega)]
    simp; omega

/-- Counter mode undoes itself. -/
theorem gcmCounter_gcmCounter (ks : List Bytes) (iv : Bytes) {n c : Nat} {bs : Bytes} (h : bs.length ≤ 16 * n) :
    gcmCounter ks iv n c (gcmCounter ks iv n c bs) = bs := by
  induction n generalizing c bs with
  | zero => simp only [gcmCounter]; exact (List.length_eq_zero_iff.mp (by omega)).symm
  | succ n ih =>
    have hd : (bs.drop 16).length ≤ 16 * n := by simp; omega
    have hl := length_gcmCounter ks iv (c := c + 1) hd
    generalize hx : xorBytes (bs.take 16) (aesBlock ks (iv ++ beBytes 4 c)) = x
    generalize hy : gcmCounter ks iv n (c + 1) (bs.drop 16) = y at hl
    have hxl : x.length = min 16 bs.length := by rw [← hx]; simp
    have hs : (x ++ y).take 16 = x ∧ (x ++ y).drop 16 = y := by
      by_cases h16 : 16 ≤ bs.length
      · have : x.length = 16 := by omega
        exact ⟨List.take_left' this, List.drop_left' this⟩
      · have hy0 : y = [] := List.length_eq_zero_iff.mp (by rw [hl]; simp; omega)
        subst hy0
        have : x.length ≤ 16 := by omega
        simp [List.take_of_length_le this, List.drop_eq_nil_of_le this]
    rw [gcmCounter, gcmCounter, hx, hy, hs.1, hs.2, ← hx, ← hy, xorBytes_xorBytes, ih hd, List.take_append_drop]

theorem le_blocks16 (bs : Bytes) : bs.length ≤ 16 * blocks16 bs := by unfold blocks16; omega

@[simp] theorem length_gcmTag (ks : List Bytes) (iv aad c : Bytes) : (gcmTag ks iv aad c).length = 16 := by
  simp [gcmTag, beBytes]

/-- A string sealed opens under the same key, nonce and associated data. -/
theorem gcmOpen_gcmSeal (key iv aad text : Bytes) :
    gcmOpen key iv aad (gcmSeal key iv aad text).1 (gcmSeal key iv aad text).2 = some text := by
  have hl := length_gcmCounter (aesRoundKeys key) iv (c := 2) (le_blocks16 text)
  simp only [gcmOpen, gcmSeal, if_true]
  rw [show blocks16 (gcmCounter (aesRoundKeys key) iv (blocks16 text) 2 text) = blocks16 text by rw [blocks16, hl]; rfl,
    gcmCounter_gcmCounter _ _ (le_blocks16 text)]

/-- What a record opens to, where its tag is right. -/
theorem openRecord_append {key iv c tag text : Bytes} {id : Word} {n : Nat} (ht : tag.length = 16) (hc : 2 ≤ c.length)
    (ho : gcmOpen key (recordNonce iv n) (recordHead id (c.length + 16)) c tag = some text)
    (hl : msgNum text 0 2 + 2 ≤ text.length) :
    openRecord key iv id n (recordHead id (c.length + 16) ++ c ++ tag) = some (slice text 2 (msgNum text 0 2)) := by
  have hh : (recordHead id (c.length + 16)).length = 6 := by simp [recordHead, wordBytes]
  have hb : (c ++ tag).length = c.length + 16 := by simp [ht]
  unfold openRecord
  rw [List.append_assoc, List.take_left' hh, List.drop_left' hh]
  simp only [hb, Nat.add_sub_cancel, List.take_left' rfl, List.drop_left' rfl, ho, Option.bind_some, if_pos hl]
  rw [if_neg (by simp; omega)]

/-- A record sealed for a message opens to it. -/
theorem openRecord_sealRecord (key iv : Bytes) (id : Word) (n : Nat) {m : Bytes} (h : m.length < 65536) :
    openRecord key iv id n (sealRecord key iv id n m) = some m := by
  have hl : (leBytes 2 m.length ++ m).length = m.length + 2 := by simp; omega
  have hn : msgNum (leBytes 2 m.length ++ m) 0 2 = m.length := by
    rw [msgNum, slice, List.drop_zero, List.take_left' (length_leBytes _ _), ofLE_leBytes]
    exact Nat.mod_eq_of_lt h
  have hm : slice (leBytes 2 m.length ++ m) 2 m.length = m := by
    rw [slice, List.drop_left' (length_leBytes _ _), List.take_length]
  have hc : (gcmSeal key (recordNonce iv n) (recordHead id (m.length + 2 + 16)) (leBytes 2 m.length ++ m)).1.length =
      m.length + 2 := (length_gcmCounter _ _ (le_blocks16 _)).trans hl
  have ho := openRecord_append (id := id) (length_gcmTag _ _ _ _) (by rw [hc]; omega)
    (by rw [hc]; exact gcmOpen_gcmSeal key (recordNonce iv n) (recordHead id (m.length + 2 + 16)) (leBytes 2 m.length ++ m))
    (by rw [hn, hl])
  rw [hc, hn, hm] at ho
  rw [sealRecord]
  simpa only [hl, gcmSeal] using ho

end Sys2Proof.Machine
end

