-- ==== Sys2Proof/Machine/Pins.lean ====
section
/-!
DEFINITION. Machine/Pins.lean: the levels of the block's outputs between two commands, as functions of the state (R30, R40,
R45, R58, R74, R111, R532). What an output does while a command is carried out stands in `outs`.
-/
namespace Sys2Proof.Machine

/-- A level of an output: driven, or high impedance. -/
inductive Level where
  | low | high | highZ
  deriving DecidableEq, Repr

/-- The level of a driven output. -/
def Level.of (b : Bool) : Level := if b then .high else .low

/-- The clock outputs CLK_A_OUT to CLK_D_OUT run: from PLL lock on (R30). -/
def State.clocksRun (s : State) : Bool := s.crs.pllLock

/-- ICP_REQ_READY (R34): the front end is up and has room for 18 further beats.
Marks: log 103 (DESIGN CHOICE). -/
def State.icpReady (s : State) : Bool := s.up .d1 && decide (s.icp.length + 18 ≤ Config.icpDepth)

/-- The fence gate of CEn (R532): high in the first d cycles of each frame of 16. -/
def State.fenceGate (s : State) : Bool := decide (s.fnc.cycles % 16 < s.fnc.d)

/-- SDn (R58): high while host-die domain `n` is held in reset. -/
def State.sdOut (s : State) (n : Nat) : Bool := !s.crs.sd.getLsbD n

/-- CEn (R58, R532): the clock enable of a released domain, under the fence gate where the locked FNC_THR_MASK names it. -/
def State.ceOut (s : State) (n : Nat) : Bool :=
  s.crs.sd.getLsbD n && (!(s.fnc.locked && bit (s.reg .fncThrMask) n) || s.fenceGate)

/-- The levels of the outputs of R30's table that are no beat of a channel: a channel's valid and credit outputs are low
between two commands. -/
structure Pins where
  clkOut : Bool
  icpUp : Level
  icpReqReady : Level
  icpRspValid : Level
  mpUp : Level
  mpReqValid : Level
  mpWdValid : Level
  tapUp : Level
  tapCredit : Level
  tapSfault : Level
  wcpUp : Level
  wcpTxValid : Level
  wcpRxCredit : Level
  sd : List Level
  ce : List Level
  padHold : Level
  obsEn : Level
  tamperAlarm : Level
  snsReqValid : Level
  avsClk : Level
  avsMdata : Level
  intHost : List Level
  tdo : Level
  astReqValid : Level
  drnReqValid : Level
  nvmCsN : Level
  nvmRstN : Level
  nvmDq : Level
  deriving DecidableEq, Repr

/-- The outputs between two commands (R30, R111). -/
def State.pins (s : State) : Pins :=
  { clkOut := s.clocksRun
    icpUp := .of (s.up .d1)
    icpReqReady := .of s.icpReady
    icpRspValid := .low
    mpUp := .of (s.up .d4)
    mpReqValid := .low
    mpWdValid := .low
    tapUp := .of s.sme.tapUp
    tapCredit := .low
    tapSfault := .low
    wcpUp := .of s.wcpUp
    wcpTxValid := .low
    wcpRxCredit := .low
    sd := (List.range 24).map fun n => .of (s.sdOut n)
    ce := (List.range 24).map fun n => .of (s.ceOut n)
    padHold := .of (!s.crs.padReleased)
    obsEn := .of s.lcs.debugOpen
    tamperAlarm := .of s.peat.latch
    snsReqValid := .low
    avsClk := .high
    avsMdata := .high
    intHost := (List.range 4).map fun k => .of (s.intHost.getLsbD k)
    tdo := .highZ
    astReqValid := .low
    drnReqValid := .low
    nvmCsN := .high
    nvmRstN := .of (s.up .d1)
    nvmDq := .highZ }

end Sys2Proof.Machine
end

