-- ==== Sys2Proof/WellFormed.lean ====
section
/-!
DEFINITION. WellFormed.lean: the commands that the ports and the registers can carry. The types of the operands hold every
width that the spec fixes; what is left are lengths of byte strings and the shape of lists. The meanings take any command,
well-formed or not.
-/
namespace Sys2Proof

/-- The requester is a control core. -/
def Req.isCtl (q : Req) : Bool :=
  match q with
  | .ctl _ => true
  | _ => false

/-- A frame's bytes between K27.7 and K29.7: a 16-byte header, at most 4,096 bytes and a CRC of 4 bytes (R496). -/
def frameFits (frame : Bytes) : Bool := decide (frame.length ≤ 4116)

/-- A request of SPDM as it arrives: its header of 4 bytes, and at most 8,192 bytes (R400); in a session, as a record, 24 more:
the session's ID, two lengths and the tag.
Marks: log 11 (PRESUMED). -/
def spdmFits (ss : Option Word) (r : Bytes) : Bool :=
  let extra := if ss.isSome then 24 else 0
  decide (4 + extra ≤ r.length) && decide (r.length ≤ 8192 + extra)

/-- A command that the ports and the registers can carry: eight readings to a SELECT set (R108), rows of the OTP array
(R117), byte strings of the lengths that SPDM requests (R400) and the frames (R496) have, 32 bits to a write but through the
security-gated window (R6, R548), and at least a header beat to a WCP message (R57). -/
def Instr.wf (i : Instr) : Bool :=
  match i with
  | .registerWrite q a size _ =>
    (decide (a.toNat < 2 ^ 24) || q.isCtl && decide (0xC000000 ≤ a.toNat)) &&
      (size == 2 || q == .sec && decide (0x800000 ≤ a.toNat))
  | .icpRequest _ _ _ _ _ => true
  | .icpResponse => true
  | .mpReadData _ _ _ _ => true
  | .mpWriteAck _ _ => true
  | .tapBeat _ _ _ _ _ _ _ => true
  | .beatIntake _ => true
  | .leafDone _ _ => true
  | .combineAbsorb _ _ => true
  | .streamResult _ _ => true
  | .smeEventSend => true
  | .extensionApply _ => true
  | .smeOpen _ _ => true
  | .smeAbort _ _ => true
  | .smeStatus _ _ _ => true
  | .expWrite _ _ _ => true
  | .expClear _ _ => true
  | .expRead _ _ _ => true
  | .mrExtend _ _ => true
  | .mrAssign _ _ => true
  | .mrRead _ _ _ => true
  | .smePurge _ _ => true
  | .purgeResume => true
  | .smeCommit _ => true
  | .resPop _ => true
  | .dgeAcquireReq _ _ => true
  | .dgeAcquireWithdraw _ _ => true
  | .dgeGrant _ => true
  | .dgeUpdate _ _ _ _ => true
  | .dgeFinal _ _ _ _ => true
  | .dgeAbandon _ _ _ => true
  | .dgeForceAbandon _ => true
  | .dgeBlockDone _ _ => true
  | .cmpCompare _ _ => true
  | .cmpSliceGrant => true
  | .comparisonDone _ _ => true
  | .porNFall => true
  | .porNRise => true
  | .d0Reset => true
  | .pllLock => true
  | .pllLockTimeout => true
  | .strapLatch readings => readings.length == 8
  | .coldNAct => true
  | .warmNAct => true
  | .sourceDeassert _ => true
  | .d4ResetEntry => true
  | .domainRelease => true
  | .hostDomainRelease => true
  | .swWarm _ => true
  | .swCold _ => true
  | .blockCmd _ => true
  | .blockSample _ => true
  | .wdtSecKick _ => true
  | .wdtCtlKick _ _ => true
  | .wdtCtlEnable _ => true
  | .wdtSec => true
  | .wdtCtl => true
  | .go _ => true
  | .holdRelease _ => true
  | .crsCommit _ => true
  | .dimEnter _ _ => true
  | .dimExit _ => true
  | .otpStartupDone drift => drift.all fun e =>
      decide (e.1 < 0x350 ∨ (0x400 ≤ e.1 ∧ e.1 < 0x420)) && (e.2.m1 &&& ~~~e.2.nrm) == 0 && (e.2.nrm &&& ~~~e.2.m0) == 0
  | .otpRead _ => true
  | .otpProgram _ _ => true
  | .otpFinalise _ => true
  | .otpAdvance _ _ => true
  | .otpRedirect _ _ => true
  | .genRootHalf _ _ => true
  | .otpPulseEnd _ _ _ _ => true
  | .lcTransition _ _ => true
  | .lcsPhaseDone _ => true
  | .eraseDone _ => true
  | .openDebug _ => true
  | .jtagInstruction _ => true
  | .tinderBoot _ => true
  | .bootMainStart _ => true
  | .bootLockWrite _ _ => true
  | .tamperInput _ => true
  | .klnTamperClear _ _ => true
  | .formRoot _ => true
  | .klnDerive _ _ => true
  | .sessionOpen _ => true
  | .klnUnwrap _ _ => true
  | .klnUnseal _ _ => true
  | .klnSeal _ _ => true
  | .klnDestroy _ _ => true
  | .destroyPartition _ => true
  | .jobCreate _ => true
  | .jobDestroy _ => true
  | .saltLoad _ => true
  | .klnEventApply => true
  | .kfbLoad _ _ => true
  | .kfbRotate _ => true
  | .kfbZeroise _ => true
  | .kfbRevoke _ => true
  | .kfbBind _ => true
  | .kfbRelease _ => true
  | .kfBeatSend _ => true
  | .arbiterWindow _ => true
  | .eack _ _ => true
  | .emberLate _ => true
  | .emberTimeout _ => true
  | .kfAck _ _ _ => true
  | .kfCntReq _ _ _ => true
  | .kfNextReq _ _ _ => true
  | .kfFault _ _ _ => true
  | .kfbDonePop => true
  | .kfbNextPop => true
  | .cntGrant _ _ => true
  | .cntConfigure _ => true
  | .cntRead _ => true
  | .cntAdvance _ => true
  | .cntRetire _ => true
  | .cntExhPop => true
  | .ecVerify _ _ => true
  | .mldsaVerify _ _ => true
  | .hybVerify _ _ => true
  | .hybSign _ _ _ => true
  | .pkePubkey _ _ _ => true
  | .ecdhKeygen _ _ => true
  | .ecdhDerive _ _ => true
  | .kemKeygen _ _ => true
  | .kemDecaps _ _ => true
  | .kemEncaps _ _ => true
  | .pkeExpand _ => true
  | .pkeGrant => true
  | .pkeOpDone _ => true
  | .pkeAbandon _ => true
  | .platformReport _ _ => true
  | .jobReport _ _ => true
  | .signBind _ _ => true
  | .certRead _ _ => true
  | .attComposite _ _ => true
  | .certBuild => true
  | .reportSample _ => true
  | .attCommit _ => true
  | .handoverSet _ => true
  | .handoverClear _ => true
  | .mainReady _ => true
  | .getVersion ss r => spdmFits ss r
  | .getCapabilities ss r => spdmFits ss r
  | .negotiateAlgorithms ss r => spdmFits ss r
  | .getDigests ss r => spdmFits ss r
  | .getCertificate ss r => spdmFits ss r
  | .challenge ss r => spdmFits ss r
  | .getMeasurements ss r => spdmFits ss r
  | .keyExchange ss r => spdmFits ss r
  | .finish ss r => spdmFits ss r
  | .endSession ss r => spdmFits ss r
  | .pqStart ss r => spdmFits ss r
  | .pqAccept ss r => spdmFits ss r
  | .pqLegTimeout => true
  | .pqCert ss r => spdmFits ss r
  | .vdmReport ss r => spdmFits ss r
  | .getPage ss r => spdmFits ss r
  | .keyMsg ss r _ => spdmFits ss r
  | .supplyCheck ss r => spdmFits ss r
  | .wcpRxMessage beats => !beats.isEmpty && decide (beats.length ≤ 257)
  | .reportReq => true
  | .reportPart => true
  | .versionReq => true
  | .versionInfo => true
  | .wcpCancel => true
  | .collectionTimeout => true
  | .prtCommit _ _ => true
  | .prtRelease _ _ => true
  | .prtQuarantine _ _ => true
  | .scrubRegion _ _ => true
  | .scrubDone _ _ => true
  | .jobRecord _ _ => true
  | .jobForget _ _ => true
  | .gateEnter _ _ => true
  | .gateExit _ => true
  | .scrubOrphans _ _ => true
  | .gateYield _ => true
  | .gateBudgetExpire => true
  | .drainToken _ _ _ => true
  | .astResponse _ _ => true
  | .astTimeout _ => true
  | .accessFault _ _ _ _ _ _ => true
  | .secAccessFault _ _ _ _ _ => true
  | .writebackUncorr => true
  | .mbxSend _ _ _ _ => true
  | .mbxPop _ _ _ => true
  | .dbSet _ _ _ _ => true
  | .mbxHostReset _ => true
  | .mbxRingdb _ => true
  | .capAccept => true
  | .ringCreate _ => true
  | .ringDestroy => true
  | .hostReport => true
  | .ringNop _ => true
  | .jobStep _ _ => true
  | .ringStreamOpen _ => true
  | .ringStreamResult _ => true
  | .ringCopy _ => true
  | .driverGone _ => true
  | .trngRead _ => true
  | .trngHealthFail => true
  | .trngResume _ => true
  | .linkUp => true
  | .linkDown => true
  | .frameDrop _ => true
  | .repeatFrame _ => true
  | .cwyHello frame => frameFits frame
  | .cwyManifest frame => frameFits frame
  | .cwyChunk frame => frameFits frame
  | .cwyActivate frame => frameFits frame
  | .cwyNextBoot frame => frameFits frame
  | .commitAdvance frame _ => frameFits frame
  | .statusQuery frame => frameFits frame
  | .abortFrame frame => frameFits frame
  | .sessionIdleTimeout => true
  | .cwyCopy _ => true
  | .nvmErase _ => true
  | .nvmProgram _ => true
  | .nvmVerify _ => true
  | .cwyEngineDone _ => true
  | .snsRequest => true
  | .snsResponse _ _ => true
  | .snsTimeout _ => true
  | .scanComplete => true
  | .fenceTripHoldEnd => true
  | .avsResponse _ _ _ => true
  | .avsReadback _ _ => true
  | .avsSettleTimeout => true
  | .fncCommit _ => true
  | .fncHealthPop => true
  | .otpCheckDone _ _ => true
  | .debugGateOpen => true
  | .wcpCredit => true
  | .wcpMessageSent => true
  | .causewayFrameSent => true
  | .trngRefill => true
  | .interruptClaim _ => true
  | .upstreamDrop _ _ _ => true
  | .trstNAssert => true

end Sys2Proof
end

