-- ==== Sys2Proof/Tests/Slice0.lean ====
section
/-!
SUPPORT. Tests/Slice0.lean: tests of single steps on small states, an ill-formed command for each check of WellFormed, and for
every obligation with hypotheses states that meet them, clause by clause. Expected values come from the spec's tables and
examples, or from the standards it names.
-/
namespace Sys2Proof.Tests

/-! One theorem after another: many kernel evaluations at once would hold a stack each. -/
set_option Elab.async false

open Sys2Proof Sys2Proof.Machine

/-! ### States -/

/-- Every domain released, no episode, GO set, the start-up read done, the boot at stage 5, life cycle FIELD, both links up. -/
def ready : State :=
  { State.reset with
    crs := { State.reset.crs with released := 0x3F, ep := none, go := true }
    otp := { startupDone := true }
    lcs := { state := .field }
    boot := { ran := true, stage := 5 }
    kfb := { up := true }
    sme := { tapUp := true } }

/-- `ready` with stored registers. -/
def withRegs (l : List (Reg × Nat × Nat × Word)) : State :=
  l.foldl (fun s e => s.setReg e.1 e.2.2.2 e.2.1 e.2.2.1) ready

/-! ### StepRunsTheFrontCommand to CrsCommandsAndDimTakeEffect -/

theorem wit_watchdogs :
    State.reset.pending = [] ∧ ready.serves .d2 = true ∧ ready.serves .d5 = true ∧ ready.gateCore .sec = false ∧
      ((Req.sec == .sec || ready.cluster .sec) = true) ∧ ready.gateCore (.ctl 3) = false ∧
      ((Req.ctl 3 == .sec || ready.cluster (.ctl 3)) = true) := by decide

theorem wit_held_units :
    State.reset.serves .d2 = false ∧ State.reset.serves .d4 = false ∧ State.reset.serves .d6 = false ∧
      ({ ready with crs := { ready.crs with released := 0 } } : State).serves .d1 = false := by decide

/-- An episode in which WARM_N is asserted. -/
def warm : State := { ready with crs := { ready.crs with ep := some (Episode.after none .warmN 3 [.d2, .d3, .d4, .d5, .d6]) } }

theorem wit_reset_sources :
    (ready.crs.pllLock = true ∧ ready.asserts .warmN = false ∧ ready.asserts .coldN = false ∧ ready.up .d2 = true) ∧
      (let s := withRegs [(.crsWdtCtlCtrl, 0, 0, 1)]
      s.up .d5 = true ∧ bit (s.reg .crsWdtCtlCtrl) 0 = true ∧ s.crs.dim = false) ∧
      warm.asserts .warmN = true ∧
      (let s : State := { ready with crs := { ready.crs with ep := warm.crs.ep.map fun e => { e with retire := true } } }
      (s.crs.ep.any fun e => e.retire) = true) ∧
      (ready.crs.go = true ∧ ready.crs.strap.fault = false ∧ (ready.crs.ep.any fun e => e.sdFrom.isSome) = false ∧
        ready.crs.enable.getLsbD 0 = true ∧ ready.crs.sd.getLsbD 0 = false) ∧
      (let s : State := { ready with crs := { ready.crs with sd := 0x7FFFFF } }
      s.crs.enable.getLsbD 23 = true ∧ s.crs.sd.getLsbD 23 = false ∧ ∀ m < 23, s.crs.sd.getLsbD m = true) ∧
      ({ ready with fncCore := { holding := true } } : State).fncCore.holding = true := by decide

theorem wit_software_reset :
    ready.serves .d1 = true ∧ BitVec.extractLsb' 24 8 (0xC4000001#32) = 0xC4#8 ∧
      BitVec.extractLsb' 24 8 (0xC5000001#32) ≠ 0xC4#8 ∧ Req.ctl 0 ≠ .sec := by decide

theorem wit_power_on :
    State.reset.crs.porLow = false ∧
      (let s : State := { ready with crs := { ready.crs with porLow := true, locking := true, strapped := false, strapSets := 3 } }
      s.crs.porLow = true ∧ s.crs.locking = true ∧ s.crs.d0Por = false ∧ s.crs.pllLock = true ∧ s.crs.strapped = false ∧
        3 ≤ s.crs.strapSets) ∧
      (let l : List (BitVec 4) := [1, 1, 1, 1, 1, 1, 1, 2]
      l.length = 8 ∧ ∃ k ∈ l, k ≠ l.headD 0) := by decide

theorem wit_release_order :
    ({ State.reset with otp := { startupDone := true } } : State).nextRelease = some .d2 ∧ ready.nextRelease = none := by decide

theorem wit_crs_commands :
    (ready.serves .d1 = true ∧ bit (1#32) 0 = true ∧ bit (2#32) 1 = true ∧ bit (1#32) 1 = false ∧ ready.crs.blockPending = none ∧
        keyed 0xC4000001#32 = true ∧ ready.crs.dim = false) ∧
      (ready.up .d3 && ready.up .d5 && ready.idle .d3 true && ready.idle .d5 true) = true ∧
      (ready.up .d3 && ready.up .d5 && ready.idle .d3 false && ready.idle .d5 false) = false ∧
      ({ ready with crs := { ready.crs with dim := true } } : State).crs.dim = true := by decide

/-- `ready` with every host-die domain released. -/
def chained : State := { ready with crs := { ready.crs with sd := 0xFFFFFF } }

theorem wit_crs_commit : chained.nextHost = none ∧ chained.regs = [] ∧
    (∀ g ∈ chained.stagedGaps, 64 ≤ g.toNat ∧ g.toNat ≤ 4096) := by
  refine ⟨by decide, rfl, fun g hg => ?_⟩
  have h : chained.stagedGaps = List.replicate 29 0x100 := by rfl
  rw [h, List.mem_replicate] at hg
  rw [hg.2]
  decide

theorem wit_crs_commit_refused : (chained.setReg .crsGap 0x1001 0 28).nextHost = none ∧
    ∃ g ∈ (chained.setReg .crsGap 0x1001 0 28).stagedGaps, g.toNat < 64 ∨ 4096 < g.toNat :=
  ⟨by decide, 0x1001, by
    have h : (chained.setReg .crsGap 0x1001 0 28).stagedGaps = List.replicate 28 0x100 ++ [0x1001] := by rfl
    rw [h]; decide, by decide⟩

/-- `ready` with a BLOCK command pending. -/
def blocked (d : Dom) : State := { ready with crs := { ready.crs with blockPending := some d } }

theorem wit_block_sample :
    ((blocked .d3).crs.blockPending = some .d3 ∧ (blocked .d3).crs.blockOn = false ∧ (blocked .d3).up .d3 = true ∧
        (blocked .d3).idle .d3 false = true) ∧
      (blocked .d5).crs.blockPending = some .d5 ∧ ((blocked .d5).up .d5 && (blocked .d5).idle .d5 false) = false := by decide

/-! ### OtpCommandsCompleteOrAreRefused to KilnRecordsAndSaltsAreMade -/

/-- `ready` in life-cycle state `x`, with stored registers. -/
def living (x : LcState) (l : List (Reg × Nat × Nat × Word)) : State := { withRegs l with lcs := { state := x } }

/-- STOCK with OTP_ROW at CONFIG row 0x100 and one bit to program. -/
def stock : State := living .stock [(.otpRow, 0, 0, 0x100), (.otpWdata0, 0, 0, 1)]

theorem wit_otp_commands :
    (stock.serves .d1 = true ∧ stock.otpBusy = false ∧ rsvSet .otpCmd 1 = false ∧ stock.lcs.state ≠ .ash ∧
        stock.lcs.state ≠ .invalid ∧ stock.otp.readForbidden stock.otpRowOp = false ∧ stock.otpRef ≠ 3) ∧
      (early stock.lcs.state = true ∧ programForbidden stock.otpRowOp = false ∧ stock.otp.rowFinal stock.otpRowOp = false ∧
        (stock.otp.sense stock.otpRowOp).nrm &&& ~~~ stock.otpData = 0) ∧
      (stock.otpRowOp < 0x350 ∧ stock.otp.freeSpare = some 0) ∧
      (stock.otpCounter ≤ 4 ∧ stock.otpTarget ≤ 64 * (counterRows stock.otpCounter).length ∧
        counterContiguous ((counterRows stock.otpCounter).map stock.otp.sense) = true) ∧
      early (living .field []).lcs.state = false := by decide

/-- The OTP path at a pulse, at a row's read, and at the checks of FINALISE. -/
def running (p : OtpPhase) (j : OtpJob) : State :=
  { stock with otp := { stock.otp with run := some ⟨j, [⟨0x100, 1, 1⟩], p, 0, false⟩ } }

theorem wit_otp_path :
    (State.reset.up .d1 = true ∧ State.reset.otp.startupDone = false) ∧
      ((finalIndex stock.otpRegion).any fun f => !stock.otp.finalised f) = true ∧
      (∀ n ∈ [0x080, 0x081, 0x082, 0x083, 0x088], rowBlank (stock.otp.sense n) = true) ∧
      (running (.pulse 0 0) .program).otp.run = some ⟨.program, [⟨0x100, 1, 1⟩], .pulse 0 0, 0, false⟩ ∧
      (running .rowCheck .program).otp.run = some ⟨.program, [⟨0x100, 1, 1⟩], .rowCheck, 0, false⟩ ∧
      (running .checks (.finalise 0)).otp.run = some ⟨.finalise 0, [⟨0x100, 1, 1⟩], .checks, 0, false⟩ := by decide

/-- A bit that never reads 1, after one pulse and after four. -/
theorem wit_otp_failed_pulses : ∀ k ∈ [0, 3],
    (running (.pulse 0 k) .program).otp.run = some ⟨.program, [⟨0x100, 1, 1⟩], .pulse 0 k, 0, false⟩ ∧
      Sparse.wf ({} : Row3) (running (.pulse 0 k) .program).otp.cells = true ∧
      ((running (.pulse 0 k) .program).otp.cell 0x100).m1.getLsbD 0 = false := by decide

theorem wit_otp_finalise_refused : ∃ c, lowest ((running .checks (.finalise 0)).otp.finRefusals 0 1500) = some c :=
  lowest_isSome (c := .supplyWindow) (by simp [Otp.finRefusals, vqpsInWindow])

/-- FINALISE of TOKENS, its mandatory rows set, at its checks. -/
def finalising : Otp :=
  { startupDone := true, usable := 8, snap := (List.range 30).map fun i => (0x308 + i, ⟨1, 1, 1⟩)
    run := some ⟨.finalise 4, [], .checks, 0, false⟩ }

theorem wit_otp_finalise : lowest (finalising.finRefusals 4 1800) = none ∧
    (∃ b ∈ (finalising.digestRows 4).map finalising.burnOf, finalising.pulseBits b ≠ 0) ∧ vqpsInWindow 1500 = false :=
  ⟨by decide +kernel, by decide +kernel, by decide⟩

theorem wit_pulses :
    Sparse.wf ({} : Row3) (running (.pulse 0 0) .program).otp.cells = true ∧
      (match exec (.otpPulseEnd true true true 1800) (running (.pulse 0 0) .program) with | .next _ => true | _ => false) = true ∧
      (match exec (.otpCheckDone 1800 1800) (running .rowCheck .program) with | .next _ => true | _ => false) = true := by decide

/-- RAW, with a readable TOKENS region and a token for TEST. -/
def raw : State :=
  { living .raw [(.lcsTarget, 0, 0, 1)] with otp := { startupDone := true, usable := 8, snap := [(0x308, ⟨1, 1, 1⟩)] } }

/-- A transition to `t` in phase `p`. -/
def moving (x t : LcState) (p : LcPhase) : State := { ready with lcs := { state := x, target := t, phase := p } }

theorem wit_transitions :
    (raw.serves .d1 = true ∧ lowest (raw.transitionRefusals 1 1800) = none) ∧
      ((moving .raw .test .destroying).lcs.opening = false ∧ (moving .raw .test .destroying).lcs.phase = .destroying) ∧
      (moving .field .ret .rootAction).lcs.target = .ret ∧ (moving .raw .test .rootAction).lcs.target ≠ .ret ∧
      ({ moving .raw .test .rootAction with trng := { fail := true } } : State).trng.fail = true ∧
      (moving .raw .test .rootAction).trng.fail = false ∧ (moving .raw .test .reading).lcs.phase = .reading ∧
        (moving .raw .test .decoding).lcs.phase = .decoding ∧
      ((moving .field .ret .awaitErase).serves .d1 = true ∧ (moving .field .ret .awaitErase).lcs.state = .field ∧
        rsvSet .lcsCmd 2 = false ∧ (moving .field .ret .awaitErase).otp.run = none ∧
        (moving .field .ret .awaitErase).otp.startupDone = true) := by decide

theorem wit_life_cycle_forward :
    (living .ash []).lcs.state = .ash ∧ (living .invalid []).lcs.state = .invalid ∧
      4 ≤ ({ ready with lcs := { state := .raw, fails := 4 } } : State).lcs.fails ∧
      (ready.lcTarget ≠ 5 ∧ ready.lcTarget ≠ ready.lcs.state.code + 1) := by decide

theorem wit_open_debug :
    ((living .test []).lcs.confClosed = false ∧ (living .test []).lcsBusy = false ∧ (living .ret []).lcs.state = .ret ∧
        rsvSet .lcsCmd 3 = false) ∧
      (ready.lcs.state ≠ .test ∧ ready.lcs.state ≠ .ret) ∧
      ({ ready with lcs := { state := .test, opening := true } } : State).lcs.opening = true := by decide

/-- `ready` with the device root and stored registers. -/
def rooted (l : List (Reg × Nat × Nat × Word)) : State :=
  { withRegs l with kln := { root := .device, rootKey := List.replicate 32 1, formed := true } }

/-- A Kiln command written as `w` in `s` finds nothing in its way. -/
def takes (s : State) (w : Word) : Prop :=
  s.serves .d2 = true ∧ s.klnBusy = false ∧ s.kln.wait = none ∧ s.kln.halted = false ∧ s.klnHeld = false ∧ s.kln.queue = [] ∧
    rsvSet .klnCmd w = false

/-- No event waits in `s`. -/
def begins (s : State) : Prop := s = s.quiet.klnTurn

theorem klnTakes_of {s : State} {w : Word} (h : begins s) (t : takes s w) : s.klnTakes s w :=
  ⟨t.1, t.2.1, t.2.2.1, h, t.2.2.2.1, t.2.2.2.2.1, t.2.2.2.2.2.1, t.2.2.2.2.2.2⟩

/-- DERIVE of a KDK into slot 32 from the root. -/
def childKdk : State := rooted [(.klnOpSlot, 0, 0, 0x20), (.klnOpParent, 0, 0, 0x80000000), (.klnOpAttr, 0, 0, 0x200A)]

theorem wit_derive : takes childKdk 2 ∧ lowest childKdk.deriveRefusals = none ∧ childKdk.fromRoot = true := by
  unfold takes; decide +kernel

/-- A KDK of partition 0 in slot 32, sound, GEN 1; DERIVE of a DMA key from it. -/
def heldSlot (attr : Word) : Slot := { key := 7, attr := attr, crc := slotCrc 0x20 attr 7 }
def childDma : State :=
  { rooted [(.klnOpSlot, 0, 0, 0x21), (.klnOpParent, 0, 0, 0x10020), (.klnOpAttr, 0, 0, 0x1012), (.klnOpCtxlen, 0, 0, 64)] with
    kst := { slots := [(0x20, heldSlot 0x2200B)] } }

theorem wit_derive_from_a_slot : takes childDma 2 ∧ lowest (childDma.readParent .none).deriveRefusals = none ∧
    childDma.fromRoot = false ∧ Sparse.wf ({} : Slot) childDma.kst.slots = true := by
  unfold takes; decide +kernel

/-- A key message of `kind` at 0x1000 with TARGET_SLOT `target`, and KLN_OP_SLOT 0xF. -/
def keyed (kind target : Byte) : State :=
  { rooted [(.klnOpSlot, 0, 0, 0xF), (.klnOpAddr, 0, 0, 0x1000), (.klnOpLen, 0, 0, 224)] with
    psram := [(0x1006, kind), (0x101C, target)] }

theorem wit_kiln_own_slots :
    (takes (keyed 1 15) 3 ∧ (keyed 1 15).rootless = false ∧ (keyed 1 15).up .d4 = true ∧
        (keyed 1 15).klnSlot.toNat < 16) ∧
      (psramRange (keyed 1 15).klnAddr (keyed 1 15).klnLen = true ∧ (keyed 1 15).lcs.state = .field) ∧
      ((keyed 1 15).klnMsg.kind ∈ [1, 2, 4] ∧ (keyed 1 15).klnMsg.target < 16) ∧
      ((keyed 3 0).klnMsg.kind = 3 ∧ (keyed 3 0).klnSlot.toNat < 16) := by
  unfold takes; decide +kernel

/-- SESSION_OPEN into slot 32, both shared secrets there. -/
def opening : State :=
  { rooted [(.klnOpSlot, 0, 0, 0x20), (.klnOpSession, 0, 0, 5)] with
    pke := { ssEcdh := some (List.replicate 32 1), ssKem := some (List.replicate 32 2) } }

/-- Session 5 in slot 32; SEAL of 16 bytes at 0x1000 to 0x2000. -/
def sealing : State :=
  { rooted [(.klnOpSession, 0, 0, 5), (.klnOpAddr, 0, 0, 0x1000), (.klnOpLen, 0, 0, 16), (.klnOpDst, 0, 0, 0x2000)] with
    kst := { slots := [(0x20, heldSlot 0x26005)] }
    kln := { root := .device, rootKey := List.replicate 32 1, formed := true, sessions := [{ sid := 5, slot := 0x20, gen := 1, part := 0 }] } }

theorem wit_sessions :
    (takes opening 3 ∧ lowest opening.sessionRefusals = none) ∧ takes sealing 3 ∧ lowest sealing.sealRefusals = none ∧
      sealing.session (sealing.reg .klnOpSession) = some { sid := 5, slot := 0x20, gen := 1, part := 0 } := by
  unfold takes; decide +kernel

/-- A confluence record of partition 1 and job 2, in `state`. -/
def krec (st : RecState) : KRecord :=
  { part := 1, pgen := 1, job := 2, mask := 1, bind := [], joint := 0x30, streams := [{ sid := 4 }], state := st }

/-- A KDK in slot 32, and record 3 of partition 1 and job 2; KLN_OP_SLOT names the slot, KLN_OP_JOB the record. -/
def destroying : State :=
  { rooted [(.klnOpSlot, 0, 0, 0x10020), (.klnOpJob, 0, 0, 0x10002)] with
    kst := { slots := [(0x20, heldSlot 0x2200B)] }
    kln := { root := .device, recs := [(3, some (krec .collecting))] } }

theorem wit_destroy :
    (takes destroying 4 ∧ 16 ≤ destroying.klnSlot.toNat ∧ (destroying.slot destroying.klnSlot).valid = true ∧
        destroying.slotUnusable destroying.klnSlot = false ∧ (destroying.slot destroying.klnSlot).gen = destroying.klnSlotGen ∧
        Sparse.wf ({} : Slot) destroying.kst.slots = true) ∧
      destroying.klnPart ≠ 0 ∧ destroying.record destroying.klnPart.toNat destroying.klnJob = some (3, krec .collecting) ∧
      Sparse.wf (none : Option KRecord) destroying.kln.recs = true := by
  unfold takes; decide +kernel

/-- `destroying`, the record with a share in slot 0x21 and slot 0x22 of its lineage. -/
def holding (st : RecState) : KRecord :=
  { krec st with
    shares := [⟨0, 0x21, 1, 7⟩]
    streams := [{ sid := 4, bound := some (1, 0), equal := true }] }
def shareSlot : Slot := { key := 7, attr := 0x20027, crc := slotCrc 0x21 0x20027 7 }
def lined : State :=
  { destroying with
    kst := { slots := [(0x21, shareSlot), (0x22, { shareSlot with lineage := 3 })] }
    kln := { root := .device, recs := [(3, some (holding .formed))] } }

theorem wit_job_destroy : takes lined 10 ∧ lined.record lined.klnPart.toNat lined.klnJob = some (3, holding .formed) ∧
    (lined.slot 0x21).gen = 1 ∧ ((lined.slot 0x22).lineage.toNat = 3 ∧ (lined.slot 0x22).valid = true) ∧
    Sparse.wf (none : Option KRecord) lined.kln.recs = true ∧ Sparse.wf ({} : Slot) lined.kst.slots = true := by
  unfold takes; decide +kernel

/-- `ready` at boot stage 3, before FORM_ROOT, in `x`. -/
def unformed (x : LcState) : State := { ready with boot := { ran := true, stage := 3 }, lcs := { state := x } }

/-- JOB_CREATE of a record for job 2 of partition 1, ACTIVE, one required stream, joint slot 0x30. -/
def creating : State :=
  { rooted [(.klnOpSlot, 0, 0, 0x30), (.klnOpJob, 0, 0, 0x10002), (.klnOpMask, 0, 0, 1), (.klnOpAddr, 0, 0, 0x1000),
      (.klnOpLen, 0, 0, 2)] with
    prt := { parts := [(1, { st := .active })], gens := [(1, 1)] } }

/-- An event of a job that no record has waits. -/
def eventful : State := { ready with kln := { queue := [⟨.token, 4, 0, 1, 9, 0⟩] } }

theorem wit_records_and_salts :
    (takes (unformed .field) 1 ∧ (unformed .field).kln.formed = false ∧ (unformed .field).boot.stage < 5 ∧
        (unformed .field).rootSelect = .none) ∧
      (takes (unformed .test) 1 ∧ (unformed .test).rootSelect ≠ .none) ∧
      (takes creating 6 ∧ lowest creating.jobRefusals = none ∧ creating.freeRecord = some 0) ∧
      (creating.d3Serves = true ∧ creating.up .d4 = true ∧ creating.rootless = false ∧
        creating.partDefined creating.klnPart = true) ∧
      eventful.kln.queue = [⟨.token, 4, 0, 1, 9, 0⟩] ∧ eventful.kln.halted = false ∧ eventful.klnBusy = false ∧
      eventful.record 1 9 = none := by
  unfold takes; decide +kernel

/-- An event of `kind` and generation `g` for stream 4 of the record `r`. -/
def stirred (kind : EvKind) (g : Gen) (r : KRecord) : State :=
  { ready with kln := { root := .device, queue := [⟨kind, 4, g, 1, 2, 0⟩], recs := [(3, some r)] } }

/-- A COLLECTING record with its share, the stream bound to generation 1 and not EQUAL; another that lacks the share. -/
def boundRec : KRecord := { holding .collecting with streams := [{ sid := 4, bound := some (1, 0) }] }
def shareless : KRecord := { boundRec with shares := [] }

theorem wit_events :
    ((stirred .bind 1 boundRec).kln.halted = false ∧ (stirred .bind 1 boundRec).klnHeld = false ∧
        (stirred .bind 1 boundRec).record 1 2 = some (3, boundRec) ∧
        (boundRec.streams.find? fun y => y.sid == 4) = some { sid := 4, bound := some (1, 0) }) ∧
      (∀ x ∈ boundRec.streams, x.sid ≠ 9) ∧
      (holding .collecting).full ∧ ¬ ({ shareless with streams := [{ sid := 4, bound := some (1, 0), equal := true }] } : KRecord).full ∧
      (∀ k ∈ [EvKind.token, .fail], ∀ g ∈ [(1 : Gen), 2], (stirred k g boundRec).record 1 2 = some (3, boundRec)) ∧
      (∀ r ∈ [RecState.formed, .failed, .faulted], ∀ k ∈ [EvKind.bind, .token, .fail],
        (stirred k 1 (holding r)).record 1 2 = some (3, holding r)) := by
  unfold KRecord.full; decide +kernel

/-- A sound formation and two that are not: the joint slot taken, the share's GEN another. -/
theorem wit_formation :
    (let s : State := { lined with kst := { slots := [(0x21, shareSlot)] } }
    (∀ h ∈ (holding .collecting).shares, s.slotUnusable h.slot = false ∧ (s.slot h.slot).valid = true ∧
        (s.slot h.slot).usage = usageShare ∧ (s.slot h.slot).part = 1 ∧ (s.slot h.slot).gen = h.gen ∧ h.slot ≠ 0x30) ∧
      (s.slot 0x30).valid = false ∧ s.slotUnusable 0x30 = false ∧ Sparse.wf ({} : Slot) s.kst.slots = true ∧
      Sparse.wf (none : Option KRecord) s.kln.recs = true) ∧
    (({ lined with kst := { slots := [(0x30, shareSlot)] } } : State).slot 0x30).valid = true ∧
    (({ lined with kst := { slots := [(0x21, { shareSlot with attr := 0x40027 })] } } : State).slot 0x21).gen ≠ 1 := by
  decide +kernel

/-- Where a Kiln command waits, answers BUSY, or ABORTED: an event behind another that is held, a command at work, a halt;
and a slot that reads sound. -/
theorem wit_kiln_turns :
    (let s : State := { ready with kln := { wait := some ⟨2, 2, .none⟩ } }
    s.kln.halted = false ∧ s.kln.wait ≠ none ∧ s.serves .d2 = true) ∧
    (let s : State := { ready with kfb := { up := true, waiting := [revokeSlot 0x20 1 .kilnEvt] } }
    s.quiet.klnTurn.kln.halted = false ∧ s.klnBusy = false ∧ s.kln.wait = none ∧ s.quiet.klnTurn.klnHeld = true) ∧
    ({ ready with kln := { halted := true } } : State).kln.halted = true ∧
    (childDma.slotUnusable 0x20 = false ∧ childDma.fromRoot = false) := by decide +kernel

/-- A LOAD and a SEAL whose session slot reads sound. -/
theorem wit_session_reads : sealing = sealing.readSealSession .none := by decide +kernel

theorem wit_failed_records :
    let s : State := { eventful with kln := { eventful.kln with recs := [(3, some (krec .failed))] } }
    Sparse.wf (none : Option KRecord) s.kln.recs = true ∧ Sparse.get none s.kln.recs 3 = some (krec .failed) ∧
      (match step s with | .next t => Sparse.get none t.kln.recs 3 == some (krec .failed) | _ => false) = true := by decide +kernel

theorem wit_begins : begins childKdk ∧ begins childDma ∧ begins (keyed 1 15) ∧ begins (keyed 3 0) ∧ begins opening ∧
    begins sealing ∧ begins destroying ∧ begins (unformed .field) ∧ begins (unformed .test) ∧ begins creating := by
  unfold begins; exact ⟨rfl, rfl, rfl, rfl, rfl, rfl, rfl, rfl, rfl, rfl⟩

/-- `childKdk` with an event that waits: it is applied before the command begins. -/
def eventKdk : State := { childKdk with kln := { childKdk.kln with queue := [⟨.token, 4, 0, 1, 9, 0⟩] } }

theorem wit_derive_behind_an_event : eventKdk.klnTakes eventKdk.quiet.klnTurn 2 ∧ eventKdk.kln.queue ≠ [] ∧
    lowest eventKdk.quiet.klnTurn.deriveRefusals = none := by
  unfold State.klnTakes
  refine ⟨⟨by decide +kernel, by decide +kernel, rfl, rfl, by decide +kernel, by decide +kernel, by decide +kernel,
    by decide +kernel⟩, by decide, by decide +kernel⟩

theorem wit_tamper_clear :
    ready.serves .d2 = true ∧ BitVec.extractLsb' 24 8 (0xC4000000#32) = 0xC4#8 ∧
      BitVec.extractLsb' 24 8 (0xC5000000#32) ≠ 0xC4#8 := by decide +kernel

/-- `ready` before the Tinder ROM has run, in `x`. -/
def unbooted (x : LcState) : State := { ready with boot := {}, lcs := { state := x } }

theorem wit_boot :
    ((unbooted .ash).up .d2 = true ∧ (unbooted .ash).boot.ran = false ∧ (unbooted .invalid).boot.ran = false) ∧
      ((unbooted .field).up .d2 = true ∧ (unbooted .field).boot.ran = false ∧ (unbooted .field).up .d3 = true ∧
        (unbooted .field).up .d4 = true ∧ (unbooted .field).up .d5 = true ∧ (unbooted .field).up .d6 = true ∧
        (unbooted .field).lcs.state ≠ .ash ∧ (unbooted .field).lcs.state ≠ .invalid) ∧
      ((none : Option (Fin 27)).all fun k => decide (1 < k.val)) = true ∧
      ((some (2 : Fin 27)).all fun k => decide (1 < k.val)) = true ∧ (1 : Fin 27).val ≤ 1 ∧
      ({ ready with boot := { ran := true, stage := 6, lockSet := true } } : State).boot.lockSet = true := by decide +kernel

/-! ### Messages of the Kiln -/

/-- The header of a message of session 5 with counter 1. -/
def msgHead (kind len attr target : Nat) : Bytes :=
  leBytes 4 0x554B4349 ++ leBytes 2 2 ++ leBytes 1 kind ++ leBytes 1 0 ++ leBytes 4 5 ++ leBytes 2 len ++ leBytes 2 0 ++
    leBytes 8 1 ++ leBytes 4 attr ++ leBytes 2 target ++ leBytes 1 0 ++ leBytes 129 0

/-- The tag of a message with payload `p` under the key of slot 32. -/
def msgTag (head p : Bytes) : Bytes := kumTag (keyBytes 7) 5 head p

/-- `sealing` with the message of `head` and payload `p` at 0x1000, tagged. -/
def received (head p : Bytes) : State :=
  { rooted [(.klnOpAddr, 0, 0, 0x1000), (.klnOpLen, 0, 0, BitVec.ofNat 32 (192 + p.length)), (.klnOpDst, 0, 0, 0x2000)] with
    kst := sealing.kst
    kln := sealing.kln
    psram := Sparse.putBytes 0 [] 0x1000 (head ++ p ++ msgTag head p) }

/-- The message that the Kiln reads in `received`. -/
theorem received_msg {head p : Bytes} (hh : head.length = 160)
    (ha : (received head p).klnAddr = 0x1000) (hl : (received head p).klnLen = 192 + p.length) :
    (received head p).klnMsg = ⟨head ++ p ++ msgTag head p, head⟩ := by
  have ht : (msgTag head p).length = 32 := by unfold msgTag kumTag; exact length_kmac256 _ _ _ (by decide)
  have hn : 192 + p.length = (head ++ p ++ msgTag head p).length := by
    simp only [List.length_append, hh, ht]; omega
  have hb : (received head p).psramBytes 0x1000 (192 + p.length) = head ++ p ++ msgTag head p := by
    rw [hn]; exact Sparse.bytes_putBytes (Sparse.wf_nil 0)
  unfold State.klnMsg
  simp only [ha, hl, hb]
  congr 1
  rw [padTo, List.append_assoc, List.append_assoc, List.take_append_of_le_length (by omega), ← hh, List.take_length]

/-- The tag verifies. -/
theorem received_tag {head p : Bytes} (hh : head.length = 160)
    (hm : (received head p).klnMsg = ⟨head ++ p ++ msgTag head p, head⟩)
    (hk : (received head p).msgKey ⟨[], head⟩ = some (keyBytes 7)) (hs : KuMsg.sid ⟨[], head⟩ = 5)
    (hl : KuMsg.plen ⟨[], head⟩ = p.length) : (received head p).badTag (received head p).klnMsg = false := by
  have ht : (msgTag head p).length = 32 := by unfold msgTag kumTag; exact length_kmac256 _ _ _ (by decide)
  rw [hm]
  have hk' : (received head p).msgKey ⟨head ++ p ++ msgTag head p, head⟩ = some (keyBytes 7) := hk
  have hs' : KuMsg.sid ⟨head ++ p ++ msgTag head p, head⟩ = 5 := hs
  have hl' : KuMsg.plen ⟨head ++ p ++ msgTag head p, head⟩ = p.length := hl
  have hpay : KuMsg.payload ⟨head ++ p ++ msgTag head p, head⟩ = p := by
    rw [KuMsg.payload, slice, hl', ← hh, List.append_assoc]
    simp
  have htag : KuMsg.tag ⟨head ++ p ++ msgTag head p, head⟩ = msgTag head p := by
    have h0 : (head ++ p).length = 0xA0 + p.length := by simp [hh]
    rw [KuMsg.tag, slice, hl', ← h0, List.drop_left, ← ht, List.take_length]
  simp only [State.badTag, hk', hs', hpay, htag]
  simp [msgTag]

/-- The LOAD of a DMA key to slot 33, and a DATA_IN of 16 bytes. -/
def loadMsg : State := received (msgHead 1 32 0x13 0x21) (List.replicate 32 0)
def dataMsg : State := received (msgHead 5 16 0 0) (List.replicate 16 0)

theorem loadMsg_msg : loadMsg.klnMsg =
    ⟨msgHead 1 32 0x13 0x21 ++ List.replicate 32 0 ++ msgTag (msgHead 1 32 0x13 0x21) (List.replicate 32 0),
      msgHead 1 32 0x13 0x21⟩ :=
  received_msg (by decide +kernel) (by decide +kernel) (by decide +kernel)

theorem received_begins (head p : Bytes) : begins (received head p) := rfl

theorem wit_unwrap : takes loadMsg 4 ∧ lowest (loadMsg.msgRefusals false) = none ∧ loadMsg.klnMsg.kind = 1 := by
  have ht : loadMsg.badTag loadMsg.klnMsg = false :=
    received_tag (by decide +kernel) loadMsg_msg (by decide +kernel) (by decide +kernel) (by decide +kernel)
  refine ⟨by unfold takes; decide +kernel, ?_, by rw [loadMsg_msg]; decide +kernel⟩
  rw [State.msgRefusals, if_neg (by decide +kernel)]
  rw [loadMsg_msg] at ht ⊢
  simp only [ht]
  decide +kernel

/-- A message whose session's slot reads sound. -/
theorem readMsgSession_sound {s : State} {m : KuMsg} {x : Session} (hm : s.klnMsg = m) (hx : s.msgSession m = some x)
    (h : ((s.slot x.slot).unusable || slotSound x.slot (s.slot x.slot)) = true) : s.readMsgSession .none = s := by
  simp only [State.readMsgSession, hm, hx, State.fetchSlot, State.slotErr, State.readSlot, h, if_true, ite_self]

theorem wit_unwrap_read : loadMsg.readMsgSession .none = loadMsg :=
  readMsgSession_sound (x := { sid := 5, slot := 0x20, gen := 1, part := 0 }) loadMsg_msg (by decide +kernel)
    (by decide +kernel)

theorem dataMsg_msg : dataMsg.klnMsg =
    ⟨msgHead 5 16 0 0 ++ List.replicate 16 0 ++ msgTag (msgHead 5 16 0 0) (List.replicate 16 0), msgHead 5 16 0 0⟩ :=
  received_msg (by decide +kernel) (by decide +kernel) (by decide +kernel)

theorem wit_unseal : takes dataMsg 5 ∧ lowest (dataMsg.msgRefusals true) = none := by
  have ht : dataMsg.badTag dataMsg.klnMsg = false :=
    received_tag (by decide +kernel) dataMsg_msg (by decide +kernel) (by decide +kernel) (by decide +kernel)
  refine ⟨by unfold takes; decide +kernel, ?_⟩
  rw [State.msgRefusals, if_neg (by decide +kernel)]
  rw [dataMsg_msg] at ht ⊢
  simp only [ht]
  decide +kernel

theorem wit_unseal_read : dataMsg.readMsgSession .none = dataMsg :=
  readMsgSession_sound (x := { sid := 5, slot := 0x20, gen := 1, part := 0 }) dataMsg_msg (by decide +kernel)
    (by decide +kernel)

/-! ### FabricCommandsSendOneMessage to RegistersStoreTheirDefinedBits -/

/-- Endpoint 0x201 on port 1, of KIND DMA in partition 1, cells 0 to 15. -/
def dmaEp : Endpoint := { present := true, kind := 9, part := 1, egen := 1, cellHi := 15 }

/-- A DMA key of partition 1 with ENDPOINT_OK in slot 32, cell 5 enabled for the partition, and `l` stored. -/
def fabric (l : List (Reg × Nat × Nat × Word)) : State :=
  { withRegs l with
    kst := { slots := [(0x20, heldSlot 0x21033)] }
    prt := { parts := [(1, { st := .active })], gens := [(1, 1)] }
    kfb := { up := true, eps := [(0x201, dmaEp)] }
    cnt := { cells := [(5, { part := 1, enable := true })] } }

def loading : State := fabric [(.kfbOpSlot, 0, 0, 0x10020), (.kfbOpDest, 0, 0, 0x201), (.kfbOpCell, 0, 0, 5)]
def binding : State := fabric [(.kfbOpDest, 0, 0, 0x90202), (.kfbOpBind, 0, 0, 1)]
def zeroising : State := fabric [(.kfbOpDest, 0, 0, 0x2000)]

/-- A ticket of a fabric command. -/
def fullFabric : State := { ready with kfb := { up := true, tickets := (List.range 32).map fun i => ⟨i, 1, .done⟩ } }

theorem wit_fabric_commands :
    (loading.kfbTakes 1 ∧ loading.kst.block = false ∧ loading.slotUnusable loading.kfbSlot = false ∧
        loading.slotStale loading.kfbSlot loading.kfbSlotGen = false ∧
        loading.loadDenied (loading.slot loading.kfbSlot) = false ∧
        loading.anyFaulted (loading.loadTargets (loading.slot loading.kfbSlot).usage) = false) ∧
      (loading.kfbTakes 2 ∧ loading.rotateDenied = false ∧ loading.anyFaulted (loading.addressed loading.opDkind loading.opDest) = false) ∧
      (binding.kfbTakes 5 ∧ binding.bindDenied = false ∧ binding.anyFaulted [binding.opDest] = false) ∧
      (loading.quiet.fetchSlot 0x20 .uncorr).slotUnusable 0x20 = true ∧
      (fullFabric.serves .d4 = true ∧ fullFabric.kfbFull = true) ∧ rsvSet .kfbCmd 0x80000001 = true := by
  unfold State.kfbTakes; decide +kernel

theorem wit_revokes :
    (zeroising.kfbTakes 3 ∧ zeroising.opDkind ≠ 3 ∧ zeroising.emberRoom zeroising.zeroiseReq = true) ∧
      loading.emberRoom (revokeSlot loading.kfbSlot loading.kfbSlotGen .kilnCmd) = true ∧
      (loading.kfbTakes 6 ∧ loading.opDkind = 0 ∧ (loading.endpoint loading.opDest).present = true ∧
        loading.emberRoom loading.zeroiseReq = true) ∧
      zeroising.opDkind = 2 ∧ zeroising.kfb.up = true ∧ zeroising.kfb.ports.length = 8 ∧
        ∀ p < 8, (zeroising.port p).ember.length < 64 := by
  unfold State.kfbTakes; decide +kernel

/-- Port 1 with one EMBER beat of revoke 3, sent or not. -/
def ember (sent : Bool) : State :=
  { ready with kfb :=
    { up := true, ports := (List.replicate 8 {}).set 1 { ember := [⟨3, 5, sent, false⟩] }, revokes := [⟨3, [1], false, .none⟩] } }

theorem wit_ports :
    (((ember false).port 1).used < 16 ∧ (((ember false).port 1).ember.any fun m => !m.sent) = true) ∧
      ((ember false).kfb.up = true ∧ ((ember false).port 1).faulted = false ∧ (ember false).oldestSent 1 = none) ∧
      (ember true).oldestSent 1 = some ⟨3, 5, true, false⟩ ∧
      ((ember true).kfb.revokes.any fun r => r.id == 3 && !r.late) = true ∧ (ember true).maskedYet 3 = false := by decide +kernel

/-- An upstream beat of endpoint 0x201 with UTYPE `u`, code `c` and the bits `v`. -/
def upBeat (u c v : Nat) : BitVec 64 := BitVec.ofNat 64 (u * 2 ^ 60 + 0x201 * 2 ^ 48 + c * 2 ^ 32 + v)

/-- `fabric` with a LOAD owed by the endpoint under ticket 0. -/
def owing : State :=
  { fabric [] with kfb :=
    { up := true, eps := [(0x201, dmaEp)], owed := [⟨0x201, 0, tLoad, 9, 1, 0x20, 1, false, 5, 0⟩], tickets := [⟨0, 1, .done⟩] } }

theorem wit_upstream :
    (owing.kfb.up = true ∧ owing.upDropped 2 (upBeat 1 0 0x500000) = true ∧ owing.upDropped 1 (upBeat 0 0 0) = true ∧
        portOf (upEp (upBeat 1 0 0)) ≠ 2 ∧ fldN (upBeat 6 0 0) 60 4 = 6 ∧ codeOf (fldN (upBeat 1 0xFF 0) 32 8) = none) ∧
      (owing.upDropped 1 (upBeat 1 0 0x500000) = false ∧ codeOf (fldN (upBeat 1 0 0x500000) 32 8) = some .done) ∧
      ((owing.kfb.owed.find? fun o => o.ep == upEp (upBeat 1 0 0x500000) &&
          o.typ.extractLsb' 0 3 == (upBeat 1 0 0x500000).extractLsb' 20 3) = some ⟨0x201, 0, tLoad, 9, 1, 0x20, 1, false, 5, 0⟩ ∧
        (owing.kfb.tickets.find? fun y => y.id == 0) = some ⟨0, 1, .done⟩) ∧
      (owing.upDropped 1 (upBeat 2 0 0) = false ∧ owing.rtagOut (upEp (upBeat 2 0 0)) (bit (upBeat 2 0 0) 19) = false ∧
        owing.kfb.nextQ.length < 64 ∧ owing.upDropped 1 (upBeat 3 0 0) = false ∧ owing.upDropped 1 (upBeat 4 0xF 0) = false ∧
        owing.upDropped 1 (upBeat 1 0xFF 0) = false ∧ fldN (upBeat 3 0 0) 60 4 = 3 ∧ fldN (upBeat 4 0xF 0) 60 4 = 4) ∧
      owing.serves .d4 = true := by decide +kernel

/-- A CNT_REQ of the endpoint for 16 values of cell 5, made with `egen`, waits on port 1. -/
def request (egen : Gen) : CntReq := ⟨0x201, egen, 5, 4, false, 0⟩
def requesting (egen : Gen) : State :=
  { fabric [] with cnt := { (fabric []).cnt with queues := (List.replicate 8 []).set 1 [request egen] } }

/-- A CNT command waits, for cell 0. -/
def counting (c : CntCmd) : State := { fabric [] with cnt := { (fabric []).cnt with cmd := some (c, 0) } }

theorem wit_counters :
    ((fabric []).serves .d4 = true ∧ rsvSet .cntCmd 1 = false ∧ (fabric []).cnt.cmd = none ∧
        (counting .read).cnt.cmd.isSome = true) ∧
      ((requesting 1).bankPick 5 = some (.port 1 (request 1)) ∧ (requesting 1).grantRefusal (request 1) .none = none) ∧
      ((requesting 2).bankPick 5 = some (.port 1 (request 2)) ∧
        (requesting 2).grantRefusal (request 2) .none = some .staleGen ∧
        residueBad ((requesting 2).cell (request 2).cell) (request 2).size = false) ∧
      (let s : State :=
        { requesting 1 with
          cnt := { (requesting 1).cnt with cells := [(5, { part := 1, enable := true, faulted := true })] } }
      s.bankPick 5 = some (.port 1 (request 1)) ∧ (s.cell 5).faulted = true ∧ (s.grantRefusal (request 1) .none).isSome = true ∧
        Sparse.wf ({} : CtrCell) s.cnt.cells = true) ∧
      ((counting .read).bankPick 0 = some (.cmd .read) ∧ (counting .advance).bankPick 0 = some (.cmd .advance) ∧
        (counting .configure).bankPick 0 = some (.cmd .configure) ∧ (counting .retire).bankPick 0 = some (.cmd .retire)) ∧
      (((counting .advance).cell (counting .advance).opCell).exhausted = false ∧
        ((counting .advance).cell (counting .advance).opCell).faulted = false ∧
        (counting .configure).partDefined (counting .configure).opCellPart = true) ∧
      Sparse.wf ({} : CtrCell) (counting .retire).cnt.cells = true := by decide +kernel

/-- A step of the counters' invariant that grants. -/
theorem wit_counters_never_go_back :
    let s : State := { requesting 1 with pending := [.cntGrant 5 .none] }
    Sparse.wf ({} : CtrCell) s.cnt.cells = true ∧
      (match step s with | .next t => (t.cell 5).value == 16 | _ => false) = true := by decide +kernel

theorem wit_register_map :
    (1 < (Reg.cmpA).row.copies ∧ 15 < (Reg.cmpA).row.count) ∧ decodeReg ((Reg.cmpA).row.addr 1 15) = some ⟨.cmpA, 1, 15⟩ ∧
      decodeReg 0 = some ⟨.topVersion, 0, 0⟩ := by decide +kernel

/-- Control SRAM not being zeroed, a digest context in the hands of the security core, core 0 outside a gate run; offsets of
the window at each size, aligned and not. -/
theorem wit_registers_store_elsewhere :
    (let s : State := { ready with dge := { ctxs := { st := .held, holder := 0 } :: List.replicate 3 {} } }
    s.d3Serves = true ∧ (s.ctx 0).st ≠ .free ∧ dgeId .sec = some (s.ctx 0).holder.toNat) ∧
    ready.prt.gate.active = false ∧ ready.serves .d3 = true ∧ ready.serves .d5 = true ∧ ready.crs.zeroing = false ∧
    (∀ n : Fin 3, (0x800004#28).toNat % 2 ^ n.val = 0) ∧ (0xFFFFFD#28).toNat % 2 ^ (1 : Fin 3).val ≠ 0 ∧
    (0xFFFFFD#28).toNat % 2 ^ (2 : Fin 3).val ≠ 0 := by decide +kernel

theorem wit_registers_store : 28 < (Reg.crsGap).row.count ∧ ready.serves (Reg.crsGap).row.dom = true ∧
    (Reg.crsGap).row.addr 0 27 ≠ (Reg.crsGap).row.addr 0 28 := by decide +kernel

/-! ### ControlPortRefusesWithoutEffect to ComparisonsAnswerEqualOrNotEqualOnly -/

theorem wit_control_port :
    (ready.up .d1 = true ∧ ready.icp.length < 16) ∧ (0x000001#24).toNat % 4 ≠ 0 ∧ 2 ≤ (2#2).toNat ∧
      0x800000 ≤ (0x800000#24).toNat ∧
      (decodeReg (0x000000#24).toNat = some ⟨.topVersion, 0, 0⟩ ∧ ready.grant (.icp 1) true ⟨.topVersion, 0, 0⟩ = false) ∧
      (decodeReg (0x010FFC#24).toNat = none ∧ unitGrant (.icp 0) (decodeUnit (0x010FFC#24).toNat) = false) ∧
      (decodeReg (0x000FFC#24).toNat = none ∧ unitGrant (.icp 0) (decodeUnit (0x000FFC#24).toNat) = true ∧
        ready.serves (decodeUnit (0x000FFC#24).toNat).dom = true) := by decide +kernel

theorem wit_top_version : ready.serves .d1 = true ∧ ready.icp.length < 16 ∧ (1#2).toNat < 2 := by decide +kernel

/-- `ready` with `n` control-port responses owed. -/
def owed (n : Nat) : State := { ready with icp := List.replicate n ⟨1, .done, 0⟩ }

/-- The domains but D2 released. -/
def noD2 : State := { ready with crs := { ready.crs with released := 0x3D } }

/-- A read of `left` beats and a write outstanding on the memory port. -/
def asking (left : Nat) : State :=
  { ready with mp := [{ tag := 1, write := false, left := left, owner := .copy }, { tag := 2, write := true, left := 1, owner := .stage }] }

theorem wit_port_protocols :
    (16 ≤ (owed 16).icp.length ∧ (owed 1).icp = [⟨1, .done, 0⟩]) ∧
      (decodeReg (BitVec.ofNat 24 ((Reg.kstStatus).row.addr 0 0)).toNat = some ⟨.kstStatus, 0, 0⟩ ∧ noD2.up .d1 = true ∧
        noD2.grant (.icp 1) false ⟨.kstStatus, 0, 0⟩ = true ∧ noD2.serves (Reg.kstStatus).row.dom = false ∧
        (Reg.kstStatus).row.dom ≠ .d3 ∧ (Reg.kstStatus).row.dom ≠ .d5) ∧
      (match exec (.icpRequest false 0 0 1 5) ready with | .next t => t.icp == [⟨5, .done, 0x00020100#32⟩] | _ => false) = true ∧
      ((asking 2).up .d4 = true ∧
        ((asking 2).mp.find? fun x => x.tag == 1 && !x.write) = some { tag := 1, write := false, left := 2, owner := .copy } ∧
        ((asking 1).mp.find? fun x => x.tag == 1 && !x.write) = some { tag := 1, write := false, left := 1, owner := .copy } ∧
        (∀ x ∈ (asking 1).mp, x.write = false → x.tag ≠ 1 → x.data = []) ∧ (∀ x ∈ (asking 1).mp, x.tag ≠ 3) ∧
        (let s : State := { asking 2 with mp := { tag := 3, write := false, left := 1, owner := .copy, data := [1] } :: (asking 2).mp }
        ∃ x ∈ s.mp, x.write = false ∧ x.tag ≠ 1 ∧ x.data ≠ []) ∧
        ((asking 1).mp.find? fun x => x.tag == 2 && x.write) = some { tag := 2, write := true, left := 1, owner := .stage }) ∧
      Sparse.get .notRun ({ ready with ast := [(7, .owed)] } : State).ast 7 = .owed := by decide +kernel

/-- Core 7 in gate mode for partition 1. -/
def gated : State := { ready with prt := { gate := { active := true, part := 1 } } }

/-- `ready` with a fault recorded, which source 7 shows, and context 5 enabling it at priority 1. -/
def interrupted : State :=
  { ready with
    top := { afault := { valid := true } }
    plic := { prio := (List.replicate 32 0).set 7 1, enable := (List.replicate 16 0).set 5 0x80 } }

theorem wit_access_faults :
    (ready.up .d5 = true ∧ ready.ctlAllowed 3 .store true 0x0EFD000 = false ∧
        ready.ctlAllowed 7 .fetch true 0x1000000 = false ∧ ready.ctlAllowed 0 .load false 0xC000000 = false ∧
        ready.ctlAllowed 0 .load true 0xC000000 = true ∧ ready.prt.gate.active = false) ∧
      (gated.up .d5 = true ∧ gated.ctlAllowed 7 .store false 0 = false ∧ gated.prt.gate.active = true) ∧
      (ready.ctlUncorr 7 .load false 0xFFFFFF = false ∧ ready.ctlUncorr 0 .load false 0 = true) ∧
      ready.up .d2 = true ∧ secAllowed .store 2 0x1FFFF = false ∧ secAllowed .load 3 0x20800004 = false ∧
      secAllowed .load 2 0x20800004 = true ∧ secUncorr .load 0 0x20FFFFFF = true ∧
      secUncorr .load 0 0x20000000 = false := by decide +kernel

theorem wit_interrupt_claims :
    (ready.plicBest 5 = 0 ∧ interrupted.up .d5 = true ∧ interrupted.plicBest 5 = 7 ∧ interrupted.prt.gate.active = false) ∧
      interrupted.up .d2 = true ∧ interrupted.sourcePending 26 = true ∧ interrupted.sourcePending 17 = false := by decide +kernel

/-- Stream 5 as `v`, group 0 for clear partitions. -/
def streaming (v : Stream) (l : List (Reg × Nat × Nat × Word)) : State :=
  { withRegs l with sme := { tapUp := true, streams := [(5, v)], groups := { mode := 1 } :: List.replicate 15 {} } }

/-- Stream 5 OPEN on tap 2, of 10 bytes. -/
def opened : Stream := { st := .open, gen := 1, tap := 2, len := 10, fallback := true, mr := 6 }

/-- A tap with a beat of stream 5 in front. -/
def waiting (lanes : Sparse FenLane) : State :=
  { streaming opened [] with
    sme := { (streaming opened []).sme with taps := (List.replicate 16 []).set 2 [⟨5, [1, 2]⟩], lanes := lanes } }

theorem wit_tap_beats :
    (State.reset.sme.tapUp = false ∧ (streaming opened []).sme.tapUp = true ∧
        ((streaming opened []).sme.taps.getD 2 []).length < 32 ∧ ((streaming opened []).stream 5).st = .open ∧
        ((streaming opened []).stream 5).tap = 2 ∧ ((streaming opened []).stream 5).tooLong = false ∧
        (decide (((streaming opened []).stream 5).got = 0) = true) ∧ ((streaming opened []).stream 6).st ≠ .open) ∧
      (let s : State := { ready with sme := { tapUp := true, taps := List.replicate 16 (List.replicate 32 ⟨5, [1]⟩) } }
      s.sme.tapUp = true ∧ 32 ≤ (s.sme.taps.getD 2 []).length) ∧
      ((waiting []).sme.taps.getD 2 [] = [⟨5, [1, 2]⟩] ∧ (waiting []).fillingLane 5 = none ∧ (waiting []).freeLane 0 = some 0) ∧
      (let l : Sparse FenLane := [(3, { bufs := [⟨5, 0, [9]⟩] })]
      (waiting l).fillingLane 5 = some 3 ∧
        (((waiting l).lane 3).bufs.find? fun f => f.sid == 5 && f.bytes.length < 8192) = some ⟨5, 0, [9]⟩) := by decide +kernel

/-- Group 0's first `k` lanes with two buffers in use, on lane 3 one that fills with `bs`. -/
def crowded (k : Nat) (bs : Bytes) : Sparse FenLane :=
  (List.range k).map fun n => (n, { bufs := [⟨if n = 3 then 5 else 6, 0, bs⟩, ⟨6, 1, []⟩] })

/-- A beat of which one byte fills the leaf: a lane is free for the other one, or none. -/
theorem wit_straddling_beat (bs : Bytes) (h : bs.length = 8191) :
    (∀ k ∈ [4, 12], (waiting (crowded k bs)).fillingLane 5 = some 3 ∧
      (((waiting (crowded k bs)).lane 3).bufs.find? fun f => f.sid == 5 && f.bytes.length < 8192) = some ⟨5, 0, bs⟩) ∧
    (let u (k : Nat) : State := (waiting (crowded k bs)).quiet.fillLeaf 3 5 [1]
    (u 4).freeLane 0 = some 4 ∧ (u 12).freeLane 0 = none) := by
  have h3 : bs.length < 8192 := by omega
  refine ⟨?_, ?_, ?_⟩
  · simp [crowded, waiting, streaming, withRegs, opened, State.fillingLane, State.stream, State.lane, groupLanes, Sparse.get,
      List.range, List.range.loop, h3]
  · simp [crowded, waiting, streaming, withRegs, opened, State.freeLane, State.fillLeaf, State.setLane, State.quiet, State.lane,
      groupLanes, Sparse.get, Sparse.put, State.onSme, List.range, List.range.loop, h3]
  · simp [crowded, waiting, streaming, withRegs, opened, State.freeLane, State.fillLeaf, State.setLane, State.quiet, State.lane,
      groupLanes, Sparse.get, Sparse.put, State.onSme, List.range, List.range.loop, h3]

/-- Stream 5 CLOSING with its one leaf whole on lane 3, or its value in the lane's slot. -/
def closing (chunk : Bool) : Stream := { st := .closing, gen := 1, tap := 2, len := 2, got := 2, fallback := true, mr := 6, chunk := chunk, ctx := 5, leaves := 1 }
def hashing (chunk : Bool) (lane : FenLane) : State :=
  { streaming (closing chunk) [] with sme := { (streaming (closing chunk) []).sme with lanes := [(3, lane)] } }

/-- Stream 5 OPEN, CLOSING and CLOSED, where a beat's context read fails; and a whole leaf whose context was lost. -/
theorem wit_lost_contexts :
    (∀ x ∈ [StreamState.open, .closing, .closed],
      Sparse.wf ({} : Stream) (streaming { opened with st := x } []).sme.streams = true ∧
        ((streaming { opened with st := x } []).stream 5).st = x ∧ (streaming { opened with st := x } []).sme.tapUp = true ∧
        ((streaming { opened with st := x } []).sme.taps.getD 2 []).length < 32) ∧
      (let s : State := { hashing true { bufs := [⟨5, 0, [1, 2]⟩] } with
        sme := { (hashing true { bufs := [⟨5, 0, [1, 2]⟩] }).sme with streams := [(5, { closing true with lost := true })] } }
      s.leafWhole ⟨5, 0, [1, 2]⟩ = true ∧ (s.lane 3).bufs = [⟨5, 0, [1, 2]⟩] ∧ (s.lane 3).slot = none ∧
        (s.stream 5).lost = true ∧ s.mpRoom = true) := by decide +kernel

theorem wit_leaves :
    (let s := hashing false { bufs := [⟨5, 0, [1, 2]⟩] }
     s.leafWhole ⟨5, 0, [1, 2]⟩ = true ∧ (s.lane 3).bufs = [⟨5, 0, [1, 2]⟩] ∧ (s.lane 3).slot = none ∧
        (s.stream 5).chunk = false) ∧
      (let s := hashing true { bufs := [⟨5, 0, [1, 2]⟩] }
      s.leafWhole ⟨5, 0, [1, 2]⟩ = true ∧ (s.stream 5).chunk = true ∧ s.mpRoom = true ∧ s.gateBound (s.stream 5).ctx = false ∧
        (s.setReg .prtGateEp 0x5005).gateBound (s.stream 5).ctx = true) ∧
      (hashing false { slot := some ⟨5, 0, List.replicate 64 1⟩ }).readySlot 0 = some (3, ⟨5, 0, List.replicate 64 1⟩) := by
  decide +kernel

/-- Stream 5 done: its one leaf value absorbed. -/
def doneStream : State := streaming { closing false with passed := 1 } []

theorem wit_streams_close :
    (Sparse.wf ({} : Stream) doneStream.sme.streams = true ∧ Sparse.wf ({} : ExpEntry) doneStream.sme.exps = true ∧
        doneStream.streamDone 5 = true ∧
        ((doneStream.stream 5).fallback || (doneStream.stream 5).fault != .done || (doneStream.stream 5).equal.isSome) = true ∧
        (doneStream.smeBlk (doneStream.stream 5).blk).resQ.length < 256 ∧
        doneStream.outcomeOf (doneStream.stream 5) .none = .done) ∧
      (let v : Stream := { closing false with passed := 1, fallback := false, equal := some true }
      (streaming v []).streamDone 5 = true ∧ ((streaming v []).stream 5).fallback = false) ∧
      (let s : State := { doneStream with sme := { doneStream.sme with blkS := { resQ := List.replicate 256 ⟨1, 1, .done⟩ } } }
      256 ≤ (s.smeBlk (s.stream 5).blk).resQ.length) ∧
      doneStream.d3Serves = true ∧
      (let s : State := { ready with sme := { events := [⟨.token, 4, 0, 1, 9, 0⟩] } }
      s.sme.events = [⟨.token, 4, 0, 1, 9, 0⟩] ∧ s.kln.queue.length < 64 ∧ s.up .d2 = true) := by decide +kernel

/-- Block S's operands: stream 5 on tap 2 in group 0, partition 0, register 6, 10 bytes, entry 1. -/
def operands : List (Reg × Nat × Nat × Word) :=
  [(.smeOpStream, 0, 0, 0x2005), (.smeOpJob, 0, 0, 0x60000), (.smeOpLenLo, 0, 0, 10), (.smeOpIndex, 0, 0, 1)]

theorem wit_stream_commands :
    ((streaming {} operands).smeTakes .s 1 ∧ lowest ((streaming {} operands).openRefusals .s) = none ∧
        Sparse.wf ({} : Stream) (streaming opened operands).sme.streams = true) ∧
      ((streaming opened operands).smeTakes .s 2 ∧
        ((streaming opened operands).stream ((streaming opened operands).opSid .s)).st = .open) ∧
      (((streaming opened operands).exp ((streaming opened operands).opIndex .s)).armed = false ∧
        (streaming opened operands).armedEntry ((streaming opened operands).opPart .s) ((streaming opened operands).opJob .s)
          ((streaming opened operands).opSid .s) = none ∧
        ((streaming opened operands).exp ((streaming opened operands).opIndex .s)).inUse = false) ∧
      (let s := (streaming {} []).setReg .smeLgCfg 0x101 0 1
      let staged : List LaneGroup := (List.range 16).map fun n =>
        ⟨(s.reg .smeLgCfg 0 n).extractLsb' 8 2, (s.reg .smeLgCfg 0 n).extractLsb' 0 6⟩
      s.d3Serves = true ∧ bit (1#32) 0 = true ∧ (∀ g ∈ staged, g.mode ≠ 3) ∧
        (∀ n < 16, (staged.getD n {}).differs (s.sme.groups.getD n {}) = true → s.openOn n = 0 ∧
          ((s.sme.groups.getD n {}).mode = 2 → s.partConf (s.sme.groups.getD n {}).part = true →
            s.sme.released.getLsbD n = true ∧ s.partState (s.sme.groups.getD n {}).part ≠ .active))) := by
  unfold State.smeTakes; refine ⟨?_, ?_, ?_, ?_⟩ <;> decide +kernel

/-- Block S's operands of MR_ASSIGN and PURGE: register 20 and partition 1, which is ACTIVE. -/
def assigning : State :=
  { streaming {} [(.smeOpIndex, 0, 0, 0x10014), (.smeOpStream, 0, 0, 0x100000)] with
    prt := { parts := [(1, { st := .active })] }
    sme := {} }

theorem wit_measurement_registers :
    (let s : State := { ready with sme := { ext := [⟨6, [1], .blk .s⟩] } }
     s.sme.ext = [⟨6, [1], .blk .s⟩] ∧ s.up .d2 = true ∧ (s.mreg 6).bad = false ∧ Sparse.wf ({} : MReg) s.mrs = true ∧
      s.sme.waitS = none ∧ s.sme.waitC = none) ∧
      (assigning.smeTakes .s 7 ∧ assigning.extendOk true (assigning.opIndex .s) = true ∧ (withRegs []).extendOk false 63 = false ∧
        5 ≤ assigning.boot.stage ∧ (streaming {} []).smeTakes .s 7 ∧
        (streaming {} []).extendOk true ((streaming {} []).opIndex .s) = false) ∧
      (assigning.fallbackOpen (assigning.opIndex .s) = false ∧ 16 ≤ assigning.opIndex .s ∧ assigning.opIndex .s < 64 ∧
        bit (assigning.reg .smeOpIndex) 16 = true ∧ assigning.opPart .s ≠ 0 ∧ assigning.partDefined (assigning.opPart .s) = true ∧
        (assigning.mreg (assigning.opIndex .s)).owner = none ∧ (assigning.mreg (assigning.opIndex .s)).bad = false) ∧
      (let s : State := { ready with sme := { run := some (.purge 1) } }
      s.sme.run = some (.purge 1) ∧ s.purgeReady 1 = true) := by
  unfold State.smeTakes; decide +kernel

/-- Context 0 as `x`, with 10 bytes to come. -/
def digesting (x : DgeCtx) : State := { withRegs [(.dgeCtxLen, 0, 0, 10)] with dge := { ctxs := x :: List.replicate 3 {} } }

/-- A context of SHA-384 held by the security core, GEN 1. -/
def heldCtx : DgeCtx := { st := .held, gen := 1, holder := 0, chain := sha384Init, lastHolder := 0 }

theorem wit_digest_contexts :
    ((digesting {}).d3Serves = true ∧ dgeId .sec = some 0 ∧ bit (1#32) 0 = true ∧ bit (2#32) 0 = false ∧
        ((digesting {}).dge.reqs.any fun r => r.who == 0) = false) ∧
      (let s : State := { digesting {} with dge := { (digesting {}).dge with reqs := [⟨0, 0⟩] } }
      s.dgeFreeze = false ∧ s.up .d3 = true ∧ s.dge.ctxs.length = 4 ∧ s.dgeWinner = some ⟨0, 0⟩ ∧ s.freeCtx = some 0) ∧
      ((digesting heldCtx).holdsCtx .sec 0 0x10001 ∧ (digesting heldCtx).dge.ctxs.length = 4 ∧ fldN (0x10001#32) 4 2 = 0 ∧
        (digesting heldCtx).updLen 0 = 10 ∧ ((digesting heldCtx).ctx 0).count + 10 < 2 ^ 48 ∧
        (digesting heldCtx).onCore 0 = false ∧
        ((digesting heldCtx).ctx 0).part.length + 10 < dgeBlock ((digesting heldCtx).ctx 0).alg ∧
        lowest ((digesting heldCtx).updateRefusals 0 0x10001) = none) ∧
      ((digesting heldCtx).holdsCtx .sec 0 0x10002 ∧ finalDest 0x10002 = some .read ∧
        (digesting heldCtx).destOk ((digesting heldCtx).ctx 0).holder .read = true ∧ ((digesting heldCtx).ctx 0).reads = 0) ∧
      (bit (0x10#32) 4 = true ∧ ((digesting heldCtx).ctx 0).st ≠ .abandoning) ∧
      (let s : State := { digesting heldCtx with dge := { (digesting heldCtx).dge with core2 := some 0 } }
      s.onCore 0 = true ∧ (s.ctx 0).abandon = none) := by
  unfold State.holdsCtx; decide +kernel

/-- A comparison on slice `n`. -/
def comparing (n : Nat) (r : CmpReq) : State := { ready with cmp := { slices := (List.replicate 5 none).set n (some r) } }

theorem wit_comparisons :
    (ready.d3Serves = true ∧ ready.cmpBusy .s = false ∧ (comparing 4 ⟨.blk .s, [1], [1]⟩).cmpBusy .s = true ∧
        (comparing 4 ⟨.blk .s, [1], [1]⟩).d3Serves = true) ∧
      (rsvSet .cmpCmd 0x401 = false ∧ fldN (0x401#32) 0 4 = 1 ∧ fldN (0x401#32) 4 7 = 64 ∧ rsvSet .cmpCmd 0x411 = false ∧
        fldN (0x411#32) 4 7 = 65 ∧ fldN (0x001#32) 4 7 = 0) ∧
      (let s : State := { ready with cmp := { reqs := [⟨.blk .s, [1], [2]⟩] } }
      s.cmp.slices.getD 4 none = none ∧ s.cmpWinner = some ⟨.blk .s, [1], [2]⟩) ∧
      (comparing 4 ⟨.blk .s, [1], [1]⟩).cmp.slices.getD 4 none = some ⟨.blk .s, [1], [1]⟩ ∧
      (comparing 1 ⟨.stream 5, [1], [1]⟩).cmp.slices.getD 1 none = some ⟨.stream 5, [1], [1]⟩ := by decide +kernel

/-! ### PublicKeyCommandsQueueRunAndAnswer to SpdmSessionsCarryVendorMessages -/

/-- An attestation seed of partition 0. -/
def seedSlot (i : SlotIx) : Slot := { key := 7, attr := 3, crc := if i = 0 then 0x0f0ce7e5 else 0x4c8347c5 }

/-- The public-key engine with an ephemeral key of each kind, and sound seeds in slots 0 and 1. -/
def keyEngine (p : Pke) : State := { ready with pke := p, kst := { slots := [(0, seedSlot 0), (1, seedSlot 1)] } }
def ephemeral : Pke := { ephEc := some 5, ephKem := some (List.replicate 64 1) }

/-- A command of block S, and the expansion that the Kiln asks for. -/
def blockCmd (op : PkeOp) : PkeCmd := { op := op, req := 2 }
def expandCmd : PkeCmd := { op := .expand, req := 0 }

/-- The attestation unit at work, in `p`, with `c`. -/
def attesting (p : AttPhase) (c : Option AttCmd) : State :=
  { keyEngine {} with
    kln := { root := .device, rootKey := List.replicate 32 1, formed := true }
    att := { run := some { cmd := c, phase := p }, certs := some ([1], [2]), mainReady := true, epoch := 1 } }

theorem wit_pke_commands :
    ((keyEngine ephemeral).serves .d2 = true ∧ (keyEngine ephemeral).pke.halted = false ∧
        ∀ op ∈ [PkeOp.ecVerify, .mldsaVerify, .hybVerify, .ecdhKeygen, .ecdhDerive, .kemKeygen, .kemDecaps, .kemEncaps, .pubkey],
          lowest ((keyEngine ephemeral).pkeRefusals .s op 1) = none) ∧
      ((attesting .sign none).att.run = some { cmd := none, phase := .sign } ∧ (attesting .sign none).pkeFreeze = false ∧
        (attesting .sign none).pke.halted = false ∧ ((attesting .sign none).seedSlot 0 = true ∧
          (attesting .sign none).seedSlot 1 = true) ∧
        ((attesting .sign none).slotUnusable 0 = false ∧ (attesting .sign none).slotUnusable 1 = false) ∧
        (attesting .pubkey none).att.run = some { cmd := none, phase := .pubkey }) ∧
      (let s := keyEngine { queue := [blockCmd .ecVerify, { op := .hybSign, req := 1 }] }
      s.pke.running = none ∧ s.pkeFreeze = false ∧ s.pkeWinner = some { op := .hybSign, req := 1 } ∧
        (∃ x ∈ s.pke.queue, x.req = 1)) ∧
      ((keyEngine { running := some (blockCmd .ecVerify) }).pke.running = some (blockCmd .ecVerify) ∧
        pkeFaultFits (blockCmd .ecVerify) .none = true ∧
        (keyEngine { running := some expandCmd }).pke.running = some expandCmd ∧ expandCmd.slot.toNat = 0) ∧
      bit (2#32) 1 = true := by decide +kernel

/-- A valid firmware record: one entry of each type. -/
def goodRecord : FwRecord :=
  { release := 5, entries := ((List.range 4).map fun i => { typ := BitVec.ofNat 8 (i + 1), valid := true }) ++ List.replicate 12 {} }

/-- The attestation unit free, its certificates built, one epoch begun, with `l` stored. -/
def attFree (l : List (Reg × Nat × Nat × Word)) : State :=
  { withRegs ([(.attOpMax, 0, 0, 0x1000), (.attOpOut, 0, 0, 0x1000)] ++ l) with
    kst := (keyEngine {}).kst
    kln := { root := .device, rootKey := List.replicate 32 1, formed := true }
    att := { certs := some ([1], [2]), mainReady := true, epoch := 1, staged := goodRecord } }

theorem wit_attestation :
    ((attFree []).serves .d2 = true ∧
        ∀ op ∈ [AttOp.platform, .signBind, .certRead], lowest ((attFree []).attRefusals ((attFree []).attOperands .s op) 1) = none) ∧
      ((attFree []).rootless = false ∧ (attFree []).att.run = none ∧ (attFree []).att.pendS = none ∧
        (attFree []).att.pendC = none ∧ (attFree []).att.certs = some ([1], [2]) ∧ rsvSet .attCmd 4 = false ∧
        (attFree []).attDenied ((attFree []).attOperands .s .certRead) = false ∧
        1 ≤ ((attFree []).attOperands .s .certRead).max) ∧
      (bit (1#32) 0 = true ∧ rsvSet .attCommit 1 = false ∧ (attFree []).att.staged.ok = true ∧ ready.att.staged.ok = false ∧
        bit (2#32) 0 = false) ∧
      (let c := (attFree []).attOperands .s .platform
      (attesting .sample (some c)).att.run = some { cmd := some c, phase := .sample } ∧
        (attesting .sample (some c)).att.handover = false) ∧
      (let s : State := { attFree [] with att := {} }
      s.boot.stage = 5 ∧ s.rootless = false ∧ s.att.certs = none ∧ s.att.run = none) := by decide +kernel

/-- `attFree` with an SPDM connection negotiated to step `n`, a supply key, and sessions. -/
def spdm (n : Nat) (l : List SpdmSession) : State :=
  { attFree [] with
    fw := { conn := n, sessions := l }
    otp := { startupDone := true, usable := 4, snap := [(0x10C, ⟨1, 1, 1⟩), (0x110, ⟨1, 1, 1⟩)] } }

/-- Session 9, established or in its handshake, and its Kiln slot. -/
def spdmOne (est : Bool) (k : Option (SlotIx × Gen)) : SpdmSession := { id := 9, established := est, kiln := k }

/-- Requests of DSP0274, by code and parameters, and with the vendor's header. -/
def spdmReq (code p1 p2 : Byte) (rest : Bytes) : Bytes := spdmMsg code p1 p2 rest
def zeros (n : Nat) : Bytes := List.replicate n 0
def vendorReq (op : Byte) (args : Bytes) : Bytes := vendorMsg 0xFE 1 ([2, op] ++ args)

/-- An offer of every selection of R401. -/
def offer : Bytes :=
  spdmReq 0xE3 4 0 ([48, 0, 1, 2, 0x80, 0, 0, 0, 2, 0, 0, 0] ++ zeros 16 ++ [2, 0x20, 0x10, 0, 3, 0x20, 2, 0, 4, 0x20, 0, 0, 5, 0x20, 1, 0])

/-- An exchange whose point is the generator. -/
def exchange : Bytes := spdmReq 0xE4 0xFF 0 (zeros 36 ++ p384G.bytes ++ zeros 2)

/-- A request to the row of each code outside sessions, and to one of each opcode. -/
theorem wit_spdm_requests :
    (∀ e ∈ [(spdmReq 0xE1 0 0 (zeros 16), ((0xE1, 0) : Byte × Byte)), (spdmReq 0xE3 0 0 (zeros 28), (0xE3, 0)),
        (offer, (0xE3, 0)), (spdmReq 0x81 0 0 [], (0x81, 0)), (spdmReq 0x82 0 0 [0, 0, 0xFF, 0xFF], (0x82, 0)),
        (spdmReq 0x83 0 0xFF (zeros 40), (0x83, 0)), (spdmReq 0xE0 0 0xFF (zeros 8), (0xE0, 0)), (exchange, (0xE4, 0)),
        ([0x10, 0x84, 0, 0], (0x84, 0)), (vendorReq 3 (zeros 8), (0xFE, 3)), (vendorReq 7 (zeros 32), (0xFE, 7))],
        (spdm 3 []).spdmReads none e.1 e.1 e.2) ∧
      (spdm 3 []).requestKind [0x13, 0x85, 0, 0] = none ∧ (spdm 3 []).vendorOn = true ∧ (attFree []).vendorOn = false ∧
      (attFree []).requestKind (vendorReq 3 []) = none ∧ (spdm 3 []).requestKind [0x13, 0x84, 0, 0] = some (0x84, 0) ∧
      requestVersion [0x13, 0x84, 0, 0] = 0x10 ∧ (spdm 3 []).opened (some 9) [] = none := by
  unfold State.spdmReads; decide +kernel

theorem wit_spdm_steps :
    (∀ n ∈ [0, 1, 2], (spdm n []).mainServes = true ∧ (spdm n []).fw.conn = n) ∧ 3 ≤ (spdm 3 []).fw.conn ∧
      offersAll offer spdmAlgs = true ∧ offersAll (spdmReq 0xE3 0 0 (zeros 28)) spdmAlgs = false ∧ 32 ≤ offer.length ∧
      (spdmReq 0xE1 0 0 (zeros 16)).length = 20 ∧ (spdmReq 0x83 0 0xFF (zeros 40)).length = 44 ∧
      (spdmReq 0xE0 0 0xFF (zeros 8)).length = 12 ∧ (spdmReq 0xE0 1 0xFF (zeros 41)).length = 45 ∧
      exchange.length = 138 + msgNum exchange 136 2 := by
  decide +kernel

theorem wit_spdm_open : (spdm 3 []).spdmOpen none ∧ (spdm 3 [spdmOne true none]).spdmOpen (some 9) :=
  ⟨show 3 ≤ (spdm 3 []).fw.conn by decide, show (spdmOne true none).established = true by decide⟩

theorem wit_spdm_chain :
    ∃ c, (spdm 3 []).chainCerts true = some c ∧ (∃ d, (spdm 3 []).chainCerts false = some d) ∧
      msgNum (spdmReq 0x82 0 0 [0, 0, 0xFF, 0xFF]) 4 2 < (spdmChain c).length := by
  refine ⟨_, rfl, ⟨_, rfl⟩, ?_⟩
  have h : msgNum (spdmReq 0x82 0 0 [0, 0, 0xFF, 0xFF]) 4 2 = 0 := by decide
  rw [h, spdmChain]
  simp

theorem wit_spdm_signed :
    ((spdm 3 []).attIdle .c = true ∧ (spdm 3 []).trng.fail = false) ∧
      (summaryList 0 = some [] ∧ summaryList 1 = some [1, 2, 3, 4, 5, 6] ∧ summaryList 0xFF = some ((List.range 16).map (· + 1)) ∧
        summaryList 2 = none ∧ (spdm 3 []).mrsBad ((List.range 16).map (· + 1)) = false) ∧
      pointOf (slice exchange 40 96) = p384G ∧ (spdm 3 (List.replicate 254 { id := 9 })).fw.sessions.length < 255 := by
  decide +kernel

/-- The record that carries `m` in session 9. -/
def sealed (m : Bytes) : Bytes := sealRecord [] [] 9 0 m

/-- In a session, its record of a request that its row serves is read as that request. -/
theorem reads_sealed {s : State} {m : Bytes} {k : Byte × Byte} {x : SpdmSession} (hx : s.spdmSession 9 = some x)
    (h0 : x.keys = {} ∧ x.got = 0) (hm : m.length < 65536)
    (h : s.mainServes = true ∧ s.requestKind m = some k ∧ m.headD 0 = requestVersion m ∧ (k.1 = 0xFE → s.vendorOn = true))
    (hw : s.signing = false ∧ s.cmpReady = true) : s.spdmReads (some 9) (sealed m) m k := by
  refine ⟨h.1, hw.1, fun _ => hw.2, ?_, h.2.1, h.2.2.1, h.2.2.2⟩
  rw [State.opened, hx, Option.bind_some, h0.1, h0.2]
  exact openRecord_sealRecord _ _ _ _ hm

/-- The requests of a session. -/
def sessionReqs : List (Bytes × Byte × Byte) :=
  [(spdmReq 0x84 0 0 [], 0x84, 0), (spdmReq 0xE1 0 0 [], 0xE1, 0), (spdmReq 0xE3 0 0 [], 0xE3, 0), (spdmReq 0x83 0 0 [], 0x83, 0),
    (spdmReq 0xE4 0 0 [], 0xE4, 0), (spdmReq 0x81 0 0 [], 0x81, 0), (spdmReq 0xE0 1 1 (zeros 41), 0xE0, 0),
    (spdmReq 0xE5 0 0 (zeros 48), 0xE5, 0), (spdmReq 0xEC 0 0 [], 0xEC, 0), (vendorReq 1 (zeros 4), 0xFE, 1),
    (vendorReq 3 (zeros 8), 0xFE, 3), (vendorReq 4 (zeros 36), 0xFE, 4),
    (vendorReq 4 ([1] ++ zeros 35), 0xFE, 4), (vendorReq 4 ([2] ++ zeros 35), 0xFE, 4), (vendorReq 5 (zeros 8), 0xFE, 5),
    (vendorReq 6 (zeros 8), 0xFE, 6), (vendorReq 6 (zeros 6 ++ [5, 0]), 0xFE, 6), (vendorReq 7 (zeros 32), 0xFE, 7)]

theorem wit_session_requests : ∀ est k, ∀ e ∈ sessionReqs, e.2.1 ≠ 0x84 →
    (spdm 3 [spdmOne est k]).spdmReads (some 9) (sealed e.1) e.1 e.2 := by
  intro est k e he h84
  have h1 : (spdm 3 [spdmOne est k]).spdmSession 9 = some (spdmOne est k) := by
    simp [State.spdmSession, spdm, spdmOne]
  have h2 : (spdm 3 [spdmOne est k]).mainServes = true := Eq.trans (b := (spdm 3 []).mainServes) rfl (by decide +kernel)
  have h3 : (spdm 3 [spdmOne est k]).vendor = 1 := Eq.trans (b := (spdm 3 []).vendor) rfl (by decide +kernel)
  have hr : (sessionReqs.all fun e => decide (e.1.length < 100) && (e.1.headD 0 == requestVersion e.1 || e.2.1 == 0x84) &&
      (if reqCode e.1 = 0xFE then vendorFits e.1 1 && 1 ≤ (vendorOp e.1).toNat && (vendorOp e.1).toNat ≤ 7 &&
        (e.2 == (0xFE, vendorOp e.1)) else servedCodes.contains (reqCode e.1) && e.2 == (reqCode e.1, 0))) = true := by
    decide +kernel
  have h4 := List.all_eq_true.mp hr e he
  have h5 : (spdm 3 [spdmOne est k]).cmpReady = true := Eq.trans (b := (spdm 3 []).cmpReady) rfl (by decide +kernel)
  refine reads_sealed h1 ⟨rfl, rfl⟩ ?_ ⟨h2, ?_, ?_, fun _ => ?_⟩ ⟨rfl, h5⟩
  · simp only [Bool.and_eq_true, decide_eq_true_eq] at h4; omega
  · rw [State.requestKind, h3]
    split at h4 <;> simp_all
  · simp_all
  · rw [State.vendorOn, h3]; rfl

/-- A PQ_ACCEPT is read, whatever its 1,664 bytes are. -/
theorem pq_accept_read {z : Bytes} (hz : z.length = 1664) :
    (spdm 3 [spdmOne true none]).spdmReads (some 9) (sealed (vendorReq 2 z)) (vendorReq 2 z) (0xFE, 2) ∧
      argsFit (vendorReq 2 z) 1664 1664 := by
  have hl : ([2, 2] ++ z).length = 1666 := by rw [List.length_append, hz]; rfl
  have hb : leBytes 2 1666 = [0x82, 0x06] := by decide
  have hm : vendorReq 2 z = [0x13, 0xFE, 0, 0, 3, 0, 2, 1, 0, 0x82, 6, 2, 2] ++ z := by
    rw [vendorReq, vendorMsg, hl, hb]; rfl
  have hs : (spdm 3 [spdmOne true none]).vendor = 1 := by decide +kernel
  have hn : msgNum (vendorReq 2 z) 9 2 = 1666 := by rw [hm]; rfl
  have hp : vendorPayload (vendorReq 2 z) = [2, 2] ++ z := by
    rw [vendorPayload, hn, hm, slice]
    show ([2, 2] ++ z).take 1666 = _
    exact List.take_of_length_le (by rw [hl])
  have h6 : (vendorReq 2 z).length = 11 + 1666 := by rw [hm, List.length_append, hz]; rfl
  have hf : vendorFits (vendorReq 2 z) 1 = true := by
    rw [vendorFits, hn, hp, h6, show slice (vendorReq 2 z) 4 5 = [3, 0, 2, 1, 0] by rw [hm]; rfl]; rfl
  refine ⟨reads_sealed (x := spdmOne true none) (by decide +kernel) ⟨rfl, rfl⟩ (by rw [h6]; decide)
    ⟨by decide +kernel, ?_, by rw [hm]; rfl, fun _ => by decide +kernel⟩ (by decide +kernel), ?_⟩
  · have hc : reqCode (vendorReq 2 z) = 0xFE := by rw [hm]; rfl
    have ho : vendorOp (vendorReq 2 z) = 2 := by rw [vendorOp, hp]; rfl
    rw [State.requestKind, if_pos hc, hs, hf, ho]; rfl
  · rw [argsFit, vendorArgs, hp]
    show z.length = 1664 ∧ (z.drop 1664).any _ = false
    rw [List.drop_eq_nil_of_le (by rw [hz])]
    exact ⟨hz, rfl⟩

theorem wit_pq_accept : (spdm 3 [spdmOne true none]).spdmReads (some 9) (sealed (vendorReq 2 (zeros 1664)))
      (vendorReq 2 (zeros 1664)) (0xFE, 2) ∧ argsFit (vendorReq 2 (zeros 1664)) 1664 1664 :=
  pq_accept_read List.length_replicate

/-- A FINISH with its verify data, and one with other data. -/
theorem wit_finish (x : SpdmSession) :
    let v := x.verifyData [0x13, 0xE5, 0, 0]
    let m := [0x13, 0xE5, 0, 0] ++ v
    let w := [0x13, 0xE5, 0, 0] ++ v.map (· + 1)
    m.length = 52 ∧ slice m 4 48 = x.verifyData m ∧ w.length = 52 ∧ slice w 4 48 ≠ x.verifyData w := by
  intro v m w
  have hv : v.length = 48 := by simp only [v, SpdmSession.verifyData, reqVerify, length_hmac384]
  have hm : slice m 4 48 = v := by
    show v.take 48 = v; exact List.take_of_length_le (by omega)
  have hw : slice w 4 48 = v.map (· + 1) := by
    show (v.map (· + 1)).take 48 = _; exact List.take_of_length_le (by rw [List.length_map]; omega)
  refine ⟨by simp [m, hv], hm, by simp [w, hv], ?_⟩
  rw [hw]
  show v.map (· + 1) ≠ v
  match v, hv with
  | b :: l, _ =>
    intro h
    have h1 : b + 1 = b := (List.cons.inj h).1
    bv_omega

/-- The vendor requests' arguments fit; the states in which each clause of the session's statement applies. -/
theorem wit_vendor_requests :
    (argsFit (vendorReq 1 (zeros 4)) 4 1 ∧ argsFit (vendorReq 3 (zeros 8)) 8 6 ∧
        argsFit (vendorReq 4 ([2] ++ zeros 35)) 36 36 ∧ argsFit (vendorReq 7 (zeros 32)) 32 32 ∧
        msgNum (vendorArgs (vendorReq 4 ([2] ++ zeros 35))) 0 1 = 2 ∧
          msgNum (vendorArgs (vendorReq 6 (zeros 6 ++ [5, 0]))) 6 1 = 5) ∧
      (let s := spdm 3 [spdmOne true none]
      s.slotFree 3 = true ∧ s.slotFree 2 = true ∧ s.fw.leg = none ∧ s.fw.pq = none ∧ s.secServes = true ∧ s.klnFree = true ∧
        s.attIdle .c = true ∧ s.dgeReady = true ∧ s.fw.compose = none ∧ (s.fw.coll.any fun c => !c.ended) = false ∧
        (s.onMslot 3 fun v => { v with full := true }).slotFree 3 = false ∧
        ({ s with kln := { s.kln with wait := some ⟨2, 2, .none⟩ } } : State).klnFree = false ∧
        ({ s with crs := { s.crs with strap := { s.crs.strap with role := 2 } } } : State).isManager = true) ∧
      (∃ b ∈ (List.range 4).flatMap fun i => leBytes 8 ((spdm 3 []).configRow (0x10C + i)).toNat, b ≠ 0) ∧
      (∀ b ∈ (List.range 4).flatMap fun i => leBytes 8 ((attFree []).configRow (0x10C + i)).toNat, b = 0) := by
  unfold argsFit; decide +kernel

/-- `spdm 3` with session 9, where the firmware's command of block C is for `j` and has ended with `k`, or has not ended. -/
def asked (j : FwJob) (k : Option (Code × Nat)) : State :=
  (spdm 3 [spdmOne true none]).onFw fun w => { w with attC := some ⟨j, k⟩ }

/-- Commands that the responder gave and that ended, with DONE or refused; one that runs, and a comparison of block C. -/
theorem wit_spdm_answers :
    (∀ j ∈ [FwJob.challenge [], .measure none [], .exchange 3 [] [] [], .session 9], ∀ k ∈ [Code.done, .deniedAttr],
      (asked j (some (k, 0))).fw.attC = some ⟨j, some (k, 0)⟩ ∧ (asked j (some (k, 0))).mainServes = true ∧
        (asked j (some (k, 0))).dgeReady = true) ∧
    (asked (.challenge []) none).mainServes = true ∧ (asked (.challenge []) none).signing = true ∧
    (asked (.session 9) none).attIdle .c = false ∧
    (let s := (spdm 3 [spdmOne true none]).onCmp fun m => { m with slices := (List.replicate 5 none).set 4 (some ⟨.blk .c, [], []⟩) }
    s.mainServes = true ∧ s.signing = false ∧ ((some 9).bind s.spdmSession).isSome = true ∧ s.cmpReady = false) ∧
    ((spdm 3 [spdmOne true none]).opened (some 9) [] = none) := by decide +kernel

/-- The digest engine busy; the leg at work, at each step, its command ended with DONE or refused; a leg open. -/
theorem wit_pq_steps :
    ({ spdm 3 [] with crs := { (spdm 3 []).crs with released := 0x3B } } : State).dgeReady = false ∧
    (∀ st ∈ [PqStep.ecKey, .kemKey, .sign, .derive, .decaps, .openSlot], ∀ k ∈ [Code.done, .deniedAttr],
      let q : PqWork := { id := 9, part := 1, step := st, code := some k }
      let s := (spdm 3 [spdmOne true none]).onFw fun w => { w with pq := some q }
      s.fw.pq = some q ∧ s.secServes = true ∧ s.mainServes = true ∧ s.slotFree 2 = true ∧
        (s.onMslot 2 fun v => { v with full := true }).slotFree 2 = false) ∧
    (let s := (spdm 3 [spdmOne true none]).onFw fun w => { w with leg := some ⟨9, 1, []⟩ }
    s.fw.leg = some ⟨9, 1, []⟩ ∧ s.fw.pq = none ∧ s.up .d2 = true ∧ s.secServes = true ∧ s.slotFree 3 = true) ∧
    (64 ≤ msgNum (vendorArgs (vendorReq 4 ([1, 69] ++ zeros 34))) 1 1) := by decide +kernel


/-! ### PartitionsAreDefinedWithTheirJobs to MailboxesPassMessagesAndDoorbells -/

/-- Partition 1 in state `x`, with arrays `m`; PRT_OP names it, region or register 6, and job 2. -/
def parted (x : PartState) (m : BitVec 256) (l : List (Reg × Nat × Nat × Word)) : State :=
  { withRegs ([(.prtOp, 0, 0, 0x20601)] ++ l) with
    prt := { parts := [(1, { st := x, arrays := m })], gens := [(1, 1)] } }

/-- Partition 2 staged: confidential or not, with DATA region 5 of one page. -/
def staging (conf : Bool) : State :=
  { parted .active 0 [(.prtStg, 0, 0, if conf then 0x102 else 2)] with
    prt := { parts := [(1, { st := .active })], gens := [(1, 1)],
             staged := [(5, { part := 2, kind := 1, base := 0x1000, pages := 1 })] } }

/-- A full table of job digests, none of partition 1 and job 2. -/
def allJobs : Sparse (Option JobDigest) := (List.range 64).map fun i => (i, some ⟨9, BitVec.ofNat 16 i, [], []⟩)

/-- `parted .active` with the job digests `l`. -/
def jobs (l : Sparse (Option JobDigest)) : State :=
  { parted .active 0 [] with prt := { (parted .active 0 []).prt with jobs := l } }

theorem wit_partitions :
    (ready.serves .d2 = true ∧ bit (1#32) 0 = true ∧ bit (3#32) 0 = true ∧
      lowest (ready.commitEarly ++ ready.commitRefusals) = some .deniedAttr ∧
        lowest ready.commitEarly = some .deniedAttr ∧ lowest (staging true).commitEarly = none ∧
        ∀ c ∈ [false, true], lowest ((staging c).commitEarly ++ (staging c).commitRefusals) = none ∧
          Sparse.wf 0 (staging c).prt.gens = true ∧
          Sparse.wf {} (staging c).prt.staged = true ∧ (staging c).stgConf = c ∧
          (staging c).stagedRegions 2 = [(5, { part := 2, kind := 1, base := 0x1000, pages := 1 })]) ∧
      ((jobs []).prtTakes 1 ∧ (withRegs []).prtTakes 1 ∧ (withRegs []).prtPart = 0) ∧
      ((jobs []).partState 1 = .active ∧ (jobs []).prtPart = 1 ∧ (jobs []).jobDigest 1 2 = none ∧ (jobs []).freeJob = some 0 ∧
        (jobs allJobs).jobDigest 1 2 = none ∧ (jobs allJobs).freeJob = none ∧
        (jobs [(3, some ⟨1, 2, [], []⟩)]).jobDigest 1 2 = some (3, ⟨1, 2, [], []⟩)) :=
  ⟨by decide +kernel, by unfold State.prtTakes; decide +kernel, by decide +kernel⟩

/-- A gate run of partition 1 may begin: its job is formed, its register assigned, its regions and gate endpoint there. -/
def gateReady : State :=
  { parted .active 0 [] with
    prt := { (parted .active 0 []).prt with
             jobs := [(3, some ⟨1, 2, [], []⟩)]
             regions := [(1, { part := 1, kind := 2, pages := 1 }), (2, { part := 1, kind := 3, base := 0x1000, pages := 1 })] }
    kln := { recs := [(3, some (krec .formed))] }
    mrs := [(6, { owner := some 1 })]
    kfb := { eps := [(0x201, { dmaEp with gate := true })], mirror := [⟨0x201, 9, false, 0, 0x20, 1, false, 5, 0⟩] }
    csram := [(0xEC0000, 5)] }

/-- `parted` with the gate in state `g`. -/
def gating (g : Gate) : State := { gateReady with prt := { gateReady.prt with gate := g } }

/-- A RELEASE of partition 1 under way, at `st`, with the token of array 3 awaited. -/
def releasing (st : RelStage) : State :=
  { parted .releasing 8 [] with
    prt := { parts := [(1, { st := .releasing, arrays := 8 })], gens := [(1, 1)], rel := some ⟨1, st, 8, []⟩,
             regions := [(6, { part := 1, kind := 2, pages := 1, scrubbed := true })] } }

theorem wit_gate_and_release :
    (gateReady.prtTakes 1 ∧ (gating { held := true }).prtTakes 1 ∧ (releasing .awaitFw).prtTakes 1) ∧
      (gateReady.prt.gate.active = false ∧ gateReady.prt.gate.held = false ∧ gateReady.partState gateReady.prtPart = .active ∧
        (gateReady.jobDigest gateReady.prtPart gateReady.prtJob).isSome = true ∧
        (gateReady.record gateReady.prtPart.toNat gateReady.prtJob).any (fun e => e.2.state == .formed) = true ∧
        (gateReady.mreg gateReady.prtIndex).owner = some gateReady.prtPart ∧ gateReady.hasRegion gateReady.prtPart 2 = true ∧
        gateReady.hasRegion gateReady.prtPart 3 = true ∧ gateReady.gateKeyed gateReady.prtPart = true ∧
        gateReady.gateWithheld = false ∧ Memory.wf 0 gateReady.csram) ∧
      ((gating { held := true }).prt.gate.held = true ∧ (gating { active := true }).prt.gate.active = true) ∧
      (let s := parted .active 8 []
      s.prtBackground = false ∧ s.prtPart ≠ 0 ∧ s.partState s.prtPart = .active ∧ (s.partEntry s.prtPart).arrays ≠ 0 ∧
        (s.partEntry s.prtPart).arrays.getLsbD 3 = true) ∧
      (let s := releasing .drain
      s.up .d2 = true ∧ s.up .d4 = true ∧ s.prt.rel = some ⟨1, .drain, 8, []⟩ ∧ (8#256).getLsbD (3#8).toNat = true ∧
        s.partGen 1 = 1 ∧ s.partGen 1 ≠ 2) ∧
      (let s := releasing .awaitFw
      s.partPhase s.prtPart = 4 ∧ (s.region s.prtIndex).part = s.prtPart ∧ (s.region s.prtIndex).kind = 2 ∧
        (∀ i ∈ s.regionsOf s.prtPart, (s.region i).kind = 1 ∨ (s.region i).scrubbed = true) ∧ s.regionsOf s.prtPart = [6] ∧
        s.prt.gate.held = false ∧ s.prtPart ≠ 0 ∧ Sparse.wf {} s.prt.parts = true ∧ Sparse.wf {} s.prt.regions = true) ∧
      ready.prtBackground = false := by
  unfold State.prtTakes; decide +kernel

/-- `ready` with MAIN_READY, and slot `i` of the mailboxes as `v`. -/
def mailed (i : Nat) (v : MbxSlot) : State :=
  { ready with att := { mainReady := true }, mbx := { slots := (List.replicate 8 {}).set i v } }

/-- A message whose first word is `w`. -/
def saying (w : Word) : MbxSlot := { msg := w :: List.replicate 15 0 }

/-- A message to the host driver, and one to the frame engine, whose first word is `w`. -/
def offering (w : Word) : State := mailed 1 (saying w)
def framing (w : Word) : State := mailed 7 (saying w)

theorem wit_mailboxes :
    (let s := mailed 3 {}
    s.gateCore (.ctl 2) = false ∧ s.serves .d6 = true ∧ s.mbxSender (.ctl 2) 1 .ba = true ∧ slotIx 1 .ba = 3 ∧
      lowest (s.sendRefusals 3 0) = some .badLength ∧ lowest (s.sendRefusals 3 16) = none) ∧
      ((offering 1).mbxSender (.ctl 2) 0 .ba = true ∧ slotIx 0 .ba = 1 ∧ lowest ((offering 1).sendRefusals 1 4) = none ∧
        (offering 1).msgType 1 = 1 ∧ lowest ((offering 2).sendRefusals 1 4) = none ∧
        (offering 2).msgType 1 ≠ 1) ∧
      ((framing 5).mbxSender .sec 3 .ba = true ∧ slotIx 3 .ba = 7 ∧ lowest ((framing 5).sendRefusals 7 4) = none ∧
        postable ((framing 5).mslot 7).msg = true ∧ lowest ((framing 2).sendRefusals 7 4) = none ∧
        postable ((framing 2).mslot 7).msg = false) ∧
      (let s : State := { ready with crs := { ready.crs with dim := true } }
      s.mbxSender (.icp 0) 0 .ab = true ∧ slotIx 0 .ab = 0 ∧ s.crs.dim = true ∧ 3 &&& 0x7FFFFFFF#32 ≠ 0 ∧
        s.serves .d6 = true ∧ s.gateCore (.icp 0) = false) ∧
      (ready.mbxReceiver .sec 0 .ab = true ∧ ready.mbxReceiver (.icp 0) 0 .ba = true ∧ ready.gateCore .sec = false ∧
        ready.mbxSender (.icp 1) 0 .ab = false ∧ ready.mbxReceiver .sec 0 .ba = false ∧ ready.crs.dim = false) ∧
      (gating { active := true }).prt.gate.active = true ∧
      (fld 0xC4000000#32 24 8 = 0xC4#8 ∧ fld 0xC5000000#32 24 8 ≠ 0xC4#8 ∧ ready.mbx.slots.length = 8) := by decide +kernel


/-! ### HostDriverNegotiatesAndUsesRings to RandomWordsAreGivenOnceEach -/

/-- `ready` with MAIN_READY, the capability exchange active with every feature, and ring 2 of partition 1 running. -/
def ringing : State :=
  { ready with
    att := { mainReady := true }
    prt := { parts := [(1, { st := .active })] }
    fw := { capgen := 3, capActive := true, offered := true, features := 7,
            rings := [(2, { st := .running, gen := 4, part := 1, sqLog := 4, cqLog := 4 })] } }

/-- A host message that begins with the words `l`. -/
def hostSays (l : List Word) : State :=
  { ringing with mbx := { slots := { msg := l ++ List.replicate (16 - l.length) 0, full := true } :: List.replicate 7 {} } }

/-- A driver page that agrees with `ringing`. -/
def driverPage (features : Nat) : Bytes := capPage 1 3 0 9 0 features 0 0

/-- A submission of ring 2, of generation `g`, with opcode `op` and stream 4. -/
def entry (op g : Byte) : Bytes := [op, 0, 1, g, 9, 0, 0, 0, 4, 0, 0x31, 0, 9, 0, 0, 0, 2] ++ List.replicate 47 0

theorem wit_negotiation :
    ((hostSays [2, 3]).mainServes = true ∧ (hostSays [2, 3]).hostMsg 2 = true ∧ (hostSays [2, 3]).msgType 0 = 2 ∧
        (hostSays [2, 3]).mbx.slots.length = 8) ∧
      ((∀ t ∈ [2, 4, 5, 7], (hostSays [6]).hostMsg t = true ∧ (hostSays [9]).hostMsg t = true) ∧
        (hostSays [6]).msgType 0 = 6 ∧ (hostSays [9]).msgType 0 = 9 ∧ (hostSays [6]).mainServes = true) ∧
      ((hostSays [4, 0x440103]).hostMsg 4 = true ∧ (hostSays [4, 0x440103]).ringDenied false = false ∧
        (hostSays [4, 0x30103]).ringDenied false = true ∧
        (hostSays [0x104, 0x440103]).ringDenied false = true ∧ (hostSays [4]).msgType 0 = 4) ∧
      ((hostSays [5, 2]).hostMsg 5 = true ∧ Sparse.wf {} (hostSays [5, 2]).fw.rings = true ∧
        (hostSays [5, 2]).msgReserved = false ∧ fld ((hostSays [5, 2]).msgWord 0 1) 6 26 = 0 ∧
        (hostSays [0x105, 2]).msgReserved = true ∧ fld ((hostSays [5, 0x42]).msgWord 0 1) 6 26 ≠ 0) ∧
      ((hostSays [7]).hostMsg 7 = true ∧ (hostSays [7]).reportDue = true ∧ (hostSays [7]).msgReserved = false ∧
        (hostSays [0x107]).msgReserved = true ∧
        (let s : State := { hostSays [7] with att := {} }
        s.reportBlk = .s ∧ s.reportDue = true ∧ s.hostMsg 7 = true)) ∧
      ((hostSays [2, 3]).mainFree = true ∧ ringing.fw.io = [] ∧ ringing.serves .d6 = true ∧
        (∀ x ∈ [(some [1], [2, 3]), (none, [2, 3])],
          ((hostSays x.2).onFw fun w => { w with page := some x.1 }).fw.page = some x.1) ∧
        (hostSays [6]).hostMsg 5 = true ∧ (hostSays [6]).msgType 0 ≠ 5) ∧
      (ringing.mainServes = true ∧ (ringing.mslot 1).full = false ∧ ringing.mbx.slots.length = 8 ∧
        (ringing.onFw fun f => { f with hostReset := true }).driverGone .hostReset = true ∧
        (ringing.onFw fun f => { f with unanswered := true }).driverGone .offer = true) := by decide +kernel

/-- LIVENESS, where the driver must tick and feature 5 is active. -/
theorem wit_liveness (h : Config.fwLivePeriod ≠ 0) :
    (ringing.onFw fun f => { f with features := 0x21 }).driverGone .liveness = true := by
  have h5 : (ringing.onFw fun f => { f with features := 0x21 }).feature 5 = true := by decide +kernel
  simp [State.driverGone, h5, h]

/-- A page is accepted where the firmware's protocol levels leave one in common, and one of no bytes never is. -/
theorem wit_pages (h : Config.fwProtoMin ≤ min Config.fwProtoMax 9) :
    (hostSays [2, 3]).capCode (driverPage 1) = .done ∧ (hostSays [2, 3]).capCode [] ≠ .done := by
  have h1 : (hostSays [2, 3]).pageBad (driverPage 1) = false := by decide +kernel
  have h2 : (hostSays [2, 3]).pageBad [] = true := by decide +kernel
  have h3 : pageNum (driverPage 1) 0x10 32 = 1 ∧ pageNum (driverPage 1) 0xA 2 = 9 ∧ pageNum (driverPage 1) 8 2 = 0 := by
    decide +kernel
  have h6 : (hostSays [2, 3]).fw.offered = true ∧ (hostSays [2, 3]).msgReserved = false := by decide +kernel
  have h4 : (hostSays [2, 3]).msgWord 0 1 = (hostSays [2, 3]).fw.capgen.setWidth 32 := by decide +kernel
  refine ⟨?_, ?_⟩
  · simp only [State.capCode, capLevel, h1, h3.1, h3.2.1, h3.2.2, h4, lowest]
    have h5 : ¬ min Config.fwProtoMax 9 < Config.fwProtoMin := by omega
    rw [h6.1, h6.2]
    simp [h5]
  · simp only [State.capCode, h2, lowest]
    cases pageNum [] 0x10 32 % 2 == 0 <;> cases (decide (capLevel [] < Config.fwProtoMin) || decide (capLevel [] < pageNum [] 8 2)) <;>
      simp [Code.num]

/-- `ringing`, rung, nothing read yet; the firmware waits for a write, or for a read. -/
def rung : State := { ringing with mbx := { slots := List.replicate 8 {}, ringPend := 4 } }
def writingOut : State := ringing.onFw fun w => { w with io := [{ ops := [.write 0x40 [1]] }], ioOut := true }

theorem wit_firmware_memory :
    (rung.mainFree = true ∧ rung.fw.look = none ∧ rung.mpRoom = true ∧ rung.gateBound rung.coreCtx = false ∧
        rung.acceptWaits = false ∧ rung.nextRing = some 2) ∧
      (writingOut.fw.io = [{ ops := [.write 0x40 [1]] }] ∧ writingOut.fw.ioOut = true) := by decide +kernel

/-- `s` with the submission `e` at the head of ring 2, whole or with a descriptor that could not be read. -/
def heads (s : State) (h : RingHead) : State := s.setRing 2 { s.ringOf 2 with head := h }

/-- `ringing` on a manager, whose worker 5 has told its release: one MAINFW at level 1, as the manager's own. -/
def spanning : State :=
  { ringing with
    crs := { ringing.crs with strap := { ringing.crs.strap with role := 2 } }
    att := { ringing.att with record := { entries := { typ := 3, version := 0x01000000, valid := true } :: List.replicate 15 {} } }
    fw := { ringing.fw with infos := [⟨5, 5, [(3, 0, 0x01000002, 0x01000000)]⟩] } }

theorem wit_submissions :
    ((∀ o ∈ [(1, 1), (2, 2), (3, 3), (4, 4), (5, 5), (6, 1), (6, 2), (6, 3), (6, 4), (6, 5)],
        let s := heads ringing (.whole (entry (BitVec.ofNat 8 o.1) 4))
        s.submitted 2 o.2 = true ∧ (s.ringOf 2).head = .whole (entry (BitVec.ofNat 8 o.1) 4)) ∧
        ringing.submitted 2 1 = false ∧
        (let s := heads ringing (.bad (entry 2 4))
        (s.ringOf 2).head = .bad (entry 2 4) ∧ s.submitted 2 2 = true ∧ s.entryGood 2 (entry 2 4) 2 0 = true) ∧
        ∀ i ∈ [1, 2, 3, 4, 5], entryReserved (entry (BitVec.ofNat 8 i) 4) = false) ∧
      (entryReserved ([1, 2] ++ zeros 62) = true ∧ entryReserved (zeros 7 ++ [1]) = true) ∧
      (ringing.spanLevel [5] = none ∧ spanning.spanLevel [5] = some 1 ∧ spanning.spanLevel [5, 6] = none ∧
        (heads spanning (.whole (entry 2 4))).submitted 2 2 = true) ∧
      (let s := ringing.onKfb fun k => { k with eps := [(7, { present := true, part := 1, kind := usageHostbus })] }
      (s.endpoint 7).present = true ∧ (s.endpoint 7).part = 1 ∧ (s.endpoint 7).kind = usageHostbus ∧
        (ringing.endpoint 7).present = false) ∧
      (entryNum (entry 1 4) 3 1 = 4 ∧ entryNum (entry 1 4) 2 1 = 1 ∧ entryNum (entry 1 4) 0 1 = 1 ∧
        entryNum (entry 1 5) 3 1 ≠ 4 ∧ entryNum (entry 6 4) 0 1 ≠ 1) ∧
      ((ringing.ringOf 2).gen = 4 ∧ (ringing.ringOf 2).part = 1 ∧ ringing.feature 0 = true ∧ ringing.feature 1 = true) ∧
      (ringing.sme.run = none ∧ ringing.sme.waitS = none ∧ ringing.sme.waitC = none ∧ ringing.d3Serves = true) ∧
      (let s : State := { ringing with sme := { ringing.sme with streams := [(4, { st := .closed, part := 1 })] } }
      (s.stream 4).st = .closed ∧ (s.stream 4).part = (s.ringOf 2).part) ∧
      (let s : State := { ringing with sme := { ringing.sme with streams := [(4, { st := .closed, part := 2 })] } }
      (s.stream 4).st ≠ .free ∧ (s.stream 4).part ≠ (s.ringOf 2).part) := by decide +kernel

/-- `ready` with MAIN_READY in role `r`. -/
def paired (r : BitVec 2) : State :=
  { ready with
    crs := { ready.crs with strap := { ready.crs.strap with role := r } }
    att := { mainReady := true }
    wcp := { credits := 1, genReport := some 7 } }

/-- A message of type `t` with `n` beats waits in MBX2. -/
def channelMsg (r : BitVec 2) (t n : Nat) (payload : BitVec 84) : State :=
  let h := header 5 (t % 2 == 0) t n 7 payload
  let v : MbxSlot :=
    { full := true, msg := [beatWord h 0, beatWord h 1, beatWord h 2, beatWord h 3, 0xE60000] ++ List.replicate 11 0 }
  { paired r with mbx := { slots := (List.replicate 8 {}).set 4 v } }

theorem wit_channel :
    (ready.wcpUp = false ∧ (paired 1).wcpUp = true ∧ (paired 2).wcpUp = true) ∧
      (hLen (header 5 false 3 0 7 0) = 0 ∧ (paired 1).headerBad (header 5 false 3 0 7 0) true = false ∧
        (paired 1).headerBad (header 5 true 3 0 7 0) true = true ∧
        (paired 1).wantedGen (header 5 false 3 0 7 0) = some (hGen (header 5 false 3 0 7 0)) ∧
        (paired 1).wcpRoom = true ∧ (paired 1).wcp.rx = [] ∧ (paired 1).mbx.slots.length = 8 ∧
          (channelMsg 1 3 0 0).wcpRoom = false) ∧
      ((paired 2).headerBad (header 5 true 2 0 8 0) true = false ∧
        (paired 2).wantedGen (header 5 true 2 0 8 0) ≠ some (hGen (header 5 true 2 0 8 0))) ∧
      ((paired 1).wcp.tx = [] ∧ ({ paired 1 with wcp := { tx := [3] } } : State).wcp.tx = [3] ∧
        ({ paired 1 with wcp := { posted := true } } : State).wcp.posted = true) := by decide +kernel

/-- A descriptor of a VERSION_REQ waits to be sent by a manager, or by a worker. -/
def sendingMsg (r : BitVec 2) : State :=
  let h := header 5 false 3 0 7 0
  let v : MbxSlot := { msg := [beatWord h 0, beatWord h 1, beatWord h 2, beatWord h 3] ++ List.replicate 12 0 }
  { paired r with mbx := { slots := (List.replicate 8 {}).set 5 v } }

theorem wit_channel_send :
    (sendingMsg 2).gateCore (.ctl 0) = false ∧ (sendingMsg 2).serves .d6 = true ∧
      (sendingMsg 2).mbxSender (.ctl 0) 2 .ba = true ∧ lowest ((sendingMsg 2).sendRefusals 5 (fldN 6#32 0 5)) = none ∧
      (sendingMsg 2).mbx.slots.length = 8 ∧ (sendingMsg 2).wcpUp = true ∧
      (sendingMsg 2).headerBad (descHeader ((sendingMsg 2).mslot 5).msg) false = false ∧
      (sendingMsg 1).headerBad (descHeader ((sendingMsg 1).mslot 5).msg) false = true := by decide +kernel

/-- A collection of generation 7 with worker 5, ended or not. -/
def collection (ended : Bool) : Collection := { gen := 7, nonce := [], workers := [{ worker := 5 }], ended := ended }
def collecting (s : State) (ended : Bool) : State := { s with fw := { coll := some (collection ended) } }

theorem wit_worker_messages :
    ((channelMsg 1 1 2 0).isWorker = true ∧ (channelMsg 1 1 2 0).wcpMsg 1 = true ∧ (channelMsg 1 1 2 0).attIdle .c = true ∧
        messageBad (channelMsg 1 1 2 0).wcpHead 2 84 = false ∧
        messageBad (channelMsg 1 1 2 1).wcpHead 2 84 = true ∧ messageBad (channelMsg 1 1 1 0).wcpHead 2 84 = true) ∧
      (let s : State := { channelMsg 1 3 0 0 with att := { mainReady := true, record := goodRecord } }
      s.wcpMsg 3 = true ∧ messageBad s.wcpHead 0 84 = false ∧ messageBad (channelMsg 1 3 1 0).wcpHead 0 84 = true ∧
        4 ≤ (s.att.record.entries.filter fun e => e.valid).length) ∧
      (∀ k ∈ [Code.done, .deniedAttr],
        let s := (paired 1).onFw fun w => { w with attC := some ⟨.worker 0, some (k, 9)⟩ }
        s.fw.attC = some ⟨.worker 0, some (k, 9)⟩ ∧ s.mainServes = true) ∧
      ((channelMsg 1 5 0 0).wcpMsg 5 = true ∧ (channelMsg 1 5 0 0).isWorker = true ∧
        messageBad (channelMsg 1 5 0 (1 <<< 76)).wcpHead 0 76 = false ∧ messageBad (channelMsg 1 5 0 1).wcpHead 0 76 = true) ∧
      (let s := collecting (channelMsg 2 5 0 0) false
      s.wcpMsg 5 = true ∧ s.isWorker = false ∧ s.fw.coll = some (collection false) ∧
        hWorker s.wcpHead = 5 ∧ (collection false).workers.map (fun a => a.worker) = [5]) ∧
      (let s := collecting (channelMsg 2 2 1 0) false
      s.isManager = true ∧ s.wcpMsg 2 = true ∧ s.mainServes = true ∧ s.fw.coll = some (collection false) ∧
        (collection true).ended = true ∧
        (collection false).gen = hGen s.wcpHead ∧ s.workerAnswer (hWorker s.wcpHead) = some { worker := 5 } ∧
        s.workerAnswer 6 = none ∧ (channelMsg 2 2 1 0).fw.coll = none) ∧
      ((channelMsg 2 4 4 (4 <<< 44)).wcpMsg 4 = true ∧ hLen (channelMsg 2 4 4 (4 <<< 44)).wcpHead = 4 ∧
        fldN (hPayload (channelMsg 2 4 4 (4 <<< 44)).wcpHead) 44 8 = 4 ∧
        fldN (hPayload (channelMsg 2 4 4 (4 <<< 44)).wcpHead) 0 44 = 0 ∧
        ((beatsOf 4 (channelMsg 2 4 4 (4 <<< 44)).wcpBytes).all fun b => fldN b 0 48 == 0) = true) ∧
      (hLen (channelMsg 2 4 3 0).wcpHead < 4 ∧ 16 < hLen (channelMsg 2 4 17 0).wcpHead ∧
        (channelMsg 2 4 4 (4 <<< 44)).info 5 = none) := by decide +kernel

/-- The fence with `f`. -/
def fenced (f : Fnc) (l : List (Reg × Nat × Nat × Word)) : State := { withRegs l with fnc := f }

theorem wit_fence :
    (ready.serves .d1 = true ∧ bit (1#32) 0 = true ∧ rsvSet .fncCommit 1 = false ∧ rsvSet .fncCommit 3 = true ∧
        ready.confAny = false ∧ ready.stagedPlan.loosens ready.fnc.plan = false ∧
        ready.fnc.plan.wear ≤ ready.stagedPlan.wear ∧ Fnc.planBad { ready.fnc with plan := ready.stagedPlan } = false) ∧
      (ready.up .d1 = true ∧ ready.fnc.next < 192) ∧
      (let s := fenced { owed := [3, 0x80] } []
      s.fnc.owed.contains 3 = true ∧ s.fnc.owed.contains 0x80 = true ∧ s.fnc.owed.contains 5 = false ∧
        readingPresent 0x8003 = true ∧ readingPresent 3 = false) ∧
      (let s := fenced { next := 192, owed := [0x80], scanMax := some 100 } []
      s.up .d1 = true ∧ s.fnc.next = 192 ∧ (∀ a ∈ s.fnc.owed, 128 ≤ a.toNat) ∧ s.fnc.trips = none) ∧
      (let s := fenced { next := 192, scanMax := some 0x320 } []
      s.fnc.scanMax = some 0x320 ∧ s.fnc.tripT ≤ 0x320) ∧
      (let s := fenced { avs := [.readV, .readI], avsRetried := true } []
      s.fnc.avs = [.readV, .readI] ∧ s.fnc.avsRetried = true ∧ ({} : Fnc).avsRetried = false) ∧
      (let s := fenced { settling := some 800, avs := [.readV] } []
      s.fnc.raiseWritten = true ∧ s.fnc.settling = some 800 ∧ 800 ≤ (790#16).toNat + 10 ∧ (790#16).toNat ≤ 800 + 10 ∧
        (789#16).toNat + 10 < 800 ∧ s.fnc.readRetried = false ∧
        (fenced { settling := some 800, avs := [.readV], readRetried := true } []).fnc.raiseWritten = true) := by decide +kernel

theorem wit_random_words :
    trngBank .sec = some 0 ∧ trngBank (.ctl 7) = some 8 ∧ trngBank (.icp 0) = none ∧ ready.gateCore .sec = false ∧
      ready.serves .d1 = true ∧ ready.up .d1 = true ∧ ready.trng.fail = false ∧ ready.trng.banks.length = 9 ∧
      ready.trng.next < 9 ∧ ready.trng.banks.getD 0 [] = [] ∧
      ({ ready with trng := { banks := [5] :: List.replicate 8 [] } } : State).trng.banks[0]? = some (5 :: []) ∧
      (∀ r ∈ [(0x3F : BitVec 6), 0x3D], ({ ready with crs := { ready.crs with released := r }, trng := { fail := true } } :
        State).trng.fail = true ∧ ({ ready with crs := { ready.crs with released := r } } : State).up .d1 = true) := by decide +kernel


/-! ### CausewayFramesAreCheckedInOrder and SetsAreCommittedCopiedAndWritten -/

/-- A frame of the peer with its CRC. -/
def peerFrame (typ : Nat) (seq session : BitVec 16) (addr arg : Nat) (payload : Bytes) : Bytes :=
  let b := leBytes 1 typ ++ [0] ++ leBytes 2 seq.toNat ++ leBytes 2 payload.length ++ leBytes 2 session.toNat ++
    leBytes 4 addr ++ leBytes 4 arg ++ payload
  b ++ leBytes 4 (crc32c b).toNat

/-- The link up, session 3 open, SEQ 7 the last accepted, and SERVICE, CHUNK_OK and PHASE `p` in CWY_CTRL. -/
def linked (p : Nat) (l : List (Reg × Nat × Nat × Word)) : State :=
  { withRegs ([(.cwyCtrl, 0, 0, BitVec.ofNat 32 (9 + 16 * p))] ++ l) with
    cwy := { link := true, sessionOpen := true, session := 3, lastSeq := 7, fresh := false } }

/-- Staging of 64 KiB, in control SRAM or in device memory, and the operands of the copy and NVM engines. -/
def staged (localRam : Bool) : List (Reg × Nat × Nat × Word) :=
  [(.cwyStageLimit, 0, 0, 0x10000), (.cwyStageHi, 0, 0, if localRam then 0x80000000 else 0x50000), (.cwyCopyLen, 0, 0, 64),
   (.cwyNvmAddr, 0, 0, 0x7000)]

theorem wit_link :
    (ready.cwyOn = true ∧ ready.cwy.link = false ∧ (linked 0 []).cwy.link = true ∧ (linked 0 []).serves .d6 = true ∧
        (linked 0 []).updServes = true ∧ (linked 0 []).crs.dim = false ∧ (linked 0 []).mbx.slots.length = 8 ∧
        (linked 0 []).cwy.sessionOpen = true) ∧
      (let s : State := { linked 0 [] with cwy := { (linked 0 []).cwy with unanswered := true } }
      s.cwy.unanswered = true ∧ s.cwy.rx = none) ∧
      (let s : State :=
        { linked 0 [] with
          cwy := { (linked 0 []).cwy with txOn := true }
          mbx := { slots := (List.replicate 8 {}).set 7 { full := true } } }
      s.cwy.txOn = true ∧ (s.mslot 7).full = true ∧ s.mbx.slots.length = 8) := by decide +kernel

/-- A COMMIT under verification as the session's time runs out. -/
theorem wit_idle_in_verification :
    let s : State := { linked 3 [] with
      upd := some { frame := [4], now := true, manifest := [], record := [], step := .ask 0, started := true } }
    s.cwy.sessionOpen = true ∧ s.verifying = some [4] ∧ s.mbx.slots.length = 8 := by decide +kernel

/-- A sound frame of the next sequence in the session; HELLO is sent by no session. -/
theorem wit_frames :
    (let f := peerFrame 1 8 0 0 0 []
     frWhole f = true ∧ frSeq f ≠ 7 ∧ frType f = 1 ∧ frBad f = false ∧ ofType f 1 = true ∧
       bit ((linked 0 []).reg .cwyCtrl) 0 = true ∧
        bit (ready.reg .cwyCtrl) 0 = false) ∧
      (let f := peerFrame 5 8 3 0 0 []
      frWhole f = true ∧ frSeq f = 7 + 1 ∧ frType f = 5 ∧ frBad f = false ∧ frSession f = 3 ∧ ofType f 5 = true) ∧
      (let f := peerFrame 6 8 3 0 0 []
      frWhole f = true ∧ frType f = 6 ∧ frBad f = false ∧ ofType f 6 = true) ∧
      (let f := peerFrame 2 8 3 0 0 [1]
      frWhole f = true ∧ frType f = 2 ∧ frFlags f = 0 ∧ frBad f = false ∧ ofType f 2 = true ∧ frAddr f = 0) ∧
      (let f := peerFrame 3 8 3 0x7000 0 [1]
      frWhole f = true ∧ frType f = 3 ∧ frBad f = false ∧ ofType f 3 = true ∧ frAddr f = 0x7000) ∧
      (let s := linked 0 (staged true)
      s.stageFits 0 = true ∧ s.stageFits 0x7000 = true ∧ s.stageLocal = true ∧ bit (s.reg .cwyCtrl) 3 = true) := by
  decide +kernel

/-- Frames that the engine drops, repeats or refuses: no bytes, the last SEQ again, a SEQ out of turn, a FLAGS bit or a type
out of the table, another session. -/
theorem wit_refused_frames :
    (frWhole [] = false ∧ ofType [] 5 = true ∧ ofCommit [] 3 = true) ∧
      (frWhole (peerFrame 5 7 3 0 0 []) = true ∧ frSeq (peerFrame 5 7 3 0 0 []) = 7) ∧
      (frSeq (peerFrame 5 9 3 0 0 []) ≠ 7 + 1 ∧ frType (peerFrame 5 9 3 0 0 []) ≠ 1 ∧ frSeq (peerFrame 5 9 3 0 0 []) ≠ 7) ∧
      (frBad (peerFrame 5 8 3 64 0 []) = true ∧ frWhole (peerFrame 5 8 3 64 0 []) = true ∧
        frSession (peerFrame 5 8 3 64 0 []) = 3) ∧
      (frSession (peerFrame 5 8 4 0 0 []) ≠ 3 ∧ frBad (peerFrame 5 8 4 0 0 []) = false) ∧
      (frOp (peerFrame 4 8 3 0 0 []) = 0 ∧ ofCommit (peerFrame 4 8 3 0 0 []) 2 = true ∧ frWhole (peerFrame 4 8 3 0 0 []) = true ∧
        frBad (peerFrame 4 8 3 0 0 []) = false) := by decide +kernel

/-- A COMMIT frame of operation `op`. -/
def commitFrame (op : Nat) : Bytes := peerFrame 4 8 3 0 op []

theorem wit_commit_frames :
    (frWhole (commitFrame 1) = true ∧ frOp (commitFrame 1) = 1 ∧ ofCommit (commitFrame 1) 1 = true ∧
        frBad (commitFrame 1) = false ∧ frType (commitFrame 1) = 4 ∧ frSession (commitFrame 1) = 3) ∧
      (frWhole (commitFrame 2) = true ∧ frOp (commitFrame 2) = 2 ∧ ofCommit (commitFrame 2) 2 = true) ∧
      (frWhole (commitFrame 3) = true ∧ frOp (commitFrame 3) = 3 ∧ ofCommit (commitFrame 3) 3 = true) := by decide +kernel

/-- Where no byte of a manifest was sent, none stands at an address. -/
theorem manifestBytes_none (s : State) (a n : Nat) (h : s.cwy.manifest = []) : s.manifestBytes a (n + 1) = none := by
  simp [State.manifestBytes, h, Sparse.get, List.range_succ_eq_map, List.mapM_cons]

theorem newManifest_linked (p : Nat) (l : List (Reg × Nat × Nat × Word)) : (linked p l).newManifest = [] := by
  rw [State.newManifest, manifestBytes_none (linked p l) 0x4000 0x253F rfl, Option.getD_none]

theorem wit_commits :
    ((linked 1 []).phase ≠ 2 ∧ (linked 2 []).phase = 2 ∧ (linked 2 []).recovery = false) ∧
      (∀ read, partsFail (linked 2 []).newManifest read = none) ∧
      (linked 2 []).layoutBad (linked 2 []).newManifest = false ∧
      (let s : State := { linked 2 [] with boot := { ran := true, stage := 5, layout := 1 } }
      s.layoutBad [] = true) := by
  simp only [newManifest_linked]
  exact ⟨by decide +kernel, fun read => rfl, by decide +kernel, by decide +kernel⟩

/-- The NVM holds a manifest without entries, of the committed release. -/
def advancing : State :=
  { linked 7 [] with
    nvm := [(0x4006, 0), (0x4008, 5), (0x4009, 0), (0x400A, 0), (0x400B, 0)]
    att := { record := { goodRecord with release := 5 } } }

/-- The security core at work on a set without parts, at `st`. -/
def updating (now : Bool) (st : UpdStep) (l : Nat) : State :=
  { linked 3 [] with
    boot := { ran := true, stage := 5, layout := l }
    upd := some { frame := commitFrame 1, now := now, manifest := [], record := [], step := st, started := true } }

theorem wit_update_steps :
    (manParts [])[0]? = none ∧ (updating true (.ask 0) 1).recovery = false ∧
      ((updating true (.ask 0) 1).layoutBad [] = true ∧ (updating true (.ask 0) 0).layoutBad [] = false) ∧
      ((updating false (.sector [0x7000] .verify true) 0).cwy.nvm = none ∧
        ({ updating false (.sector [0x7000] .verify true) 0 with cwy := { nvmCode := .notEqual } } : State).cwy.nvmCode ≠ .done) ∧
      (let s : State := { linked 2 [] with boot := { ran := true, stage := 6 } }
      s.recovery = true ∧ s.phase = 2 ∧ s.upd = none ∧ s.updServes = true) ∧
      (let s : State := { linked 1 [] with boot := { ran := true, stage := 6 }, cwy := { (linked 1 []).cwy with fail := 5, failCode := .deniedAttr } }
      s.recovery = true ∧ s.phase ≠ 2 ∧ s.upd = none ∧ s.cwy.fail ≠ 0) := by decide +kernel

theorem wit_advance :
    ({ advancing with att := {} } : State).nvmIsRecord = false ∧ advancing.recovery = false ∧ advancing.nvmIsRecord = true ∧
      5 < advancing.phase ∧ advancing.otpBusy = false ∧
      (early advancing.lcs.state || advancing.lcs.state == .field) = true := by decide +kernel

theorem wit_copy :
    let s := linked 0 (staged false)
    s.serves .d6 = true ∧ lowest (s.copyRefusals 1) = none ∧ lowest (s.copyRefusals 2) = some .deniedAttr := by decide +kernel

theorem wit_nvm_commands :
    (let s := linked 0 (staged true)
     s.cwy.nvm = none ∧ rsvSet .cwyNvmCmd 1 = false ∧ rsvSet .cwyNvmCmd 2 = false ∧ rsvSet .cwyNvmCmd 3 = false ∧
        (s.reg .cwyNvmAddr).toNat % 4096 = 0 ∧ s.stageFits (s.reg .cwyNvmAddr).toNat = true ∧ s.stageLocal = true ∧
        fldN 1#32 0 4 = 1 ∧ fldN 2#32 0 4 = 2 ∧ fldN 3#32 0 4 = 3) ∧
      (let s := linked 0 (staged false)
      s.stageFits (s.reg .cwyNvmAddr).toNat = true ∧ s.stageLocal = false ∧ s.gateBound s.stageCtx = false) := by decide +kernel

/-- The NVM engine at work on sector 0x7000, and the copy engine with `n` bytes to read. -/
def writing (op : NvmOp) (n : Nat) : State :=
  { ready with cwy := { nvm := some { op := op, sector := 0x7000, data := List.replicate n 0 } }, nvm := [(0x7000, 5)] }
def copying (n : Nat) (bad : Option Code) : State := { ready with cwy := { copy := some ⟨0, 0, n, bad⟩ } }

theorem wit_engines_end :
    ((copying 0 none).cwy.copy = some ⟨0, 0, 0, none⟩ ∧
        (copying 64 (some .aborted)).cwy.copy = some ⟨0, 0, 64, some .aborted⟩) ∧
      ({ ready with cwy := { nvm := some { op := .verify, sector := 0, data := [], bad := some .aborted } } } : State).cwy.copy = none ∧
      ((writing .verify 4096).cwy.copy = none ∧ (writing .verify 4096).cwy.nvm =
          some { op := .verify, sector := 0x7000, data := List.replicate 4096 0 } ∧
        (List.replicate 4096 (0 : Byte)).length = 4096 ∧ (writing .erase 0).cwy.nvm ≠ none ∧
        Memory.wf 0xFF (writing .erase 0).nvm) :=
  ⟨by decide +kernel, rfl, rfl, rfl, List.length_replicate, by decide +kernel, by decide +kernel⟩

/-! ### ResetLeavesTheSpecsValues to ObservationStaysShutOverConfidentialWork -/

/-- A step that answers a next state, from a state with a command in front. -/
theorem wit_invariants :
    ready.memWf ∧ ready.gateShut ∧ (∃ t, step { ready with pending := [.wdtSecKick 0] } = .next t) ∧
      (let s : State := { ready with lcs := { state := .field, confClosed := true } }
      s.gateShut ∧ s.lcs.confClosed = true ∧ ∃ t, step { s with pending := [.wdtSecKick 0] } = .next t) := by
  refine ⟨by unfold State.memWf; decide +kernel, ?_, ⟨_, rfl⟩, ?_, rfl, ⟨_, rfl⟩⟩
  · exact ⟨trivial, fun h => by simp [ready] at h⟩
  · exact ⟨trivial, fun _ => rfl⟩


/-! ### WellFormed refuses what no port can carry -/

theorem test_wf_accepts : (Instr.strapLatch (List.replicate 8 1)).wf = true ∧ (Instr.wcpRxMessage [0]).wf = true ∧
    (Instr.cwyHello (List.replicate 20 0)).wf = true := by decide +kernel
theorem test_wf_strap : (Instr.strapLatch (List.replicate 7 1)).wf = false := by decide
theorem test_wf_otp_row : (Instr.otpStartupDone [(0x420, ⟨0, 0, 0⟩)]).wf = false ∧
    (Instr.otpStartupDone [(0x350, ⟨1, 1, 1⟩)]).wf = false ∧ (Instr.otpStartupDone [(0x34F, ⟨1, 1, 0⟩)]).wf = true ∧
    (Instr.otpStartupDone [(0x34F, ⟨0, 1, 1⟩)]).wf = false := by decide
theorem test_wf_register_write : (Instr.registerWrite .sec 0x1000000 2 0).wf = false ∧
    (Instr.registerWrite (.ctl 1) 0xC000000 2 0).wf = true ∧ (Instr.registerWrite .sec 0x800001 0 0).wf = true ∧
    (Instr.registerWrite .sec 0x700000 1 0).wf = false ∧ (Instr.registerWrite (.ctl 1) 0x700000 0 0).wf = false := by decide
theorem test_wf_spdm (r : Bytes) (h : spdmFits none r = false) : (Instr.getVersion none r).wf = false ∧
    (Instr.getCapabilities none r).wf = false ∧ (Instr.negotiateAlgorithms none r).wf = false ∧
    (Instr.getDigests none r).wf = false ∧ (Instr.getCertificate none r).wf = false ∧ (Instr.challenge none r).wf = false ∧
    (Instr.getMeasurements none r).wf = false ∧ (Instr.keyExchange none r).wf = false ∧ (Instr.finish none r).wf = false ∧
    (Instr.endSession none r).wf = false ∧ (Instr.pqStart none r).wf = false ∧ (Instr.pqAccept none r).wf = false ∧
    (Instr.pqCert none r).wf = false ∧ (Instr.vdmReport none r).wf = false ∧ (Instr.getPage none r).wf = false ∧
    (Instr.keyMsg none r none).wf = false ∧ (Instr.supplyCheck none r).wf = false :=
  ⟨h, h, h, h, h, h, h, h, h, h, h, h, h, h, h, h, h⟩
theorem test_wf_spdm_sizes : spdmFits none (zeros 3) = false ∧ spdmFits none (zeros 4) = true ∧
    spdmFits (some 9) (zeros 27) = false ∧ spdmFits (some 9) (zeros 28) = true := by decide
theorem test_wf_wcp : (Instr.wcpRxMessage []).wf = false ∧ (Instr.wcpRxMessage (List.replicate 258 0)).wf = false := by
  decide +kernel
theorem test_wf_frames : (frameFits (List.replicate 4117 0) = false) ∧ frameFits (List.replicate 4116 0) = true := by
  decide +kernel
theorem test_wf_long_frames (f : Bytes) (h : frameFits f = false) :
    (Instr.cwyHello f).wf = false ∧ (Instr.cwyManifest f).wf = false ∧ (Instr.cwyChunk f).wf = false ∧
      (Instr.cwyActivate f).wf = false ∧ (Instr.cwyNextBoot f).wf = false ∧ (Instr.commitAdvance f 0).wf = false ∧
      (Instr.statusQuery f).wf = false ∧ (Instr.abortFrame f).wf = false :=
  ⟨h, h, h, h, h, h, h, h⟩
/-! ### Results -/

/-- The check value of CRC-32C over the digits 1 to 9. -/
theorem test_crc32c : crc32c (ascii "123456789") = 0xE3069283 := by decide +kernel
/-- FIPS 180-4: SHA-384 and SHA-512 of "abc". -/
theorem test_sha2 : (sha384 (ascii "abc")).take 6 = [0xCB, 0x00, 0x75, 0x3F, 0x45, 0xA3] ∧
    (sha512 (ascii "abc")).take 6 = [0xDD, 0xAF, 0x35, 0xA1, 0x93, 0x61] := by decide +kernel
/-- FIPS 202: SHA3-384 of no bytes. -/
theorem test_sha3 : (sha3_384 []).take 6 = [0x0C, 0x63, 0xA7, 0x5B, 0x84, 0x5E] := by decide +kernel
/-- SP 800-185: left_encode(0), right_encode(512) and encode_string of three bytes. -/
theorem test_encodings : leftEncode 0 = [1, 0] ∧ rightEncode 512 = [2, 0, 2] ∧
    encodeString [7, 8, 9] = [1, 24, 7, 8, 9] := by decide +kernel
/-- The example of R14: DENIED_LC before DENIED_ATTR. -/
theorem test_lowest : lowest [(true, .deniedAttr), (true, .deniedLc), (false, .busy)] = some .deniedLc := by decide
/-- The example of chapter 17: FNC_STATUS at 0x70_0000 of the register space. -/
theorem test_fnc_status : (Reg.fncStatus).row.addr 0 0 = 0x700000 := by decide
/-- A header beat of R56, field by field from bit 127. -/
theorem test_header : header 0xABC true 2 3 4 0 = 0xABC80020304000000000000000000000#128 ∧
    hWorker 0xABC80020304000000000000000000000#128 = 0xABC ∧ hType 0xABC80020304000000000000000000000#128 = 2 ∧
    hLen 0xABC80020304000000000000000000000#128 = 3 ∧ hGen 0xABC80020304000000000000000000000#128 = 4 := by decide +kernel

/-- Command `i` answers a next state of which `p` holds. -/
def after (i : Instr) (s : State) (p : State → Bool) : Bool :=
  match exec i s with
  | .next t => p t
  | _ => false

/-- The example of chapter 4: bit 37 of row 0x104 reads 1 at MARGIN_0 and NORMAL and 0 at MARGIN_1. -/
theorem test_marginal_row :
    after (.otpStartupDone [(0x104, ⟨0x2000000000, 0x2000000000, 0⟩)]) State.reset
      (fun t => t.regRead .sec ⟨.otpMarginal, 0, 8⟩ == 0x10#32) = true := by decide +kernel

/-- D2 is the first domain that a POR releases (R95). -/
theorem test_first_release : after .domainRelease { State.reset with otp := { startupDone := true } }
    (fun t => t.crs.released == 3#6) = true := by decide +kernel
/-- Only 0xA5 reloads the watchdog (R103). -/
theorem test_kick : after (.wdtSecKick 0xA5) { ready with crs := { ready.crs with secCount := 9 } }
      (fun t => t.crs.secCount == 0x01000000) = true ∧
    after (.wdtSecKick 0xA4) { ready with crs := { ready.crs with secCount := 9 } } (fun t => t.crs.secCount == 9) = true := by
  decide +kernel
/-- A write to a domain that does not serve ends with BUSY (R43). -/
theorem test_busy : after (.bootMainStart 1) State.reset (fun t => t.outs == [.code .busy]) = true := by decide +kernel

end Sys2Proof.Tests
end

section
/-!
PROOFS. The shapes of a command, with the effect named: what a command answers, from what its effect leaves.
-/
namespace Sys2Proof.Machine

theorem ran_of_eq {f : State → State} {s t : State} (h : f s.quiet = t) : ran f s = .next t := congrArg _ h

theorem ranOn_of_eq {d : Dom} {f : State → State} {s t : State} (hs : s.serves d = true) (h : f s.quiet = t) :
    ranOn d f s = .next t := (ranOn_up hs).trans (congrArg _ h)

theorem ranIf_of_eq {b : Bool} {f : State → State} {s t : State} (hb : b = true) (h : f s.quiet = t) :
    ranIf b f s = .next t := (ranIf_due hb).trans (congrArg _ h)

end Sys2Proof.Machine
end

section
/-!
PROOFS. The register map (R4 to R6, R547): how a row lays its registers out, that two rows share no address, and that an
address decodes to the register that stands there.
-/
namespace Sys2Proof

/-! ### A row of the map -/

/-- The offset of the last register of a row from its first. -/
def RegRow.extent (r : RegRow) : Nat :=
  r.blkStride * (r.blkCount - 1) + r.subStride * (r.subCount - 1) + r.stride * (r.count - 1)

/-- A row is laid out for `locate`: its elements fit in a copy, its copies in their stride, all at multiples of 4 (R4). -/
def RegRow.laid (r : RegRow) : Bool :=
  decide (0 < r.stride ∧ 0 < r.subCount ∧ (r.subCount = 1 ∨ r.stride * (r.count - 1) < r.subStride) ∧
    (r.blkCount = 1 ∨ r.subStride * (r.subCount - 1) + r.stride * (r.count - 1) < r.blkStride) ∧
    r.base % 4 = 0 ∧ r.blkStride % 4 = 0 ∧ r.subStride % 4 = 0 ∧ r.stride % 4 = 0)

theorem RegRow.addr_eq (r : RegRow) (b k : Nat) :
    r.addr b k = r.base + (r.blkStride * (b / r.subCount) + (r.subStride * (b % r.subCount) + r.stride * k)) := by
  simp only [RegRow.addr, Nat.add_assoc]

theorem RegRow.blk_lt {r : RegRow} {b : Nat} (h : b < r.copies) : b / r.subCount < r.blkCount :=
  Nat.div_lt_of_lt_mul (by rwa [Nat.mul_comm])

theorem RegRow.base_le_addr (r : RegRow) (b k : Nat) : r.base ≤ r.addr b k := by
  rw [RegRow.addr_eq]; exact Nat.le_add_right ..

theorem RegRow.addr_le {r : RegRow} {b k : Nat} (hs : 0 < r.subCount) (hb : b < r.copies) (hk : k < r.count) :
    r.addr b k ≤ r.base + r.extent := by
  have h1 := Nat.mul_le_mul_left r.blkStride (Nat.le_sub_one_of_lt (RegRow.blk_lt hb))
  have h2 := Nat.mul_le_mul_left r.subStride (Nat.le_sub_one_of_lt (Nat.mod_lt b hs))
  have h3 := Nat.mul_le_mul_left r.stride (Nat.le_sub_one_of_lt hk)
  unfold RegRow.addr RegRow.extent
  omega

/-- The digit that `locate` takes off an offset: of `n` copies `stride` apart, the one that the offset lies in. -/
theorem digit_eq {n stride m rest : Nat} (hm : m < n) (h : n = 1 ∨ rest < stride) :
    (if n = 1 then 0 else (stride * m + rest) / stride) = m := by
  split
  · omega
  · have hr : rest < stride := by omega
    rw [Nat.mul_add_div (by omega), Nat.div_eq_of_lt hr, Nat.add_zero]

/-- The address of an element of a copy is located as that element. -/
theorem RegRow.locate_addr {r : RegRow} {b k : Nat} (hr : r.laid = true) (hb : b < r.copies) (hk : k < r.count) :
    r.locate (r.addr b k) = some (b, k) := by
  obtain ⟨hst, hs, hsub, hblk, -⟩ := of_decide_eq_true hr
  have hd := Nat.mod_lt b hs
  have h2 := Nat.mul_le_mul_left r.subStride (Nat.le_sub_one_of_lt hd)
  have h3 := Nat.mul_le_mul_left r.stride (Nat.le_sub_one_of_lt hk)
  have hm : b / r.subCount < r.blkCount := RegRow.blk_lt hb
  rw [RegRow.addr_eq]
  unfold RegRow.locate
  rw [if_neg (by omega)]
  simp only [Nat.add_sub_cancel_left]
  rw [digit_eq hm (hblk.imp_right (by omega)), Nat.mul_comm _ r.blkStride, Nat.add_sub_cancel_left,
    digit_eq hd (hsub.imp_right (by omega)), Nat.mul_comm _ r.subStride, Nat.add_sub_cancel_left,
    Nat.mul_div_cancel_left k hst, Nat.mul_mod_right, if_pos ⟨hm, hd, hk, rfl⟩, Nat.mul_comm, Nat.div_add_mod]

/-- What an address is located as stands at that address. -/
theorem RegRow.addr_of_locate {r : RegRow} {a b k : Nat} (h : r.locate a = some (b, k)) :
    r.addr b k = a ∧ b < r.copies ∧ k < r.count := by
  unfold RegRow.locate at h
  split at h
  · cases h
  · rename_i hbase
    simp only at h
    generalize hm : (if r.blkCount = 1 then 0 else (a - r.base) / r.blkStride) = m at h
    have hmo : m * r.blkStride ≤ a - r.base := by
      rw [← hm]; split <;> [simp; exact Nat.div_mul_le_self ..]
    generalize hd : (if r.subCount = 1 then 0 else (a - r.base - m * r.blkStride) / r.subStride) = d at h
    have hdo : d * r.subStride ≤ a - r.base - m * r.blkStride := by
      rw [← hd]; split <;> [simp; exact Nat.div_mul_le_self ..]
    split at h <;> cases h
    rename_i hin
    obtain ⟨hmc, hdc, hkc, hz⟩ := hin
    have hk := Nat.div_add_mod (a - r.base - m * r.blkStride - d * r.subStride) r.stride
    have hb : (m * r.subCount + d) / r.subCount = m := by
      rw [Nat.mul_comm, Nat.mul_add_div (by omega), Nat.div_eq_of_lt hdc, Nat.add_zero]
    have hb' : (m * r.subCount + d) % r.subCount = d := by
      rw [Nat.mul_comm, Nat.mul_add_mod, Nat.mod_eq_of_lt hdc]
    refine ⟨?_, ?_, hkc⟩
    · rw [RegRow.addr_eq, hb, hb', Nat.mul_comm r.blkStride, Nat.mul_comm r.subStride]
      omega
    · calc m * r.subCount + d < (m + 1) * r.subCount := by rw [Nat.succ_mul]; omega
        _ ≤ r.copies := Nat.mul_le_mul_right _ hmc

/-! ### The units of the map -/

/-- The first address of a unit's range (R547). -/
def Unt.start : Unt → Nat
  | .top => 0
  | .crs => 0x010000
  | .otp => 0x020000
  | .lcs => 0x030000
  | .boot => 0x040000
  | .sme => 0x100000
  | .dge => 0x180000
  | .kst => 0x200000
  | .kln => 0x280000
  | .kfb => 0x300000
  | .cnt => 0x380000
  | .pke => 0x400000
  | .att => 0x480000
  | .prt => 0x500000
  | .mbx => 0x600000
  | .cwy => 0x680000
  | .fnc => 0x700000
  | .window => 0x800000

/-- The end of the range of a unit that holds registers (R547). -/
def Unt.stop : Unt → Nat
  | .top => 0x010000
  | .crs => 0x020000
  | .otp => 0x030000
  | .lcs => 0x040000
  | .boot => 0x100000
  | .sme => 0x180000
  | .dge => 0x200000
  | .kst => 0x280000
  | .kln => 0x300000
  | .kfb => 0x380000
  | .cnt => 0x400000
  | .pke => 0x480000
  | .att => 0x500000
  | .prt => 0x600000
  | .mbx => 0x680000
  | .cwy => 0x700000
  | .fnc => 0x800000
  | .window => 0x800000

theorem decodeUnit_of_range {u : Unt} {a : Nat} (h1 : u.start ≤ a) (h2 : a < u.stop) : decodeUnit a = u := by
  cases u <;> simp only [Unt.start, Unt.stop] at h1 h2 <;> grind [decodeUnit]

/-! ### Every register -/

/-- The list of the registers is in the order of the type. -/
theorem allRegs_ctorIdx : allRegs.map Reg.ctorIdx = List.range 332 := by decide +kernel

theorem mem_allRegs (r : Reg) : r ∈ allRegs := by
  have hr : r.ctorIdx < 332 := by cases r <;> decide
  obtain ⟨q, hq, he⟩ := List.mem_map.1 (allRegs_ctorIdx ▸ List.mem_range.2 hr)
  rwa [← Reg.ofNat_ctorIdx r, ← he, Reg.ofNat_ctorIdx]

/-- Every row is laid out for `locate`, and lies in the range of one unit. -/
theorem allRegs_laid : ∀ r ∈ allRegs, r.row.laid = true ∧ (decodeUnit r.row.base).start ≤ r.row.base ∧
    r.row.base + r.row.extent < (decodeUnit r.row.base).stop := by decide +kernel

theorem Reg.laid (r : Reg) : r.row.laid = true := (allRegs_laid r (mem_allRegs r)).1

/-- An address of a register lies in the unit of its row's base. -/
theorem Reg.decodeUnit_addr (r : Reg) {b k : Nat} (hb : b < r.row.copies) (hk : k < r.row.count) :
    decodeUnit (r.row.addr b k) = decodeUnit r.row.base := by
  obtain ⟨hl, hlo, hhi⟩ := allRegs_laid r (mem_allRegs r)
  obtain ⟨-, hs, -⟩ := of_decide_eq_true hl
  exact decodeUnit_of_range (hlo.trans (r.row.base_le_addr b k)) ((RegRow.addr_le hs hb hk).trans_lt hhi)

theorem Reg.addr_mod_four (r : Reg) (b k : Nat) : r.row.addr b k % 4 = 0 := by
  obtain ⟨-, -, -, -, h0, h1, h2, h3⟩ := of_decide_eq_true r.laid
  simp [RegRow.addr, Nat.add_mod, Nat.mul_mod, h0, h1, h2, h3]

theorem Unt.stop_le (u : Unt) : u.stop ≤ 0x800000 := by cases u <;> decide

theorem Reg.addr_lt (r : Reg) {b k : Nat} (hb : b < r.row.copies) (hk : k < r.row.count) : r.row.addr b k < 0x800000 := by
  obtain ⟨hl, -, hhi⟩ := allRegs_laid r (mem_allRegs r)
  obtain ⟨-, hs, -⟩ := of_decide_eq_true hl
  have := RegRow.addr_le hs hb hk
  have := (decodeUnit r.row.base).stop_le
  omega

/-- Two rows share no address. -/
def RegRow.Disjoint (r q : RegRow) : Prop :=
  ∀ b k c j, b < r.copies → k < r.count → c < q.copies → j < q.count → r.addr b k ≠ q.addr c j

theorem RegRow.disjoint_symm {r q : RegRow} (h : r.Disjoint q) : q.Disjoint r :=
  fun b k c j hb hk hc hj => (h c j b k hc hj hb hk).symm

/-- The elements of copy `b` of a row and of copy `c` of another share no address: their ranges are apart, or they interleave. -/
def RegRow.copyApart (r q : RegRow) (b c : Nat) : Bool :=
  r.addr b (r.count - 1) < q.addr c 0 || q.addr c (q.count - 1) < r.addr b 0 ||
    (r.stride == q.stride && r.addr b 0 % r.stride != q.addr c 0 % r.stride)

/-- A check that two rows share no address: their ranges are apart, or every two copies are. -/
def RegRow.apart (r q : RegRow) : Bool :=
  r.base + r.extent < q.base || q.base + q.extent < r.base ||
    (List.range r.copies).all fun b => (List.range q.copies).all fun c => r.copyApart q b c

theorem RegRow.addr_step (r : RegRow) (b k : Nat) : r.addr b k = r.addr b 0 + r.stride * k := by simp [RegRow.addr]

theorem RegRow.addr_ne_of_copyApart {r q : RegRow} {b c k j : Nat} (h : r.copyApart q b c = true) (hk : k < r.count)
    (hj : j < q.count) : r.addr b k ≠ q.addr c j := by
  have h1 := Nat.mul_le_mul_left r.stride (Nat.le_sub_one_of_lt hk)
  have h2 := Nat.mul_le_mul_left q.stride (Nat.le_sub_one_of_lt hj)
  simp only [RegRow.copyApart, Bool.or_eq_true, Bool.and_eq_true, decide_eq_true_eq, beq_iff_eq, bne_iff_ne,
    r.addr_step b (r.count - 1), q.addr_step c (q.count - 1)] at h
  rw [r.addr_step b k, q.addr_step c j]
  rcases h with (h | h) | ⟨hs, h⟩
  · omega
  · omega
  · intro heq
    have := congrArg (· % r.stride) heq
    simp only [hs] at this h
    simp only [Nat.add_mul_mod_self_left] at this
    exact h this

theorem RegRow.disjoint_of_apart {r q : RegRow} (hr : r.laid = true) (hq : q.laid = true) (h : r.apart q = true) :
    r.Disjoint q := by
  intro b k c j hb hk hc hj
  obtain ⟨-, hrs, -⟩ := of_decide_eq_true hr
  obtain ⟨-, hqs, -⟩ := of_decide_eq_true hq
  have h1 := RegRow.addr_le hrs hb hk
  have h2 := RegRow.addr_le hqs hc hj
  have h3 := r.base_le_addr b k
  have h4 := q.base_le_addr c j
  simp only [RegRow.apart, Bool.or_eq_true, decide_eq_true_eq, List.all_eq_true, List.mem_range] at h
  rcases h with (h | h) | h
  · omega
  · omega
  · exact RegRow.addr_ne_of_copyApart (h b hb c hc) hk hj

/-- The registers of a unit. -/
def unitRegs (u : Unt) : List Reg := allRegs.filter fun r => decodeUnit r.row.base == u

theorem unitRegs_apart (u : Unt) : (unitRegs u).Pairwise fun r q => r.row.apart q.row = true := by
  cases u <;> decide +kernel

/-- Two registers of the map share no address. -/
theorem Reg.disjoint {r q : Reg} (h : r ≠ q) : r.row.Disjoint q.row := by
  by_cases hu : decodeUnit r.row.base = decodeUnit q.row.base
  · have hp : (unitRegs (decodeUnit r.row.base)).Pairwise fun r q => r.row.Disjoint q.row :=
      (unitRegs_apart _).imp fun h => RegRow.disjoint_of_apart (Reg.laid _) (Reg.laid _) h
    have : Std.Symm fun r q : Reg => r.row.Disjoint q.row := ⟨fun _ _ => RegRow.disjoint_symm⟩
    exact hp.forall (List.mem_filter.2 ⟨mem_allRegs r, beq_self_eq_true _⟩)
      (List.mem_filter.2 ⟨mem_allRegs q, beq_iff_eq.2 hu.symm⟩) h
  · intro b k c j hb hk hc hj heq
    exact hu (by rw [← r.decodeUnit_addr hb hk, heq, q.decodeUnit_addr hc hj])

/-- The address of a register decodes to it. -/
theorem decodeReg_addr {r : Reg} {b k : Nat} (hb : b < r.row.copies) (hk : k < r.row.count) :
    decodeReg (r.row.addr b k) = some ⟨r, b, k⟩ := by
  have hr : (r.row.locate (r.row.addr b k)).map (fun x => (⟨r, x.1, x.2⟩ : RegAt)) = some ⟨r, b, k⟩ := by
    rw [RegRow.locate_addr r.laid hb hk]; rfl
  obtain ⟨p, hp⟩ : ∃ p, decodeReg (r.row.addr b k) = some p :=
    Option.isSome_iff_exists.1 (List.findSome?_isSome_iff.2 ⟨r, mem_allRegs r, Option.isSome_iff_exists.2 ⟨_, hr⟩⟩)
  obtain ⟨q, -, hq⟩ := List.exists_of_findSome?_eq_some hp
  have hqr : q = r := by
    by_contra hne
    obtain ⟨⟨c, j⟩, hl, -⟩ := Option.map_eq_some_iff.1 hq
    obtain ⟨ha, hc, hj⟩ := RegRow.addr_of_locate hl
    exact Reg.disjoint hne c j b k hc hj hb hk ha
  subst hqr
  rw [hp, ← hq, hr]

/-- What an address decodes to stands at that address. -/
theorem addr_of_decodeReg {a : Nat} {p : RegAt} (h : decodeReg a = some p) :
    p.addr = a ∧ p.blk < p.reg.row.copies ∧ p.ix < p.reg.row.count := by
  obtain ⟨r, -, hr⟩ := List.exists_of_findSome?_eq_some h
  obtain ⟨⟨b, k⟩, hl, rfl⟩ := Option.map_eq_some_iff.1 hr
  exact RegRow.addr_of_locate hl

/-- Settles O31, from the layout of every row and the disjointness of every two rows of a unit. -/
theorem registerMapDecodesEveryRegister : Obligations.RegisterMapDecodesEveryRegister :=
  ⟨fun r b k hb hk => ⟨r.addr_mod_four b k, r.addr_lt hb hk, decodeReg_addr hb hk⟩, fun _ _ => addr_of_decodeReg⟩

end Sys2Proof
end

section
/-!
PROOFS. Writes of the registers that start no command (R8 to R10, R548): a write that its requester is granted stores the
register's defined bits and changes nothing else.
-/
namespace Sys2Proof.Machine

/-! ### The registers that a write only stores -/

/-- A write of the register starts no command and has no rule of its own: it stores the register's bits (R8). -/
def stores (r : Reg) : Bool :=
  match r with
  | .crsSwReset | .crsBlockCmd | .crsSdCtrl | .crsPadCtrl | .crsWdtSecLoad | .crsWdtCtlLoad | .crsWdtSecKick
  | .crsWdtCtlKick | .crsWdtCtlCtrl | .crsDimCtrl | .crsCommit | .otpCmd | .lcsCmd | .bootMainStart | .bootLockMain
  | .bootLockGate | .bootLockSens | .smeCmd | .smeIntStatus | .smeCommit | .dgeAcquire | .dgeArb | .dgeCtxCmd
  | .cmpCmd | .klnCmd | .klnIntStatus | .klnTamperClear | .kfbCmd | .kfbIntStatus | .cntCmd | .cntIntStatus
  | .pkeCmd | .pkeCtrl | .attCmd | .attCtrl | .attFwrecEntry | .attFwrecVersion | .attFwrecRelease | .attFwrecDigest
  | .attCommit | .prtCmd | .prtCommit | .prtRgnCfg | .prtRgnBaseLo | .prtRgnBaseHi | .prtRgnPages | .prtGateEp
  | .prtScrubAddrLo | .prtScrubAddrHi | .prtGateYield | .prtIntStatus | .topAfaultInfo | .mbxMsg | .mbxSend
  | .mbxTxStatus | .mbxDbSet | .mbxDbStatus | .mbxDbMask | .mbxRxCtrl | .mbxHostReset | .mbxRingdb | .mbxRingpend0
  | .mbxRingpend1 | .cwyCopyCmd | .cwyNvmCmd | .fncThrMask | .fncCommit | .fncHealth => false
  | _ => r.row.store != 0

theorem regWrite_of_stores {r : Reg} (h : stores r = true) (q : Req) (b k : Nat) (w : Word) (s : State) :
    regWrite q ⟨r, b, k⟩ w s = .next (s.quiet.setReg r (w &&& r.row.store) b k) := by
  have hne : r.row.store ≠ 0 := by
    unfold stores at h
    split at h
    all_goals first | exact absurd h Bool.false_ne_true | exact bne_iff_ne.1 h
  have hstore : regWrite q ⟨r, b, k⟩ w s = ran (fun s => s.store r b k w) s := by
    unfold stores at h
    simp only [regWrite]
    split <;> first | exact absurd h Bool.false_ne_true | rfl
  rw [hstore, ran_eq, State.store, if_neg hne]

/-! ### A granted write -/

/-- A write that is granted at a serving domain is the register's own write (R7, R14, R43). -/
theorem regAccess_write {q : Req} {r : Reg} {b k : Nat} {v : Word} {s : State} (hb : b < r.row.copies) (hk : k < r.row.count)
    (hg : s.grant q true ⟨r, b, k⟩ = true) (hs : s.serves r.row.dom = true) :
    regAccess q true (r.row.addr b k) v s = regWrite q ⟨r, b, k⟩ v s := by
  unfold regAccess
  simp only [decodeReg_addr hb hk, hg, hs, Bool.not_true, Bool.false_and, Bool.false_eq_true, if_false, if_true]

theorem toNat_regAddr (r : Reg) {b k : Nat} (hb : b < r.row.copies) (hk : k < r.row.count) :
    (BitVec.ofNat 28 (r.row.addr b k)).toNat = r.row.addr b k := by
  have := r.addr_lt hb hk
  rw [BitVec.toNat_ofNat, Nat.mod_eq_of_lt (by omega)]

/-- The security core's write of a register is an access of its address. -/
theorem execRegisterWrite_sec {r : Reg} {b k : Nat} (hb : b < r.row.copies) (hk : k < r.row.count) (v : Word) (s : State) :
    exec (.registerWrite .sec (BitVec.ofNat 28 (r.row.addr b k)) 2 v) s = regAccess .sec true (r.row.addr b k) v s := by
  have := r.addr_lt hb hk
  change execRegisterWrite .sec _ 2 v s = _
  simp only [execRegisterWrite, toNat_regAddr r hb hk]
  rw [if_neg (by omega)]

/-- So is a control core's, but for core 7 in gate mode, whose map holds the register (R449). -/
theorem execRegisterWrite_ctl {r : Reg} {b k : Nat} {n : Fin 8} {s : State} (hb : b < r.row.copies) (hk : k < r.row.count)
    (hmap : s.gateCore (.ctl n) = false ∨ gateReg r b true = true) (v : Word) :
    exec (.registerWrite (.ctl n) (BitVec.ofNat 28 (r.row.addr b k)) 2 v) s =
      regAccess (.ctl n) true (r.row.addr b k) v s := by
  have := r.addr_lt hb hk
  have htrap : ¬(((s.gateCore (.ctl n) && !gateMap true (r.row.addr b k)) || 0x800000 ≤ r.row.addr b k) = true) := by
    have hge : ¬ 0x800000 ≤ r.row.addr b k := by omega
    rcases hmap with h | h <;> simp [gateMap, decodeReg_addr hb hk, h, hge]
  change execRegisterWrite (.ctl n) _ 2 v s = _
  simp only [execRegisterWrite, toNat_regAddr r hb hk]
  rw [if_neg (by omega), if_neg htrap]

/-- A register write left exactly this: the register holds `v`, and every other register what it held. -/
def State.Stored (s t : State) (r : Reg) (b k : Nat) (v : Word) : Prop :=
  t = s.quiet.setReg r v b k ∧ t.reg r b k = v ∧
    ∀ (q : Reg) (c j : Nat), q.row.addr c j ≠ r.row.addr b k → t.reg q c j = s.reg q c j

/-- A granted write of a register that only stores leaves exactly the stored word. -/
theorem stored_of_granted {q : Req} {r : Reg} {b k : Nat} {v : Word} {s : State} {o : Res} (hst : stores r = true)
    (hb : b < r.row.copies) (hk : k < r.row.count) (hg : s.grant q true ⟨r, b, k⟩ = true) (hs : s.serves r.row.dom = true)
    (ho : o = regAccess q true (r.row.addr b k) v s) : ∃ t, o = .next t ∧ s.Stored t r b k (v &&& r.row.store) :=
  ⟨_, by rw [ho, regAccess_write hb hk hg hs, regWrite_of_stores hst], rfl, State.setReg_reg ..,
    fun _ _ _ h => State.setReg_reg_ne _ _ _ _ _ _ _ _ h⟩

/-! ### Who may write -/

/-- The security core writes copy 0 of the register, which only stores. -/
def secStores (r : Reg) : Bool :=
  let u := decodeUnit r.row.base
  stores r && decide (0 < r.row.copies) && u != .mbx && !isCtx r && secWrites u 0 r

/-- A control core writes block C of the register, which only stores. -/
def ctlStores (r : Reg) : Bool :=
  let u := decodeUnit r.row.base
  stores r && decide (1 < r.row.copies) && u != .mbx && !isCtx r && ctlWrites u 1 r

/-- The register belongs to the digest contexts, and only stores. -/
def ctxStores (r : Reg) : Bool :=
  stores r && decide (r.row.copies = 4) && r.row.dom == .d3 && decodeUnit r.row.base != .mbx && isCtx r

/-- Core 7 reaches the registers of the digest contexts in gate mode (R449). -/
theorem gateReg_of_isCtx {r : Reg} (h : isCtx r = true) (c : Nat) (write : Bool) : gateReg r c write = true := by
  unfold isCtx at h
  split at h <;> first | rfl | exact absurd h Bool.false_ne_true

theorem grant_sec {r : Reg} {k : Nat} (h : secStores r = true) (hk : k < r.row.count) (s : State) :
    s.grant .sec true ⟨r, 0, k⟩ = true := by
  simp only [secStores, Bool.and_eq_true, decide_eq_true_eq, bne_iff_ne, Bool.not_eq_true'] at h
  obtain ⟨⟨⟨⟨-, hb⟩, hm⟩, hc⟩, hw⟩ := h
  simp [State.grant, RegAt.addr, r.decodeUnit_addr hb hk, hm, hc, hw]

theorem grant_ctl {r : Reg} {k : Nat} {s : State} (h : ctlStores r = true) (hk : k < r.row.count)
    (hgate : s.prt.gate.active = false) (n : Fin 8) : s.grant (.ctl n) true ⟨r, 1, k⟩ = true := by
  simp only [ctlStores, Bool.and_eq_true, decide_eq_true_eq, bne_iff_ne, Bool.not_eq_true'] at h
  obtain ⟨⟨⟨⟨-, hb⟩, hm⟩, hc⟩, hw⟩ := h
  simp [State.grant, RegAt.addr, r.decodeUnit_addr hb hk, hm, hc, hw, State.gateCore, hgate]

/-- Whoever holds a digest context is granted writes of its registers (R255). -/
theorem grant_ctx {r : Reg} {q : Req} {c k : Nat} {s : State} (h : ctxStores r = true) (hb : c < r.row.copies)
    (hk : k < r.row.count) (hst : (s.ctx c).st ≠ .free) (hq : dgeId q = some (s.ctx c).holder.toNat) :
    s.grant q true ⟨r, c, k⟩ = true := by
  simp only [ctxStores, Bool.and_eq_true, bne_iff_ne] at h
  obtain ⟨⟨-, hm⟩, hc⟩ := h
  have hctx : s.ctxGrant q true c r = true := by simp [State.ctxGrant, hst, hq]
  cases q with
  | icp => cases hq
  | _ => simp [State.grant, RegAt.addr, r.decodeUnit_addr hb hk, hm, hc, hctx]

/-! ### The window -/

/-- The window at an aligned address, while nothing zeroes control SRAM. -/
theorem windowWrite_aligned {s : State} {n a : Nat} {v : Word} (hz : s.crs.zeroing = false) (ha : a < 2 ^ 24)
    (hal : a % 2 ^ n = 0) : s.windowWrite n a v = s.csramPut (s.windowOffset a) ((wordBytes v).take (2 ^ n)) := by
  have hlook : s.zeroLook = s := by simp [State.zeroLook, hz]
  have hin : ¬(a % 2 ^ n ≠ 0 ∨ 2 ^ 24 ≤ a) := by omega
  simp only [State.windowWrite, State.throughWindow, if_neg hin, hlook, hz, Bool.false_eq_true, if_false]

/-- A misaligned access through the window is an access fault of the security core. -/
theorem windowWrite_misaligned {s : State} {n a : Nat} {v : Word} (hal : a % 2 ^ n ≠ 0) :
    s.windowWrite n a v = s.secFault .store 1 (BitVec.ofNat 32 (0x20000000 + a)) := by
  simp only [State.windowWrite, State.throughWindow, if_pos (Or.inl hal)]

theorem execRegisterWrite_window {a : RegAddr} (h : 0x800000 ≤ a.toNat) (n : Fin 3) (v : Word) (s : State) :
    exec (.registerWrite .sec a n v) s = .next (s.quiet.windowWrite n.val a.toNat v) := by
  change execRegisterWrite .sec a n v s = _
  simp only [execRegisterWrite, if_pos h, ran_eq]

/-- Settles O32: a granted write of a register that only stores, for the security core, a control core and the holder of a
digest context, and the window of control SRAM. -/
theorem registersStoreTheirDefinedBits : Obligations.RegistersStoreTheirDefinedBits := by
  refine ⟨fun r hr k v s hk hs => ?_, fun r hr n k v s hk hgate hs => ?_, fun r hr c q k v s hk hs hst hq => ?_,
    fun a n v s h1 h2 hz => ⟨fun hal => ?_, fun hal => ?_⟩⟩
  · have h : secStores r = true := List.all_eq_true.1 (by decide +kernel) r hr
    have hg := grant_sec h hk s
    simp only [secStores, Bool.and_eq_true, decide_eq_true_eq] at h
    obtain ⟨⟨⟨⟨hst, hb⟩, -⟩, -⟩, -⟩ := h
    exact stored_of_granted hst hb hk hg hs (execRegisterWrite_sec hb hk v s)
  · have h : ctlStores r = true := List.all_eq_true.1 (by decide +kernel) r hr
    have hg := grant_ctl h hk hgate n
    simp only [ctlStores, Bool.and_eq_true, decide_eq_true_eq] at h
    obtain ⟨⟨⟨⟨hst, hb⟩, -⟩, -⟩, -⟩ := h
    exact stored_of_granted hst hb hk hg hs (execRegisterWrite_ctl hb hk (.inl (by simp [State.gateCore, hgate])) v)
  · have h : ctxStores r = true := List.all_eq_true.1 (by decide +kernel) r hr
    have hb : c.val < r.row.copies := by
      simp only [ctxStores, Bool.and_eq_true, decide_eq_true_eq] at h
      omega
    have hg := grant_ctx h hb hk hst hq
    simp only [ctxStores, Bool.and_eq_true, beq_iff_eq] at h
    obtain ⟨⟨⟨⟨hstores, -⟩, hd⟩, -⟩, hc⟩ := h
    refine stored_of_granted hstores hb hk hg (by rwa [hd]) ?_
    cases q with
    | sec => exact execRegisterWrite_sec hb hk v s
    | ctl n => exact execRegisterWrite_ctl hb hk (.inr (gateReg_of_isCtx hc ..)) v
    | att => exact congrArg (regAccess .att true · v s) (toNat_regAddr r hb hk)
    | icp => cases hq
  · exact (execRegisterWrite_window h1 n v s).trans (congrArg _ (windowWrite_aligned (s := s.quiet) hz h2 hal))
  · exact ⟨_, execRegisterWrite_window h1 n v s, by rw [windowWrite_misaligned hal]; exact ⟨rfl, rfl, rfl⟩⟩

end Sys2Proof.Machine
end

section
/-!
PROOFS. What TOP_VERSION reads (R1), and what the registers read after a reset (R8, R90, R97, R100, R103, R147).
-/
namespace Sys2Proof.Machine

/-- TOP_VERSION reads the same word to every requester (R1). -/
theorem regRead_topVersion (q : Req) (s : State) : s.regRead q ⟨.topVersion, 0, 0⟩ = 0x00020100#32 := rfl

/-- Classes 0 and 1 of the control port may read TOP_VERSION (R42). -/
theorem grant_topVersion {cls : BitVec 2} (h : cls.toNat < 2) (s : State) :
    s.grant (.icp cls) false ⟨.topVersion, 0, 0⟩ = true := by
  have hcls : cls = 0 ∨ cls = 1 := by bv_omega
  rcases hcls with rfl | rfl <;> rfl

/-- TOP_VERSION stands at address 0. -/
theorem decodeReg_zero : decodeReg 0 = some ⟨.topVersion, 0, 0⟩ := by
  have haddr : (Reg.topVersion).row.addr 0 0 = 0 := by decide +kernel
  exact (congrArg decodeReg haddr.symm).trans (decodeReg_addr (by decide +kernel) (by decide +kernel))

/-- A read of the control port at TOP_VERSION, which D1 serves. -/
theorem icpAccess_topVersion {a : IcpAddr} (ha : a.toNat = 0) {cls : BitVec 2} (h : cls.toNat < 2) (v : Word) {s : State}
    (hs : s.serves .d1 = true) : icpAccess false a v cls s = .next (s.quiet.emit (.read 0x00020100#32)) := by
  have hin : ¬(0 % 4 ≠ 0 ∨ 2 ≤ cls.toNat ∨ 0x800000 ≤ 0) := by omega
  have hdom : s.serves (Reg.topVersion).row.dom = true := hs
  unfold icpAccess regAccess
  simp only [ha, if_neg hin, decodeReg_zero, grant_topVersion h s, hdom, Bool.not_true, Bool.false_and, Bool.false_eq_true,
    if_false]
  rfl

/-- Settles O34: TOP_VERSION reads its value, and the control port owes it. -/
theorem topVersionReadsItsValue : Obligations.TopVersionReadsItsValue := by
  refine ⟨regRead_topVersion, fun v src tag s hs hlen hsrc => ?_⟩
  have hup : s.up .d1 = true := by
    simp only [State.serves, Bool.and_eq_true] at hs
    exact hs.1.1
  have hroom : ¬((!s.up .d1 || decide (16 ≤ s.icp.length)) = true) := by simp [hup]; omega
  change execIcpRequest false 0x000000 v src tag s = _
  simp only [execIcpRequest, if_neg hroom, icpAccess_topVersion (a := 0x000000) rfl hsrc v hs]
  rfl

/-- After a reset every stored register reads its reset value (R8). -/
theorem reset_reg (r : Reg) (b k : Nat) : State.reset.reg r b k = r.row.reset := rfl

theorem reset_slot (i : SlotIx) : State.reset.slot i = {} := rfl

theorem reset_memWf : State.reset.memWf := ⟨rfl, rfl, rfl⟩

theorem reset_gateShut : State.reset.gateShut := ⟨trivial, fun h => absurd h Bool.false_ne_true⟩

/-- After a reset OTP_STATUS reads BUSY, and VQPS_OK as the supply stands at the first look at it (R141). -/
theorem reset_otpStatus : State.reset.regRead .sec ⟨.otpStatus, 0, 0⟩ =
    if vqpsInWindow (Config.vqps 0) then 0x6#32 else 0x2#32 := by
  have hlooks : State.reset.otp.looks = 0 := rfl
  change State.reset.readOtp 0 0 .otpStatus = _
  simp only [State.readOtp, hlooks]
  cases vqpsInWindow (Config.vqps 0) <;> decide +kernel

/-- O58 stands and falls with a free value: VQPS_OK of OTP_STATUS shows the board's supply (log 30), which no proof can
evaluate. Every other value it names is as it says. -/
theorem resetLeavesTheSpecsValues_iff :
    Obligations.ResetLeavesTheSpecsValues ↔ vqpsInWindow (Config.vqps 0) = false := by
  unfold Obligations.ResetLeavesTheSpecsValues
  simp only [reset_otpStatus]
  constructor
  · rintro ⟨-, -, -, -, -, -, -, -, -, h, -⟩
    revert h
    cases vqpsInWindow (Config.vqps 0) <;> decide
  · intro h
    rw [h]
    refine ⟨rfl, reset_memWf, reset_gateShut, ?_, ?_, ?_, ?_, ?_, ?_, rfl, ?_, rfl, rfl, reset_reg,
      fun i => (congrArg Slot.valid (reset_slot i)).trans (by decide)⟩
    all_goals decide +kernel

end Sys2Proof.Machine
end

section
/-!
PROOFS. The comparator (R214, R258 to R261): COMPARE, the grant of slice 4 and the end of a comparison.
-/
namespace Sys2Proof.Machine

/-- The refusals of COMPARE (R261). -/
def cmpRefusals (w : Word) : List (Bool × Code) :=
  [(rsvSet .cmpCmd w || fldN w 0 4 != 1, .deniedAttr), (fldN w 4 7 = 0 || 64 < fldN w 4 7, .badLength)]

theorem cmpCommand_of_refused {s : State} {b : Blk} {w : Word} {k : Code} (hs : s.d3Serves = true) (hb : s.cmpBusy b = false)
    (h : lowest (cmpRefusals w) = some k) : s.cmpCommand b w = s.cmpDone b k := by
  rw [cmpRefusals] at h
  simp only [State.cmpCommand, hs, hb, h, Bool.not_true, Bool.false_eq_true, if_false]

theorem cmpCommand_of_accepted {s : State} {b : Blk} {w : Word} (hs : s.d3Serves = true) (hb : s.cmpBusy b = false)
    (h : lowest (cmpRefusals w) = none) :
    s.cmpCommand b w = s.askSlice ⟨.blk b, (s.regBytes .cmpA (blkIx b) 16).take (fldN w 4 7),
      (s.regBytes .cmpB (blkIx b) 16).take (fldN w 4 7)⟩ := by
  rw [cmpRefusals] at h
  simp only [State.cmpCommand, hs, hb, h, Bool.not_true, Bool.false_eq_true, if_false]

theorem cmpCommand_of_busy {s : State} {b : Blk} (w : Word) (hs : s.d3Serves = true) (hb : s.cmpBusy b = true) :
    s.cmpCommand b w = s.cmpDone b .busy := by
  simp only [State.cmpCommand, hs, hb, Bool.not_true, Bool.false_eq_true, if_false, if_true]

theorem quiet_d3Serves (s : State) : s.quiet.d3Serves = s.d3Serves := State.quiet_serves s .d3

/-- The result of a comparison without an error reaches the block that waits for it (R261). -/
theorem cmpResult_blk (s : State) {r : CmpReq} {b : Blk} (h : r.src = .blk b) :
    s.cmpResult r .none = s.cmpDone b (if r.a = r.b then .done else .notEqual) := by
  simp [State.cmpResult, h, State.dgeErr]

/-- A stream learns only whether the two were equal (R259). -/
theorem cmpResult_stream (s : State) {r : CmpReq} {sid : StreamId} (h : r.src = .stream sid) :
    s.cmpResult r .none = s.onStream sid fun v => { v with equal := some (decide (r.a = r.b)) } := by
  simp [State.cmpResult, h, State.smeErr, State.onStream, Bool.beq_eq_decide_eq]

/-- The end of a comparison: its slice is free, and its result goes where it is awaited (R259). -/
theorem execComparisonDone_some {s : State} {n : Fin 5} {r : CmpReq} (e : MemErr)
    (h : s.cmp.slices.getD n.val none = some r) :
    exec (.comparisonDone n e) s = .next
      (let t := (s.quiet.onCmp fun m => { m with slices := m.slices.set n.val none }).cmpResult r e
      if n.val < 4 then t.feedSlice n.val else t) := by
  have hq : s.quiet.cmp.slices.getD n.val none = some r := h
  change execComparisonDone n e s = _
  rw [execComparisonDone, ranIf_due (by rw [h]; rfl)]
  simp only [hq]
  rfl

/-- The grant of slice 4 to the winner (R258). -/
theorem execCmpSliceGrant_some {s : State} {r : CmpReq} (hslice : s.cmp.slices.getD 4 none = none)
    (hw : s.cmpWinner = some r) : exec .cmpSliceGrant s = .next (s.quiet.onCmp fun m =>
      { m with
        reqs := m.reqs.erase r
        slices := m.slices.set 4 (some r)
        used := if r.src = .blk .s then m.used + 1 else m.used }) := by
  have hq : s.quiet.cmpWinner = some r := hw
  change execCmpSliceGrant s = _
  rw [execCmpSliceGrant, ranIf_due (by rw [hslice, hw]; rfl)]
  simp only [hq]
  rfl

/-- Settles O43: each outcome of COMPARE, the grant, and the end of a comparison by who waits for it. -/
theorem comparisonsAnswerEqualOrNotEqualOnly : Obligations.ComparisonsAnswerEqualOrNotEqualOnly := by
  refine ⟨fun b w s hs => ?_, fun s r => execCmpSliceGrant_some, fun s r b hr hsrc => ?_, fun s n r sid hr hsrc hn => ?_⟩
  · have hq := (quiet_d3Serves s).trans hs
    refine ⟨fun hb => congrArg _ (cmpCommand_of_busy w hq hb), fun hb hr h1 hlo hhi => ?_, fun hb hr h1 hn => ?_⟩
    · have hnone : lowest (cmpRefusals w) = none := by
        have hn : fldN w 4 7 ≠ 0 ∧ ¬ 64 < fldN w 4 7 := by omega
        simp [cmpRefusals, lowest_eq_none, hr, h1, hn]
      exact congrArg _ (cmpCommand_of_accepted hq hb hnone)
    · have hsome : lowest (cmpRefusals w) = some .badLength := by simp [cmpRefusals, lowest, hr, h1, hn]
      exact congrArg _ (cmpCommand_of_refused hq hb hsome)
  · rw [execComparisonDone_some .none hr, cmpResult_blk _ hsrc]
    rfl
  · rw [execComparisonDone_some .none hr, cmpResult_stream _ hsrc, if_pos hn]

end Sys2Proof.Machine
end

section
/-!
PROOFS. The commands of the clock, reset and strap unit (R96, R97, R101, R102, R111, R114), and the entry and exit of DIM
(R104 to R106, R540).
-/
namespace Sys2Proof.Machine

/-! ### What moving the operating point leaves -/

/-- `t` has the CRS and the SME of `s`, and drives outward at least what `s` does. -/
def State.DrivesOn (s t : State) : Prop := t.crs = s.crs ∧ t.sme = s.sme ∧ s.outs ⊆ t.outs

theorem avsSend_drivesOn (s : State) (op : AvsOp) : s.DrivesOn (s.avsSend op) := by
  simp only [State.avsSend]
  split
  · exact ⟨rfl, rfl, List.subset_append_left ..⟩
  · exact ⟨rfl, rfl, List.Subset.refl _⟩

theorem movePoint_drivesOn (s : State) (v d : Nat) : s.DrivesOn (s.movePoint v d) := by
  simp only [State.movePoint]
  split
  · exact ⟨rfl, rfl, List.Subset.refl _⟩
  · exact avsSend_drivesOn ..

/-- A move of the operating point changes neither CRS nor the SME, and takes back nothing driven outward. -/
theorem takePoint_drivesOn (s : State) : s.DrivesOn s.takePoint := by
  unfold State.takePoint
  split <;> exact movePoint_drivesOn ..

/-! ### DIM -/

/-- What the end of DIM leaves (R105, R106). -/
theorem dimEnd_of_dim {s : State} (h : s.crs.dim = true) (why : Nat) :
    (s.dimEnd why).crs.dim = false ∧ (s.dimEnd why).crs.dimExit = why ∧
      (s.dimEnd why).crs.ctlCount = (s.reg .crsWdtCtlLoad).toNat ∧ (s.dimEnd why).sme.tapUp = true ∧
      .tapCredits 32 ∈ (s.dimEnd why).outs := by
  unfold State.dimEnd
  rw [if_neg (by simp [h])]
  obtain ⟨hcrs, hsme, houts⟩ := takePoint_drivesOn (State.emit { s.onCrs fun c =>
    { c with dim := false, dimExit := why, ctlCount := (s.reg .crsWdtCtlLoad).toNat } with
      sme := { s.sme with tapUp := true } } (.tapCredits 32))
  exact ⟨congrArg Crs.dim hcrs, congrArg Crs.dimExit hcrs, congrArg Crs.ctlCount hcrs, congrArg Sme.tapUp hsme,
    houts (List.mem_append_right _ (List.mem_singleton_self _))⟩

theorem dimEnd_of_not_dim {s : State} (h : s.crs.dim = false) (why : Nat) : s.dimEnd why = s := by
  unfold State.dimEnd
  rw [if_pos (by simp [h])]

/-- Both domains that DIM stops are released and idle (R104). -/
def State.mayDim (s : State) (cw : Bool) : Bool := s.up .d3 && s.up .d5 && s.idle .d3 cw && s.idle .d5 cw

theorem quiet_mayDim (s : State) (cw : Bool) : s.quiet.mayDim cw = s.mayDim cw := rfl

/-- ENTER alone, in a state that may enter DIM (R104, R540). -/
theorem dimWrite_enters {s : State} {w : Word} {cw : Bool} (he : bit w 0 = true) (hx : bit w 1 = false)
    (h : s.mayDim cw = true) : s.dimWrite w cw = State.takePoint
      { (s.onCrs fun c => { c with dim := true, dimCode := .done }) with sme := { s.sme with tapUp := false } } := by
  rw [State.mayDim] at h
  simp only [State.dimWrite, he, hx, h, Bool.not_true, Bool.false_eq_true, if_false, if_true]
  rfl

theorem dimWrite_refused {s : State} {w : Word} {cw : Bool} (he : bit w 0 = true) (hx : bit w 1 = false)
    (h : s.mayDim cw = false) : s.dimWrite w cw = s.onCrs fun c => { c with dimCode := .busy } := by
  rw [State.mayDim] at h
  simp only [State.dimWrite, he, hx, h, Bool.not_true, Bool.false_eq_true, if_false]

/-! ### The commit of the gaps -/

theorem crsCommit_of_fitting {s : State} (hn : s.nextHost = none) (hg : ∀ g ∈ s.stagedGaps, 64 ≤ g.toNat ∧ g.toNat ≤ 4096) :
    s.crsCommit = s.onCrs fun c =>
      { c with gaps := s.stagedGaps, enable := fld (s.reg .crsSdEnable) 0 24, commitCode := .done } := by
  have hfit : (s.stagedGaps.any fun g => g.toNat < 64 || 4096 < g.toNat) = false := by
    simp only [List.any_eq_false, Bool.or_eq_true, decide_eq_true_eq]
    intro g hmem
    have := hg g hmem
    omega
  simp [State.crsCommit, hn, hfit, lowest]

theorem crsCommit_of_gap_outside {s : State} (hn : s.nextHost = none)
    (hg : ∃ g ∈ s.stagedGaps, g.toNat < 64 ∨ 4096 < g.toNat) :
    s.crsCommit = s.onCrs fun c => { c with commitCode := .badLength } := by
  have hbad : (s.stagedGaps.any fun g => g.toNat < 64 || 4096 < g.toNat) = true := by
    simpa only [List.any_eq_true, Bool.or_eq_true, decide_eq_true_eq] using hg
  simp [State.crsCommit, hn, hbad, lowest]

/-! ### The BLOCK command -/

theorem blockWrite_keyed {s : State} {w : Word} (hk : keyed w = true) (hp : s.crs.blockPending = none) :
    s.blockWrite w = s.onCrs fun c =>
      if w.extractLsb' 2 22 = 0 then { c with blockPending := some (blockDom w), blockOn := false }
      else { c with blockCode := .deniedAttr } := by
  simp only [State.blockWrite, hk, hp, Option.isNone_none, Bool.and_true, if_true]
  rfl

/-- A sample of the pending domain (R102). -/
theorem execBlockSample_pending {s : State} {d : Dom} (cw : Bool) (hp : s.crs.blockPending = some d)
    (hon : s.crs.blockOn = false) : exec (.blockSample cw) s = .next
      (if s.up d && s.idle d cw then (s.quiet.onCrs fun c => { c with blockOn := true }).act .block 1 [d]
      else s.quiet.onCrs fun c => { c with blockPending := none, blockCode := .busy }) := by
  have hq : s.quiet.crs.blockPending = some d := hp
  change execBlockSample cw s = _
  rw [execBlockSample, ranIf_due (by rw [hp, hon]; rfl)]
  simp only [hq, State.quiet_up]
  rfl

/-! ### The statement -/

/-- Settles O10: each command by the lemma that says what its write does. -/
theorem crsCommandsAndDimTakeEffect : Obligations.CrsCommandsAndDimTakeEffect := by
  refine ⟨⟨fun w s hs hw => ?_, fun w s hs hw => ?_, fun w s hs hw hn hg => ?_, fun w s hs hw hn hg => ?_,
    fun w s hs hk hp => ?_, fun cw s d hp hon hd => ?_, fun cw s d hp hon hu hi => ?_⟩,
    fun w cw s hs he hx h => ?_, fun w cw s hs he hx h => ?_, fun w s hs hx h => ?_, fun w s hs h => ?_⟩
  · exact ranOn_of_eq hs (if_pos hw)
  · exact ranOn_of_eq hs (if_pos hw)
  · exact ranOn_of_eq hs ((if_pos hw).trans (crsCommit_of_fitting (s := s.quiet) hn hg))
  · exact ranOn_of_eq hs ((if_pos hw).trans (crsCommit_of_gap_outside (s := s.quiet) hn hg))
  · exact ranOn_of_eq hs (blockWrite_keyed hk hp)
  · rw [execBlockSample_pending cw hp hon, hd, if_neg Bool.false_ne_true]
  · rw [execBlockSample_pending cw hp hon, hu, hi, if_pos (by rfl)]
  · exact ranOn_of_eq (f := (·.dimWrite w cw)) hs (dimWrite_enters he hx h)
  · exact ranOn_of_eq (f := (·.dimWrite w cw)) hs (dimWrite_refused he hx h)
  · exact ⟨_, ranOn_of_eq hs (if_pos hx), dimEnd_of_dim (s := s.quiet) h 5⟩
  · exact ranOn_of_eq (f := fun s => if bit w 1 then s.dimEnd 5 else s) hs
      ((congrArg (ite _ · _) (dimEnd_of_not_dim (s := s.quiet) h 5)).trans (ite_self _))

end Sys2Proof.Machine
end

section
/-!
PROOFS. Upstream beats of the key fabric (R325, R326, R337 to R341, R347, R350): what drops one, and what each UTYPE does.
-/
namespace Sys2Proof.Machine

/-! ### A beat without a corrected error -/

theorem upstream_down {s : State} (h : s.kfb.up = false) (p : Nat) (b : BitVec 64) (c : Bool) : s.upstream p b c = s := by
  simp [State.upstream, h]

theorem upstream_dropped {s : State} {p : Nat} {b : BitVec 64} (h : s.kfb.up = true) (hd : s.upDropped p b = true) :
    s.upstream p b false = s.countUpdrop := by
  simp [State.upstream, h, hd]

theorem upstream_taken {s : State} {p : Nat} {b : BitVec 64} (h : s.kfb.up = true) (hd : s.upDropped p b = false) :
    s.upstream p b false = s.upBeat p b := by
  simp [State.upstream, h, hd]

/-- The four commands of upstream beats are one: the beat says what it is (R325). -/
theorem exec_upstream {p : Fin 8} {b : BitVec 64} {c : Bool} {i : Instr}
    (h : i ∈ [Instr.kfAck p b c, .kfCntReq p b c, .kfNextReq p b c, .kfFault p b c]) (s : State) :
    exec i s = .next (s.quiet.upstream p.val b c) := by
  simp only [List.mem_cons, List.not_mem_nil, or_false] at h
  rcases h with rfl | rfl | rfl | rfl <;> rfl

/-- A beat that is taken acts by its UTYPE. -/
theorem exec_upBeat {p : Fin 8} {b : BitVec 64} {i : Instr} {s t : State}
    (hi : i ∈ [Instr.kfAck p b false, .kfCntReq p b false, .kfNextReq p b false, .kfFault p b false])
    (h : s.kfb.up = true) (hd : s.upDropped p.val b = false) (ht : s.quiet.upBeat p.val b = t) : exec i s = .next t :=
  (exec_upstream hi s).trans (congrArg _ ((upstream_taken (s := s.quiet) h hd).trans ht))

/-- UPSTREAM_DROP of a beat that is no error of its own has no effect while KF_UP is low, and counts a drop else. -/
theorem execUpstreamDrop_down {s : State} (p : Fin 8) (b : BitVec 64) (h : s.kfb.up = false) :
    exec (.upstreamDrop p b false) s = .next s.quiet := by
  have hq : s.quiet.kfb.up = false := h
  change execUpstreamDrop p b false s = _
  rw [execUpstreamDrop, ranIf_due (by rw [h]; rfl)]
  simp only [hq, Bool.not_false, if_true]

theorem execUpstreamDrop_dropped {s : State} {p : Fin 8} {b : BitVec 64} (h : s.kfb.up = true)
    (hd : s.upDropped p.val b = true) : exec (.upstreamDrop p b false) s = .next s.quiet.countUpdrop := by
  have hq : s.quiet.kfb.up = true := h
  change execUpstreamDrop p b false s = _
  rw [execUpstreamDrop, ranIf_due (by rw [hd, Bool.or_true])]
  simp only [hq, Bool.not_true, Bool.false_eq_true, if_false]

/-- What drops a beat (R325). -/
theorem upDropped_iff (s : State) (p : Nat) (b : BitVec 64) : s.upDropped p b = true ↔
    portOf (upEp b) ≠ p ∨ fldN b 60 4 = 0 ∨ 5 ≤ fldN b 60 4 ∨ (s.endpoint (upEp b)).present = false := by
  simp [State.upDropped, or_assoc]

/-! ### UTYPE -/

theorem upBeat_reservedCode {s : State} {p : Nat} {b : BitVec 64} (hu : fldN b 60 4 = 1)
    (hc : codeOf (fldN b 32 8) = none) : s.upBeat p b = s.countUpdrop := by
  simp [State.upBeat, hu, hc]

theorem upBeat_ack {s : State} {p : Nat} {b : BitVec 64} {c : Code} (hu : fldN b 60 4 = 1)
    (hc : codeOf (fldN b 32 8) = some c) : s.upBeat p b = s.ackBeat b c := by
  simp [State.upBeat, hu, hc]

theorem upBeat_cntReq {s : State} {p : Nat} {b : BitVec 64} (hu : fldN b 60 4 = 2)
    (ho : s.rtagOut (upEp b) (bit b 19) = false) : s.upBeat p b =
      (s.onCnt fun n => { n with queues := n.queues.modify p fun q =>
        q ++ [⟨upEp b, upEgen b, fld b 24 16, fldN b 20 4, bit b 19, s.kfb.stamp⟩] }).onKfb fun k =>
          { k with stamp := k.stamp + 1 } := by
  simp only [State.upBeat, hu, State.queueCntReq, ho, Bool.false_eq_true, if_false]
  rfl

theorem upBeat_nextReq {s : State} {p : Nat} {b : BitVec 64} (hu : fldN b 60 4 = 3) (hq : s.kfb.nextQ.length < 64) :
    s.upBeat p b = s.onKfb fun k =>
      { k with nextQ := k.nextQ ++ [(upEp b, fld b 36 4, fld b 28 8)], intNext := true } := by
  simp only [State.upBeat, hu, State.queueNextReq, if_pos hq]

theorem upBeat_fault {s : State} {p : Nat} {b : BitVec 64} (hu : fldN b 60 4 = 4) : s.upBeat p b = s.faultBeat b := by
  simp only [State.upBeat, hu]

/-! ### Acknowledgements -/

/-- An ACK of `c` matches what an endpoint owes: its source, and the type in its low three bits (R325). -/
def ackHits (b : BitVec 64) (o : Owed) : Bool := o.ep == upEp b && fld o.typ 0 3 == fld b 20 3

theorem ackBeat_none {s : State} {b : BitVec 64} (h : s.kfb.owed.find? (ackHits b) = none) (c : Code) :
    s.ackBeat b c = s.countUpdrop := by
  simp only [State.ackBeat]
  split
  · rfl
  · rename_i o ho
    cases h.symm.trans ho

/-- The mirror after an ACK of `c` to what is owed (R338, R339, R350). -/
def State.mirrorAcked (s : State) (o : Owed) (b : BitVec 64) (c : Code) : List KeyMirror :=
  if c != .done then s.kfb.mirror
  else if o.typ = tLoad then s.mirrorPlaced o (bit b 23)
  else if o.typ = tRotate then s.mirrorRotated o
  else if o.typ = tBind then s.kfb.mirror.filter fun x => x.ep != o.ep
  else s.kfb.mirror

/-- A refusal mirrors nothing. -/
theorem mirrorAcked_refused (s : State) (o : Owed) (b : BitVec 64) {c : Code} (h : c ≠ .done) :
    s.mirrorAcked o b c = s.kfb.mirror :=
  if_pos (bne_iff_ne.2 h)

/-- A LOAD with DONE mirrors the key at its place (R338, R350). -/
theorem mem_mirrorAcked_load (s : State) {o : Owed} (b : BitVec 64) (h : o.typ = tLoad) :
    ⟨o.ep, o.usage, bit b 23, o.kgen, o.slot, o.sgen, o.keep, o.cell, o.bound⟩ ∈ s.mirrorAcked o b .done := by
  rw [State.mirrorAcked, if_neg (by decide), if_pos h]
  exact List.mem_append_right _ (List.mem_singleton_self _)

/-- The owed message's credit returned and the mirror changed, before its ticket settles. -/
def State.acked (s : State) (o : Owed) (b : BitVec 64) (c : Code) : State :=
  s.onKfb fun k => { k with owed := k.owed.eraseP (ackHits b), mirror := s.mirrorAcked o b c }

/-- An ACK that matches settles the message: its credit returns, and its ticket settles by one (R329, R337). -/
theorem ackBeat_some {s : State} {b : BitVec 64} {o : Owed} (h : s.kfb.owed.find? (ackHits b) = some o) (c : Code) :
    s.ackBeat b c = (s.acked o b c).settle o.ticket 1 c := by
  simp only [State.ackBeat]
  split
  · rename_i hn
    cases h.symm.trans hn
  · rename_i p hp
    cases h.symm.trans hp
    rfl

/-- A settlement changes the commands in flight and their completions alone (R352). -/
theorem settle_kfb (s : State) (t n : Nat) (c : Code) : (s.settle t n c).kfb.owed = s.kfb.owed ∧
    (s.settle t n c).kfb.mirror = s.kfb.mirror ∧ (s.settle t n c).kfb.cntUpdrop = s.kfb.cntUpdrop := by
  simp only [State.settle]
  split
  · exact ⟨rfl, rfl, rfl⟩
  · split <;> exact ⟨rfl, rfl, rfl⟩

/-- The last settlement of a command posts its completion (R352). -/
theorem settle_last {s : State} {t n : Nat} {x : Ticket} (hx : (s.kfb.tickets.find? fun y => y.id == t) = some x)
    (hw : x.wait ≤ n) (c : Code) : (s.settle t n c).kfb.doneQ = s.kfb.doneQ ++ [(t, worse x.code c)] ∧
      (s.settle t n c).kfb.intDone = true := by
  simp only [State.settle, hx, if_pos hw]
  exact ⟨rfl, rfl⟩

/-- What an ACK of `c` leaves that matches an owed message. -/
theorem ackBeat_effect {s : State} {b : BitVec 64} {o : Owed} (h : s.kfb.owed.find? (ackHits b) = some o) (c : Code) :
    let t := s.ackBeat b c
    t.kfb.owed.length + 1 = s.kfb.owed.length ∧ t.kfb.cntUpdrop = s.kfb.cntUpdrop ∧
      t.kfb.mirror = s.mirrorAcked o b c ∧ ∀ x, (s.kfb.tickets.find? fun y => y.id == o.ticket) = some x → x.wait = 1 →
        t.kfb.doneQ = s.kfb.doneQ ++ [(o.ticket, worse x.code c)] ∧ t.kfb.intDone = true := by
  have hmem := List.mem_of_find?_eq_some h
  have hlen : (s.kfb.owed.eraseP (ackHits b)).length + 1 = s.kfb.owed.length := by
    have := List.length_pos_of_mem hmem
    rw [List.length_eraseP_of_mem hmem (List.find?_some h)]
    omega
  rw [ackBeat_some h c]
  obtain ⟨howed, hmirror, hdrops⟩ := settle_kfb (s.acked o b c) o.ticket 1 c
  exact ⟨(congrArg (·.length + 1) howed).trans hlen, hdrops, hmirror,
    fun x hx hw => settle_last (s := s.acked o b c) hx (Nat.le_of_eq hw) c⟩

/-- A read of KFB_DONE_POP at a serving D4 (R352). -/
theorem execKfbDonePop_up {s : State} (hs : s.serves .d4 = true) : exec .kfbDonePop s =
    .next ((s.quiet.onKfb fun k => { k with doneQ := k.doneQ.drop 1 }).emit (.read s.donePopWord)) := by
  change execKfbDonePop s = _
  rw [execKfbDonePop, ranOn_up hs]
  rfl

/-- A read of KFB_NEXT_POP at a serving D4 (R338). -/
theorem execKfbNextPop_up {s : State} (hs : s.serves .d4 = true) : exec .kfbNextPop s =
    .next ((s.quiet.onKfb fun k => { k with nextQ := k.nextQ.drop 1 }).emit (.read s.nextPopWord)) := by
  change execKfbNextPop s = _
  rw [execKfbNextPop, ranOn_up hs]
  rfl

/-- Settles O28: a beat is dropped, or acts by its UTYPE. -/
theorem upstreamBeatsAreCheckedAndQueued : Obligations.UpstreamBeatsAreCheckedAndQueued := by
  refine ⟨fun p b s => ?_, fun p b c s hup hd hu hc => ?_,
    fun s hs => ⟨execKfbDonePop_up hs, execKfbNextPop_up hs⟩⟩
  · intro drop u i hi
    refine ⟨fun h => ⟨?_, execUpstreamDrop_down p b h⟩, fun h hdrop => ?_, fun h hd => ⟨fun hu hc => ?_, fun hu ho => ?_,
      fun hu hq => ?_, fun hu => ?_⟩⟩
    · exact (exec_upstream hi s).trans (congrArg _ (upstream_down (s := s.quiet) h ..))
    · have hd := (upDropped_iff s p.val b).2 hdrop
      exact ⟨(exec_upstream hi s).trans (congrArg _ (upstream_dropped (s := s.quiet) h hd)), execUpstreamDrop_dropped h hd⟩
    · exact exec_upBeat hi h hd (upBeat_reservedCode hu hc)
    · exact exec_upBeat hi h hd (upBeat_cntReq hu ho)
    · exact exec_upBeat hi h hd (upBeat_nextReq hu hq)
    · exact exec_upBeat hi h hd (upBeat_fault hu)
  · refine ⟨_, exec_upBeat List.mem_cons_self hup hd (upBeat_ack hu hc), ?_⟩
    split
    · rename_i h
      exact ackBeat_none (s := s.quiet) h c
    · rename_i o h
      obtain ⟨hlen, hdrops, hmirror, hdone⟩ := ackBeat_effect (s := s.quiet) h c
      refine ⟨hlen, hdrops, fun hload hc => ?_, fun hc => hmirror.trans (mirrorAcked_refused _ o b hc), hdone⟩
      subst hc
      exact ⟨_, hmirror ▸ mem_mirrorAcked_load s.quiet b hload, rfl, rfl, rfl, rfl, rfl, rfl⟩

end Sys2Proof.Machine
end

section
/-!
PROOFS. The counter cells (R328, R341 to R343, R348, R353): how a command comes to wait for its bank, and what each pick of a
bank does.
-/
namespace Sys2Proof.Machine

/-! ### Commands that wait -/

/-- A CNT command written without a reserved bit, while none waits, waits as requester 8 (R328, R353). -/
theorem cntStart_of_free {s : State} {w : Word} (hr : rsvSet .cntCmd w = false) (hc : s.cnt.cmd = none) (c : CntCmd) :
    s.cntStart w c = (s.onCnt fun n => { n with cmd := some (c, s.kfb.stamp) }).onKfb fun k =>
      { k with stamp := k.stamp + 1 } := by
  simp [State.cntStart, lowest, hr, hc]

/-- BUSY is the lowest code: a command written while one waits records it. -/
theorem cntStart_of_waiting {s : State} (hc : s.cnt.cmd.isSome = true) (w : Word) (c : CntCmd) :
    s.cntStart w c = s.onCnt fun n => { n with resCode := .busy } := by
  have hlow : lowest [(s.cnt.cmd.isSome, Code.busy), (rsvSet .cntCmd w, .deniedAttr)] = some .busy := by
    rw [hc]
    cases rsvSet .cntCmd w <;> rfl
  simp only [State.cntStart, hlow]

/-- The commands of the counter cells, with what each asks of its bank (R353). -/
def cntCmds (w : Word) : List (Instr × CntCmd) :=
  [(.cntConfigure w, .configure), (.cntRead w, .read), (.cntAdvance w, .advance), (.cntRetire w, .retire)]

theorem exec_cntStart {w : Word} {e : Instr × CntCmd} (he : e ∈ cntCmds w) {s t : State} (hs : s.serves .d4 = true)
    (ht : s.quiet.cntStart w e.2 = t) : exec e.1 s = .next t := by
  simp only [cntCmds, List.mem_cons, List.not_mem_nil, or_false] at he
  rcases he with rfl | rfl | rfl | rfl <;> exact ranOn_of_eq (f := (·.cntStart w _)) hs ht

theorem execCntExhPop_up {s : State} (hs : s.serves .d4 = true) : exec .cntExhPop s =
    .next ((s.quiet.onCnt fun n => { n with exhQ := n.exhQ.drop 1 }).emit (.read s.exhPopWord)) := by
  change execCntExhPop s = _
  rw [execCntExhPop, ranOn_up hs]
  rfl

/-! ### The pick of a bank -/

/-- The request `r` of port `p` taken from its queue. -/
def State.dequeued (s : State) (p : Nat) (r : CntReq) : State :=
  s.onCnt fun n => { n with queues := n.queues.modify p fun q => q.erase r }

theorem execCntGrant_port {s : State} {b : Fin 16} {p : Nat} {r : CntReq} (h : s.bankPick b.val = some (.port p r))
    (e : CellErr) : exec (.cntGrant b e) s = .next ((s.quiet.dequeued p r).grantOp r e) := by
  have hq : s.quiet.bankPick b.val = some (.port p r) := h
  change execCntGrant b e s = _
  rw [execCntGrant, ranIf_due (by rw [h]; rfl)]
  simp only [State.bankOp, hq]
  rfl

theorem execCntGrant_cmd {s : State} {b : Fin 16} {c : CntCmd} (h : s.bankPick b.val = some (.cmd c))
    (e : CellErr) : exec (.cntGrant b e) s = .next (s.quiet.cntCommand c e) := by
  have hq : s.quiet.bankPick b.val = some (.cmd c) := h
  change execCntGrant b e s = _
  rw [execCntGrant, ranIf_due (by rw [h]; rfl)]
  simp only [State.bankOp, hq]

/-! ### Grants -/

theorem cellCorrected_none (s : State) : s.cellCorrected .none = s := rfl

theorem grantOp_made {s : State} {r : CntReq} (h : s.grantRefusal r .none = none) : s.grantOp r .none = s.grantMade r := by
  simp only [State.grantOp, cellCorrected_none, h]

/-- A range that is granted lies below the end of the cell (R342). -/
theorem value_lt_of_granted {s : State} {r : CntReq} {e : CellErr} (h : s.grantRefusal r e = none) :
    (s.cell r.cell).value.toNat + 2 ^ r.size < 2 ^ 64 := by
  have hspent := lowest_eq_none.1 h _ (List.mem_cons_of_mem _ List.mem_cons_self)
  simp only [Bool.or_eq_false_iff, decide_eq_false_iff_not] at hspent
  omega

/-- A grant refused for another cause than the cell's state leaves the cell and answers with the code (R342). -/
theorem grantOp_denied {s : State} {r : CntReq} {c : Code} (h : s.grantRefusal r .none = some c) (hc : c ≠ .noResource)
    (hr : residueBad (s.cell r.cell) r.size = false) : s.grantOp r .none =
      (s.onCnt fun n => { n with cntDenied := tally n.cntDenied }).queueMsg (s.grantMsg r c 0) := by
  have he : (CellErr.none == CellErr.uncorr) = false ∧ (CellErr.none == CellErr.residue) = false := by decide
  simp [State.grantOp, cellCorrected_none, h, State.grantRefused, hr, hc, he]
  rfl

/-! ### What a grant leaves of the cells -/

theorem setCell_cell {s : State} (h : Sparse.wf ({} : CtrCell) s.cnt.cells = true) (c : CellId) (v : CtrCell) :
    (s.setCell c v).cell c = v := Sparse.get_put h

theorem setCell_cell_ne {s : State} (h : Sparse.wf ({} : CtrCell) s.cnt.cells = true) {c d : CellId} (v : CtrCell)
    (hd : d ≠ c) : (s.setCell c v).cell d = s.cell d :=
  Sparse.get_put_ne h fun he => hd (BitVec.eq_of_toNat_eq he)

/-- A message queued leaves the counter cells as they are. -/
theorem queueMsg_cnt (s : State) (m : KfMsg) : (s.queueMsg m).cnt = s.cnt := by
  have hfold (l : List Nat) (f : KfPort → KfPort) : ∀ s : State, (l.foldl (fun s p => s.onPort p f) s).cnt = s.cnt := by
    induction l with
    | nil => exact fun _ => rfl
    | cons p l ih => exact fun s => ih (s.onPort p f)
  exact hfold ..

theorem cell_of_cnt {s t : State} (h : t.cnt = s.cnt) (c : CellId) : t.cell c = s.cell c := by rw [State.cell, h]; rfl

/-- A faulty read of a cell that is FAULTED already counts, and changes neither the cell nor the queue (R348). -/
theorem faultCell_of_faulted {s : State} {c : CellId} (h : Sparse.wf ({} : CtrCell) s.cnt.cells = true)
    (hf : (s.cell c).faulted = true) (residue : Bool) :
    (s.faultCell c residue).cell c = s.cell c ∧ (s.faultCell c residue).cnt.exhQ = s.cnt.exhQ := by
  have hsame : { s.cell c with faulted := true } = s.cell c := by rw [← hf]
  simp only [State.faultCell, hf, if_true, hsame]
  exact ⟨setCell_cell h c _, rfl⟩

/-- A refused grant leaves a FAULTED cell as it is, and does not queue it again (R348). -/
theorem grantRefused_of_faulted {s : State} {r : CntReq} (h : Sparse.wf ({} : CtrCell) s.cnt.cells = true)
    (hf : (s.cell r.cell).faulted = true) (e : CellErr) (c : Code) :
    (s.grantRefused r e c).cell r.cell = s.cell r.cell ∧ (s.grantRefused r e c).cnt.exhQ = s.cnt.exhQ := by
  have hqueue (t : State) (m : KfMsg) : (t.queueMsg m).cell r.cell = t.cell r.cell ∧ (t.queueMsg m).cnt.exhQ = t.cnt.exhQ :=
    ⟨cell_of_cnt (queueMsg_cnt t m) _, congrArg Cnt.exhQ (queueMsg_cnt t m)⟩
  simp only [State.grantRefused, hf, Bool.not_true, Bool.and_false, Bool.false_eq_true, if_false]
  split
  · obtain ⟨hcell, hexh⟩ := faultCell_of_faulted h hf (e != .uncorr)
    exact ⟨(hqueue ..).1.trans hcell, (hqueue ..).2.trans hexh⟩
  · exact hqueue ..

/-- The count of a corrected error leaves the cells, and what a grant is refused for. -/
theorem cellCorrected_frame (s : State) (r : CntReq) (e : CellErr) : (s.cellCorrected e).cnt.cells = s.cnt.cells ∧
    (s.cellCorrected e).cnt.exhQ = s.cnt.exhQ ∧ (s.cellCorrected e).grantRefusal r e = s.grantRefusal r e := by
  unfold State.cellCorrected
  split <;> exact ⟨rfl, rfl, rfl⟩

/-- So does a grant that is refused to a FAULTED cell, whatever the read of the cell meets (R348). -/
theorem grantOp_of_faulted {s : State} {r : CntReq} {e : CellErr} {c : Code}
    (h : Sparse.wf ({} : CtrCell) s.cnt.cells = true) (hf : (s.cell r.cell).faulted = true)
    (hc : s.grantRefusal r e = some c) :
    (s.grantOp r e).cell r.cell = s.cell r.cell ∧ (s.grantOp r e).cnt.exhQ = s.cnt.exhQ := by
  obtain ⟨hcells, hexh, hrefusal⟩ := cellCorrected_frame s r e
  have hcell (d : CellId) : (s.cellCorrected e).cell d = s.cell d := by rw [State.cell, hcells]; rfl
  obtain ⟨hsame, hq⟩ := grantRefused_of_faulted (s := s.cellCorrected e) (hcells ▸ h) ((hcell r.cell).symm ▸ hf) e c
  simp only [State.grantOp, hrefusal, hc]
  exact ⟨hsame.trans (hcell _), hq.trans hexh⟩

/-! ### Commands -/

theorem cntCommand_read (s : State) : s.cntCommand .read .none = s.onCnt fun n =>
    { n with
      rdValue := (s.cell s.opCell).value
      rdPart := (s.cell s.opCell).part
      rdEnable := (s.cell s.opCell).enable
      rdExhausted := (s.cell s.opCell).exhausted
      rdFaulted := (s.cell s.opCell).faulted
      cmd := none
      resCode := .done } := rfl

theorem cntCommand_advance {s : State} (hx : (s.cell s.opCell).exhausted = false) (hf : (s.cell s.opCell).faulted = false) :
    s.cntCommand .advance .none = (s.setCell s.opCell
      { s.cell s.opCell with
        value := BitVec.ofNat 64 (max (s.cell s.opCell).value.toNat s.opCellValue.toNat)
        res := max (s.cell s.opCell).value.toNat s.opCellValue.toNat % 3 }).cntEnd .done := by
  simp only [State.cntCommand, cellCorrected_none, hx, hf]
  rfl

theorem cntCommand_configure {s : State} (hx : (s.cell s.opCell).exhausted = false) (hf : (s.cell s.opCell).faulted = false)
    (hp : s.partDefined s.opCellPart = true) : s.cntCommand .configure .none =
      (s.setCell s.opCell { s.cell s.opCell with part := s.opCellPart, enable := s.opCellEnable }).cntEnd .done := by
  simp only [State.cntCommand, cellCorrected_none, hx, hf, hp]
  rfl

/-- The queueing of an exhausted cell leaves every cell as it was. -/
theorem queueExh_cell (s : State) (c d : CellId) : (s.queueExh c).cell d = s.cell d := by
  unfold State.queueExh
  split <;> rfl

/-- RETIRE leaves its cell EXHAUSTED and every other as it was (R343). -/
theorem exhaust_cell {s : State} (h : Sparse.wf ({} : CtrCell) s.cnt.cells = true) (c : CellId) :
    (s.exhaust c).cell c = { s.cell c with exhausted := true } ∧ ∀ d, d ≠ c → (s.exhaust c).cell d = s.cell d := by
  unfold State.exhaust
  split
  · rename_i hx
    exact ⟨by rw [← hx], fun _ _ => rfl⟩
  · exact ⟨(queueExh_cell ..).trans (setCell_cell h ..), fun d hd => (queueExh_cell ..).trans (setCell_cell_ne h _ hd)⟩

/-- Settles O29: the commands wait for their bank, and each pick of it is a grant, a refusal or a command. -/
theorem counterBanksQueueAndRunCommands : Obligations.CounterBanksQueueAndRunCommands := by
  refine ⟨fun w s hs => ⟨fun hr hc e he => exec_cntStart he hs (cntStart_of_free (s := s.quiet) hr hc _), fun hc i hi => ?_,
    execCntExhPop_up hs⟩, fun b s p r hb h => ⟨?_, value_lt_of_granted h⟩, fun b s p r c hb h hc _ hr => ?_,
    fun b e s p r c hwf hb hf h => ?_, fun b s hb => ?_, fun b s hb hx hf => ?_, fun b s hb hx hf hp => ?_,
    fun b s hwf hb => ?_⟩
  · obtain ⟨c, hic⟩ : ∃ c, (i, c) ∈ cntCmds w := by
      simp only [List.mem_cons, List.not_mem_nil, or_false] at hi
      rcases hi with rfl | rfl | rfl | rfl <;> exact ⟨_, by simp [cntCmds]; rfl⟩
    exact exec_cntStart hic hs (cntStart_of_waiting (s := s.quiet) hc w c)
  · rw [execCntGrant_port hb]
    exact congrArg _ (grantOp_made (s := s.quiet.dequeued p r) h)
  · rw [execCntGrant_port hb]
    exact congrArg _ (grantOp_denied (s := s.quiet.dequeued p r) h hc hr)
  · exact ⟨_, execCntGrant_port hb e, grantOp_of_faulted (s := s.quiet.dequeued p r) hwf hf h⟩
  · exact (execCntGrant_cmd hb .none).trans (congrArg _ (cntCommand_read s.quiet))
  · exact (execCntGrant_cmd hb .none).trans (congrArg _ (cntCommand_advance (s := s.quiet) hx hf))
  · exact (execCntGrant_cmd hb .none).trans (congrArg _ (cntCommand_configure (s := s.quiet) hx hf hp))
  · obtain ⟨hcell, hothers⟩ := exhaust_cell (s := s.quiet) hwf s.opCell
    exact ⟨_, execCntGrant_cmd hb .none, rfl, rfl, hcell, hothers⟩

end Sys2Proof.Machine
end

section
/-!
PROOFS. The key slots below 16 are the Kiln's own (R14, R281, R287, R293, R298, R309): what a read of a slot can change, and
the commands that name one of these slots as their destination.
-/
namespace Sys2Proof.Machine

/-! ### What the reads before a Kiln command leave -/

/-- The slot holds the same key, attributes, integrity code and lineage. -/
def Slot.SameKey (v w : Slot) : Prop := w.key = v.key ∧ w.attr = v.attr ∧ w.crc = v.crc ∧ w.lineage = v.lineage

theorem Slot.SameKey.rfl {v : Slot} : v.SameKey v := ⟨Eq.refl _, Eq.refl _, Eq.refl _, Eq.refl _⟩

theorem Slot.SameKey.trans {a b c : Slot} (h : a.SameKey b) (h' : b.SameKey c) : a.SameKey c := by
  obtain ⟨h1, h2, h3, h4⟩ := h
  obtain ⟨k1, k2, k3, k4⟩ := h'
  exact ⟨k1.trans h1, k2.trans h2, k3.trans h3, k4.trans h4⟩

/-- `t` is `s` but for what reads of key slots mark, count and report (R284, R553): every key is as it was, and so is what a
Kiln command is refused by. -/
structure State.ReadTo (s t : State) : Prop where
  wf : Sparse.wf ({} : Slot) s.kst.slots = true → Sparse.wf ({} : Slot) t.kst.slots = true
  keys : Sparse.wf ({} : Slot) s.kst.slots = true → ∀ j, (s.slot j).SameKey (t.slot j)
  crs : t.crs = s.crs
  lcs : t.lcs = s.lcs
  kfb : t.kfb = s.kfb
  prt : t.prt = s.prt
  regs : t.regs = s.regs
  psram : t.psram = s.psram
  halted : t.kln.halted = s.kln.halted
  forming : t.kln.forming = s.kln.forming
  root : t.kln.root = s.kln.root

theorem State.ReadTo.refl (s : State) : s.ReadTo s := ⟨id, fun _ _ => .rfl, rfl, rfl, rfl, rfl, rfl, rfl, rfl, rfl, rfl⟩

theorem State.ReadTo.trans {a b c : State} (h : a.ReadTo b) (h' : b.ReadTo c) : a.ReadTo c where
  wf := h'.wf ∘ h.wf
  keys w j := (h.keys w j).trans (h'.keys (h.wf w) j)
  crs := h'.crs.trans h.crs
  lcs := h'.lcs.trans h.lcs
  kfb := h'.kfb.trans h.kfb
  prt := h'.prt.trans h.prt
  regs := h'.regs.trans h.regs
  psram := h'.psram.trans h.psram
  halted := h'.halted.trans h.halted
  forming := h'.forming.trans h.forming
  root := h'.root.trans h.root

/-- A slot marked. -/
theorem setSlot_readTo (s : State) {i : SlotIx} {v : Slot} (hv : (s.slot i).SameKey v) : s.ReadTo (s.setSlot i v) := by
  refine ⟨Sparse.wf_put, ?_, rfl, rfl, rfl, rfl, rfl, rfl, rfl, rfl, rfl⟩
  intro hwf j
  by_cases hj : j = i
  · subst hj
    have : (s.setSlot j v).slot j = v := Sparse.get_put hwf
    rwa [this]
  · have : (s.setSlot i v).slot j = s.slot j := Sparse.get_put_ne hwf fun he => hj (BitVec.eq_of_toNat_eq he)
    rw [this]
    exact .rfl

/-- Counts, flags and the health report. -/
theorem readTo_of_counts {s t : State} (hslots : t.kst.slots = s.kst.slots) (h : t.crs = s.crs ∧ t.lcs = s.lcs ∧ t.kfb = s.kfb ∧
    t.prt = s.prt ∧ t.regs = s.regs ∧ t.psram = s.psram ∧ t.kln.halted = s.kln.halted ∧ t.kln.forming = s.kln.forming ∧
    t.kln.root = s.kln.root) : s.ReadTo t := by
  obtain ⟨h1, h2, h3, h4, h5, h6, h7, h8, h9⟩ := h
  have hslot (j : SlotIx) : t.slot j = s.slot j := by unfold State.slot; rw [hslots]
  exact ⟨(hslots ▸ ·), fun _ j => by rw [hslot]; exact .rfl, h1, h2, h3, h4, h5, h6, h7, h8, h9⟩

theorem slotErr_readTo (s : State) (i : SlotIx) (e : MemErr) : s.ReadTo (s.slotErr i e) := by
  cases e with
  | none => exact .refl s
  | corrected => exact readTo_of_counts rfl ⟨rfl, rfl, rfl, rfl, rfl, rfl, rfl, rfl, rfl⟩
  | uncorr => exact setSlot_readTo s .rfl

theorem readSlot_readTo (s : State) (i : SlotIx) : s.ReadTo (s.readSlot i) := by
  unfold State.readSlot
  simp only
  split
  · exact .refl s
  · exact (setSlot_readTo s (v := { s.slot i with unusable := true }) .rfl).trans
      (readTo_of_counts rfl ⟨rfl, rfl, rfl, rfl, rfl, rfl, rfl, rfl, rfl⟩)

/-- A read of a key slot, whatever it meets. -/
theorem fetchSlot_readTo (s : State) (i : SlotIx) (e : MemErr) : s.ReadTo (s.fetchSlot i e) :=
  (slotErr_readTo s i e).trans (readSlot_readTo _ i)

theorem readParent_readTo (s : State) (e : MemErr) : s.ReadTo (s.readParent e) := by
  unfold State.readParent
  split <;> [exact .refl s; exact fetchSlot_readTo ..]

theorem readMsgSession_readTo (s : State) (e : MemErr) : s.ReadTo (s.readMsgSession e) := by
  unfold State.readMsgSession
  split
  · exact .refl s
  · split <;> [exact .refl s; exact fetchSlot_readTo ..]

theorem countMsg_readTo (s : State) : s.ReadTo s.countMsg := by
  unfold State.countMsg
  split
  · exact .refl s
  · exact readTo_of_counts rfl ⟨rfl, rfl, rfl, rfl, rfl, rfl, rfl, rfl, rfl⟩

section
variable {s t : State} (h : s.ReadTo t)
include h

theorem State.ReadTo.reg (r : Reg) (b k : Nat) : t.reg r b k = s.reg r b k := by rw [State.reg, h.regs]; rfl

theorem State.ReadTo.klnBusy : t.klnBusy = s.klnBusy := by
  rw [State.klnBusy, State.klnWaits, h.forming, h.prt, h.kfb]; rfl

theorem State.ReadTo.klnSlot : t.klnSlot = s.klnSlot := by rw [State.klnSlot, h.reg]; rfl

theorem State.ReadTo.rootless : t.rootless = s.rootless := by rw [State.rootless, h.root]; rfl

theorem State.ReadTo.klnAddr : t.klnAddr = s.klnAddr := by rw [State.klnAddr, h.reg]; rfl

theorem State.ReadTo.klnLen : t.klnLen = s.klnLen := by rw [State.klnLen, h.reg]; rfl

theorem State.ReadTo.klnMsg : t.klnMsg = s.klnMsg := by
  simp only [State.klnMsg, State.psramBytes, h.klnAddr, h.klnLen, h.psram]

end

/-! ### Refusals with DENIED_ATTR -/

theorem Code.eq_deniedAttr_of_num {c : Code} : c.num = Code.deniedAttr.num → c = .deniedAttr := by
  cases c <;> decide

/-- DENIED_ATTR where it applies and no lower code does (R14). -/
theorem lowest_deniedAttr {l : List (Bool × Code)} (h : (true, .deniedAttr) ∈ l)
    (hl : ∀ c, (true, c) ∈ l → Code.deniedAttr.num ≤ c.num) : lowest l = some .deniedAttr := by
  obtain ⟨d, hd⟩ := lowest_isSome h
  obtain ⟨hmem, hle⟩ := lowest_least hd
  rw [hd, Code.eq_deniedAttr_of_num (Nat.le_antisymm (hle _ h) (hl _ hmem))]

/-- `t` answers DENIED_ATTR and every key of `u` is as it was. -/
def State.DeniedAttrFrom (u t : State) : Prop := t.kln.code = .deniedAttr ∧ ∀ j, (u.slot j).SameKey (t.slot j)

/-- A Kiln command that only DENIED_ATTR refuses, after reads of key slots: it records the code and changes no key. -/
theorem klnCommand_denied {u t : State} {w : Word} {refusals : State → List (Bool × Code)} (f : State → State)
    (hwf : Sparse.wf ({} : Slot) u.kst.slots = true) (ht : u.ReadTo t) (hh : u.kln.halted = false) (hb : u.klnBusy = false)
    (hd : (true, .deniedAttr) ∈ refusals t) (hl : ∀ c, (true, c) ∈ refusals t → Code.deniedAttr.num ≤ c.num) :
    u.DeniedAttrFrom (t.klnCommand w refusals f) := by
  have hlow : lowest ((rsvSet .klnCmd w, Code.deniedAttr) :: refusals t) = some .deniedAttr :=
    lowest_deniedAttr (List.mem_cons_of_mem _ hd) fun c hc => by
      rcases List.mem_cons.1 hc with hc | hc <;> [skip; exact hl c hc]
      obtain ⟨-, rfl⟩ := Prod.mk.inj hc
      exact Nat.le_refl _
  have hbusy := ht.klnBusy.trans hb
  have hwaits : t.klnWaits = false := (Bool.or_eq_false_iff.1 hbusy).2
  have heq : t.klnCommand w refusals f = t.klnComplete .deniedAttr := by
    simp only [State.klnCommand, ht.halted, hh, hbusy, hlow, Bool.false_eq_true, if_false]
    simp [State.klnDone, State.countStale, hwaits]
  rw [heq]
  exact ⟨rfl, ht.keys hwf⟩

/-- A Kiln command that is taken up runs in the state that the events before it leave (R306). -/
theorem ranKln_of_takes {s u : State} {w : Word} (h : s.klnTakes u w) (n : Nat) (e : MemErr) :
    ranKln n w e s = .next (u.klnRun ⟨n, w, e⟩) := by
  obtain ⟨hs, hb, hwait, rfl, hh, hheld, hq, -⟩ := h
  have hfree : (!s.quiet.kln.halted && (s.quiet.klnBusy || s.quiet.kln.wait.isSome)) = false := by
    have hb' : s.quiet.klnBusy = false := hb
    have hwait' : s.quiet.kln.wait = none := hwait
    rw [hb', hwait']
    exact Bool.and_false _
  have hturn : (s.quiet.klnTurn.kln.halted || (!s.quiet.klnTurn.klnHeld && s.quiet.klnTurn.kln.queue.isEmpty)) = true := by
    rw [hheld, hq]
    exact Bool.or_true _
  refine ranOn_of_eq hs ?_
  simp only [State.klnWrite, hfree, State.klnStart, hturn, Bool.false_eq_true, if_false, if_true]

/-- A slot below 16 is no destination (R281). -/
theorem destFree_of_lt {s : State} {i : SlotIx} (h : i.toNat < 16) : s.destFree i = false := by
  have : ¬ 16 ≤ i.toNat := by omega
  simp [State.destFree, this]

/-- What a command that is taken up finds: nothing halted and nothing that makes it BUSY. -/
theorem State.klnTakes.free {s u : State} {w : Word} (h : s.klnTakes u w) : u.kln.halted = false ∧ u.klnBusy = false := by
  obtain ⟨-, -, -, -, hh, hheld, -⟩ := h
  exact ⟨hh, (Bool.or_eq_false_iff.1 hheld).1⟩

/-! ### The commands that name a slot below 16 -/

section
variable {u : State} (hwf : Sparse.wf ({} : Slot) u.kst.slots = true) (hh : u.kln.halted = false) (hb : u.klnBusy = false)
  (hroot : u.rootless = false)
include hwf hh hb

theorem doDestroy_denied (hslot : u.klnSlot.toNat < 16) (w : Word) (e : MemErr) : u.DeniedAttrFrom (u.doDestroy w e) := by
  have hread : u.ReadTo (if u.kln.halted || u.klnBusy then u else u.fetchSlot u.klnSlot e) := by
    split <;> [exact .refl u; exact fetchSlot_readTo ..]
  refine klnCommand_denied _ hwf hread hh hb ?_ ?_
  · rw [hread.klnSlot]
    simp [hslot]
  · intro c hc
    simp only [List.mem_cons, List.not_mem_nil, Prod.mk.injEq, or_false] at hc
    rcases hc with ⟨-, rfl⟩ | ⟨-, rfl⟩ <;> decide

include hroot

theorem doDerive_denied (hslot : u.klnSlot.toNat < 16) (w : Word) (e : MemErr) : u.DeniedAttrFrom (u.doDerive w e) := by
  have hread := readParent_readTo u e
  have hfree : (u.readParent e).destFree (u.readParent e).klnSlot = false := destFree_of_lt (hread.klnSlot ▸ hslot)
  refine klnCommand_denied _ hwf hread hh hb ?_ ?_
  · simp [State.deriveRefusals, State.deriveDenied, hfree]
  · intro c hc
    simp only [State.deriveRefusals, hread.rootless, hroot, Bool.and_false, List.mem_cons, List.not_mem_nil, Prod.mk.injEq,
      or_false] at hc
    rcases hc with ⟨h, -⟩ | ⟨-, rfl⟩ | ⟨-, rfl⟩ | ⟨-, rfl⟩ | ⟨-, rfl⟩ <;> [cases h; decide; decide; decide; decide]

theorem doSessionOpen_denied (hslot : u.klnSlot.toNat < 16) (w : Word) : u.DeniedAttrFrom (u.doSessionOpen w) := by
  refine klnCommand_denied _ hwf (.refl u) hh hb ?_ ?_
  · simp [State.sessionRefusals, destFree_of_lt hslot]
  · intro c hc
    simp only [State.sessionRefusals, hroot, List.mem_cons, List.not_mem_nil, Prod.mk.injEq, or_false] at hc
    rcases hc with ⟨h, -⟩ | ⟨-, rfl⟩ | ⟨-, rfl⟩ | ⟨-, rfl⟩ <;> [cases h; decide; decide; decide]

theorem doJobCreate_denied (hslot : u.klnSlot.toNat < 16) (hd4 : u.up .d4 = true) (w : Word) :
    u.DeniedAttrFrom (u.doJobCreate w) := by
  refine klnCommand_denied _ hwf (.refl u) hh hb ?_ ?_
  · simp [State.jobRefusals, destFree_of_lt hslot]
  · intro c hc
    simp only [State.jobRefusals, hroot, hd4, Bool.not_true, List.mem_cons, List.not_mem_nil, Prod.mk.injEq, or_false] at hc
    rcases hc with ⟨h, -⟩ | ⟨h, -⟩ | ⟨-, rfl⟩ | ⟨-, rfl⟩ | ⟨-, rfl⟩ <;> [cases h; cases h; decide; decide; decide]

end

/-- A message whose destination is a slot below 16: a SHARE by KLN_OP_SLOT, else a key message by TARGET_SLOT. -/
def State.msgForKilnSlot (s : State) : Prop :=
  s.klnMsg.kind = 3 ∧ s.klnSlot.toNat < 16 ∨ s.klnMsg.kind ∈ [1, 2, 4] ∧ s.klnMsg.target < 16

theorem msgDenied_of_kilnSlot {s : State} (h : s.msgForKilnSlot) : s.msgDenied false s.klnMsg = true := by
  rcases h with ⟨hkind, hslot⟩ | ⟨hkind, htarget⟩
  · have hshare : s.shareDenied s.klnMsg = true := by simp [State.shareDenied, destFree_of_lt hslot]
    simp [State.msgDenied, hkind, hshare]
  · have hkey : s.keyMsgDenied s.klnMsg = true := by simp [State.keyMsgDenied, htarget]
    simp only [List.mem_cons, List.not_mem_nil, or_false] at hkind
    rcases hkind with hkind | hkind | hkind <;> simp [State.msgDenied, hkind, hkey]

theorem doUnwrap_denied {u : State} (hwf : Sparse.wf ({} : Slot) u.kst.slots = true) (hh : u.kln.halted = false)
    (hb : u.klnBusy = false) (hroot : u.rootless = false) (hrange : psramRange u.klnAddr u.klnLen = true)
    (hlcs : u.lcs.state = .stock ∨ u.lcs.state = .field) (hmsg : u.msgForKilnSlot) (w : Word) (e : MemErr) :
    u.DeniedAttrFrom (u.doUnwrap w e) := by
  have hread := (readMsgSession_readTo u e).trans (countMsg_readTo _)
  generalize ht : (u.readMsgSession e).countMsg = t at hread
  have hdenied : t.msgDenied false t.klnMsg = true :=
    msgDenied_of_kilnSlot (by rwa [State.msgForKilnSlot, hread.klnMsg, hread.klnSlot])
  have hprov (b : Bool) : (b && t.lcs.state != .stock && t.lcs.state != .field) = false := by
    rw [hread.lcs]
    rcases hlcs with h | h <;> simp [h]
  have hlist : psramRange t.klnAddr t.klnLen = true := by rwa [hread.klnAddr, hread.klnLen]
  unfold State.doUnwrap
  rw [ht]
  refine klnCommand_denied _ hwf hread hh hb ?_ ?_
  · simp [State.msgRefusals, hlist, hdenied]
  · intro c hc
    simp only [State.msgRefusals, hlist, Bool.not_true, Bool.false_eq_true, if_false, hread.rootless, hroot, hprov,
      Bool.or_false, List.mem_cons, List.not_mem_nil, Prod.mk.injEq, or_false] at hc
    rcases hc with ⟨h, -⟩ | ⟨-, rfl⟩ | ⟨-, rfl⟩ | ⟨-, rfl⟩ | ⟨-, rfl⟩ | ⟨-, rfl⟩ | ⟨-, rfl⟩ | ⟨-, rfl⟩ <;>
      [cases h; decide; decide; decide; decide; decide; decide; decide]

/-- Settles O18: the reads before a Kiln command change no key, and then DENIED_ATTR is the lowest code that applies. -/
theorem kilnSlotsBelowSixteenAreItsOwn : Obligations.KilnSlotsBelowSixteenAreItsOwn := by
  unfold Obligations.KilnSlotsBelowSixteenAreItsOwn
  intro w e s u htakes hroot hd4 hwf
  obtain ⟨hh, hb⟩ := htakes.free
  refine ⟨fun hslot i hi => ?_, fun hrange hlcs hmsg =>
    ⟨_, ranKln_of_takes htakes 4 e, doUnwrap_denied hwf hh hb hroot hrange hlcs hmsg w e⟩⟩
  simp only [List.mem_cons, List.not_mem_nil, or_false] at hi
  rcases hi with rfl | rfl | rfl | rfl
  · exact ⟨_, ranKln_of_takes htakes 2 e, doDerive_denied hwf hh hb hroot hslot w e⟩
  · exact ⟨_, ranKln_of_takes htakes 3 .none, doSessionOpen_denied hwf hh hb hroot hslot w⟩
  · exact ⟨_, ranKln_of_takes htakes 9 .none, doJobCreate_denied hwf hh hb hroot hslot hd4 w⟩
  · exact ⟨_, ranKln_of_takes htakes 7 e, doDestroy_denied hwf hh hb hslot w e⟩

end Sys2Proof.Machine
end

section
/-!
PROOFS. What leaves the confluence records and the command that waits for the Kiln as they are: one equation for each
operation of the model, for `simp` (R16, R297 to R306).
-/
namespace Sys2Proof.Machine

/-- The confluence records, and the command that waits for the Kiln. -/
def State.conf (s : State) : Sparse (Option KRecord) × Option KlnWait := (s.kln.recs, s.kln.wait)

@[simp] theorem conf_eta (s : State) : (s.kln.recs, s.kln.wait) = s.conf := rfl

@[simp] theorem conf_onKln (s : State) (f : Kln → Kln) : (s.onKln f).conf = ((f s.kln).recs, (f s.kln).wait) := rfl

/-- An update of the state that leaves the Kiln. -/
@[simp] theorem conf_mk (s : State) (crs otp lcs kfb cnt kst peat prt fnc fncCore sme mrs dge cmp pke att boot mbx wcp
    cwy trng top plic fw upd mp icp tap ast cntAstdrop regs psram csram nvm outs trngDrawn nvmTears pending) :
    State.conf ⟨crs, otp, lcs, kfb, cnt, kst, s.kln, peat, prt, fnc, fncCore, sme, mrs, dge, cmp, pke, att, boot, mbx,
      wcp, cwy, trng, top, plic, fw, upd, mp, icp, tap, ast, cntAstdrop, regs, psram, csram, nvm, outs, trngDrawn,
      nvmTears, pending⟩ = s.conf := rfl

@[simp] theorem conf_ite (c : Prop) [Decidable c] (s t : State) :
    (if c then s else t).conf = if c then s.conf else t.conf := apply_ite State.conf c s t

@[simp] theorem conf_foldl {α : Type} {f : State → α → State} (h : ∀ s a, (f s a).conf = s.conf)
    (s : State) (l : List α) : (l.foldl f s).conf = s.conf := by
  induction l generalizing s with
  | nil => rfl
  | cons a l ih => exact (ih _).trans (h s a)

/-- Either branch of an optional value. -/
theorem conf_elim {α : Type} {s t : State} {f : α → State} (hs : s.conf = t.conf) (hf : ∀ a, (f a).conf = t.conf)
    (o : Option α) : (o.elim s f).conf = t.conf := by
  cases o <;> [exact hs; exact hf _]

/-! ### The operations that every unit shares -/

@[simp] theorem State.emit_conf (s : State) (o : Out) : (s.emit o).conf = s.conf := rfl

@[simp] theorem State.onCrs_conf (s : State) (f : Crs → Crs) : (s.onCrs f).conf = s.conf := rfl

@[simp] theorem State.onOtp_conf (s : State) (f : Otp → Otp) : (s.onOtp f).conf = s.conf := rfl

@[simp] theorem State.onLcs_conf (s : State) (f : Lcs → Lcs) : (s.onLcs f).conf = s.conf := rfl

@[simp] theorem State.onKfb_conf (s : State) (f : Kfb → Kfb) : (s.onKfb f).conf = s.conf := rfl

@[simp] theorem State.onCnt_conf (s : State) (f : Cnt → Cnt) : (s.onCnt f).conf = s.conf := rfl

@[simp] theorem State.onKst_conf (s : State) (f : Kst → Kst) : (s.onKst f).conf = s.conf := rfl

@[simp] theorem State.onFw_conf (s : State) (f : Fw → Fw) : (s.onFw f).conf = s.conf := rfl

@[simp] theorem State.onPeat_conf (s : State) (f : Peat → Peat) : (s.onPeat f).conf = s.conf := rfl

@[simp] theorem State.closeDebug_conf (s : State) : s.closeDebug.conf = s.conf := rfl

@[simp] theorem State.nvmDrive_conf (s : State) (op : NvmBus) : (s.nvmDrive op).conf = s.conf := rfl

@[simp] theorem State.nvmFetch_conf (s : State) (a n : Nat) : (s.nvmFetch a n).conf = s.conf := rfl

@[simp] theorem State.nvmPut_conf (s : State) (a : Nat) (bs : Bytes) :
    (s.nvmPut a bs).conf = s.conf := rfl

@[simp] theorem State.setReg_conf (s : State) (r : Reg) (v : Word) (b : Nat) (k : Nat) :
    (s.setReg r v b k).conf = s.conf := rfl

@[simp] theorem State.clearReg_conf (s : State) (r : Reg) (b : Nat) :
    (s.clearReg r b).conf = s.conf := rfl

@[simp] theorem State.health_conf (s : State) (unit : Nat) (code : Code) (part : Option PartId) :
    (s.health unit code part).conf = s.conf := rfl

@[simp] theorem State.drew_conf (s : State) (n : Nat) : (s.drew n).conf = s.conf := rfl

@[simp] theorem State.psramPut_conf (s : State) (a : Nat) (bs : Bytes) :
    (s.psramPut a bs).conf = s.conf := rfl

@[simp] theorem State.csramPut_conf (s : State) (a : Nat) (bs : Bytes) :
    (s.csramPut a bs).conf = s.conf := rfl

@[simp] theorem State.mpIssue_conf (s : State) (write : Bool) (addr beats : Nat) (part : PartId) (ctx : EndpointId)
    (data : Bytes) (owner : MpOwner) :
    (s.mpIssue write addr beats part ctx data owner).conf = s.conf := rfl

/-! ### The fence -/

@[simp] theorem State.onFnc_conf (s : State) (f : Fnc → Fnc) : (s.onFnc f).conf = s.conf := rfl

@[simp] theorem State.avsSend_conf (s : State) (op : AvsOp) : (s.avsSend op).conf = s.conf := by simp [State.avsSend]

@[simp] theorem State.movePoint_conf (s : State) (v d : Nat) :
    (s.movePoint v d).conf = s.conf := by simp [State.movePoint]

@[simp] theorem State.boostOff_conf (s : State) : s.boostOff.conf = s.conf := rfl

@[simp] theorem State.takePoint_conf (s : State) : s.takePoint.conf = s.conf := by simp [State.takePoint]

@[simp] theorem State.countFall_conf (s : State) (d : Nat) : (s.countFall d).conf = s.conf := rfl

@[simp] theorem State.avsFails_conf (s : State) : s.avsFails.conf = s.conf := by simp [State.avsFails]

@[simp] theorem State.fenceStart_conf (s : State) : s.fenceStart.conf = s.conf := by simp [State.fenceStart]

@[simp] theorem State.fenceCommit_conf (s : State) : s.fenceCommit.conf = s.conf := by simp [State.fenceCommit]

@[simp] theorem State.sensorReads_conf (s : State) (a : BitVec 8) (v : Option (BitVec 16)) :
    (s.sensorReads a v).conf = s.conf := rfl

@[simp] theorem State.avsNext_conf (s : State) : s.avsNext.conf = s.conf := by
  simp only [State.avsNext]
  split <;> simp

@[simp] theorem State.avsBar_conf (s : State) : s.avsBar.conf = s.conf := rfl

@[simp] theorem State.avsAlerted_conf (s : State) (alert : Bool) :
    (s.avsAlerted alert).conf = s.conf := by simp [State.avsAlerted]

@[simp] theorem State.scanEnd_conf (s : State) : s.scanEnd.conf = s.conf := by simp [State.scanEnd]

@[simp] theorem State.dimEnd_conf (s : State) (why : Nat) : (s.dimEnd why).conf = s.conf := by simp [State.dimEnd]

@[simp] theorem State.refuseD3_conf (s : State) : s.refuseD3.conf = s.conf := by simp [State.refuseD3]

/-! ### Key slots -/

@[simp] theorem State.setSlot_conf (s : State) (i : SlotIx) (v : Slot) :
    (s.setSlot i v).conf = s.conf := rfl

@[simp] theorem State.readSlot_conf (s : State) (i : SlotIx) : (s.readSlot i).conf = s.conf := by simp [State.readSlot]

@[simp] theorem State.slotErr_conf (s : State) (i : SlotIx) (e : MemErr) :
    (s.slotErr i e).conf = s.conf := by
  simp only [State.slotErr]
  split <;> simp

@[simp] theorem State.fetchSlot_conf (s : State) (i : SlotIx) (e : MemErr) :
    (s.fetchSlot i e).conf = s.conf := by simp [State.fetchSlot]

@[simp] theorem State.writeSlot_conf (s : State) (i : SlotIx) (key : BitVec 256) (attr : Word) (lineage : BitVec 7) :
    (s.writeSlot i key attr lineage).conf = s.conf := rfl

@[simp] theorem State.zeroSlot_conf (s : State) (i : SlotIx) (g : Gen) :
    (s.zeroSlot i g).conf = s.conf := rfl

/-! ### The key fabric -/

@[simp] theorem State.setEndpoint_conf (s : State) (e : EndpointId) (v : Endpoint) :
    (s.setEndpoint e v).conf = s.conf := rfl

@[simp] theorem State.onPort_conf (s : State) (p : Nat) (f : KfPort → KfPort) :
    (s.onPort p f).conf = s.conf := rfl

@[simp] theorem State.faultPort_conf (s : State) (p : Nat) : (s.faultPort p).conf = s.conf := rfl

@[simp] theorem State.endTicket_conf (s : State) (t : Nat) (c : Code) :
    (s.endTicket t c).conf = s.conf := rfl

@[simp] theorem State.settle_conf (s : State) (t n : Nat) (c : Code) :
    (s.settle t n c).conf = s.conf := by
  simp only [State.settle]
  split <;> simp

@[simp] theorem State.abortCovered_conf (s : State) (r : EmberReq) (p : Nat) :
    (s.abortCovered r p).conf = s.conf := by
  refine conf_foldl (fun s m => ?_) s _
  split <;> simp

@[simp] theorem State.commitEmber_conf (s : State) (r : EmberReq) :
    (s.commitEmber r).conf = s.conf := by
  simp only [State.commitEmber]
  repeat' split
  all_goals simp

@[simp] theorem State.klnComplete_conf (s : State) (c : Code) : (s.klnComplete c).conf = s.conf := rfl

@[simp] theorem State.klnSettle_conf (s : State) : s.klnSettle.conf = s.conf := by
  simp only [State.klnSettle]
  split <;> simp

@[simp] theorem State.drainEmber_conf (s : State) : s.drainEmber.conf = s.conf := by simp [State.drainEmber]

@[simp] theorem State.raiseEmber_conf (s : State) (r : EmberReq) :
    (s.raiseEmber r).conf = s.conf := by simp [State.raiseEmber]

@[simp] theorem State.portFails_conf (s : State) (p : Nat) : (s.portFails p).conf = s.conf := by simp [State.portFails]

@[simp] theorem State.sendEmber_conf (s : State) (p : Nat) : (s.sendEmber p).conf = s.conf := by
  simp only [State.sendEmber]
  split <;> simp

@[simp] theorem State.sendClass_conf (s : State) (p c : Nat) : (s.sendClass p c).conf = s.conf := by
  simp only [State.sendClass]
  split <;> simp

@[simp] theorem State.sendBeat_conf (s : State) (p : Nat) : (s.sendBeat p).conf = s.conf := by
  simp only [State.sendBeat]
  split <;> simp

@[simp] theorem State.ackRevoke_conf (s : State) (p id age : Nat) :
    (s.ackRevoke p id age).conf = s.conf := by
  simp only [State.ackRevoke]
  repeat' split
  all_goals simp

@[simp] theorem State.eackPulse_conf (s : State) (p age : Nat) :
    (s.eackPulse p age).conf = s.conf := by
  simp only [State.eackPulse]
  repeat' split
  all_goals simp

@[simp] theorem State.countUpdrop_conf (s : State) : s.countUpdrop.conf = s.conf := rfl

@[simp] theorem State.ackBeat_conf (s : State) (beat : BitVec 64) (c : Code) :
    (s.ackBeat beat c).conf = s.conf := by
  simp only [State.ackBeat]
  split <;> simp

@[simp] theorem State.queueCntReq_conf (s : State) (p : Nat) (beat : BitVec 64) :
    (s.queueCntReq p beat).conf = s.conf := by simp [State.queueCntReq]

@[simp] theorem State.queueNextReq_conf (s : State) (beat : BitVec 64) :
    (s.queueNextReq beat).conf = s.conf := by simp [State.queueNextReq]

@[simp] theorem State.faultBeat_conf (s : State) (beat : BitVec 64) :
    (s.faultBeat beat).conf = s.conf := rfl

@[simp] theorem State.upBeat_conf (s : State) (p : Nat) (beat : BitVec 64) :
    (s.upBeat p beat).conf = s.conf := by
  unfold State.upBeat
  split
  · exact conf_elim (by simp) (fun c => by simp) _
  all_goals simp

@[simp] theorem State.upstream_conf (s : State) (p : Nat) (beat : BitVec 64) (corrected : Bool) :
    (s.upstream p beat corrected).conf = s.conf := by simp [State.upstream]

@[simp] theorem State.kfbRefuse_conf (s : State) (c : Code) : (s.kfbRefuse c).conf = s.conf := rfl

@[simp] theorem State.kfbAccept_conf (s : State) (wait : Nat) : (s.kfbAccept wait).conf = s.conf := rfl

@[simp] theorem State.kfbCommand_conf (s : State) {f : State → State} (h : ∀ s, (f s).conf = s.conf) (w : Word)
    (refusals : List (Bool × Code)) : (s.kfbCommand w refusals f).conf = s.conf := by
  unfold State.kfbCommand
  split <;> simp [h]

@[simp] theorem State.queueMsg_conf (s : State) (m : KfMsg) : (s.queueMsg m).conf = s.conf := by
  simp only [State.queueMsg, State.onKfb_conf]
  exact conf_foldl (by intros; rfl) _ _

@[simp] theorem State.putKgen_conf (s : State) (g : Gen) : (s.putKgen g).conf = s.conf := by simp [State.putKgen]

@[simp] theorem State.loadAccepted_conf (s : State) : s.loadAccepted.conf = s.conf := by simp [State.loadAccepted]

@[simp] theorem State.doLoad_conf (s : State) (w : Word) (e : MemErr) :
    (s.doLoad w e).conf = s.conf := by
  simp only [State.doLoad, conf_ite, State.onKst_conf, State.kfbCommand_conf _ State.loadAccepted_conf,
    State.fetchSlot_conf, ite_self]

@[simp] theorem State.rotateAccepted_conf (s : State) : s.rotateAccepted.conf = s.conf := by simp [State.rotateAccepted]

@[simp] theorem State.emberAccepted_conf (s : State) (r : EmberReq) :
    (s.emberAccepted r).conf = s.conf := by simp [State.emberAccepted]

@[simp] theorem State.bindAccepted_conf (s : State) : s.bindAccepted.conf = s.conf := by simp [State.bindAccepted]

@[simp] theorem State.abandonOwed_conf (s : State) (e : EndpointId) :
    (s.abandonOwed e).conf = s.conf := by simp [State.abandonOwed]

@[simp] theorem State.unbind_conf (s : State) (e : EndpointId) : (s.unbind e).conf = s.conf := by simp [State.unbind]

@[simp] theorem State.releaseAccepted_conf (s : State) :
    s.releaseAccepted.conf = s.conf := by simp [State.releaseAccepted]

@[simp] theorem State.kfbUp_conf (s : State) : s.kfbUp.conf = s.conf := by simp [State.kfbUp]

/-! ### Counter cells -/

@[simp] theorem State.setCell_conf (s : State) (c : CellId) (v : CtrCell) :
    (s.setCell c v).conf = s.conf := rfl

@[simp] theorem State.queueExh_conf (s : State) (c : CellId) : (s.queueExh c).conf = s.conf := by simp [State.queueExh]

@[simp] theorem State.exhaust_conf (s : State) (c : CellId) : (s.exhaust c).conf = s.conf := by simp [State.exhaust]

@[simp] theorem State.faultCell_conf (s : State) (c : CellId) (residue : Bool) :
    (s.faultCell c residue).conf = s.conf := by simp [State.faultCell]

@[simp] theorem State.cellCorrected_conf (s : State) (err : CellErr) :
    (s.cellCorrected err).conf = s.conf := by simp [State.cellCorrected]

@[simp] theorem State.grantMade_conf (s : State) (r : CntReq) :
    (s.grantMade r).conf = s.conf := by simp [State.grantMade]

@[simp] theorem State.grantRefused_conf (s : State) (r : CntReq) (err : CellErr) (c : Code) :
    (s.grantRefused r err c).conf = s.conf := by simp [State.grantRefused]

@[simp] theorem State.grantOp_conf (s : State) (r : CntReq) (err : CellErr) :
    (s.grantOp r err).conf = s.conf := by
  simp only [State.grantOp]
  split <;> simp

@[simp] theorem State.cntEnd_conf (s : State) (c : Code) : (s.cntEnd c).conf = s.conf := rfl

@[simp] theorem State.cntCommand_conf (s : State) (c : CntCmd) (err : CellErr) :
    (s.cntCommand c err).conf = s.conf := by
  simp only [State.cntCommand]
  repeat' split
  all_goals simp

@[simp] theorem State.bankOp_conf (s : State) (b : Nat) (err : CellErr) :
    (s.bankOp b err).conf = s.conf := by
  simp only [State.bankOp]
  split <;> simp

@[simp] theorem State.cntStart_conf (s : State) (w : Word) (c : CntCmd) :
    (s.cntStart w c).conf = s.conf := by
  simp only [State.cntStart]
  split <;> simp

/-! ### The Kiln -/

@[simp] theorem State.klnDone_conf (s : State) (c : Code) : (s.klnDone c).conf = s.conf := by simp [State.klnDone]

@[simp] theorem State.countStale_conf (s : State) (c : Code) :
    (s.countStale c).conf = s.conf := by simp [State.countStale]

theorem State.klnCommand_conf {f : State → State} (h : ∀ s, (f s).conf = s.conf) (s : State) (w : Word)
    (refusals : State → List (Bool × Code)) : (s.klnCommand w refusals f).conf = s.conf := by
  unfold State.klnCommand
  split
  · simp
  · split
    · simp
    · split <;> simp [h]

@[simp] theorem State.formSeeds_conf (s : State) (k : RootKind) : (s.formSeeds k).conf = s.conf := rfl

@[simp] theorem State.formRoot_conf (s : State) : s.formRoot.conf = s.conf := by simp [State.formRoot]

@[simp] theorem State.formFinish_conf (s : State) (digest : Bytes) :
    (s.formFinish digest).conf = s.conf := by
  simp only [State.formFinish]
  split <;> simp

@[simp] theorem State.formFails_conf (s : State) (c : Code) : (s.formFails c).conf = s.conf := by
  simp only [State.formFails]
  split <;> simp

@[simp] theorem State.derive_conf (s : State) : s.derive.conf = s.conf := by simp [State.derive]

@[simp] theorem State.readParent_conf (s : State) (e : MemErr) :
    (s.readParent e).conf = s.conf := by simp [State.readParent]

@[simp] theorem State.onSession_conf (s : State) (sid : Word) (f : Session → Session) :
    (s.onSession sid f).conf = s.conf := rfl

@[simp] theorem State.sessionOpen_conf (s : State) : s.sessionOpen.conf = s.conf := by simp [State.sessionOpen]

@[simp] theorem State.doSessionOpen_conf (s : State) (w : Word) :
    (s.doSessionOpen w).conf = s.conf := by
  simp [State.doSessionOpen, State.klnCommand_conf State.sessionOpen_conf]

@[simp] theorem State.destroySlot_conf (s : State) (i : SlotIx) (src : EmberSrc) :
    (s.destroySlot i src).conf = s.conf := by simp [State.destroySlot]

@[simp] theorem State.destroySlots_conf (s : State) (l : List SlotIx) (src : EmberSrc) :
    (s.destroySlots l src).conf = s.conf := by simp [State.destroySlots]

@[simp] theorem State.doDestroy_conf (s : State) (w : Word) (e : MemErr) :
    (s.doDestroy w e).conf = s.conf := by
  refine (State.klnCommand_conf (fun s => ?_) _ _ _).trans ?_ <;> simp

@[simp] theorem State.countMsg_conf (s : State) : s.countMsg.conf = s.conf := by simp [State.countMsg]

@[simp] theorem State.readMsgSession_conf (s : State) (e : MemErr) :
    (s.readMsgSession e).conf = s.conf := by
  simp only [State.readMsgSession]
  repeat' split
  all_goals simp

@[simp] theorem State.countIn_conf (s : State) (m : KuMsg) : (s.countIn m).conf = s.conf := by simp [State.countIn]

@[simp] theorem State.putKey_conf (s : State) (m : KuMsg) (key : Bytes) :
    (s.putKey m key).conf = s.conf := by simp [State.putKey]

@[simp] theorem State.putPersist_conf (s : State) (m : KuMsg) (key : Bytes) :
    (s.putPersist m key).conf = s.conf := by simp [State.putPersist]

@[simp] theorem State.destroyShares_conf (s : State) (r : KRecord) (src : EmberSrc) :
    (s.destroyShares r src).conf = s.conf := by simp [State.destroyShares]

@[simp] theorem State.unsealMsg_conf (s : State) : s.unsealMsg.conf = s.conf := by simp [State.unsealMsg]

@[simp] theorem State.doUnseal_conf (s : State) (w : Word) (e : MemErr) :
    (s.doUnseal w e).conf = s.conf := by
  simp [State.doUnseal, State.klnCommand_conf State.unsealMsg_conf]

@[simp] theorem State.sealMsg_conf (s : State) : s.sealMsg.conf = s.conf := by
  simp only [State.sealMsg]
  split <;> simp

@[simp] theorem State.readSealSession_conf (s : State) (e : MemErr) :
    (s.readSealSession e).conf = s.conf := by
  simp only [State.readSealSession]
  repeat' split
  all_goals simp

@[simp] theorem State.doSeal_conf (s : State) (w : Word) (e : MemErr) :
    (s.doSeal w e).conf = s.conf := by
  simp [State.doSeal, State.klnCommand_conf State.sealMsg_conf]

@[simp] theorem State.dropEvent_conf (s : State) : s.dropEvent.conf = s.conf := rfl

@[simp] theorem State.doFormRoot_conf (s : State) (w : Word) : (s.doFormRoot w).conf = s.conf := by
  simp [State.doFormRoot, State.klnCommand_conf State.formRoot_conf]

@[simp] theorem State.doDerive_conf (s : State) (w : Word) (e : MemErr) :
    (s.doDerive w e).conf = s.conf := by
  simp [State.doDerive, State.klnCommand_conf State.derive_conf]

@[simp] theorem State.doSaltLoad_conf (s : State) (w : Word) : (s.doSaltLoad w).conf = s.conf := by
  exact State.klnCommand_conf (fun s => by simp) _ _ _

/-! ### Stream measurement -/

@[simp] theorem State.onSme_conf (s : State) (f : Sme → Sme) : (s.onSme f).conf = s.conf := rfl

@[simp] theorem State.setStream_conf (s : State) (sid : StreamId) (v : Stream) :
    (s.setStream sid v).conf = s.conf := rfl

@[simp] theorem State.onStream_conf (s : State) (sid : StreamId) (f : Stream → Stream) :
    (s.onStream sid f).conf = s.conf := rfl

@[simp] theorem State.setLane_conf (s : State) (l : Nat) (v : FenLane) :
    (s.setLane l v).conf = s.conf := rfl

@[simp] theorem State.setExp_conf (s : State) (i : Nat) (v : ExpEntry) :
    (s.setExp i v).conf = s.conf := rfl

@[simp] theorem State.setMreg_conf (s : State) (i : Nat) (v : MReg) :
    (s.setMreg i v).conf = s.conf := rfl

@[simp] theorem State.onSmeBlk_conf (s : State) (b : Blk) (f : SmeBlk → SmeBlk) :
    (s.onSmeBlk b f).conf = s.conf := by
  simp only [State.onSmeBlk]
  split <;> simp

@[simp] theorem State.smeErr_conf (s : State) (e : MemErr) (part : Option PartId) :
    (s.smeErr e part).conf = s.conf := by
  simp only [State.smeErr]
  split <;> simp

@[simp] theorem State.spoilStream_conf (s : State) (sid : StreamId) :
    (s.spoilStream sid).conf = s.conf := by
  simp only [State.spoilStream]
  split <;> simp

@[simp] theorem State.ctxErr_conf (s : State) (e : MemErr) (sid : StreamId) :
    (s.ctxErr e sid).conf = s.conf := by simp [State.ctxErr]

@[simp] theorem State.sendEvent_conf (s : State) (e : SmeEvent) :
    (s.sendEvent e).conf = s.conf := by simp [State.sendEvent]

@[simp] theorem State.dropBeat_conf (s : State) (tap : Nat) (sid : StreamId) :
    (s.dropBeat tap sid).conf = s.conf := by simp [State.dropBeat]

@[simp] theorem State.openBeat_conf (s : State) (tap : Nat) (sid : StreamId) (bytes : Bytes) (first last : Bool) :
    (s.openBeat tap sid bytes first last).conf = s.conf := by simp [State.openBeat]

@[simp] theorem State.fillLeaf_conf (s : State) (l : Nat) (sid : StreamId) (bs : Bytes) :
    (s.fillLeaf l sid bs).conf = s.conf := rfl

@[simp] theorem State.beginLeaf_conf (s : State) (l : Nat) (sid : StreamId) (bs : Bytes) :
    (s.beginLeaf l sid bs).conf = s.conf := rfl

theorem State.intake_conf {s t : State} {b : TapBeat} {bs : Bytes} (h : s.intake b = some (t, bs)) :
    t.conf = s.conf := by
  simp only [State.intake] at h
  split at h
  · obtain ⟨l, -, hl⟩ := Option.map_eq_some_iff.1 h
    rw [← (Prod.mk.inj hl).1, State.beginLeaf_conf]
  · split at h <;> cases h <;> simp

theorem State.intakeTap_conf {s t : State} {tap : Nat} (h : s.intakeTap tap = some t) : t.conf = s.conf := by
  unfold State.intakeTap at h
  split at h
  · cases h
  · split at h
    · cases h
    · rename_i hi
      cases h
      exact (State.intake_conf hi :)
    · rename_i hi
      cases h
      exact (State.intake_conf hi :)

@[simp] theorem State.finishLeaf_conf (s : State) (l : Nat) (e : MemErr) :
    (s.finishLeaf l e).conf = s.conf := by
  simp only [State.finishLeaf]
  split <;> simp

@[simp] theorem State.feedSlice_conf (s : State) (c : Nat) : (s.feedSlice c).conf = s.conf := by
  simp only [State.feedSlice]
  repeat' split
  all_goals simp

@[simp] theorem State.queueExt_conf (s : State) (r : ExtReq) : (s.queueExt r).conf = s.conf := rfl

@[simp] theorem State.smeDone_conf (s : State) (b : Blk) (c : Code) :
    (s.smeDone b c).conf = s.conf := by simp [State.smeDone]

@[simp] theorem State.postResult_conf (s : State) (b : Blk) (r : StreamResult) :
    (s.postResult b r).conf = s.conf := by simp [State.postResult]

@[simp] theorem State.closeEvent_conf (s : State) (v : Stream) (sid : StreamId) (c : Code) :
    (s.closeEvent v sid c).conf = s.conf := by simp [State.closeEvent]

@[simp] theorem State.closeExt_conf (s : State) (v : Stream) (sid : StreamId) (c : Code) (digest : Bytes) :
    (s.closeExt v sid c digest).conf = s.conf := by simp [State.closeExt]

@[simp] theorem State.purgeTokens_conf (s : State) (p : PartId) :
    (s.purgeTokens p).conf = s.conf := by simp [State.purgeTokens]

@[simp] theorem State.closeStream_conf (s : State) (sid : StreamId) (e : MemErr) :
    (s.closeStream sid e).conf = s.conf := by
  simp only [State.closeStream]
  split <;> simp

@[simp] theorem State.loadStream_conf (s : State) (b : Blk) (sid : StreamId) (digest : Option Bytes) :
    (s.loadStream b sid digest).conf = s.conf := by simp [State.loadStream]

@[simp] theorem State.openStream_conf (s : State) (b : Blk) :
    (s.openStream b).conf = s.conf := by simp [State.openStream]

@[simp] theorem State.endCtx_conf (s : State) (c : Nat) (code : Code) (digest : Bytes) (aux : Word) :
    (s.endCtx c code digest aux).conf = s.conf := rfl

@[simp] theorem State.zeroMreg_conf (s : State) (i : Nat) (owner : Option PartId) :
    (s.zeroMreg i owner).conf = s.conf := by
  refine (conf_foldl (fun s r => ?_) _ _).trans (by simp)
  split <;> simp

@[simp] theorem State.mrAssign_conf (s : State) (b : Blk) (rsv : Bool) :
    (s.mrAssign b rsv).conf = s.conf := by
  simp only [State.mrAssign]
  split <;> simp

@[simp] theorem State.mrRead_conf (s : State) (b : Blk) (rsv : Bool) (e : MemErr) :
    (s.mrRead b rsv e).conf = s.conf := by simp [State.mrRead]

@[simp] theorem State.mrExtend_conf (s : State) (b : Blk) (rsv : Bool) :
    (s.mrExtend b rsv).conf = s.conf := by simp [State.mrExtend]

@[simp] theorem State.smeStatus_conf (s : State) (b : Blk) (rsv : Bool) (e : MemErr) :
    (s.smeStatus b rsv e).conf = s.conf := by simp [State.smeStatus]

@[simp] theorem State.expErr_conf (s : State) (e : MemErr) (i : Nat) :
    (s.expErr e i).conf = s.conf := by
  simp only [State.expErr]
  split <;> simp

@[simp] theorem State.expWrite_conf (s : State) (b : Blk) (rsv : Bool) (e : MemErr) :
    (s.expWrite b rsv e).conf = s.conf := by
  simp only [State.expWrite]
  split <;> simp

@[simp] theorem State.expClear_conf (s : State) (b : Blk) (rsv : Bool) :
    (s.expClear b rsv).conf = s.conf := by
  simp only [State.expClear]
  split <;> simp

@[simp] theorem State.expRead_conf (s : State) (b : Blk) (rsv : Bool) (e : MemErr) :
    (s.expRead b rsv e).conf = s.conf := by simp [State.expRead]

@[simp] theorem State.smeAbort_conf (s : State) (b : Blk) (rsv : Bool) :
    (s.smeAbort b rsv).conf = s.conf := by
  simp only [State.smeAbort]
  split <;> simp

@[simp] theorem State.purgeStart_conf (s : State) (p : PartId) (run : SmeRun) :
    (s.purgeStart p run).conf = s.conf := by simp [State.purgeStart]

@[simp] theorem State.purgeEnd_conf (s : State) (p : PartId) : (s.purgeEnd p).conf = s.conf := by simp [State.purgeEnd]

@[simp] theorem State.smeOpen_conf (s : State) (b : Blk) (rsv : Bool) :
    (s.smeOpen b rsv).conf = s.conf := by
  simp only [State.smeOpen]
  split <;> simp

@[simp] theorem State.smePurge_conf (s : State) (b : Blk) (rsv : Bool) :
    (s.smePurge b rsv).conf = s.conf := by simp [State.smePurge]

@[simp] theorem State.smeRun_conf (s : State) (b : Blk) (code : Nat) (w : Word) (e : MemErr) :
    (s.smeRun b code w e).conf = s.conf := by
  simp only [State.smeRun]
  split <;> simp

@[simp] theorem State.smeNext_conf (s : State) : s.smeNext.conf = s.conf := by
  simp only [State.smeNext]
  repeat' split
  all_goals simp

@[simp] theorem State.smeCommand_conf (s : State) (b : Blk) (code : Nat) (w : Word) (e : MemErr) :
    (s.smeCommand b code w e).conf = s.conf := by
  simp only [State.smeCommand]
  repeat' split
  all_goals simp

@[simp] theorem State.smeCommit_conf (s : State) : s.smeCommit.conf = s.conf := by
  simp only [State.smeCommit]
  split <;> simp

/-! ### Small digests and the comparator -/

@[simp] theorem State.onDge_conf (s : State) (f : Dge → Dge) : (s.onDge f).conf = s.conf := rfl

@[simp] theorem State.onCmp_conf (s : State) (f : Cmp → Cmp) : (s.onCmp f).conf = s.conf := rfl

@[simp] theorem State.setCtx_conf (s : State) (c : Nat) (x : DgeCtx) :
    (s.setCtx c x).conf = s.conf := rfl

@[simp] theorem State.feedCores_conf (s : State) : s.feedCores.conf = s.conf := by simp [State.feedCores]

@[simp] theorem State.readNext_conf (s : State) (c : Nat) : (s.readNext c).conf = s.conf := by
  simp only [State.readNext]
  split <;> simp

@[simp] theorem State.askSlice_conf (s : State) (r : CmpReq) : (s.askSlice r).conf = s.conf := rfl

@[simp] theorem State.deliver_conf (s : State) (c : Nat) (dest : DgeDest) :
    (s.deliver c dest).conf = s.conf := by
  simp only [State.deliver]
  split <;> simp

@[simp] theorem State.dgeProgress_conf (s : State) (c : Nat) : (s.dgeProgress c).conf = s.conf := by
  simp only [State.dgeProgress]
  repeat' split
  all_goals simp

@[simp] theorem State.abandonNow_conf (s : State) (c : Nat) :
    (s.abandonNow c).conf = s.conf := by simp [State.abandonNow]

@[simp] theorem State.abandonCtx_conf (s : State) (c : Nat) (code : Code) :
    (s.abandonCtx c code).conf = s.conf := by simp [State.abandonCtx]

@[simp] theorem State.forceAbandon_conf (s : State) (c : Nat) :
    (s.forceAbandon c).conf = s.conf := by simp [State.forceAbandon]

@[simp] theorem State.faultCtx_conf (s : State) (c : Nat) : (s.faultCtx c).conf = s.conf := rfl

@[simp] theorem State.dgeErr_conf (s : State) (e : MemErr) : (s.dgeErr e).conf = s.conf := by
  simp only [State.dgeErr]
  split <;> simp

@[simp] theorem State.dgeReadDone_conf (s : State) (c : Nat) (gen : Gen) (data : Bytes) (err : Bool) :
    (s.dgeReadDone c gen data err).conf = s.conf := by
  simp only [State.dgeReadDone]
  repeat' split
  all_goals simp

@[simp] theorem State.dgeAcquire_conf (s : State) (q : Req) (w : Word) :
    (s.dgeAcquire q w).conf = s.conf := by
  simp only [State.dgeAcquire]
  repeat' split
  all_goals simp

@[simp] theorem State.dgeGrant_conf (s : State) : s.dgeGrant.conf = s.conf := by
  simp only [State.dgeGrant]
  split <;> simp

@[simp] theorem State.arbWrite_conf (s : State) (w : Word) : (s.arbWrite w).conf = s.conf := by simp [State.arbWrite]

@[simp] theorem State.dgeAbandonHolders_conf (s : State) (p : BitVec 4 → Bool) :
    (s.dgeAbandonHolders p).conf = s.conf := by simp [State.dgeAbandonHolders]

@[simp] theorem State.updateStart_conf (s : State) (c : Nat) (w : Word) :
    (s.updateStart c w).conf = s.conf := by simp [State.updateStart]

@[simp] theorem State.finalStart_conf (s : State) (c : Nat) (dest : DgeDest) :
    (s.finalStart c dest).conf = s.conf := by simp [State.finalStart]

@[simp] theorem State.ctxCode_conf (s : State) (c : Nat) (code : Code) :
    (s.ctxCode c code).conf = s.conf := rfl

theorem State.ctxCommand_conf {f : State → State} (h : ∀ s, (f s).conf = s.conf) (s : State) (q : Req) (c : Nat) :
    (s.ctxCommand q c f).conf = s.conf := by
  simp only [State.ctxCommand]
  split <;> [simp; skip]
  split <;> [simp; skip]
  split <;> simp [h]

@[simp] theorem State.ctxRefuse_conf (s : State) (c : Nat) (k : Code) :
    (s.ctxRefuse c k).conf = s.conf := by simp [State.ctxRefuse]

@[simp] theorem State.ctxSpoilt_conf (s : State) (c : Nat) : (s.ctxSpoilt c).conf = s.conf := rfl

@[simp] theorem State.dgeUpdate_conf (s : State) (c : Nat) (w : Word) (e : MemErr) :
    (s.dgeUpdate c w e).conf = s.conf := by
  simp only [State.dgeUpdate]
  split <;> simp

@[simp] theorem State.dgeFinal_conf (s : State) (c : Nat) (w : Word) (e : MemErr) :
    (s.dgeFinal c w e).conf = s.conf := by
  simp only [State.dgeFinal]
  repeat' split
  all_goals simp

@[simp] theorem State.dgeAbandon_conf (s : State) (c : Nat) (w : Word) :
    (s.dgeAbandon c w).conf = s.conf := by simp [State.dgeAbandon]

@[simp] theorem State.blockDone_conf (s : State) (c : Nat) (e : MemErr) :
    (s.blockDone c e).conf = s.conf := by simp [State.blockDone]

@[simp] theorem State.cmpCode_conf (s : State) (b : Blk) (k : Code) :
    (s.cmpCode b k).conf = s.conf := by
  simp only [State.cmpCode]
  split <;> simp

@[simp] theorem State.cmpDone_conf (s : State) (b : Blk) (k : Code) :
    (s.cmpDone b k).conf = s.conf := by simp [State.cmpDone]

@[simp] theorem State.cmpCommand_conf (s : State) (b : Blk) (w : Word) :
    (s.cmpCommand b w).conf = s.conf := by
  simp only [State.cmpCommand]
  repeat' split
  all_goals simp

@[simp] theorem State.cmpResult_conf (s : State) (r : CmpReq) (e : MemErr) :
    (s.cmpResult r e).conf = s.conf := by
  simp only [State.cmpResult]
  split <;> simp

@[simp] theorem State.spoilResult_conf (s : State) (sid : StreamId) (gen : Gen) :
    (s.spoilResult sid gen).conf = s.conf := by simp [State.spoilResult]

@[simp] theorem State.applyExt_conf (s : State) (r : ExtReq) : (s.applyExt r).conf = s.conf := by
  simp only [State.applyExt]
  split <;> simp

@[simp] theorem State.extensionStep_conf (s : State) (err : MemErr) :
    (s.extensionStep err).conf = s.conf := by
  simp only [State.extensionStep]
  split <;> simp

/-! ### The partition manager -/

@[simp] theorem State.onPrt_conf (s : State) (f : Prt → Prt) : (s.onPrt f).conf = s.conf := rfl

@[simp] theorem State.setPart_conf (s : State) (p : PartId) (v : PartEntry) :
    (s.setPart p v).conf = s.conf := rfl

@[simp] theorem State.setRegion_conf (s : State) (i : Nat) (v : Region) :
    (s.setRegion i v).conf = s.conf := rfl

@[simp] theorem State.define_conf (s : State) : s.define.conf = s.conf := by
  simp only [State.define, conf_ite, State.boostOff_conf, State.closeDebug_conf, State.onLcs_conf, State.onPrt_conf,
    ite_self]
  rw [conf_foldl (by intros; rfl)]
  rfl

@[simp] theorem State.prtHealth_conf (s : State) (c : Code) : (s.prtHealth c).conf = s.conf := by simp [State.prtHealth]

@[simp] theorem State.prtCommit_conf (s : State) (err : MemErr) : (s.prtCommit err).conf = s.conf := by
  simp only [State.prtCommit]
  split <;> simp

@[simp] theorem State.prtDone_conf (s : State) (c : Code) : (s.prtDone c).conf = s.conf := rfl

theorem State.prtCommand_of {Q : State → Prop} {s : State} {f : State → State} (hQ : ∀ t, t.conf = s.conf → Q t)
    (hf : Q (f s)) (w : Word) (err : MemErr) (early refusals : List (Bool × Code)) :
    Q (s.prtCommand w err early refusals f) := by
  unfold State.prtCommand
  split <;> [exact hQ _ (by simp); exact hf]

@[simp] theorem State.setJob_conf (s : State) (i : Nat) (v : Option JobDigest) :
    (s.setJob i v).conf = s.conf := rfl

@[simp] theorem State.zeroScratch_conf (s : State) : s.zeroScratch.conf = s.conf := rfl

@[simp] theorem State.gateLeave_conf (s : State) (why : GateReason) :
    (s.gateLeave why).conf = s.conf := by simp [State.gateLeave]

@[simp] theorem State.gateStop_conf (s : State) (p : PartId) (why : GateReason) :
    (s.gateStop p why).conf = s.conf := by simp [State.gateStop]

@[simp] theorem State.sendScrub_conf (s : State) (i : Nat) : (s.sendScrub i).conf = s.conf := rfl

@[simp] theorem State.relTo_conf (s : State) (st : RelStage) : (s.relTo st).conf = s.conf := rfl

@[simp] theorem State.relUnbind_conf (s : State) (p : PartId) :
    (s.relUnbind p).conf = s.conf := by simp [State.relUnbind]

@[simp] theorem State.relJobs_conf (s : State) (p : PartId) : (s.relJobs p).conf = s.conf := rfl

@[simp] theorem State.relPurged_conf (s : State) (p : PartId) :
    (s.relPurged p).conf = s.conf := by simp [State.relPurged]

@[simp] theorem State.relEnd_conf (s : State) (p : PartId) : (s.relEnd p).conf = s.conf := by
  simp only [State.relEnd, State.onPrt_conf, State.setPart_conf]
  exact conf_foldl (by intros; rfl) _ _

@[simp] theorem State.fillStep_conf (s : State) : s.fillStep.conf = s.conf := by
  unfold State.fillStep
  split
  · rfl
  · split <;> rfl

@[simp] theorem State.orphanStep_conf (s : State) : s.orphanStep.conf = s.conf := by
  simp only [State.orphanStep]
  split <;> simp

@[simp] theorem State.orphanDone_conf (s : State) (i : Nat) (ok : Bool) :
    (s.orphanDone i ok).conf = s.conf := by simp [State.orphanDone]

@[simp] theorem State.relFail_conf (s : State) : s.relFail.conf = s.conf := rfl

@[simp] theorem State.relStart_conf (s : State) (p : PartId) : (s.relStart p).conf = s.conf := by
  simp only [State.relStart]
  rw [conf_foldl (fun s i => by rw [conf_ite, State.emit_conf, ite_self]), State.onPrt_conf,
    conf_foldl (by intros; rfl),
    State.gateStop_conf, State.setPart_conf]

/-! ### The public-key engine -/

@[simp] theorem State.onPke_conf (s : State) (f : Pke → Pke) : (s.onPke f).conf = s.conf := rfl

@[simp] theorem State.pkeCode_conf (s : State) (b : Blk) (k : Code) :
    (s.pkeCode b k).conf = s.conf := by
  simp only [State.pkeCode]
  split <;> simp

@[simp] theorem State.pkeWrite_conf (s : State) (r a : Nat) (bs : Bytes) :
    (s.pkeWrite r a bs).conf = s.conf := by simp [State.pkeWrite]

@[simp] theorem State.pkeCommand_conf (s : State) (b : Blk) (op : PkeOp) (w : Word) (e : MemErr) :
    (s.pkeCommand b op w e).conf = s.conf := by
  simp only [State.pkeCommand]
  repeat' split
  all_goals simp

@[simp] theorem State.pkeGrant_conf (s : State) (c : PkeCmd) : (s.pkeGrant c).conf = s.conf := rfl

@[simp] theorem State.setCache_conf (s : State) (i : SlotIx) (e : Option PkeEntry) :
    (s.setCache i e).conf = s.conf := rfl

@[simp] theorem State.fillCache_conf (s : State) (i : SlotIx) : (s.fillCache i).conf = s.conf := rfl

@[simp] theorem State.zeroTouched_conf (s : State) (c : PkeCmd) : (s.zeroTouched c).conf = s.conf := rfl

@[simp] theorem State.selfFail_conf (s : State) : s.selfFail.conf = s.conf := rfl

@[simp] theorem State.pkeCompute_conf (s : State) (c : PkeCmd) : (s.pkeCompute c).1.conf = s.conf := by
  simp only [State.pkeCompute]
  split
  case h_4 => split <;> [simp; (split <;> simp)]
  case h_7 => split <;> simp
  case h_10 => split <;> [rfl; (split <;> simp)]
  all_goals simp

@[simp] theorem State.pkeResult_conf (s : State) (c : PkeCmd) (f : PkeFault) : (s.pkeResult c f).1.conf = s.conf := by
  simp only [State.pkeResult]
  split
  case h_5 => split <;> simp
  case h_6 => split <;> simp
  all_goals simp

@[simp] theorem State.pkeEnd_conf (s : State) (c : PkeCmd) (k : Code) :
    (s.pkeEnd c k).conf = s.conf := by
  simp only [State.pkeEnd]
  split <;> simp

/-! ### Attestation -/

@[simp] theorem State.onAtt_conf (s : State) (f : Att → Att) : (s.onAtt f).conf = s.conf := rfl

@[simp] theorem State.attEdge_conf (s : State) (b : Blk) : (s.attEdge b).conf = s.conf := rfl

@[simp] theorem State.attDone_conf (s : State) (b : Blk) (c : Code) (len : Nat) :
    (s.attDone b c len).conf = s.conf := rfl

@[simp] theorem State.attEnd_conf (s : State) (c : AttCmd) (k : Code) (len : Nat) :
    (s.attEnd c k len).conf = s.conf := by simp [State.attEnd]

@[simp] theorem State.attRefused_conf (s : State) : s.attRefused.conf = s.conf := rfl

@[simp] theorem State.attWrite_conf (s : State) (b : Blk) (a : Nat) (bs : Bytes) :
    (s.attWrite b a bs).conf = s.conf := by
  simp only [State.attWrite]
  split <;> simp

@[simp] theorem State.attOutput_conf (s : State) (c : AttCmd) (bs : Bytes) (k : Code) :
    (s.attOutput c bs k).conf = s.conf := by simp [State.attOutput]

@[simp] theorem State.attAsk_conf (s : State) : s.attAsk.conf = s.conf := by simp [State.attAsk]

@[simp] theorem State.attRunTo_conf (s : State) (r : AttRun) : (s.attRunTo r).conf = s.conf := rfl

@[simp] theorem State.attDefer_conf (s : State) (r : AttRun) (c : AttCmd) :
    (s.attDefer r c).conf = s.conf := rfl

@[simp] theorem State.sampled_conf (s : State) (c : AttCmd) (err : MemErr) : (s.sampled c err).1.conf = s.conf := by
  simp [State.sampled]

@[simp] theorem State.attSample_conf (s : State) (r : AttRun) (c : AttCmd) (err : MemErr) :
    (s.attSample r c err).conf = s.conf := by
  simp only [State.attSample]
  split <;> simp

@[simp] theorem State.attBegin_conf (s : State) (c : AttCmd) : (s.attBegin c).conf = s.conf := by
  simp only [State.attBegin]
  split <;> simp

@[simp] theorem State.attNext_conf (s : State) : s.attNext.conf = s.conf := by
  simp only [State.attNext]
  repeat' split
  all_goals simp

@[simp] theorem State.attGoOn_conf (s : State) : s.attGoOn.conf = s.conf := by simp [State.attGoOn]

@[simp] theorem State.attRefuse_conf (s : State) (b : Blk) (k : Code) :
    (s.attRefuse b k).conf = s.conf := by simp [State.attRefuse]

@[simp] theorem State.attCommand_conf (s : State) (b : Blk) (op : AttOp) (w : Word) :
    (s.attCommand b op w).conf = s.conf := by
  simp only [State.attCommand]
  split <;> simp

@[simp] theorem State.attHash_conf (s : State) (c : Nat) (r : AttRun) (p : Bytes) :
    (s.attHash c r p).conf = s.conf := by simp [State.attHash]

@[simp] theorem State.attYield_conf (s : State) (c : Nat) : (s.attYield c).conf = s.conf := rfl

@[simp] theorem State.attTake_conf (s : State) (c : Nat) (err : MemErr) :
    (s.attTake c err).conf = s.conf := by
  simp only [State.attTake]
  split
  · simp
  · split <;> [simp; simp; skip]
    split
    · simp
    · split <;> simp

@[simp] theorem State.attHashed_conf (s : State) : s.attHashed.conf = s.conf := by
  simp only [State.attHashed]
  repeat' split
  all_goals simp

@[simp] theorem State.certKeys_conf (s : State) (r : AttRun) (keys : Bytes) :
    (s.certKeys r keys).conf = s.conf := rfl

@[simp] theorem State.attSigned_conf (s : State) (r : AttRun) (sig : Bytes) :
    (s.attSigned r sig).conf = s.conf := by
  simp only [State.attSigned]
  repeat' split
  all_goals simp

@[simp] theorem State.attAnswer_conf (s : State) (k : Code) (out : Bytes) :
    (s.attAnswer k out).conf = s.conf := by
  simp only [State.attAnswer]
  repeat' split
  all_goals simp

@[simp] theorem State.pkeAnswer_conf (s : State) (c : PkeCmd) (k : Code) (out : Bytes) :
    (s.pkeAnswer c k out).conf = s.conf := by
  simp only [State.pkeAnswer]
  split <;> simp

@[simp] theorem State.pkeAbandon_conf (s : State) : s.pkeAbandon.conf = s.conf := by
  simp only [State.pkeAbandon]
  split <;> simp

@[simp] theorem State.attIssue_conf (s : State) (op : PkeOp) (next : AttPhase) (e : MemErr) :
    (s.attIssue op next e).conf = s.conf := by
  simp only [State.attIssue]
  repeat' split
  all_goals simp

@[simp] theorem State.attCommit_conf (s : State) : s.attCommit.conf = s.conf := by simp [State.attCommit]

@[simp] theorem State.setHandover_conf (s : State) (w : Word) : (s.setHandover w).conf = s.conf := rfl

/-! ### Access faults -/

@[simp] theorem State.recordFault_conf (s : State) (f : Afault) : (s.recordFault f).conf = s.conf := rfl

@[simp] theorem State.coreFault_conf (s : State) (core : Nat) (k : AccKind) (space : Nat) (a : BitVec 64) :
    (s.coreFault core k space a).conf = s.conf := by simp [State.coreFault]

@[simp] theorem State.secFault_conf (s : State) (k : AccKind) (space : Nat) (a : BitVec 32) :
    (s.secFault k space a).conf = s.conf := rfl

@[simp] theorem State.gateTrap_conf (s : State) (k : AccKind) (a : Nat) :
    (s.gateTrap k a).conf = s.conf := by simp [State.gateTrap]

/-! ### Mailboxes -/

@[simp] theorem State.onMbx_conf (s : State) (f : Mbx → Mbx) : (s.onMbx f).conf = s.conf := rfl

@[simp] theorem State.setMslot_conf (s : State) (i : Nat) (v : MbxSlot) :
    (s.setMslot i v).conf = s.conf := rfl

@[simp] theorem State.onMslot_conf (s : State) (i : Nat) (f : MbxSlot → MbxSlot) :
    (s.onMslot i f).conf = s.conf := rfl

@[simp] theorem State.post_conf (s : State) (i n : Nat) : (s.post i n).conf = s.conf := rfl

@[simp] theorem State.sendSlot_conf (s : State) (i n : Nat) (ok : Bool) : (s.sendSlot i n ok).1.conf = s.conf := by
  unfold State.sendSlot
  split <;> [simp; (split <;> simp)]

@[simp] theorem State.take_conf (s : State) (i : Nat) : (s.take i).conf = s.conf := rfl

@[simp] theorem State.postMsg_conf (s : State) (i : Nat) (ws : List Word) :
    (s.postMsg i ws).conf = s.conf := rfl

@[simp] theorem State.ring_conf (s : State) (i : Nat) (w : Word) : (s.ring i w).conf = s.conf := by simp [State.ring]

@[simp] theorem State.ringBell_conf (s : State) (w : Word) : (s.ringBell w).conf = s.conf := by simp [State.ringBell]

@[simp] theorem State.sideSurvives_conf (s : State) (m : Nat) (b : Bool) :
    (s.sideSurvives m b).conf = s.conf := rfl

@[simp] theorem State.sideReset_conf (s : State) (m : Nat) (b : Bool) :
    (s.sideReset m b).conf = s.conf := rfl

@[simp] theorem State.sidesReset_conf (s : State) (d : Dom) :
    (s.sidesReset d).conf = s.conf := by simp [State.sidesReset]

@[simp] theorem State.mailboxesUp_conf (s : State) (reached : Dom → Bool) :
    (s.mailboxesUp reached).conf = s.conf := by simp [State.mailboxesUp]

/-! ### Interrupts and random numbers -/

@[simp] theorem State.onPlic_conf (s : State) (f : Plic → Plic) : (s.onPlic f).conf = s.conf := rfl

@[simp] theorem State.plicWrite_conf (s : State) (o : Nat) (w : Word) :
    (s.plicWrite o w).conf = s.conf := by
  simp only [State.plicWrite]
  split <;> simp

@[simp] theorem State.clearEdge_conf (s : State) (n : Nat) : (s.clearEdge n).conf = s.conf := rfl

@[simp] theorem State.plicClaim_conf (s : State) (c : Nat) : (s.plicClaim c).conf = s.conf := by simp [State.plicClaim]

@[simp] theorem State.vectorClaim_conf (s : State) (n : Nat) :
    (s.vectorClaim n).conf = s.conf := by simp [State.vectorClaim]

@[simp] theorem State.onTrng_conf (s : State) (f : Trng → Trng) : (s.onTrng f).conf = s.conf := rfl

@[simp] theorem State.trngPop_conf (s : State) (b : Nat) : (s.trngPop b).conf = s.conf := by
  simp only [State.trngPop]
  split <;> simp

@[simp] theorem State.drawBootId_conf (s : State) : s.drawBootId.conf = s.conf := by simp [State.drawBootId]

/-! ### The resident firmware -/

@[simp] theorem State.fwPost_conf (s : State) (i : Nat) (ws : List Word) :
    (s.fwPost i ws).conf = s.conf := rfl

@[simp] theorem State.mbx1Pass_conf (s : State) (i kind : Nat) :
    (s.mbx1Pass i kind).conf = s.conf := rfl

@[simp] theorem State.ioHead_conf (s : State) (g : FwIo) : (s.ioHead g).conf = s.conf := rfl

@[simp] theorem State.ioFail_conf (s : State) (c : Code) : (s.ioFail c).conf = s.conf := by
  simp only [State.ioFail]
  split <;> simp

@[simp] theorem State.coreIssue_conf (s : State) (write : Bool) (addr beats : Nat) (data : Bytes) :
    (s.coreIssue write addr beats data).conf = s.conf := rfl

@[simp] theorem State.ioWrite_conf (s : State) (a : Nat) (data : Bytes) :
    (s.ioWrite a data).conf = s.conf := by simp [State.ioWrite]

@[simp] theorem State.ioStep_conf (s : State) : s.ioStep.conf = s.conf := by
  simp only [State.ioStep]
  repeat' split
  all_goals simp

@[simp] theorem State.ioGo_conf (s : State) : s.ioGo.conf = s.conf := by simp [State.ioGo]

@[simp] theorem State.ioRun_conf (s : State) (sec : Bool) (ops : List FwOp) :
    (s.ioRun sec ops).conf = s.conf := by simp [State.ioRun]

@[simp] theorem State.ioFilled_conf (s : State) (line : Bytes) (err : Bool) :
    (s.ioFilled line err).conf = s.conf := by
  simp only [State.ioFilled]
  repeat' split
  all_goals simp

@[simp] theorem State.ioAcked_conf (s : State) (err : Bool) : (s.ioAcked err).conf = s.conf := by
  simp only [State.ioAcked]
  repeat' split
  all_goals simp

@[simp] theorem State.ioLost_conf (s : State) : s.ioLost.conf = s.conf := rfl

@[simp] theorem State.setTask_conf (s : State) (b : Blk) (t : Option FwTask) :
    (s.setTask b t).conf = s.conf := rfl

@[simp] theorem State.attGive_conf (s : State) (b : Blk) (op : AttOp) (job : FwJob) :
    (s.attGive b op job).conf = s.conf := by simp [State.attGive]

@[simp] theorem State.setWords_conf (s : State) (r : Reg) (b n : Nat) (bs : Bytes) :
    (s.setWords r b n bs).conf = s.conf := conf_foldl (by intros; rfl) _ _

@[simp] theorem State.askReport_conf (s : State) (b : Blk) (op : AttOp) (nonce : Bytes) (max : Nat) (job : FwJob) :
    (s.askReport b op nonce max job).conf = s.conf := by simp [State.askReport]

@[simp] theorem State.askSign_conf (s : State) (b : Blk) (purpose : Nat) (h : Bytes) (job : FwJob) :
    (s.askSign b purpose h job).conf = s.conf := by simp [State.askSign]

@[simp] theorem State.dgeTurns_conf (s : State) (who n : Nat) (v : Bytes) :
    (s.dgeTurns who n v).conf = s.conf := by
  simp only [State.dgeTurns]
  split <;> simp

@[simp] theorem State.cmpTurn_conf (s : State) (equal : Bool) : (s.cmpTurn equal).conf = s.conf := rfl

@[simp] theorem State.d3Missed_conf (s : State) : s.d3Missed.conf = s.conf := by simp [State.d3Missed]

@[simp] theorem State.destroyNow_conf (s : State) (i : SlotIx) (g : Gen) :
    (s.destroyNow i g).conf = s.conf := by simp [State.destroyNow]

theorem State.fwRandom_conf {s t : State} {n : Nat} {b : Bytes} (h : s.fwRandom n = some (t, b)) : t.conf = s.conf := by
  simp only [State.fwRandom] at h
  split at h <;> cases h
  simp

/-! ### The workers of a manager -/

@[simp] theorem State.recheckJobs_conf (s : State) (w : BitVec 12) :
    (s.recheckJobs w).conf = s.conf := by
  simp only [State.recheckJobs]
  exact (conf_foldl (by intros; rfl) _ _).trans (State.onFw_conf ..)

/-! ### The SPDM responder -/

@[simp] theorem State.onSpdm_conf (s : State) (id : Word) (f : SpdmSession → SpdmSession) :
    (s.onSpdm id f).conf = s.conf := rfl

@[simp] theorem State.endSpdm_conf (s : State) (id : Word) : (s.endSpdm id).conf = s.conf := rfl

@[simp] theorem State.fwDestroys_conf (s : State) : s.fwDestroys.conf = s.conf := by simp [State.fwDestroys]

@[simp] theorem State.answer_conf (s : State) (ss : Option Word) (m : Bytes) :
    (s.answer ss m).conf = s.conf := by
  simp only [State.answer]
  split <;> simp

@[simp] theorem State.answerError_conf (s : State) (ss : Option Word) (c : Byte) :
    (s.answerError ss c).conf = s.conf := by simp [State.answerError]

@[simp] theorem State.transcripts_conf (s : State) (ss : Option Word) (code : Byte) :
    (s.transcripts ss code).conf = s.conf := by
  simp only [State.transcripts]
  split <;> simp

@[simp] theorem State.countRecord_conf (s : State) (ss : Option Word) :
    (s.countRecord ss).conf = s.conf := by
  simp only [State.countRecord]
  split <;> simp

/-- A request that reaches its meaning does so with the records as they are. -/
theorem State.spdm_of {Q : State → Prop} {s : State} {f : State → Bytes → State} (hQ : ∀ t, t.conf = s.conf → Q t)
    (hf : ∀ t m, t.conf = s.conf → Q (f t m)) (ss : Option Word) (r : Bytes) (mine : Byte × Byte) :
    Q (s.spdm ss r mine f) := by
  simp only [State.spdm]
  split <;> [exact hQ _ rfl; skip]
  split <;> [exact hQ _ (by simp); skip]
  generalize hu : (if (ss.bind s.spdmSession).isSome = true then s.cmpTurn (s.opened ss r).isSome else s) = u
  have hconf : u.conf = s.conf := by simp [← hu]
  split
  · split <;> exact hQ _ (by simp [hconf])
  · split
    · split <;> exact hQ _ (by simp [hconf])
    · split <;> [exact hQ _ hconf; (split <;> [exact hQ _ (by simp [hconf]); exact hf _ _ (by simp [hconf])])]

theorem State.inSession_of {Q : State → Prop} {k : Sparse (Option KRecord) × Option KlnWait} {s : State}
    {f : State → SpdmSession → State} (hQ : ∀ t, t.conf = k → Q t) (hf : ∀ t x, t.conf = k → Q (f t x))
    (hs : s.conf = k) (ss : Option Word) (late : Bool) : Q (s.inSession ss late f) := by
  unfold State.inSession
  split <;> [exact hQ _ (by simp [hs]); (split <;> [exact hf _ _ hs; exact hQ _ (by simp [hs])])]

@[simp] theorem State.negotiated_conf (s : State) (n : Nat) (m rsp : Bytes) :
    (s.negotiated n m rsp).conf = s.conf := rfl

@[simp] theorem State.fetchCerts_conf (s : State) (ec : Bool) :
    (s.fetchCerts ec).conf = s.conf := conf_foldl (by intros; rfl) _ _

@[simp] theorem State.noteB_conf (s : State) (ss : Option Word) (m rsp : Bytes) :
    (s.noteB ss m rsp).conf = s.conf := by simp [State.noteB]

@[simp] theorem State.withSignature_conf (s : State) (purpose : Nat) (t : Bytes) (job : FwJob) :
    (s.withSignature purpose t job).conf = s.conf := by simp [State.withSignature]

@[simp] theorem State.setMsgL_conf (s : State) (ss : Option Word) (l : Bytes) :
    (s.setMsgL ss l).conf = s.conf := by
  simp only [State.setMsgL]
  split <;> simp

@[simp] theorem State.exchanged_conf (s : State) (id : Word) (t body hs sig : Bytes) :
    (s.exchanged id t body hs sig).conf = s.conf := by simp [State.exchanged]

@[simp] theorem State.answerVendor_conf (s : State) (ss : Option Word) (op : Byte) (payload : Bytes) :
    (s.answerVendor ss op payload).conf = s.conf := by simp [State.answerVendor]

@[simp] theorem State.answerCode_conf (s : State) (ss : Option Word) (op : Byte) (c : Code) :
    (s.answerCode ss op c).conf = s.conf := by simp [State.answerCode]

@[simp] theorem State.setPq_conf (s : State) (q : Option PqWork) : (s.setPq q).conf = s.conf := rfl

@[simp] theorem State.pqOver_conf (s : State) (q : PqWork) (op : Byte) (c : Code) :
    (s.pqOver q op c).conf = s.conf := by simp [State.pqOver]

@[simp] theorem State.pqCommand_conf (s : State) (q : PqWork) (op : PkeOp) (w : Word) :
    (s.pqCommand q op w).conf = s.conf := by simp [State.pqCommand]

@[simp] theorem State.openNow_conf (s : State) (i : SlotIx) (id : Word) (p : BitVec 8) (th : Bytes) :
    (s.openNow i id p th).conf = s.conf := by simp [State.openNow]

@[simp] theorem State.pqAsk_conf (s : State) (q : PqWork) : (s.pqAsk q).conf = s.conf := by
  simp only [State.pqAsk]
  repeat' split
  all_goals simp

@[simp] theorem State.pqDone_conf (s : State) (q : PqWork) (k : Code) :
    (s.pqDone q k).conf = s.conf := by
  simp only [State.pqDone]
  repeat' split
  all_goals simp

@[simp] theorem State.pqNext_conf (s : State) : s.pqNext.conf = s.conf := by
  simp only [State.pqNext]
  split <;> simp

@[simp] theorem State.pqGo_conf (s : State) : s.pqGo.conf = s.conf := by
  simp only [State.pqGo]
  repeat' split
  all_goals simp

@[simp] theorem State.dataIn_conf (s : State) (x : SpdmSession) (n : Nat) : (s.dataIn x n).1.conf = s.conf := by
  simp only [State.dataIn]
  split <;> simp

@[simp] theorem State.dataOut_conf (s : State) (id : Word) (text : Bytes) : (s.dataOut id text).1.conf = s.conf := by
  simp [State.dataOut]

/-! ### Rings of the host -/

@[simp] theorem State.reply_conf (s : State) (ws : List Word) : (s.reply ws).conf = s.conf := by simp [State.reply]

theorem State.serveType_conf {f : State → State} (h : ∀ s, (f s).conf = s.conf) (s : State) (t : Nat) :
    (s.serveType t f).conf = s.conf := by
  simp [State.serveType, h]

@[simp] theorem State.capPrepare_conf (s : State) (area : Nat) (gen : BitVec 8) :
    (s.capPrepare area gen).conf = s.conf := rfl

@[simp] theorem State.capOffer_conf (s : State) :
    s.capOffer.conf = s.conf := (State.ioRun_conf _ _ _).trans (State.capPrepare_conf _ _ _)

@[simp] theorem State.capAccept_conf (s : State) (page : Option Bytes) :
    (s.capAccept page).conf = s.conf := by simp [State.capAccept]

@[simp] theorem State.setRing_conf (s : State) (r : Nat) (v : Ring) :
    (s.setRing r v).conf = s.conf := rfl

@[simp] theorem State.ringRefuse_conf (s : State) (r : Nat) :
    (s.ringRefuse r).conf = s.conf := by simp [State.ringRefuse]

@[simp] theorem State.ringPut_conf (s : State) (r : Nat) (v : Ring) :
    (s.ringPut r v).conf = s.conf := by simp [State.ringPut]

@[simp] theorem State.hostReported_conf (s : State) (b : Blk) (addr : Nat) (k : Code) (n : Nat) :
    (s.hostReported b addr k n).conf = s.conf := by simp [State.hostReported]

@[simp] theorem State.complete_conf (s : State) (r : Nat) (e : Bytes) (c : Code) (result : Bytes) :
    (s.complete r e c result).conf = s.conf := by simp [State.complete]

theorem State.submission_conf {f : State → Bytes → State} (h : ∀ s e, (f s e).conf = s.conf) (s : State)
    (r op feature : Nat) : (s.submission r op feature f).conf = s.conf := by
  simp [State.submission, h]

@[simp] theorem State.lookAt_conf (s : State) (x : FwRead) (addr beats : Nat) :
    (s.lookAt x addr beats).conf = s.conf := rfl

@[simp] theorem State.lookDescriptor_conf (s : State) (r : Nat) (gen : Gen) (addr left : Nat) :
    (s.lookDescriptor r gen addr left).conf = s.conf := rfl

@[simp] theorem State.lookNext_conf (s : State) : s.lookNext.conf = s.conf := by
  simp only [State.lookNext]
  repeat' split
  all_goals simp

@[simp] theorem State.entryRead_conf (s : State) (r : Nat) (gen : Gen) (e : Bytes) :
    (s.entryRead r gen e).conf = s.conf := by simp [State.entryRead]

@[simp] theorem State.blockRead_conf (s : State) (r : Nat) (gen : Gen) (b : Bytes) :
    (s.blockRead r gen b).conf = s.conf := by simp [State.blockRead]

@[simp] theorem State.lookDone_conf (s : State) (data : Bytes) (err : Bool) :
    (s.lookDone data err).conf = s.conf := by
  simp only [State.lookDone]
  repeat' split
  all_goals simp

@[simp] theorem State.jobStep_conf (s : State) (r : Nat) (e : Bytes) (workers : List (BitVec 12)) :
    (s.jobStep r e workers).1.conf = s.conf := by
  simp only [State.jobStep]
  split <;> [simp; (split <;> simp)]

@[simp] theorem State.ringOpen_conf (s : State) (e : Bytes) (p : PartId) :
    (s.ringOpen e p).conf = s.conf := by simp [State.ringOpen]

@[simp] theorem State.parkRings_conf (s : State) : s.parkRings.conf = s.conf := by simp [State.parkRings]

/-! ### The worker channel -/

@[simp] theorem State.onWcp_conf (s : State) (f : Wcp → Wcp) : (s.onWcp f).conf = s.conf := rfl

@[simp] theorem State.notesGen_conf (s : State) (h : WBeat) : (s.notesGen h).conf = s.conf := rfl

@[simp] theorem State.wcpAccept_conf (s : State) (h : WBeat) (beats : List WBeat) :
    (s.wcpAccept h beats).conf = s.conf := by simp [State.wcpAccept]

@[simp] theorem State.wcpReceive_conf (s : State) (h : WBeat) (beats : List WBeat) :
    (s.wcpReceive h beats).conf = s.conf := by simp [State.wcpReceive]

@[simp] theorem State.wcpTake_conf (s : State) : s.wcpTake.conf = s.conf := by
  simp only [State.wcpTake]
  split <;> simp

@[simp] theorem State.wcpPump_conf (n : Nat) (s : State) : (State.wcpPump n s).conf = s.conf := by
  induction n generalizing s with
  | zero => rfl
  | succ n ih =>
    unfold State.wcpPump
    split <;> [rfl; (split <;> simp [ih])]

@[simp] theorem State.wcpStart_conf (s : State) : s.wcpStart.conf = s.conf := by simp [State.wcpStart]

@[simp] theorem State.noteCollection_conf (s : State) (h : WBeat) (beats : List WBeat) :
    (s.noteCollection h beats).conf = s.conf := by simp [State.noteCollection]

@[simp] theorem State.wcpSend_conf (s : State) (n : Nat) : (s.wcpSend n).conf = s.conf := by simp [State.wcpSend]

@[simp] theorem State.wcpNext_conf (s : State) : s.wcpNext.conf = s.conf := by
  simp only [State.wcpNext]
  split <;> simp

@[simp] theorem State.wcpQueue_conf (s : State) (l : List (List WBeat)) :
    (s.wcpQueue l).conf = s.conf := by simp [State.wcpQueue]

@[simp] theorem State.workerReported_conf (s : State) (h : WBeat) (k : Code) (n : Nat) :
    (s.workerReported h k n).conf = s.conf := by simp [State.workerReported]

@[simp] theorem State.onColl_conf (s : State) (f : Collection → Collection) :
    (s.onColl f).conf = s.conf := rfl

@[simp] theorem State.keepReport_conf (s : State) (w : BitVec 12) (r : Bytes) :
    (s.keepReport w r).conf = s.conf := by simp [State.keepReport]

@[simp] theorem State.sessionReported_conf (s : State) (id : Word) (n : Nat) :
    (s.sessionReported id n).conf = s.conf := by simp [State.sessionReported]

@[simp] theorem State.composeNext_conf (s : State) : s.composeNext.conf = s.conf := by
  simp only [State.composeNext]
  split <;> simp

@[simp] theorem State.beginComposite_conf (s : State) (id : Word) (nonce : Bytes) :
    (s.beginComposite id nonce).conf = s.conf := by simp [State.beginComposite]

@[simp] theorem State.attSettled_conf (s : State) (j : FwJob) (k : Code) (n : Nat) :
    (s.attSettled j k n).conf = s.conf := by
  simp only [State.attSettled]
  split <;> simp

@[simp] theorem State.attResumeC_conf (s : State) : s.attResumeC.conf = s.conf := by
  simp only [State.attResumeC]
  split <;> simp

@[simp] theorem State.attResumeS_conf (s : State) : s.attResumeS.conf = s.conf := by
  simp only [State.attResumeS]
  repeat' split
  all_goals simp

/-! ### What a reset clears -/

@[simp] theorem State.clearDom_conf (s : State) (d : Dom) : (s.clearDom d).conf = s.conf := rfl

@[simp] theorem State.hold_conf (s : State) (d : Dom) : (s.hold d).conf = s.conf := rfl

@[simp] theorem State.unhold_conf (s : State) (d : Dom) : (s.unhold d).conf = s.conf := rfl

@[simp] theorem State.passSlot_conf (s : State) (i : SlotIx) : (s.passSlot i).conf = s.conf := by simp [State.passSlot]

@[simp] theorem State.keyPass_conf (s : State) (rank : Nat) (fresh : Bool) :
    (s.keyPass rank fresh).conf = s.conf := by simp [State.keyPass]

@[simp] theorem State.chunkAcked_conf (s : State) (sid : StreamId) (gen : Gen) (err : Bool) :
    (s.chunkAcked sid gen err).conf = s.conf := by simp [State.chunkAcked]

@[simp] theorem State.enterD1_conf (s : State) : s.enterD1.conf = s.conf := rfl

@[simp] theorem State.enterD3_conf (s : State) : s.enterD3.conf = s.conf := rfl

@[simp] theorem State.zeroD4_conf (s : State) : s.zeroD4.conf = s.conf := rfl

@[simp] theorem State.pkeDropC_conf (s : State) : s.pkeDropC.conf = s.conf := by simp [State.pkeDropC]

@[simp] theorem State.enterD5_conf (s : State) : s.enterD5.conf = s.conf := by simp [State.enterD5]

@[simp] theorem State.tearNvm_conf (s : State) : s.tearNvm.conf = s.conf := by
  unfold State.tearNvm
  split <;> [rfl; (split <;> [rfl; exact conf_mk ..])]

@[simp] theorem State.letCtx_conf (s : State) (c : Nat) (g : Gen) :
    (s.letCtx c g).conf = s.conf := by simp [State.letCtx]

@[simp] theorem State.updDrop_conf (s : State) : s.updDrop.conf = s.conf := by
  simp only [State.updDrop]
  repeat' split
  all_goals simp

@[simp] theorem State.enterD6_conf (s : State) : s.enterD6.conf = s.conf := by simp [State.enterD6]

@[simp] theorem State.enterCore_conf (s : State) : s.enterCore.conf = s.conf := rfl

/-! ### The reset sequencer, the watchdogs and DIM -/

@[simp] theorem State.lcsStopped_conf (s : State) : s.lcsStopped.conf = s.conf := by simp [State.lcsStopped]

@[simp] theorem State.dimReset_conf (s : State) (doms : List Dom) :
    (s.dimReset doms).conf = s.conf := by simp [State.dimReset]

@[simp] theorem State.deassert_conf (s : State) (x : Source) : (s.deassert x).conf = s.conf := rfl

@[simp] theorem State.blockOver_conf (s : State) (d : Dom) : (s.blockOver d).conf = s.conf := by simp [State.blockOver]

@[simp] theorem State.episodeOver_conf (s : State) : s.episodeOver.conf = s.conf := by
  simp only [State.episodeOver]
  split <;> simp

@[simp] theorem State.crsCommit_conf (s : State) : s.crsCommit.conf = s.conf := by
  simp only [State.crsCommit]
  split <;> simp

@[simp] theorem State.blockWrite_conf (s : State) (w : Word) :
    (s.blockWrite w).conf = s.conf := by simp [State.blockWrite]

@[simp] theorem State.ctlKick_conf (s : State) (w : Word) : (s.ctlKick w).conf = s.conf := by simp [State.ctlKick]

@[simp] theorem State.ctlCtrl_conf (s : State) (w : Word) : (s.ctlCtrl w).conf = s.conf := by simp [State.ctlCtrl]

@[simp] theorem State.dimWrite_conf (s : State) (w : Word) (coresWaiting : Bool) :
    (s.dimWrite w coresWaiting).conf = s.conf := by simp [State.dimWrite]

@[simp] theorem State.pkeClear_conf (s : State) : s.pkeClear.conf = s.conf := by simp [State.pkeClear]

/-! ### The programming path and the life cycle -/

@[simp] theorem State.cwyField_conf (s : State) (lo len v : Nat) :
    (s.cwyField lo len v).conf = s.conf := rfl

@[simp] theorem State.cwyPhase_conf (s : State) (p : Nat) : (s.cwyPhase p).conf = s.conf := by simp [State.cwyPhase]

theorem State.otpCommand_of {Q : State → Prop} {s : State} {f : State → State} (hQ : ∀ t, t.conf = s.conf → Q t)
    (hf : Q (f s)) (w : Word) (allowed : LcState → Bool) (refusals : List (Bool × Code)) :
    Q (s.otpCommand w allowed refusals f) := by
  unfold State.otpCommand
  split <;> [exact hQ _ (by simp); exact hf]

@[simp] theorem State.lcsRefuse_conf (s : State) (c : Code) : (s.lcsRefuse c).conf = s.conf := rfl

@[simp] theorem State.rootAction_conf (s : State) : s.rootAction.conf = s.conf := by
  simp only [State.rootAction]
  split <;> simp

/-! ### The Tinder ROM -/

@[simp] theorem State.onBoot_conf (s : State) (f : Boot → Boot) : (s.onBoot f).conf = s.conf := rfl

@[simp] theorem State.extendNow_conf (s : State) (i : Nat) (v : Bytes) :
    (s.extendNow i v).conf = s.conf := rfl

@[simp] theorem State.formNow_conf (s : State) : s.formNow.1.conf = s.conf := by
  simp only [State.formNow]
  split <;> [rfl; skip]
  split <;> [simp; skip]
  split <;> simp

@[simp] theorem State.bootHalt_conf (s : State) (f : SetFail) : (s.bootHalt f).conf = s.conf := rfl

@[simp] theorem State.enterRecovery_conf (s : State) : s.enterRecovery.conf = s.conf := by simp [State.enterRecovery]

@[simp] theorem State.bootFail_conf (s : State) (f : SetFail) : (s.bootFail f).conf = s.conf := by simp [State.bootFail]

@[simp] theorem State.bootAbort_conf (s : State) : s.bootAbort.conf = s.conf := rfl

@[simp] theorem State.bootStop_conf (s : State) (abort : Option (Fin 27)) (f : SetFail) :
    (s.bootStop abort f).conf = s.conf := by simp [State.bootStop]

@[simp] theorem State.placePart_conf (s : State) (p : Part) (bs : Bytes) :
    (s.placePart p bs).conf = s.conf := by
  unfold State.placePart
  split <;> [rfl; exact conf_elim rfl (by intros; rfl) _]

@[simp] theorem State.placeAll_conf (s : State) (m : Bytes) : (s.placeAll m).conf = s.conf := by simp [State.placeAll]

@[simp] theorem State.bootHand_conf (s : State) (r m : Bytes) (abort : Option (Fin 27)) :
    (s.bootHand r m abort).conf = s.conf := by simp [State.bootHand]

@[simp] theorem State.bootFinish_conf (s : State) (r m : Bytes) (abort : Option (Fin 27)) :
    (s.bootFinish r m abort).conf = s.conf := by
  have hfold (l : List Nat) : (l.foldl (fun s t => (partOf m t).elim s fun p => s.extendNow (t + 1) p.digest) s).conf =
      s.conf := conf_foldl (fun s t => conf_elim rfl (fun p => by simp) _) s l
  simp only [State.bootFinish]
  split <;> [simp; skip]
  generalize hu : [1, 2, 3, 4].foldl _ s = u
  have hconf : u.conf = s.conf := hu ▸ hfold _
  simp [hconf]

@[simp] theorem State.bootParts_conf (s : State) (r m : Bytes) (abort : Option (Fin 27)) :
    (s.bootParts r m abort).conf = s.conf := by
  simp only [State.bootParts]
  repeat' split
  all_goals simp

@[simp] theorem State.bootSet_conf (s : State) (r : Bytes) (abort : Option (Fin 27)) :
    (s.bootSet r abort).conf = s.conf := by
  simp only [State.bootSet]
  repeat' split
  all_goals simp

@[simp] theorem State.secKick_conf (s : State) : s.secKick.conf = s.conf := rfl

@[simp] theorem State.bootRun_conf (s : State) (abort : Option (Fin 27)) :
    (s.bootRun abort).conf = s.conf := by
  simp only [State.bootRun]
  repeat' split
  all_goals simp

@[simp] theorem State.testArray_conf (s : State) (i : Nat) : (s.testArray i).conf = s.conf := by simp [State.testArray]

@[simp] theorem State.mainStart_conf (s : State) (w : Word) : (s.mainStart w).conf = s.conf := by simp [State.mainStart]

@[simp] theorem State.lockWrite_conf (s : State) (which : Nat) (w : Word) :
    (s.lockWrite which w).conf = s.conf := by simp [State.lockWrite]

/-! ### The Causeway link -/

@[simp] theorem State.onCwy_conf (s : State) (f : Cwy → Cwy) : (s.onCwy f).conf = s.conf := rfl

@[simp] theorem State.dropFrame_conf (s : State) (why : FrameFault) :
    (s.dropFrame why).conf = s.conf := rfl

@[simp] theorem State.engineAnswer_conf (s : State) (f : Bytes) (c : Code) (keep : Bool) :
    (s.engineAnswer f c keep).conf = s.conf := by simp [State.engineAnswer]

@[simp] theorem State.stageIssue_conf (n : Nat) (s : State) : (State.stageIssue n s).conf = s.conf := by
  induction n generalizing s with
  | zero => rfl
  | succ n ih =>
    unfold State.stageIssue
    split <;> [rfl; simp [ih]]

@[simp] theorem State.stage_conf (s : State) (f : Bytes) : (s.stage f).conf = s.conf := by simp [State.stage]

@[simp] theorem State.describe_conf (s : State) (f : Bytes) (c : Code) (buffered : Bool) :
    (s.describe f c buffered).conf = s.conf := rfl

@[simp] theorem State.postFrame_conf (s : State) (typ : Nat) (seq : BitVec 16) (arg : Nat) (payload : Bytes) :
    (s.postFrame typ seq arg payload).conf = s.conf := rfl

@[simp] theorem State.sendPosted_conf (s : State) : s.sendPosted.conf = s.conf := rfl

@[simp] theorem State.sendFrom_conf (s : State) (m : Nat) (d : MbxDir) (n : Nat) :
    (s.sendFrom m d n).conf = s.conf := by simp [State.sendFrom]

@[simp] theorem State.copyNext_conf (s : State) : s.copyNext.conf = s.conf := by
  simp only [State.copyNext]
  split <;> simp

@[simp] theorem State.copyRead_conf (s : State) (data : Bytes) (err : Bool) :
    (s.copyRead data err).conf = s.conf := by
  simp only [State.copyRead]
  split <;> simp

@[simp] theorem State.cwyCopy_conf (s : State) (w : Word) : (s.cwyCopy w).conf = s.conf := by
  simp only [State.cwyCopy]
  split <;> simp

@[simp] theorem State.nvmNext_conf (s : State) : s.nvmNext.conf = s.conf := by
  simp only [State.nvmNext]
  split <;> simp

@[simp] theorem State.nvmRead_conf (s : State) (data : Bytes) (err : Bool) :
    (s.nvmRead data err).conf = s.conf := by
  simp only [State.nvmRead]
  split <;> simp

@[simp] theorem State.cwyNvm_conf (s : State) (w : Word) : (s.cwyNvm w).conf = s.conf := by
  simp only [State.cwyNvm]
  split <;> simp

@[simp] theorem State.nvmBus_conf (s : State) (r : NvmRun) : (s.nvmBus r).conf = s.conf := by
  unfold State.nvmBus
  split <;> [rfl; rfl; skip]
  exact conf_foldl (by intros; rfl) _ _

@[simp] theorem State.nvmEnd_conf (s : State) (r : NvmRun) (ok : Bool) :
    (s.nvmEnd r ok).conf = s.conf := by
  unfold State.nvmEnd
  extract_lets old done t
  have hdone (c : Code) (t : State) : (done c t).conf = t.conf := rfl
  have ht : t.conf = s.conf := State.nvmBus_conf ..
  split <;> [exact hdone ..; skip]
  split <;> [skip; split; split] <;> refine (hdone ..).trans ?_
  · exact ht
  · exact (State.nvmPut_conf ..).trans ht
  · exact (State.tearNvm_conf _).trans ht
  · exact (State.nvmPut_conf ..).trans ht
  · exact (State.tearNvm_conf _).trans ht

/-! ### Field update -/

@[simp] theorem State.status_conf (s : State) (f : Bytes) (c : Code) :
    (s.status f c).conf = s.conf := rfl

@[simp] theorem State.statusFull_conf (s : State) (f : Bytes) (c : Code) :
    (s.statusFull f c).conf = s.conf := rfl

@[simp] theorem State.noteFail_conf (s : State) (f : Option SetFail) :
    (s.noteFail f).conf = s.conf := rfl

@[simp] theorem State.answerFail_conf (s : State) (f : Bytes) (x : Option SetFail) :
    (s.answerFail f x).conf = s.conf := by simp [State.answerFail]

@[simp] theorem State.rephase_conf (s : State) (p : Nat) : (s.rephase p).conf = s.conf := by simp [State.rephase]

@[simp] theorem State.dropSet_conf (s : State) : s.dropSet.conf = s.conf := conf_elim (by simp) (fun f => by simp) _

@[simp] theorem State.endService_conf (s : State) : s.endService.conf = s.conf := by simp [State.endService]

@[simp] theorem State.hello_conf (s : State) (f : Bytes) : (s.hello f).conf = s.conf := by simp [State.hello]

@[simp] theorem State.noteLimit_conf (s : State) (x : SetFail) :
    (s.noteLimit x).conf = s.conf := by simp [State.noteLimit]

@[simp] theorem State.manifestFrame_conf (s : State) (f : Bytes) :
    (s.manifestFrame f).conf = s.conf := by
  simp only [State.manifestFrame]
  repeat' split
  all_goals simp

@[simp] theorem State.stagedAnswer_conf (s : State) (r : CwyRx) :
    (s.stagedAnswer r).conf = s.conf := by simp [State.stagedAnswer]

@[simp] theorem State.stageGoOn_conf (s : State) : s.stageGoOn.conf = s.conf := by
  simp only [State.stageGoOn]
  split <;> simp

@[simp] theorem State.stageAcked_conf (s : State) (err : Bool) :
    (s.stageAcked err).conf = s.conf := by simp [State.stageAcked]

@[simp] theorem State.stageFrame_conf (s : State) (f : Bytes) :
    (s.stageFrame f).conf = s.conf := by simp [State.stageFrame]

@[simp] theorem State.updTo_conf (s : State) (st : UpdStep) : (s.updTo st).conf = s.conf := rfl

@[simp] theorem State.updStarted_conf (s : State) (b : Bool) : (s.updStarted b).conf = s.conf := rfl

@[simp] theorem State.updRefuse_conf (s : State) (u : UpdWork) (c : Code) (x : Option SetFail) :
    (s.updRefuse u c x).conf = s.conf := by simp [State.updRefuse]

@[simp] theorem State.updVerified_conf (s : State) (u : UpdWork) :
    (s.updVerified u).conf = s.conf := by simp [State.updVerified]

@[simp] theorem State.hashPart_conf (s : State) (p : Part) (c : Nat) (g : Gen) :
    (s.hashPart p c g).conf = s.conf := by
  simp only [State.hashPart, State.dgeUpdate_conf]
  rw [conf_foldl (by intros; rfl), State.setReg_conf, State.setReg_conf, State.setReg_conf]

@[simp] theorem State.updAsk_conf (s : State) (u : UpdWork) (i : Nat) :
    (s.updAsk u i).conf = s.conf := by
  simp only [State.updAsk]
  split <;> simp

@[simp] theorem State.updAbsorb_conf (s : State) (u : UpdWork) (i c : Nat) (g : Gen) :
    (s.updAbsorb u i c g).conf = s.conf := by simp [State.updAbsorb]

@[simp] theorem State.updCompare_conf (s : State) (u : UpdWork) (i c : Nat) (g : Gen) :
    (s.updCompare u i c g).conf = s.conf := by
  simp only [State.updCompare]
  repeat' split
  all_goals simp

@[simp] theorem State.compareTurn_conf (s : State) (who : Nat) :
    (s.compareTurn who).conf = s.conf := by simp [State.compareTurn]

@[simp] theorem State.raiseLock_conf (s : State) (t : Nat) (p : Part) :
    (s.raiseLock t p).conf = s.conf := by
  simp only [State.raiseLock]
  split <;> simp

@[simp] theorem State.copyPart_conf (s : State) (t : Nat) (p : Part) :
    (s.copyPart t p).conf = s.conf := by simp [State.copyPart]

@[simp] theorem State.afterCopy_conf (s : State) (t : Nat) : (s.afterCopy t).conf = s.conf := by
  simp only [State.afterCopy]
  split <;> simp

@[simp] theorem State.secMigrates_conf (s : State) (m : Bytes) :
    (s.secMigrates m).conf = s.conf := by simp [State.secMigrates]

@[simp] theorem State.updCopy_conf (s : State) (u : UpdWork) (t : Nat) :
    (s.updCopy u t).conf = s.conf := by
  simp only [State.updCopy]
  split <;> simp

@[simp] theorem State.raiseEnd_conf (s : State) (m : Bytes) (t : Nat) :
    (s.raiseEnd m t).conf = s.conf := by
  simp only [State.raiseEnd]
  split <;> simp

@[simp] theorem State.updGate_conf (s : State) (u : UpdWork) : (s.updGate u).conf = s.conf := by
  simp only [State.updGate]
  split <;> [rfl; skip]
  simp only [State.updTo_conf, State.raiseEnd_conf]
  rw [conf_foldl (by intros; rfl)]
  rfl

@[simp] theorem State.updMeet_conf (s : State) (u : UpdWork) : (s.updMeet u).conf = s.conf := by simp [State.updMeet]

@[simp] theorem State.mainHandsOver_conf (s : State) (m : Bytes) :
    (s.mainHandsOver m).conf = s.conf := by simp [State.mainHandsOver]

@[simp] theorem State.afterRequest_conf (s : State) : s.afterRequest.conf = s.conf := rfl

@[simp] theorem State.updAsks_conf (s : State) : s.updAsks.conf = s.conf := by simp [State.updAsks]

@[simp] theorem State.updRequest_conf (s : State) (u : UpdWork) :
    (s.updRequest u).conf = s.conf := by simp [State.updRequest]

@[simp] theorem State.updIdle_conf (s : State) : s.updIdle.conf = s.conf := by simp [State.updIdle]

@[simp] theorem State.updBlock_conf (s : State) (u : UpdWork) : (s.updBlock u).conf = s.conf := by simp [State.updBlock]

@[simp] theorem State.mainMigrates_conf (s : State) (k : Fw) :
    (s.mainMigrates k).conf = s.conf := by simp [State.mainMigrates]

@[simp] theorem State.updServe_conf (s : State) (u : UpdWork) : (s.updServe u).conf = s.conf := by
  simp only [State.updServe]
  split <;> [rfl; skip]
  split <;> [simp; skip]
  rw [State.updTo_conf, State.mbx1Pass_conf]
  exact conf_elim (by simp) (fun k => by simp) _

@[simp] theorem State.updFinish_conf (s : State) (u : UpdWork) :
    (s.updFinish u).conf = s.conf := by simp [State.updFinish]

@[simp] theorem State.rewriteFails_conf (s : State) : s.rewriteFails.conf = s.conf := by simp [State.rewriteFails]

@[simp] theorem State.sectorDone_conf (s : State) (a : Nat) (rest : List Nat) (st : SectorStep) (again : Bool) :
    (s.sectorDone a rest st again).conf = s.conf := by
  simp only [State.sectorDone]
  split <;> simp

@[simp] theorem State.commitSet_conf (s : State) (f : Bytes) (now : Bool) :
    (s.commitSet f now).conf = s.conf := by
  simp only [State.commitSet]
  repeat' split
  all_goals simp

theorem State.receive_of {Q : State → Prop} {s : State} {go : State → State} (hQ : ∀ t, t.conf = s.conf → Q t)
    (hgo : ∀ t, t.conf = s.conf → Q (go t)) (f : Bytes) : Q (s.receive f go) := by
  simp only [State.receive]
  split <;> [exact hQ _ rfl; skip]
  split <;> [exact hQ _ (by simp); skip]
  split <;> [exact hQ _ (by simp); skip]
  split <;> [exact hQ _ (by simp); skip]
  split
  · exact hQ _ (by simp)
  · split <;> [exact hQ _ (by simp); skip]
    split <;> [exact hQ _ (by simp); skip]
    split <;> [exact hQ _ (by simp); exact hgo _ (by simp)]

theorem State.plainFrame_of {Q : State → Prop} {s : State} {go : State → State} (hQ : ∀ t, t.conf = s.conf → Q t)
    (hgo : ∀ t, t.conf = s.conf → Q (go t)) (f : Bytes) : Q (s.plainFrame f go) := by
  simp only [State.plainFrame]
  split <;> [exact hgo _ (by simp); exact hQ _ (by simp)]

theorem State.commit_of {Q : State → Prop} {s : State} {go : State → State} (hQ : ∀ t, t.conf = s.conf → Q t)
    (hgo : ∀ t, t.conf = s.conf → Q (go t)) (f : Bytes) : Q (s.commit f go) := by
  refine State.receive_of hQ (fun t ht => State.plainFrame_of (fun u hu => hQ u (hu.trans ht)) (fun u hu => ?_) f) f
  split <;> [exact hQ _ ((State.statusFull_conf ..).trans (hu.trans ht)); exact hgo _ (hu.trans ht)]

/-! ### The memory port -/

@[simp] theorem State.mpDeliver_conf (s : State) (r : MpReq) : (s.mpDeliver r).conf = s.conf := by
  simp only [State.mpDeliver]
  split <;> simp

/-! ### Writes of registers -/

@[simp] theorem State.store_conf (s : State) (r : Reg) (b k : Nat) (w : Word) :
    (s.store r b k w).conf = s.conf := by simp [State.store]

@[simp] theorem State.looked_conf (s : State) : s.looked.conf = s.conf := rfl

@[simp] theorem State.dimCtrl_conf (s : State) (w : Word) : (s.dimCtrl w).conf = s.conf := by simp [State.dimCtrl]

@[simp] theorem State.smeIntClear_conf (s : State) (b : Blk) (w : Word) :
    (s.smeIntClear b w).conf = s.conf := by simp [State.smeIntClear]

@[simp] theorem State.klnIntClear_conf (s : State) (w : Word) : (s.klnIntClear w).conf = s.conf := rfl

@[simp] theorem State.kfbIntClear_conf (s : State) (w : Word) : (s.kfbIntClear w).conf = s.conf := rfl

@[simp] theorem State.cntIntClear_conf (s : State) (w : Word) : (s.cntIntClear w).conf = s.conf := rfl

@[simp] theorem State.prtIntClear_conf (s : State) (w : Word) : (s.prtIntClear w).conf = s.conf := rfl

@[simp] theorem State.onStaged_conf (s : State) (f : StagedRegion → StagedRegion) :
    (s.onStaged f).conf = s.conf := rfl

@[simp] theorem State.gateEpWrite_conf (s : State) (w : Word) :
    (s.gateEpWrite w).conf = s.conf := by simp [State.gateEpWrite]

@[simp] theorem State.scrubAddrWrite_conf (s : State) (hi : Bool) (w : Word) :
    (s.scrubAddrWrite hi w).conf = s.conf := by simp [State.scrubAddrWrite]

@[simp] theorem State.onEntry_conf (s : State) (f : FwEntry → FwEntry) :
    (s.onEntry f).conf = s.conf := rfl

@[simp] theorem State.thrMaskWrite_conf (s : State) (w : Word) :
    (s.thrMaskWrite w).conf = s.conf := by simp [State.thrMaskWrite]

@[simp] theorem State.msgWrite_conf (s : State) (i k : Nat) (w : Word) :
    (s.msgWrite i k w).conf = s.conf := rfl

/-! ### Windows and the control port -/

@[simp] theorem State.refuseDown_conf (s : State) (d : Dom) :
    (s.refuseDown d).conf = s.conf := by simp [State.refuseDown]

@[simp] theorem State.zeroLook_conf (s : State) : s.zeroLook.conf = s.conf := by simp [State.zeroLook]

theorem State.throughWindow_conf {f : State → Nat → State} (h : ∀ s i, (f s i).conf = s.conf) (s : State) (k : AccKind)
    (size a : Nat) : (s.throughWindow k size a f).conf = s.conf := by
  simp [State.throughWindow, h]

@[simp] theorem State.windowWrite_conf (s : State) (size a : Nat) (v : Word) :
    (s.windowWrite size a v).conf = s.conf :=
  State.throughWindow_conf (f := fun s i => s.csramPut i ((wordBytes v).take (2 ^ size))) (fun _ _ => rfl) s _ size a

@[simp] theorem State.icpOwe_conf (s : State) (tag : BitVec 4) : (s.icpOwe tag).conf = s.conf := rfl

@[simp] theorem State.newWindow_conf (s : State) (arb : Arbiter) :
    (s.newWindow arb).conf = s.conf := by
  simp only [State.newWindow]
  split <;> simp

/-! ### A cycle -/

@[simp] theorem State.raise_conf (s : State) (i : Instr) : (s.raise i).conf = s.conf := rfl

@[simp] theorem State.secTick_conf (s : State) : s.secTick.conf = s.conf := by simp [State.secTick]

@[simp] theorem State.ctlTick_conf (s : State) : s.ctlTick.conf = s.conf := by simp [State.ctlTick]

@[simp] theorem State.gateTick_conf (s : State) : s.gateTick.conf = s.conf := by simp [State.gateTick]

@[simp] theorem State.availTick_conf (s : State) : s.availTick.conf = s.conf := by simp [State.availTick]

@[simp] theorem State.gateCycle_conf (s : State) : s.gateCycle.conf = s.conf := by simp [State.gateCycle]

@[simp] theorem State.counted_conf (s : State) : s.counted.conf = s.conf := by simp [State.counted]

/-! ### The queue -/

@[simp] theorem State.withFetchWord_conf (s : State) (nbits w : Nat) :
    (s.withFetchWord nbits w).conf = s.conf := rfl

/-! ### The checks of an SPDM request: each goes on with the records as they are -/

section
variable {k : Sparse (Option KRecord) × Option KlnWait} {s : State}

theorem State.spdm_conf {f : State → Bytes → State} (hf : ∀ t m, t.conf = k → (f t m).conf = k) (hs : s.conf = k)
    (ss : Option Word) (r : Bytes) (mine : Byte × Byte) : (s.spdm ss r mine f).conf = k := by
  subst hs
  exact State.spdm_of (Q := fun t => t.conf = s.conf) (fun _ h => h) hf ss r mine

theorem State.inSession_conf {f : State → SpdmSession → State} (hf : ∀ t x, t.conf = k → (f t x).conf = k)
    (hs : s.conf = k) (ss : Option Word) (late : Bool) : (s.inSession ss late f).conf = k :=
  State.inSession_of (Q := fun t => t.conf = k) (fun _ h => h) hf hs ss late

theorem State.outside_conf {f : State → State} (hf : ∀ t, t.conf = k → (f t).conf = k) (hs : s.conf = k)
    (ss : Option Word) (n : Nat) : (s.outside ss n f).conf = k := by
  unfold State.outside
  split <;> [simp [hs]; (split <;> [simp [hs]; exact hf _ hs])]

theorem State.anywhere_conf {f : State → State} (hf : ∀ t, t.conf = k → (f t).conf = k) (hs : s.conf = k)
    (ss : Option Word) : (s.anywhere ss f).conf = k := by
  unfold State.anywhere
  split <;> split <;> [simp [hs]; exact hf _ hs; exact hf _ hs; simp [hs]]

theorem State.longEnough_conf {f : State → State} (hf : ∀ t, t.conf = k → (f t).conf = k) (hs : s.conf = k)
    (ss : Option Word) (m : Bytes) (n : Nat) : (s.longEnough ss m n f).conf = k := by
  unfold State.longEnough
  split <;> [simp [hs]; exact hf _ hs]

theorem State.withChain_conf {f : State → List Bytes → State} (hf : ∀ t c, t.conf = k → (f t c).conf = k)
    (hs : s.conf = k) {old : State} (hold : old.conf = k) (ss : Option Word) (ec : Bool) :
    (s.withChain old ss ec f).conf = k := by
  unfold State.withChain
  split <;> [exact hf _ _ (by simp [hs]); (split <;> [simp [hs]; exact hold])]

theorem State.withRandom_conf {f : State → Bytes → State} (hf : ∀ t b, t.conf = k → (f t b).conf = k) (hs : s.conf = k)
    (ss : Option Word) (n : Nat) : (s.withRandom ss n f).conf = k := by
  unfold State.withRandom
  split <;> [exact hf _ _ ((State.fwRandom_conf ‹_›).trans hs); simp [hs]]

theorem State.withArgs_conf {f : State → Bytes → State} (hf : ∀ t a, t.conf = k → (f t a).conf = k) (hs : s.conf = k)
    (ss : Option Word) (m : Bytes) (n used : Nat) : (s.withArgs ss m n used f).conf = k := by
  simp only [State.withArgs]
  split <;> [simp [hs]; exact hf _ _ hs]

end

end Sys2Proof.Machine
end

section
/-!
PROOFS. The commands and events that leave the confluence records and the command that waits for the Kiln.
-/
namespace Sys2Proof.Machine

/-- The outcome, where it is a state, has the confluence records and the waiting command of `s`. -/
structure KeepsConf (s : State) (r : Res) : Prop where
  of_next : ∀ t, r = .next t → t.conf = s.conf

@[simp] theorem quiet_conf (s : State) : s.quiet.conf = s.conf := rfl

@[simp] theorem keepsConf_ran {f : State → State} {s : State} : KeepsConf s (ran f s) ↔ (f s.quiet).conf = s.conf :=
  ⟨fun h => h.of_next _ rfl, fun h => ⟨fun _ ht => by rwa [ran_next ht]⟩⟩

@[simp] theorem keepsConf_ranIf {b : Bool} {f : State → State} {s : State} :
    KeepsConf s (ranIf b f s) ↔ (b = true → (f s.quiet).conf = s.conf) := by
  cases b with
  | true => exact keepsConf_ran.trans (by simp)
  | false => exact keepsConf_ran.trans (by simp)

@[simp] theorem keepsConf_ranOn {d : Dom} {f : State → State} {s : State} :
    KeepsConf s (ranOn d f s) ↔ (s.serves d = true → (f s.quiet).conf = s.conf) := by
  cases h : s.serves d with
  | true =>
    refine ⟨fun hk _ => hk.of_next _ (ranOn_up h), fun hf => ⟨fun t ht => ?_⟩⟩
    cases (ranOn_up h).symm.trans ht
    exact hf rfl
  | false =>
    refine ⟨fun _ hd => (nomatch hd), fun _ => ⟨fun t ht => ?_⟩⟩
    cases (ranOn_down h).symm.trans ht
    rfl

theorem State.prtCommand_conf {s : State} {f : State → State} (hf : (f s).conf = s.conf) (w : Word) (err : MemErr)
    (early refusals : List (Bool × Code)) : (s.prtCommand w err early refusals f).conf = s.conf :=
  State.prtCommand_of (Q := fun t => t.conf = s.conf) (fun _ h => h) hf w err early refusals

theorem State.otpCommand_conf {s : State} {f : State → State} (hf : (f s).conf = s.conf) (w : Word)
    (allowed : LcState → Bool) (refusals : List (Bool × Code)) : (s.otpCommand w allowed refusals f).conf = s.conf :=
  State.otpCommand_of (Q := fun t => t.conf = s.conf) (fun _ h => h) hf w allowed refusals

theorem State.receive_conf {s : State} {go : State → State} (hgo : ∀ t, t.conf = s.conf → (go t).conf = s.conf)
    (f : Bytes) : (s.receive f go).conf = s.conf :=
  State.receive_of (Q := fun t => t.conf = s.conf) (fun _ h => h) hgo f

theorem State.plainFrame_conf {s t : State} {go : State → State} (hgo : ∀ u, u.conf = s.conf → (go u).conf = s.conf)
    (h : t.conf = s.conf) (f : Bytes) : (t.plainFrame f go).conf = s.conf :=
  State.plainFrame_of (Q := fun u => u.conf = s.conf) (fun _ hu => hu.trans h) (fun _ hu => hgo _ (hu.trans h)) f

theorem State.commit_conf {s : State} {go : State → State} (hgo : ∀ t, t.conf = s.conf → (go t).conf = s.conf)
    (f : Bytes) : (s.commit f go).conf = s.conf :=
  State.commit_of (Q := fun t => t.conf = s.conf) (fun _ h => h) hgo f

@[simp] theorem execFncCommit_conf (w : Word) (s : State) : KeepsConf s (execFncCommit w s) := by simp [execFncCommit]

/-! ### The fence -/

@[simp] theorem execSnsRequest_conf (s : State) : KeepsConf s (execSnsRequest s) := by
  simp only [execSnsRequest, keepsConf_ranIf]
  repeat' split
  all_goals simp

@[simp] theorem execSnsResponse_conf (addr : BitVec 8) (data : BitVec 16) (s : State) :
    KeepsConf s (execSnsResponse addr data s) := by
  simp only [execSnsResponse, keepsConf_ran]
  repeat' split
  all_goals simp

@[simp] theorem execSnsTimeout_conf (addr : BitVec 8) (s : State) :
    KeepsConf s (execSnsTimeout addr s) := by simp [execSnsTimeout]

@[simp] theorem execAvsResponse_conf (good alert : Bool) (data : BitVec 16) (s : State) :
    KeepsConf s (execAvsResponse good alert data s) := by
  simp only [execAvsResponse, keepsConf_ranIf]
  repeat' split
  all_goals simp

@[simp] theorem execAvsReadback_conf (good : Bool) (mv : BitVec 16) (s : State) :
    KeepsConf s (execAvsReadback good mv s) := by
  simp only [execAvsReadback, keepsConf_ranIf]
  repeat' split
  all_goals simp

@[simp] theorem execAvsSettleTimeout_conf (s : State) :
    KeepsConf s (execAvsSettleTimeout s) := by simp [execAvsSettleTimeout]

@[simp] theorem execFncHealthPop_conf (s : State) : KeepsConf s (execFncHealthPop s) := by simp [execFncHealthPop]

/-! ### The key fabric -/

@[simp] theorem execEmberLate_conf (id : Nat) (s : State) : KeepsConf s (execEmberLate id s) := by simp [execEmberLate]

@[simp] theorem execEmberTimeout_conf (port : Fin 8) (s : State) :
    KeepsConf s (execEmberTimeout port s) := by simp [execEmberTimeout]

@[simp] theorem execKfAck_conf (port : Fin 8) (beat : BitVec 64) (corrected : Bool) (s : State) :
    KeepsConf s (execKfAck port beat corrected s) := by simp [execKfAck]

@[simp] theorem execKfCntReq_conf (port : Fin 8) (beat : BitVec 64) (corrected : Bool) (s : State) :
    KeepsConf s (execKfCntReq port beat corrected s) := by simp [execKfCntReq]

@[simp] theorem execKfNextReq_conf (port : Fin 8) (beat : BitVec 64) (corrected : Bool) (s : State) :
    KeepsConf s (execKfNextReq port beat corrected s) := by simp [execKfNextReq]

@[simp] theorem execKfFault_conf (port : Fin 8) (beat : BitVec 64) (corrected : Bool) (s : State) :
    KeepsConf s (execKfFault port beat corrected s) := by simp [execKfFault]

@[simp] theorem execUpstreamDrop_conf (port : Fin 8) (beat : BitVec 64) (uncorr : Bool) (s : State) :
    KeepsConf s (execUpstreamDrop port beat uncorr s) := by
  simp only [execUpstreamDrop, keepsConf_ranIf]
  repeat' split
  all_goals simp

@[simp] theorem execKfbLoad_conf (w : Word) (err : MemErr) (s : State) :
    KeepsConf s (execKfbLoad w err s) := by simp [execKfbLoad]

@[simp] theorem execKfbRotate_conf (w : Word) (s : State) : KeepsConf s (execKfbRotate w s) := by simp [execKfbRotate]

@[simp] theorem execKfbZeroise_conf (w : Word) (s : State) :
    KeepsConf s (execKfbZeroise w s) := by simp [execKfbZeroise]

@[simp] theorem execKfbRevoke_conf (w : Word) (s : State) : KeepsConf s (execKfbRevoke w s) := by simp [execKfbRevoke]

@[simp] theorem execKfbBind_conf (w : Word) (s : State) : KeepsConf s (execKfbBind w s) := by simp [execKfbBind]

@[simp] theorem execKfbRelease_conf (w : Word) (s : State) :
    KeepsConf s (execKfbRelease w s) := by simp [execKfbRelease]

@[simp] theorem execKfbDonePop_conf (s : State) : KeepsConf s (execKfbDonePop s) := by simp [execKfbDonePop]

@[simp] theorem execKfbNextPop_conf (s : State) : KeepsConf s (execKfbNextPop s) := by simp [execKfbNextPop]

/-! ### Counter cells -/

@[simp] theorem execCntGrant_conf (bank : Fin 16) (err : CellErr) (s : State) :
    KeepsConf s (execCntGrant bank err s) := by simp [execCntGrant]

@[simp] theorem execCntConfigure_conf (w : Word) (s : State) :
    KeepsConf s (execCntConfigure w s) := by simp [execCntConfigure]

@[simp] theorem execCntRead_conf (w : Word) (s : State) : KeepsConf s (execCntRead w s) := by simp [execCntRead]

@[simp] theorem execCntAdvance_conf (w : Word) (s : State) :
    KeepsConf s (execCntAdvance w s) := by simp [execCntAdvance]

@[simp] theorem execCntRetire_conf (w : Word) (s : State) : KeepsConf s (execCntRetire w s) := by simp [execCntRetire]

@[simp] theorem execCntExhPop_conf (s : State) : KeepsConf s (execCntExhPop s) := by simp [execCntExhPop]

/-! ### Stream measurement -/

@[simp] theorem execSmeEventSend_conf (s : State) : KeepsConf s (execSmeEventSend s) := by
  simp only [execSmeEventSend, keepsConf_ranIf]
  repeat' split
  all_goals simp

@[simp] theorem execTapBeat_conf (tap : Fin 16) (data : BitVec 1024) (sid : StreamId) (first last : Bool)
    (nbm1 : BitVec 7) (err : MemErr) (s : State) :
    KeepsConf s (execTapBeat tap data sid first last nbm1 err s) := by
  simp only [execTapBeat, keepsConf_ran]
  repeat' split
  all_goals simp

@[simp] theorem execBeatIntake_conf (tap : Fin 16) (s : State) : KeepsConf s (execBeatIntake tap s) := by
  simp only [execBeatIntake, keepsConf_ranIf]
  intro
  cases h : s.quiet.intakeTap tap.val with
  | none => rfl
  | some t => exact (State.intakeTap_conf h : t.conf = s.quiet.conf)

@[simp] theorem execLeafDone_conf (lane : Fin 192) (err : MemErr) (s : State) :
    KeepsConf s (execLeafDone lane err s) := by simp [execLeafDone]

@[simp] theorem execCombineAbsorb_conf (lane : Fin 4) (err : MemErr) (s : State) :
    KeepsConf s (execCombineAbsorb lane err s) := by
  simp only [execCombineAbsorb, keepsConf_ranIf]
  repeat' split
  all_goals simp

@[simp] theorem execStreamResult_conf (sid : StreamId) (err : MemErr) (s : State) :
    KeepsConf s (execStreamResult sid err s) := by simp [execStreamResult]

@[simp] theorem execSmeOpen_conf (b : Blk) (w : Word) (s : State) :
    KeepsConf s (execSmeOpen b w s) := by simp [execSmeOpen]

@[simp] theorem execSmeAbort_conf (b : Blk) (w : Word) (s : State) :
    KeepsConf s (execSmeAbort b w s) := by simp [execSmeAbort]

@[simp] theorem execSmeStatus_conf (b : Blk) (w : Word) (err : MemErr) (s : State) :
    KeepsConf s (execSmeStatus b w err s) := by simp [execSmeStatus]

@[simp] theorem execExpWrite_conf (b : Blk) (w : Word) (err : MemErr) (s : State) :
    KeepsConf s (execExpWrite b w err s) := by simp [execExpWrite]

@[simp] theorem execExpClear_conf (b : Blk) (w : Word) (s : State) :
    KeepsConf s (execExpClear b w s) := by simp [execExpClear]

@[simp] theorem execExpRead_conf (b : Blk) (w : Word) (err : MemErr) (s : State) :
    KeepsConf s (execExpRead b w err s) := by simp [execExpRead]

@[simp] theorem execMrExtend_conf (b : Blk) (w : Word) (s : State) :
    KeepsConf s (execMrExtend b w s) := by simp [execMrExtend]

@[simp] theorem execMrAssign_conf (b : Blk) (w : Word) (s : State) :
    KeepsConf s (execMrAssign b w s) := by simp [execMrAssign]

@[simp] theorem execMrRead_conf (b : Blk) (w : Word) (err : MemErr) (s : State) :
    KeepsConf s (execMrRead b w err s) := by simp [execMrRead]

@[simp] theorem execSmePurge_conf (b : Blk) (w : Word) (s : State) :
    KeepsConf s (execSmePurge b w s) := by simp [execSmePurge]

@[simp] theorem execSmeCommit_conf (w : Word) (s : State) : KeepsConf s (execSmeCommit w s) := by simp [execSmeCommit]

@[simp] theorem execResPop_conf (b : Blk) (s : State) : KeepsConf s (execResPop b s) := by simp [execResPop]

/-! ### Small digests and the comparator -/

@[simp] theorem execDgeAcquireReq_conf (q : Req) (w : Word) (s : State) :
    KeepsConf s (execDgeAcquireReq q w s) := by simp [execDgeAcquireReq]

@[simp] theorem execDgeAcquireWithdraw_conf (q : Req) (w : Word) (s : State) :
    KeepsConf s (execDgeAcquireWithdraw q w s) := by simp [execDgeAcquireWithdraw]

@[simp] theorem execDgeUpdate_conf (q : Req) (c : Fin 4) (w : Word) (err : MemErr) (s : State) :
    KeepsConf s (execDgeUpdate q c w err s) := keepsConf_ran.2 (State.ctxCommand_conf (fun _ => by simp) ..)

@[simp] theorem execDgeFinal_conf (q : Req) (c : Fin 4) (w : Word) (err : MemErr) (s : State) :
    KeepsConf s (execDgeFinal q c w err s) := keepsConf_ran.2 (State.ctxCommand_conf (fun _ => by simp) ..)

@[simp] theorem execCmpCompare_conf (b : Blk) (w : Word) (s : State) :
    KeepsConf s (execCmpCompare b w s) := by simp [execCmpCompare]

@[simp] theorem execCmpSliceGrant_conf (s : State) : KeepsConf s (execCmpSliceGrant s) := by
  simp only [execCmpSliceGrant, keepsConf_ranIf]
  repeat' split
  all_goals simp

@[simp] theorem execComparisonDone_conf (slice : Fin 5) (err : MemErr) (s : State) :
    KeepsConf s (execComparisonDone slice err s) := by
  simp only [execComparisonDone, keepsConf_ranIf]
  repeat' split
  all_goals simp

/-! ### The partition manager -/

@[simp] theorem execPrtCommit_conf (w : Word) (err : MemErr) (s : State) :
    KeepsConf s (execPrtCommit w err s) := by simp [execPrtCommit]

@[simp] theorem execJobRecord_conf (w : Word) (err : MemErr) (s : State) : KeepsConf s (execJobRecord w err s) :=
  keepsConf_ranOn.2 fun _ => State.prtCommand_conf (by simp) ..

@[simp] theorem execJobForget_conf (w : Word) (err : MemErr) (s : State) : KeepsConf s (execJobForget w err s) := by
  refine keepsConf_ranOn.2 fun _ => State.prtCommand_conf ?_ ..
  split <;> simp

@[simp] theorem execGateEnter_conf (w : Word) (err : MemErr) (s : State) : KeepsConf s (execGateEnter w err s) := by
  refine keepsConf_ranOn.2 fun _ => ?_
  split <;> [rfl; exact State.prtCommand_conf (by simp) ..]

@[simp] theorem execGateExit_conf (w : Word) (s : State) : KeepsConf s (execGateExit w s) :=
  keepsConf_ranOn.2 fun _ => State.prtCommand_conf (by simp) ..

@[simp] theorem execGateYield_conf (w : Word) (s : State) : KeepsConf s (execGateYield w s) := by
  simp only [execGateYield, keepsConf_ranOn]
  repeat' split
  all_goals simp

@[simp] theorem execGateBudgetExpire_conf (s : State) :
    KeepsConf s (execGateBudgetExpire s) := by simp [execGateBudgetExpire]

@[simp] theorem execPrtQuarantine_conf (w : Word) (err : MemErr) (s : State) :
    KeepsConf s (execPrtQuarantine w err s) :=
  keepsConf_ranOn.2 fun _ => State.prtCommand_conf (by simp) ..

/-! ### The public-key engine -/

@[simp] theorem execEcVerify_conf (b : Blk) (w : Word) (s : State) :
    KeepsConf s (execEcVerify b w s) := by simp [execEcVerify]

@[simp] theorem execMldsaVerify_conf (b : Blk) (w : Word) (s : State) :
    KeepsConf s (execMldsaVerify b w s) := by simp [execMldsaVerify]

@[simp] theorem execHybVerify_conf (b : Blk) (w : Word) (s : State) :
    KeepsConf s (execHybVerify b w s) := by simp [execHybVerify]

@[simp] theorem execEcdhKeygen_conf (b : Blk) (w : Word) (s : State) :
    KeepsConf s (execEcdhKeygen b w s) := by simp [execEcdhKeygen]

@[simp] theorem execEcdhDerive_conf (b : Blk) (w : Word) (s : State) :
    KeepsConf s (execEcdhDerive b w s) := by simp [execEcdhDerive]

@[simp] theorem execKemKeygen_conf (b : Blk) (w : Word) (s : State) :
    KeepsConf s (execKemKeygen b w s) := by simp [execKemKeygen]

@[simp] theorem execKemDecaps_conf (b : Blk) (w : Word) (s : State) :
    KeepsConf s (execKemDecaps b w s) := by simp [execKemDecaps]

@[simp] theorem execKemEncaps_conf (b : Blk) (w : Word) (s : State) :
    KeepsConf s (execKemEncaps b w s) := by simp [execKemEncaps]

@[simp] theorem execPkeGrant_conf (s : State) : KeepsConf s (execPkeGrant s) :=
  keepsConf_ranIf.2 fun _ => conf_elim rfl (by simp) _

/-! ### Attestation -/

@[simp] theorem execPlatformReport_conf (b : Blk) (w : Word) (s : State) :
    KeepsConf s (execPlatformReport b w s) := by simp [execPlatformReport]

@[simp] theorem execJobReport_conf (b : Blk) (w : Word) (s : State) :
    KeepsConf s (execJobReport b w s) := by simp [execJobReport]

@[simp] theorem execSignBind_conf (b : Blk) (w : Word) (s : State) :
    KeepsConf s (execSignBind b w s) := by simp [execSignBind]

@[simp] theorem execCertRead_conf (b : Blk) (w : Word) (s : State) :
    KeepsConf s (execCertRead b w s) := by simp [execCertRead]

@[simp] theorem execAttComposite_conf (b : Blk) (w : Word) (s : State) :
    KeepsConf s (execAttComposite b w s) := by simp [execAttComposite]

@[simp] theorem execReportSample_conf (err : MemErr) (s : State) : KeepsConf s (execReportSample err s) := by
  simp only [execReportSample, keepsConf_ranIf]
  repeat' split
  all_goals simp

@[simp] theorem execDgeGrant_conf (err : MemErr) (s : State) : KeepsConf s (execDgeGrant err s) := by
  simp only [execDgeGrant, keepsConf_ranIf]
  repeat' split
  all_goals simp

@[simp] theorem execDgeForceAbandon_conf (w : Word) (s : State) :
    KeepsConf s (execDgeForceAbandon w s) := by simp [execDgeForceAbandon]

@[simp] theorem execDgeAbandon_conf (q : Req) (c : Fin 4) (w : Word) (s : State) :
    KeepsConf s (execDgeAbandon q c w s) :=
  keepsConf_ran.2 (State.ctxCommand_conf (fun _ => by simp) ..)

@[simp] theorem execDgeBlockDone_conf (c : Fin 4) (err : MemErr) (s : State) :
    KeepsConf s (execDgeBlockDone c err s) := by simp [execDgeBlockDone]

@[simp] theorem execCertBuild_conf (s : State) : KeepsConf s (execCertBuild s) := by simp [execCertBuild]

@[simp] theorem execPkeOpDone_conf (fault : PkeFault) (s : State) : KeepsConf s (execPkeOpDone fault s) := by
  simp only [execPkeOpDone, keepsConf_ranIf]
  repeat' split
  all_goals simp

@[simp] theorem execPkeExpand_conf (slot : Fin 2) (s : State) : KeepsConf s (execPkeExpand slot s) := by
  simp only [execPkeExpand, keepsConf_ranIf]
  repeat' split
  all_goals simp

@[simp] theorem execPkeAbandon_conf (w : Word) (s : State) :
    KeepsConf s (execPkeAbandon w s) := by simp [execPkeAbandon]

@[simp] theorem execHybSign_conf (b : PkeReq) (w : Word) (err : MemErr) (s : State) :
    KeepsConf s (execHybSign b w err s) := by
  simp only [execHybSign]
  repeat' split
  all_goals simp

@[simp] theorem execPkePubkey_conf (b : PkeReq) (w : Word) (err : MemErr) (s : State) :
    KeepsConf s (execPkePubkey b w err s) := by
  simp only [execPkePubkey]
  repeat' split
  all_goals simp

@[simp] theorem execAttCommit_conf (w : Word) (s : State) : KeepsConf s (execAttCommit w s) := by simp [execAttCommit]

@[simp] theorem execHandoverSet_conf (w : Word) (s : State) :
    KeepsConf s (execHandoverSet w s) := by simp [execHandoverSet]

@[simp] theorem execHandoverClear_conf (w : Word) (s : State) :
    KeepsConf s (execHandoverClear w s) := by simp [execHandoverClear]

@[simp] theorem execMainReady_conf (w : Word) (s : State) : KeepsConf s (execMainReady w s) := by simp [execMainReady]

/-! ### Access faults -/

@[simp] theorem execAccessFault_conf (core : Fin 8) (kind : AccKind) (space : AccSpace) (addr : BitVec 64)
    (machine uncorr : Bool) (s : State) : KeepsConf s (execAccessFault core kind space addr machine uncorr s) := by
  simp [execAccessFault]

@[simp] theorem execSecAccessFault_conf (kind : AccKind) (space : AccSpace) (size : Fin 3) (addr : BitVec 32)
    (uncorr : Bool) (s : State) : KeepsConf s (execSecAccessFault kind space size addr uncorr s) := by
  simp [execSecAccessFault]

/-! ### Mailboxes -/

@[simp] theorem execMbxPop_conf (q : Req) (m : Fin 4) (d : MbxDir) (s : State) :
    KeepsConf s (execMbxPop q m d s) := by simp [execMbxPop]

@[simp] theorem execDbSet_conf (q : Req) (m : Fin 4) (d : MbxDir) (w : Word) (s : State) :
    KeepsConf s (execDbSet q m d w s) := by simp [execDbSet]

@[simp] theorem execMbxRingdb_conf (w : Word) (s : State) : KeepsConf s (execMbxRingdb w s) := by simp [execMbxRingdb]

/-! ### Interrupts and random numbers -/

@[simp] theorem execInterruptClaim_conf (who : Claimer) (s : State) : KeepsConf s (execInterruptClaim who s) := by
  simp only [execInterruptClaim]
  repeat' split
  all_goals simp

@[simp] theorem execTrngRead_conf (q : Req) (s : State) : KeepsConf s (execTrngRead q s) := by
  simp only [execTrngRead, keepsConf_ran]
  repeat' split
  all_goals simp

@[simp] theorem execTrngRefill_conf (s : State) : KeepsConf s (execTrngRefill s) := by
  simp only [execTrngRefill, keepsConf_ranIf]
  repeat' split
  all_goals simp

@[simp] theorem execTrngHealthFail_conf (s : State) : KeepsConf s (execTrngHealthFail s) := by simp [execTrngHealthFail]

@[simp] theorem execTrngResume_conf (pass : Bool) (s : State) :
    KeepsConf s (execTrngResume pass s) := by simp [execTrngResume]

/-! ### The SPDM responder -/

@[simp] theorem execGetVersion_conf (ss : Option Word) (r : Bytes) (s : State) :
    KeepsConf s (execGetVersion ss r s) := by
  refine keepsConf_ran.2 (State.spdm_conf (fun t m h => ?_) rfl ..)
  refine State.outside_conf (fun t h => ?_) h ..
  simp [h]

@[simp] theorem execGetCapabilities_conf (ss : Option Word) (r : Bytes) (s : State) :
    KeepsConf s (execGetCapabilities ss r s) := by
  refine keepsConf_ran.2 (State.spdm_conf (fun t m h => ?_) rfl ..)
  refine State.outside_conf (fun t h => ?_) h ..
  refine State.longEnough_conf (fun t h => ?_) h ..
  simp [h]

@[simp] theorem execNegotiateAlgorithms_conf (ss : Option Word) (r : Bytes) (s : State) :
    KeepsConf s (execNegotiateAlgorithms ss r s) := by
  refine keepsConf_ran.2 (State.spdm_conf (fun t m h => ?_) rfl ..)
  refine State.outside_conf (fun t h => ?_) h ..
  refine State.longEnough_conf (fun t h => ?_) h ..
  split <;> simp [h]

@[simp] theorem execGetDigests_conf (ss : Option Word) (r : Bytes) (s : State) :
    KeepsConf s (execGetDigests ss r s) := by
  refine keepsConf_ran.2 (State.spdm_conf (fun t m h => ?_) rfl ..)
  refine State.anywhere_conf (fun t h => ?_) h ..
  refine State.withChain_conf (fun t c h => ?_) h rfl ..
  simp [h]

@[simp] theorem execGetCertificate_conf (ss : Option Word) (r : Bytes) (s : State) :
    KeepsConf s (execGetCertificate ss r s) := by
  refine keepsConf_ran.2 (State.spdm_conf (fun t m h => ?_) rfl ..)
  refine State.anywhere_conf (fun t h => ?_) h ..
  refine State.longEnough_conf (fun t h => ?_) h ..
  refine State.withChain_conf (fun t c h => ?_) h rfl ..
  simp only
  split <;> simp [h]

@[simp] theorem execChallenge_conf (ss : Option Word) (r : Bytes) (s : State) : KeepsConf s (execChallenge ss r s) := by
  refine keepsConf_ran.2 (State.spdm_conf (fun t m h => ?_) rfl ..)
  refine State.outside_conf (fun t h => ?_) h ..
  refine State.longEnough_conf (fun t h => ?_) h ..
  split <;> [rfl; skip]
  refine State.withChain_conf (fun t c h => ?_) h rfl ..
  split <;> [simp [h]; skip]
  split <;> [simp [h]; (split <;> [simp [h]; skip])]
  refine State.withRandom_conf (fun t b h => ?_) h ..
  simp [h]

@[simp] theorem execGetMeasurements_conf (ss : Option Word) (r : Bytes) (s : State) :
    KeepsConf s (execGetMeasurements ss r s) := by
  refine keepsConf_ran.2 (State.spdm_conf (fun t m h => ?_) rfl ..)
  refine State.anywhere_conf (fun t h => ?_) h ..
  refine State.longEnough_conf (fun t h => ?_) h ..
  split <;> [rfl; skip]
  split <;> [simp [h]; (split <;> [simp [h]; skip])]
  refine State.withRandom_conf (fun t b h => ?_) h ..
  simp only
  split <;> simp [h]

@[simp] theorem execKeyExchange_conf (ss : Option Word) (r : Bytes) (s : State) :
    KeepsConf s (execKeyExchange ss r s) := by
  refine keepsConf_ran.2 (State.spdm_conf (fun t m h => ?_) rfl ..)
  refine State.outside_conf (fun t h => ?_) h ..
  refine State.longEnough_conf (fun t h => ?_) h ..
  split <;> [rfl; skip]
  refine State.withChain_conf (fun t c h => ?_) h rfl ..
  split <;> [skip; simp [h]]
  split <;> [simp [h]; (split <;> [simp [h]; (split <;> [simp [h]; skip])])]
  refine State.withRandom_conf (fun t b h => ?_) h ..
  simp [h]

@[simp] theorem execFinish_conf (ss : Option Word) (r : Bytes) (s : State) : KeepsConf s (execFinish ss r s) := by
  refine keepsConf_ran.2 (State.spdm_conf (fun t m h => ?_) rfl ..)
  refine State.inSession_conf (fun t x h => ?_) h ..
  refine State.longEnough_conf (fun t h => ?_) h ..
  simp only
  split <;> [simp [h]; (split <;> [rfl; (split <;> simp [h])])]

@[simp] theorem execPqStart_conf (ss : Option Word) (r : Bytes) (s : State) : KeepsConf s (execPqStart ss r s) := by
  refine keepsConf_ran.2 (State.spdm_conf (fun t m h => ?_) rfl ..)
  refine State.inSession_conf (fun t x h => ?_) h ..
  refine State.withArgs_conf (fun t a h => ?_) h ..
  split <;> [simp [h]; (split <;> [rfl; simp [h]])]

@[simp] theorem execPqAccept_conf (ss : Option Word) (r : Bytes) (s : State) : KeepsConf s (execPqAccept ss r s) := by
  refine keepsConf_ran.2 (State.spdm_conf (fun t m h => ?_) rfl ..)
  refine State.inSession_conf (fun t x h => ?_) h ..
  refine State.withArgs_conf (fun t a h => ?_) h ..
  split <;> [skip; simp [h]]
  split <;> [simp [h]; (split <;> [rfl; simp [h]])]

@[simp] theorem execPqLegTimeout_conf (s : State) : KeepsConf s (execPqLegTimeout s) := by
  simp only [execPqLegTimeout, keepsConf_ranIf]
  repeat' split
  all_goals simp

@[simp] theorem execEndSession_conf (ss : Option Word) (r : Bytes) (s : State) :
    KeepsConf s (execEndSession ss r s) := by
  refine keepsConf_ran.2 (State.spdm_conf (fun t m h => ?_) rfl ..)
  refine State.inSession_conf (fun t x h => ?_) h ..
  simp [h]

@[simp] theorem execPqCert_conf (ss : Option Word) (r : Bytes) (s : State) : KeepsConf s (execPqCert ss r s) := by
  refine keepsConf_ran.2 (State.spdm_conf (fun t m h => ?_) rfl ..)
  refine State.anywhere_conf (fun t h => ?_) h ..
  refine State.withArgs_conf (fun t a h => ?_) h ..
  refine State.withChain_conf (fun t c h => ?_) h rfl ..
  simp [h]

@[simp] theorem execGetPage_conf (ss : Option Word) (r : Bytes) (s : State) : KeepsConf s (execGetPage ss r s) := by
  refine keepsConf_ran.2 (State.spdm_conf (fun t m h => ?_) rfl ..)
  refine State.inSession_conf (fun t x h => ?_) h ..
  refine State.withArgs_conf (fun t a h => ?_) h ..
  simp [h]

@[simp] theorem execSupplyCheck_conf (ss : Option Word) (r : Bytes) (s : State) :
    KeepsConf s (execSupplyCheck ss r s) := by
  refine keepsConf_ran.2 (State.spdm_conf (fun t m h => ?_) rfl ..)
  refine State.anywhere_conf (fun t h => ?_) h ..
  refine State.withArgs_conf (fun t a h => ?_) h ..
  simp only
  split <;> [simp [h]; (split <;> [simp; simp [h]])]

/-! ### Rings of the host -/

@[simp] theorem execCapAccept_conf (s : State) : KeepsConf s (execCapAccept s) :=
  keepsConf_ranIf.2 fun _ => State.serveType_conf (fun _ => by simp) ..

@[simp] theorem execRingCreate_conf (authorised : Bool) (s : State) : KeepsConf s (execRingCreate authorised s) := by
  refine keepsConf_ranIf.2 fun _ => State.serveType_conf (fun _ => ?_) ..
  simp only
  split <;> simp

@[simp] theorem execRingDestroy_conf (s : State) : KeepsConf s (execRingDestroy s) := by
  refine keepsConf_ranIf.2 fun _ => State.serveType_conf (fun _ => ?_) ..
  simp only
  split <;> simp

@[simp] theorem execHostReport_conf (s : State) : KeepsConf s (execHostReport s) := by
  refine keepsConf_ranIf.2 fun _ => State.serveType_conf (fun _ => ?_) ..
  simp only
  split <;> simp

@[simp] theorem execRingNop_conf (ring : BitVec 6) (s : State) : KeepsConf s (execRingNop ring s) := by
  refine keepsConf_ranIf.2 fun _ => State.submission_conf (fun _ _ => ?_) ..
  simp

@[simp] theorem execJobStep_conf (ring : BitVec 6) (workers : List (BitVec 12)) (s : State) :
    KeepsConf s (execJobStep ring workers s) := by
  refine keepsConf_ranIf.2 fun _ => State.submission_conf (fun _ _ => ?_) ..
  simp

@[simp] theorem execRingStreamOpen_conf (ring : BitVec 6) (s : State) : KeepsConf s (execRingStreamOpen ring s) := by
  refine keepsConf_ranIf.2 fun _ => State.submission_conf (fun _ _ => ?_) ..
  simp only
  split <;> simp

@[simp] theorem execRingStreamResult_conf (ring : BitVec 6) (s : State) :
    KeepsConf s (execRingStreamResult ring s) := by
  refine keepsConf_ranIf.2 fun _ => State.submission_conf (fun _ _ => ?_) ..
  split <;> simp

@[simp] theorem execRingCopy_conf (ring : BitVec 6) (s : State) : KeepsConf s (execRingCopy ring s) := by
  refine keepsConf_ranIf.2 fun _ => State.submission_conf (fun _ _ => ?_) ..
  simp only
  split <;> simp

@[simp] theorem execDriverGone_conf (why : GoneCause) (s : State) :
    KeepsConf s (execDriverGone why s) := by simp [execDriverGone]

@[simp] theorem execMbxHostReset_conf (w : Word) (s : State) :
    KeepsConf s (execMbxHostReset w s) := by simp [execMbxHostReset]

/-! ### The worker channel -/

@[simp] theorem execWcpRxMessage_conf (beats : List (BitVec 128)) (s : State) :
    KeepsConf s (execWcpRxMessage beats s) := by simp [execWcpRxMessage]

@[simp] theorem execWcpCredit_conf (s : State) : KeepsConf s (execWcpCredit s) := by simp [execWcpCredit]

@[simp] theorem execWcpMessageSent_conf (s : State) : KeepsConf s (execWcpMessageSent s) := by simp [execWcpMessageSent]

@[simp] theorem execReportReq_conf (s : State) : KeepsConf s (execReportReq s) := by simp [execReportReq]

@[simp] theorem execVersionReq_conf (s : State) : KeepsConf s (execVersionReq s) := by
  simp only [execVersionReq, keepsConf_ranIf]
  repeat' split
  all_goals simp

@[simp] theorem execReportPart_conf (s : State) : KeepsConf s (execReportPart s) := by
  simp only [execReportPart, keepsConf_ranIf]
  repeat' split
  all_goals simp

@[simp] theorem execWcpCancel_conf (s : State) : KeepsConf s (execWcpCancel s) := by simp [execWcpCancel]

@[simp] theorem execVersionInfo_conf (s : State) : KeepsConf s (execVersionInfo s) := by simp [execVersionInfo]

@[simp] theorem execCollectionTimeout_conf (s : State) :
    KeepsConf s (execCollectionTimeout s) := by simp [execCollectionTimeout]

@[simp] theorem execVdmReport_conf (ss : Option Word) (r : Bytes) (s : State) : KeepsConf s (execVdmReport ss r s) := by
  refine keepsConf_ran.2 (State.spdm_conf (fun t m h => ?_) rfl ..)
  refine State.inSession_conf (fun t x h => ?_) h ..
  refine State.withArgs_conf (fun t a h => ?_) h ..
  split <;> [simp [h]; skip; skip]
  · split <;> [simp [h]; (split <;> [rfl; simp [h]])]
  · split <;> [simp [h]; (split <;> [rfl; simp [h]])]

/-! ### The reset sequencer, the watchdogs and DIM -/

@[simp] theorem execPorNRise_conf (s : State) : KeepsConf s (execPorNRise s) := by
  simp only [execPorNRise, keepsConf_ranIf]
  repeat' split
  all_goals simp

@[simp] theorem execPllLock_conf (s : State) : KeepsConf s (execPllLock s) := by simp [execPllLock]

@[simp] theorem execPllLockTimeout_conf (s : State) : KeepsConf s (execPllLockTimeout s) := by simp [execPllLockTimeout]

@[simp] theorem execStrapLatch_conf (readings : List (BitVec 4)) (s : State) :
    KeepsConf s (execStrapLatch readings s) := by
  simp only [execStrapLatch, keepsConf_ranIf]
  repeat' split
  all_goals simp

@[simp] theorem execSourceDeassert_conf (src : Source) (s : State) :
    KeepsConf s (execSourceDeassert src s) := by simp [execSourceDeassert]

@[simp] theorem execHostDomainRelease_conf (s : State) : KeepsConf s (execHostDomainRelease s) := by
  simp only [execHostDomainRelease, keepsConf_ranIf]
  repeat' split
  all_goals simp

@[simp] theorem execGo_conf (w : Word) (s : State) : KeepsConf s (execGo w s) := by simp [execGo]

@[simp] theorem execHoldRelease_conf (w : Word) (s : State) :
    KeepsConf s (execHoldRelease w s) := by simp [execHoldRelease]

@[simp] theorem execCrsCommit_conf (w : Word) (s : State) : KeepsConf s (execCrsCommit w s) := by simp [execCrsCommit]

@[simp] theorem execBlockCmd_conf (w : Word) (s : State) : KeepsConf s (execBlockCmd w s) := by simp [execBlockCmd]

@[simp] theorem execWdtSecKick_conf (w : Word) (s : State) :
    KeepsConf s (execWdtSecKick w s) := by simp [execWdtSecKick]

@[simp] theorem execWdtCtlKick_conf (q : Req) (w : Word) (s : State) :
    KeepsConf s (execWdtCtlKick q w s) := by simp [execWdtCtlKick]

@[simp] theorem execWdtCtlEnable_conf (w : Word) (s : State) :
    KeepsConf s (execWdtCtlEnable w s) := by simp [execWdtCtlEnable]

@[simp] theorem execDimEnter_conf (w : Word) (coresWaiting : Bool) (s : State) :
    KeepsConf s (execDimEnter w coresWaiting s) := by simp [execDimEnter]

@[simp] theorem execDimExit_conf (w : Word) (s : State) : KeepsConf s (execDimExit w s) := by simp [execDimExit]

@[simp] theorem execKlnTamperClear_conf (w : Word) (active : BitVec 8) (s : State) :
    KeepsConf s (execKlnTamperClear w active s) := by simp [execKlnTamperClear]

@[simp] theorem execFenceTripHoldEnd_conf (s : State) :
    KeepsConf s (execFenceTripHoldEnd s) := by simp [execFenceTripHoldEnd]

/-! ### The programming path and the life cycle -/

@[simp] theorem execOtpStartupDone_conf (drift : List (Nat × Row3)) (s : State) :
    KeepsConf s (execOtpStartupDone drift s) := by simp [execOtpStartupDone]

@[simp] theorem execOtpRead_conf (w : Word) (s : State) : KeepsConf s (execOtpRead w s) :=
  keepsConf_ranOn.2 fun _ => State.otpCommand_conf (by simp) ..

@[simp] theorem execOtpFinalise_conf (w : Word) (s : State) : KeepsConf s (execOtpFinalise w s) :=
  keepsConf_ranOn.2 fun _ => State.otpCommand_conf (by simp) ..

@[simp] theorem execEraseDone_conf (w : Word) (s : State) : KeepsConf s (execEraseDone w s) := by
  simp only [execEraseDone, keepsConf_ranOn]
  repeat' split
  all_goals simp

@[simp] theorem execDebugGateOpen_conf (s : State) : KeepsConf s (execDebugGateOpen s) := by simp [execDebugGateOpen]

@[simp] theorem execJtagInstruction_conf (ir : BitVec 8) (s : State) :
    KeepsConf s (execJtagInstruction ir s) := by simp [execJtagInstruction]

@[simp] theorem execTrstNAssert_conf (s : State) : KeepsConf s (execTrstNAssert s) := by simp [execTrstNAssert]

/-! ### The Tinder ROM -/

@[simp] theorem execTinderBoot_conf (abort : Option (Fin 27)) (s : State) :
    KeepsConf s (execTinderBoot abort s) := by simp [execTinderBoot]

@[simp] theorem execBootMainStart_conf (w : Word) (s : State) :
    KeepsConf s (execBootMainStart w s) := by simp [execBootMainStart]

@[simp] theorem execBootLockWrite_conf (which : Fin 3) (w : Word) (s : State) :
    KeepsConf s (execBootLockWrite which w s) := by simp [execBootLockWrite]

/-! ### The Causeway link -/

@[simp] theorem execLinkUp_conf (s : State) : KeepsConf s (execLinkUp s) := by simp [execLinkUp]

@[simp] theorem execLinkDown_conf (s : State) : KeepsConf s (execLinkDown s) := by simp [execLinkDown]

@[simp] theorem execFrameDrop_conf (why : FrameFault) (s : State) :
    KeepsConf s (execFrameDrop why s) := by simp [execFrameDrop]

@[simp] theorem execCausewayFrameSent_conf (s : State) :
    KeepsConf s (execCausewayFrameSent s) := by simp [execCausewayFrameSent]

@[simp] theorem execMbxSend_conf (q : Req) (m : Fin 4) (d : MbxDir) (w : Word) (s : State) :
    KeepsConf s (execMbxSend q m d w s) := by simp [execMbxSend]

@[simp] theorem execCwyCopy_conf (w : Word) (s : State) : KeepsConf s (execCwyCopy w s) := by simp [execCwyCopy]

@[simp] theorem execNvmErase_conf (w : Word) (s : State) : KeepsConf s (execNvmErase w s) := by simp [execNvmErase]

@[simp] theorem execNvmProgram_conf (w : Word) (s : State) :
    KeepsConf s (execNvmProgram w s) := by simp [execNvmProgram]

@[simp] theorem execNvmVerify_conf (w : Word) (s : State) : KeepsConf s (execNvmVerify w s) := by simp [execNvmVerify]

@[simp] theorem execCwyEngineDone_conf (ok : Bool) (s : State) : KeepsConf s (execCwyEngineDone ok s) := by
  refine keepsConf_ranIf.2 fun _ => ?_
  split <;> [(split <;> [simp; exact conf_elim rfl (by simp) _]); simp; rfl]

/-! ### Field update -/

@[simp] theorem execCwyHello_conf (frame : Bytes) (s : State) : KeepsConf s (execCwyHello frame s) :=
  keepsConf_ranIf.2 fun _ => State.receive_conf (fun _ h => by simp [h]) ..

@[simp] theorem execCwyManifest_conf (frame : Bytes) (s : State) : KeepsConf s (execCwyManifest frame s) :=
  keepsConf_ranIf.2 fun _ => State.receive_conf (fun _ h => by simp [h]) ..

@[simp] theorem execCwyChunk_conf (frame : Bytes) (s : State) : KeepsConf s (execCwyChunk frame s) :=
  keepsConf_ranIf.2 fun _ => State.receive_conf (fun _ h => by simp [h]) ..

@[simp] theorem execCwyActivate_conf (frame : Bytes) (s : State) : KeepsConf s (execCwyActivate frame s) :=
  keepsConf_ranIf.2 fun _ => State.commit_conf (fun _ h => by simp [h]) ..

@[simp] theorem execCwyNextBoot_conf (frame : Bytes) (s : State) : KeepsConf s (execCwyNextBoot frame s) :=
  keepsConf_ranIf.2 fun _ => State.commit_conf (fun _ h => by simp [h]) ..

@[simp] theorem execStatusQuery_conf (frame : Bytes) (s : State) : KeepsConf s (execStatusQuery frame s) :=
  keepsConf_ranIf.2 fun _ =>
  State.receive_conf (fun _ h => State.plainFrame_conf (fun _ hu => by simp [hu]) h ..) ..

@[simp] theorem execAbortFrame_conf (frame : Bytes) (s : State) : KeepsConf s (execAbortFrame frame s) :=
  keepsConf_ranIf.2 fun _ =>
  State.receive_conf (fun _ h => State.plainFrame_conf (fun _ hu => by simp [hu]) h ..) ..

@[simp] theorem execRepeatFrame_conf (frame : Bytes) (s : State) : KeepsConf s (execRepeatFrame frame s) :=
  keepsConf_ranIf.2 fun _ => State.receive_conf (fun _ h => by simp [h]) ..

@[simp] theorem execSessionIdleTimeout_conf (s : State) :
    KeepsConf s (execSessionIdleTimeout s) := by simp [execSessionIdleTimeout]

/-! ### The memory port -/

@[simp] theorem execAstResponse_conf (array : BitVec 8) (result : BitVec 2) (s : State) :
    KeepsConf s (execAstResponse array result s) := by
  simp only [execAstResponse, keepsConf_ran]
  repeat' split
  all_goals simp

@[simp] theorem execAstTimeout_conf (array : BitVec 8) (s : State) :
    KeepsConf s (execAstTimeout array s) := by simp [execAstTimeout]

@[simp] theorem execIcpResponse_conf (s : State) : KeepsConf s (execIcpResponse s) := by
  simp only [execIcpResponse, keepsConf_ranIf]
  repeat' split
  all_goals simp

/-! ### Windows and the control port -/

@[simp] theorem execArbiterWindow_conf (arb : Arbiter) (s : State) :
    KeepsConf s (execArbiterWindow arb s) := by simp [execArbiterWindow]

end Sys2Proof.Machine
end

section
/-!
PROOFS. What frees confluence records and changes none: a reset, the end of a partition (R305, R456), a life-cycle
transition.
-/
namespace Sys2Proof.Machine

/-! ### Records that are kept or freed -/

/-- Each record of `t` stands in `s` as it is: records are freed, and no other change is made of them. -/
structure State.Frees (s t : State) : Prop where
  of_wf : Sparse.wf (none : Option KRecord) s.kln.recs = true → Sparse.wf (none : Option KRecord) t.kln.recs = true ∧
    ∀ i, Sparse.get none t.kln.recs i = none ∨ Sparse.get none t.kln.recs i = Sparse.get none s.kln.recs i

theorem State.recs_of_conf {s t : State} (h : t.conf = s.conf) : t.kln.recs = s.kln.recs := congrArg Prod.fst h

theorem State.Frees.of_recs {s t : State} (h : t.kln.recs = s.kln.recs) : s.Frees t := by
  refine ⟨fun hwf => ?_⟩
  rw [h]
  exact ⟨hwf, fun _ => .inr rfl⟩

theorem State.Frees.of_conf {s t : State} (h : t.conf = s.conf) : s.Frees t := .of_recs (State.recs_of_conf h)

theorem State.Frees.trans {s t u : State} (h : s.Frees t) (h' : t.Frees u) : s.Frees u := by
  refine ⟨fun hwf => ?_⟩
  obtain ⟨hwt, ht⟩ := h.of_wf hwf
  obtain ⟨hwu, hu⟩ := h'.of_wf hwt
  refine ⟨hwu, fun i => ?_⟩
  rcases hu i with hu | hu
  · exact .inl hu
  · rw [hu]
    exact ht i

/-- A further change that leaves the records. -/
theorem State.Frees.conf {s t u : State} (h : s.Frees t) (hu : u.conf = t.conf) : s.Frees u := h.trans (.of_conf hu)

/-- A change that leaves the records before. -/
theorem State.Frees.after {s t u : State} (h : t.Frees u) (ht : t.conf = s.conf) : s.Frees u :=
  (State.Frees.of_conf ht).trans h

theorem State.Frees.foldl {α : Type} {f : State → α → State} (h : ∀ (s : State) a, s.Frees (f s a)) (s : State)
    (l : List α) : s.Frees (l.foldl f s) := by
  induction l generalizing s with
  | nil => exact .of_conf rfl
  | cons a l ih => exact (h s a).trans (ih _)

/-- A table with no records. -/
theorem frees_of_nil {s t : State} (h : t.kln.recs = []) : s.Frees t := by
  refine ⟨fun _ => ?_⟩
  rw [h]
  exact ⟨rfl, fun _ => .inl rfl⟩

theorem State.destroyKeys_frees (s : State) : s.Frees s.destroyKeys := frees_of_nil rfl

theorem State.destroyPart_conf (s : State) (p : PartId) (owner : EmberOwner) (src : EmberSrc) :
    (s.destroyPart p owner src).conf =
      (s.kln.recs.filter fun e => (e.2.map fun r => r.part == p) != some true, s.kln.wait) := by
  have hzero (l : List SlotIx) : (l.foldl (fun s i => s.zeroSlot i (s.slot i).gen) s).conf = s.conf :=
    conf_foldl (by intros; rfl) s l
  simp only [State.conf, Prod.mk.injEq] at hzero
  simp only [State.destroyPart, State.raiseEmber_conf, conf_onKln, hzero]

theorem State.destroyPart_frees (s : State) (p : PartId) (owner : EmberOwner) (src : EmberSrc) :
    s.Frees (s.destroyPart p owner src) := by
  have hrecs := congrArg Prod.fst (s.destroyPart_conf p owner src)
  refine ⟨fun hwf => ?_⟩
  rw [show (s.destroyPart p owner src).kln.recs = _ from hrecs]
  refine ⟨Sparse.wf_filter hwf, fun i => ?_⟩
  rw [Sparse.get_filter hwf]
  split <;> [exact .inr rfl; exact .inl rfl]

/-! ### What runs by itself and may destroy a partition -/

/-- Records are freed only while no command waits for the Kiln; else the records and what waits are as they were. -/
def State.FreesIdle (s t : State) : Prop := s.Frees t ∧ (t.kln.wait = none ∨ t.conf = s.conf)

theorem State.FreesIdle.of_conf {s t : State} (h : t.conf = s.conf) : s.FreesIdle t := ⟨.of_conf h, .inr h⟩

theorem State.FreesIdle.trans {s t u : State} (h : s.FreesIdle t) (h' : t.FreesIdle u) : s.FreesIdle u := by
  obtain ⟨hf, hw⟩ := h
  obtain ⟨hf', hw'⟩ := h'
  refine ⟨hf.trans hf', ?_⟩
  rcases hw' with hu | hu
  · exact .inl hu
  · rw [hu]
    exact hw.imp (fun ht => (congrArg Prod.snd hu).trans ht) id

theorem State.FreesIdle.conf {s t u : State} (h : s.FreesIdle t) (hu : u.conf = t.conf) : s.FreesIdle u :=
  h.trans (.of_conf hu)

/-- DESTROY_PARTITION of a RELEASE begins only while nothing waits for the Kiln (R456). -/
theorem State.relStep_freesIdle {s t : State} (h : s.relStep = some t) : s.FreesIdle t := by
  unfold State.relStep at h
  split at h <;> [cases h; skip]
  rename_i r hr
  simp only at h
  split at h
  case h_3 =>
    split at h <;> cases h
    rename_i hfree
    have hwait : s.kln.wait = none := by
      simp only [State.klnFree, Bool.or_eq_true, Bool.not_eq_true', not_or, Bool.not_eq_false, Bool.and_eq_true,
        Option.isNone_iff_eq_none] at hfree
      exact hfree.1.1.2
    exact ⟨(State.destroyPart_frees ..).after (by simp),
      .inl ((congrArg Prod.snd (State.destroyPart_conf ..)).trans hwait)⟩
  case h_7 =>
    split at h
    · split at h <;> cases h
      exact .of_conf (by simp)
    · split at h
      · cases h
      · split at h <;> cases h <;> exact .of_conf (by simp)
  case h_1 | h_2 | h_4 | h_5 =>
    split at h <;> cases h
    exact .of_conf (by simp)
  case h_6 | h_8 => cases h

theorem State.relRun_freesIdle (n : Nat) (s : State) : s.FreesIdle (State.relRun n s) := by
  induction n generalizing s with
  | zero => exact .of_conf rfl
  | succ n ih =>
    unfold State.relRun
    split <;> [exact .of_conf rfl; exact (State.relStep_freesIdle ‹_›).trans (ih _)]

theorem State.prtGoOn_freesIdle (s : State) : s.FreesIdle s.prtGoOn :=
  (State.relRun_freesIdle 80 s).conf (by simp [State.prtGoOn])

theorem State.prtGoOn_frees (s : State) : s.Frees s.prtGoOn := s.prtGoOn_freesIdle.1

theorem State.mpGoOn_freesIdle (s : State) : s.FreesIdle s.mpGoOn := by
  have hread : ((List.range 4).foldl (fun s c => s.readNext c) s).conf = s.conf := conf_foldl (fun s c => by simp) s _
  have hprt := State.prtGoOn_freesIdle ((List.range 4).foldl (fun s c => s.readNext c) s).copyNext.nvmNext.stageGoOn
  exact (State.FreesIdle.trans (.of_conf (by simp [hread])) hprt).conf (by simp [State.mpGoOn])

theorem State.mpGoOn_frees (s : State) : s.Frees s.mpGoOn := s.mpGoOn_freesIdle.1

theorem State.scrubAcked_frees (s : State) (i : Nat) (err : Bool) : s.Frees (s.scrubAcked i err) := by
  unfold State.scrubAcked
  split
  · exact (State.prtGoOn_frees _).after (by simp)
  · split <;> exact (State.prtGoOn_frees _).after (by simp)

theorem State.fillAcked_frees (s : State) (i : Nat) (err : Bool) : s.Frees (s.fillAcked i err) := by
  unfold State.fillAcked
  split
  · exact .of_conf rfl
  · simp only
    split
    · exact (State.prtGoOn_frees _).after (by simp)
    · split
      · exact (State.prtGoOn_frees _).after (by simp)
      · exact .of_conf (by simp)

theorem State.purgeResume_frees (s : State) : s.Frees s.purgeResume := by
  unfold State.purgeResume
  split
  · exact (State.prtGoOn_frees _).after (by simp)
  · exact (State.prtGoOn_frees _).after (by simp)
  · exact .of_conf rfl

theorem State.mpLost_frees (s : State) (r : MpReq) : s.Frees (s.mpLost r) := by
  unfold State.mpLost
  split
  · exact State.scrubAcked_frees ..
  · exact State.fillAcked_frees ..
  all_goals exact .of_conf (by simp)

theorem State.mpAcked_frees (s : State) (r : MpReq) (err : Bool) : s.Frees (s.mpAcked r err) := by
  unfold State.mpAcked
  split
  · exact State.scrubAcked_frees ..
  · exact State.fillAcked_frees ..
  all_goals exact .of_conf (by simp)

theorem State.mpBeat_frees (s : State) (r : MpReq) (err : Bool) (data : BitVec 512) :
    s.Frees (s.mpBeat r err data) := by
  simp only [State.mpBeat]
  split <;> [exact (State.mpGoOn_frees _).after (by simp); exact .of_conf (by simp)]

/-! ### Resets -/

theorem State.enterD2_frees (s : State) : s.Frees s.enterD2 := frees_of_nil rfl

theorem State.enterD4_frees (s : State) : s.Frees s.enterD4 := by
  simp only [State.enterD4]
  exact (State.Frees.foldl State.mpLost_frees _ _).after (by simp)

theorem State.enter_frees (s : State) (d : Dom) : s.Frees (s.enter d) := by
  unfold State.enter
  split
  · exact .of_conf (by simp)
  · exact s.enterD2_frees
  · exact .of_conf (by simp)
  · exact s.enterD4_frees
  all_goals exact .of_conf (by simp)

theorem State.act_frees (s : State) (x : Source) (rank : Nat) (doms : List Dom) : s.Frees (s.act x rank doms) := by
  unfold State.act
  extract_lets e s₁ s₂ s₃ s₄ s₅ entersD2 now waits s₆ s₇ s₈ s₉ s₁₀ s₁₁ s₁₂
  have h₁ : s₁.conf = s.conf := by simp [s₁]
  have h₃ : s₃.conf = s.conf := by simp [s₃, s₂, h₁]
  have h₅ : s₅.conf = s.conf := by simp [s₅, s₄, h₃]
  have h₇ : s₇.conf = s.conf := by simp [s₇, s₆, h₅]
  have h₈ : s₇.Frees s₈ :=
    State.Frees.foldl (fun t d => by split <;> [exact t.enter_frees d; exact .of_conf rfl]) _ _
  have h₁₁ : s₁₁.conf = s₈.conf := by simp [s₁₁, s₁₀, s₉]
  have h₁₂ : s₁₂.conf = s₈.conf := by simp [s₁₂, h₁₁]
  exact (h₈.after h₇).conf (by simp [h₁₂])

theorem State.powerOn_frees (s : State) : s.Frees s.powerOn := (State.act_frees ..).conf rfl

theorem State.swReset_frees (s : State) (w : Word) : s.Frees (s.swReset w) := by
  unfold State.swReset
  split
  · exact .of_conf rfl
  · split <;> [exact State.act_frees ..; (split <;> exact State.act_frees ..)]

theorem State.leave_frees (s : State) (d : Dom) : s.Frees (s.leave d) := by
  cases d with
  | d3 => exact (State.prtGoOn_frees (State.attGoOn _)).after (by simp)
  | d4 => exact s.kfbUp.prtGoOn_frees.after (by simp)
  | d2 | d6 => exact .of_conf (by simp [State.leave, State.leaveD2])
  | _ => exact .of_conf rfl

/-! ### The life cycle, and the programming path -/

theorem State.lcEnd_frees (s : State) (c : Code) (burned : Nat) : s.Frees (s.lcEnd c burned) := by
  simp only [State.lcEnd]
  exact (State.act_frees ..).after rfl

theorem State.pathTo_frees (s : State) (r : Otp × Option PathEnd) : s.Frees (s.pathTo r) := by
  unfold State.pathTo
  split
  · exact .of_conf rfl
  · split <;> [(simp only; split); skip]
    · exact .of_conf rfl
    · exact (State.lcEnd_frees ..).after rfl
    · exact .of_conf rfl

theorem State.burn_frees (s : State) (job : OtpJob) (todo : List Burn) (vqps : Nat) : s.Frees (s.burn job todo vqps) :=
  State.pathTo_frees ..

theorem State.advanceGoOn_frees (vqps : Nat) (l : List (Nat × Nat)) (s : State) :
    s.Frees (State.advanceGoOn vqps l s) := by
  induction l generalizing s with
  | nil => exact .of_conf (by simp [State.advanceGoOn])
  | cons e l ih =>
    obtain ⟨c, target⟩ := e
    have hburn : s.Frees
        (State.burn { s with fw := { s.fw with advance := l } } .advance (s.otp.advanceBurns c target) vqps) :=
      (State.burn_frees ..).after rfl
    simp only [State.advanceGoOn]
    generalize State.burn _ _ _ _ = b at *
    split <;> [skip; exact ih s]
    split <;> [exact hburn; skip]
    split <;> [exact hburn.trans (ih b); exact hburn.conf (by simp)]

theorem State.afterPath_frees (s : State) (vqps : Nat) (job : OtpJob) : s.Frees (s.afterPath vqps job) := by
  unfold State.afterPath
  split <;> [exact .of_conf rfl; (split <;> exact State.advanceGoOn_frees ..)]

theorem State.destroyWorking_frees (s : State) :
    s.Frees s.destroyWorking := s.destroyKeys_frees.conf (by simp [State.destroyWorking])

theorem State.transitionRuns_frees (s : State) : s.Frees s.transitionRuns :=
  (State.destroyWorking_frees _).after rfl

theorem State.lcsPhase_frees (s : State) (vqps : Nat) : s.Frees (s.lcsPhase vqps) := by
  simp only [State.lcsPhase]
  split
  · exact .of_conf (by simp)
  · split <;> [exact State.lcEnd_frees ..; exact .of_conf (by simp)]
  · exact .of_conf (by simp)
  · exact (State.pathTo_frees ..).after rfl
  · exact State.lcEnd_frees ..
  · exact .of_conf rfl

/-! ### Field update -/

theorem State.rewriteOver_frees (s : State) : s.Frees s.rewriteOver := by
  simp only [State.rewriteOver]
  split <;> [exact (State.act_frees ..).after rfl; exact .of_conf (by simp)]

theorem State.updSector_frees (s : State) (u : UpdWork) (todo : List Nat) (st : SectorStep) (again : Bool) :
    s.Frees (s.updSector u todo st again) := by
  unfold State.updSector
  split <;> [exact State.rewriteOver_frees _; exact .of_conf (by simp)]

theorem State.updGoOn_frees (s : State) : s.Frees s.updGoOn := by
  unfold State.updGoOn
  split
  · exact .of_conf rfl
  · split
    case h_12 => exact State.updSector_frees ..
    all_goals exact .of_conf (by simp)

theorem State.commitAdvance_frees (s : State) (f : Bytes) (vqps : Nat) : s.Frees (s.commitAdvance f vqps) := by
  simp only [State.commitAdvance]
  split
  · exact .of_conf (by simp)
  · split
    · exact .of_conf (by simp)
    · split <;> [exact (State.advanceGoOn_frees ..).after (by simp); exact .of_conf (by simp)]

end Sys2Proof.Machine
end

section
/-!
PROOFS. How a step changes a confluence record (R16, R301, R302): by an event, by a share, by a Kiln command.
-/
namespace Sys2Proof.Machine

theorem State.record_of_conf {s t : State} (h : t.conf = s.conf) (p : Nat) (j : JobId) :
    t.record p j = s.record p j := by
  simp only [State.record, State.recs_of_conf h]

/-! ### Records that an event or a share changes -/

/-- Each record stands as it was, or has changed from one that is not FAILED, and to FORMED with all its bits only. -/
structure State.Updates (s t : State) : Prop where
  of_wf : Sparse.wf (none : Option KRecord) s.kln.recs = true →
    Sparse.wf (none : Option KRecord) t.kln.recs = true ∧
      ∀ i, Sparse.get none t.kln.recs i = Sparse.get none s.kln.recs i ∨
        ∃ q r : KRecord, Sparse.get none s.kln.recs i = some q ∧ q.state ≠ .failed ∧
          Sparse.get none t.kln.recs i = some r ∧ (r.state = .formed → r.full)

theorem State.Updates.of_recs {s t : State} (h : t.kln.recs = s.kln.recs) : s.Updates t :=
  ⟨fun hwf => by rw [h]; exact ⟨hwf, fun _ => .inl rfl⟩⟩

theorem State.Updates.of_conf {s t : State} (h : t.conf = s.conf) : s.Updates t := .of_recs (State.recs_of_conf h)

theorem State.Updates.trans {s t u : State} (h : s.Updates t) (h' : t.Updates u) : s.Updates u := by
  refine ⟨fun hwf => ?_⟩
  obtain ⟨hwt, ht⟩ := h.of_wf hwf
  obtain ⟨hwu, hu⟩ := h'.of_wf hwt
  refine ⟨hwu, fun i => ?_⟩
  rcases hu i with hsame | ⟨q', r', hq', hne', hr', hfull'⟩
  · rw [hsame]
    exact ht i
  · rcases ht i with hsame | ⟨q, r, hq, hne, -, -⟩
    · exact .inr ⟨q', r', hsame ▸ hq', hne', hr', hfull'⟩
    · exact .inr ⟨q, r', hq, hne, hr', hfull'⟩

theorem State.Updates.conf {s t u : State} (h : s.Updates t) (hu : u.conf = t.conf) :
    s.Updates u := h.trans (.of_conf hu)

theorem State.Updates.after {s t u : State} (h : t.Updates u) (ht : t.conf = s.conf) : s.Updates u :=
  (State.Updates.of_conf ht).trans h

theorem State.Updates.foldl {α : Type} {f : State → α → State} (h : ∀ (s : State) a, s.Updates (f s a)) (s : State)
    (l : List α) : s.Updates (l.foldl f s) := by
  induction l generalizing s with
  | nil => exact .of_conf rfl
  | cons a l ih => exact (h s a).trans (ih _)

/-- A record is rewritten that is not FAILED. -/
theorem State.Updates.setRecord {s t : State} {i : Nat} {q r : KRecord} (ht : t.conf = s.conf)
    (hget : Sparse.wf (none : Option KRecord) s.kln.recs = true → Sparse.get none s.kln.recs i = some q)
    (hq : q.state ≠ .failed) (hr : r.state = .formed → r.full) : s.Updates (t.setRecord i (some r)) := by
  have hrecs := State.recs_of_conf ht
  refine ⟨fun hwf => ?_⟩
  simp only [State.setRecord, State.onKln, hrecs]
  refine ⟨Sparse.wf_put hwf, fun j => ?_⟩
  by_cases hj : j = i
  · subst hj
    exact .inr ⟨q, r, hget hwf, hq, Sparse.get_put hwf, hr⟩
  · exact .inl (Sparse.get_put_ne hwf hj)

/-- The record that a partition and a job name stands in the table under its index. -/
theorem State.get_of_record {s : State} {p : Nat} {j : JobId} {i : Nat} {r : KRecord} (h : s.record p j = some (i, r))
    (hwf : Sparse.wf (none : Option KRecord) s.kln.recs = true) : Sparse.get none s.kln.recs i = some r := by
  obtain ⟨e, he, hsome⟩ := List.exists_of_findSome?_eq_some h
  split at hsome <;> [skip; cases hsome]
  rename_i q hq
  split at hsome <;> cases hsome
  exact (Sparse.get_of_mem hwf he).trans hq

theorem KRecord.full_of_complete {r : KRecord} (h : r.complete = true) : r.state = .collecting ∧ r.full := by
  simp only [KRecord.complete, Bool.and_eq_true, beq_iff_eq, List.all_eq_true, List.mem_range, Bool.or_eq_true,
    Bool.not_eq_true', List.any_eq_true] at h
  obtain ⟨⟨hstate, hstreams⟩, howners⟩ := h
  refine ⟨hstate, hstreams, fun o ho hmask => ?_⟩
  simpa [hmask] using howners o ho

section
variable {s : State} {i : Nat} {r : KRecord}
  (hget : Sparse.wf (none : Option KRecord) s.kln.recs = true → Sparse.get none s.kln.recs i = some r)
include hget

theorem State.failRecord_updates (hr : r.state ≠ .failed) (src : EmberSrc) : s.Updates (s.failRecord i r src) := by
  simp only [State.failRecord]
  refine State.Updates.conf (t := (if r.state = .formed then _ else _ : State).setRecord i _) ?_ rfl
  exact .setRecord (by split <;> simp) hget hr (by simp)

theorem State.faultRecord_updates (hr : r.state ≠ .failed) (src : EmberSrc) : s.Updates (s.faultRecord i r src) :=
  (State.Updates.setRecord (s.destroyShares_conf r src) hget hr (by simp)).conf rfl

theorem State.formRecord_updates (hr : r.complete = true) (src : EmberSrc) : s.Updates (s.formRecord i r src) := by
  obtain ⟨hstate, hfull⟩ := KRecord.full_of_complete hr
  have hne : r.state ≠ .failed := by simp [hstate]
  have hread : ((r.shares.filter s.ownShare).foldl (fun s h => s.readSlot h.slot) s).conf = s.conf :=
    conf_foldl (fun s h => by simp) s _
  simp only [State.formRecord]
  split
  · refine (State.faultRecord_updates (fun hwf => ?_) hne src).after hread
    rw [State.recs_of_conf hread] at hwf ⊢
    exact hget hwf
  · refine State.Updates.conf (t := State.setRecord _ i _) ?_ rfl
    exact .setRecord (by simp [hread]) hget hne fun _ => hfull

end

/-- A record that is not FAILED takes a share or a bit, and with its last one becomes FORMED or FAULTED. -/
theorem State.updateRecord_updates {s : State} {i : Nat} {q r : KRecord}
    (hget : Sparse.wf (none : Option KRecord) s.kln.recs = true → Sparse.get none s.kln.recs i = some q)
    (hq : q.state = .collecting) (hr : r.state = .collecting) (src : EmberSrc) :
    s.Updates (s.updateRecord i r src) := by
  have hset : s.Updates (s.setRecord i (some r)) := .setRecord rfl hget (by simp [hq]) (by simp [hr])
  unfold State.updateRecord
  split <;> [skip; exact hset]
  rename_i hc
  refine ⟨fun hwf => (hset.trans (State.formRecord_updates (fun _ => ?_) hc src)).of_wf hwf⟩
  exact Sparse.get_put hwf

theorem State.applyTo_updates {s : State} {i : Nat} {r : KRecord}
    (hget : Sparse.wf (none : Option KRecord) s.kln.recs = true → Sparse.get none s.kln.recs i = some r) (e : SmeEvent)
    (t : ReqStream) : s.Updates (s.applyTo e i r t) := by
  have hdrop : s.Updates s.dropEvent := .of_conf rfl
  simp only [State.applyTo]
  split
  case h_1 hr _ => exact State.updateRecord_updates (r := r.putStream _) hget hr hr _
  case h_2 hr _ => split <;> [exact State.updateRecord_updates (r := r.putStream _) hget hr hr _; exact hdrop]
  case h_3 hr _ => split <;> [exact State.failRecord_updates hget (by simp [hr]) _; exact hdrop]
  case h_5 hr _ => exact State.failRecord_updates hget (by simp [hr]) _
  all_goals exact hdrop

theorem State.applyEvent_updates (s : State) : s.Updates s.applyEvent := by
  unfold State.applyEvent
  split <;> [exact .of_conf rfl; skip]
  simp only
  split <;> [exact .of_conf rfl; skip]
  rename_i hrec
  split <;> [exact .of_conf rfl; skip]
  exact (State.applyTo_updates (State.get_of_record hrec) _ _).after rfl

theorem State.klnTurn_updates (s : State) : s.Updates s.klnTurn :=
  State.Updates.foldl (fun t _ => by split <;> [exact .of_conf rfl; exact t.applyEvent_updates]) _ _

/-- The accepted SHARE names a COLLECTING record (R297). -/
theorem State.record_of_share {s : State} (h : s.shareDenied s.klnMsg = false) {i : Nat} {r : KRecord}
    (hrec : s.record s.klnMsg.part s.klnMsg.job = some (i, r)) : r.state = .collecting := by
  simp only [State.shareDenied, hrec, Bool.or_eq_false_iff] at h
  obtain ⟨-, ⟨⟨hstate, -⟩, -⟩, -⟩ := h
  simpa using hstate

/-! ### What a step may do to the records -/

/-- What obligation O22 says of a step, with a FORMED record kept as it was or made with all its bits. -/
structure State.Steps (s t : State) : Prop where
  of_wf : Sparse.wf (none : Option KRecord) s.kln.recs = true →
    Sparse.wf (none : Option KRecord) t.kln.recs = true ∧
    (∀ (i : Nat) (r : KRecord), Sparse.get none s.kln.recs i = some r → r.state = .failed →
      Sparse.get none t.kln.recs i = none ∨ Sparse.get none t.kln.recs i = some r) ∧
    ∀ (i : Nat) (r : KRecord), Sparse.get none t.kln.recs i = some r → r.state = .formed →
      r.full ∨ Sparse.get none s.kln.recs i = some r

theorem State.Steps.of_frees {s t : State} (h : s.Frees t) : s.Steps t := by
  refine ⟨fun hwf => ?_⟩
  obtain ⟨hwt, ht⟩ := h.of_wf hwf
  refine ⟨hwt, fun i r hr _ => ?_, fun i r hr _ => ?_⟩ <;> rcases ht i with hi | hi
  · exact .inl hi
  · exact .inr (hi.trans hr)
  · rw [hi] at hr
    cases hr
  · exact .inr (hi ▸ hr)

theorem State.Steps.of_recs {s t : State} (h : t.kln.recs = s.kln.recs) : s.Steps t := .of_frees (.of_recs h)

theorem State.Steps.of_conf {s t : State} (h : t.conf = s.conf) : s.Steps t := .of_frees (.of_conf h)

theorem State.Updates.steps {s t u : State} (h : s.Updates t) (h' : t.Steps u) : s.Steps u := by
  refine ⟨fun hwf => ?_⟩
  obtain ⟨hwt, ht⟩ := h.of_wf hwf
  obtain ⟨hwu, hfail, hform⟩ := h'.of_wf hwt
  refine ⟨hwu, fun i r hr hstate => ?_, fun i r hr hstate => ?_⟩
  · rcases ht i with hi | ⟨q, -, hq, hne, -⟩
    · exact hfail i r (hi.trans hr) hstate
    · cases hq.symm.trans hr
      exact absurd hstate hne
  · rcases hform i r hr hstate with hfull | hi
    · exact .inl hfull
    · rcases ht i with hsame | ⟨-, r', -, -, hr', hfull'⟩
      · exact .inr (hsame ▸ hi)
      · cases hr'.symm.trans hi
        exact .inl (hfull' hstate)

theorem State.Steps.frees {s t u : State} (h : s.Steps t) (h' : t.Frees u) : s.Steps u := by
  refine ⟨fun hwf => ?_⟩
  obtain ⟨hwt, hfail, hform⟩ := h.of_wf hwf
  obtain ⟨hwu, hu⟩ := h'.of_wf hwt
  refine ⟨hwu, fun i r hr hstate => ?_, fun i r hr hstate => ?_⟩ <;> rcases hu i with hi | hi
  · exact .inl hi
  · rw [hi]
    exact hfail i r hr hstate
  · rw [hi] at hr
    cases hr
  · exact hform i r (hi ▸ hr) hstate

theorem State.Steps.conf {s t u : State} (h : s.Steps t) (hu : u.conf = t.conf) : s.Steps u := h.frees (.of_conf hu)

theorem State.Steps.after {s t u : State} (h : t.Steps u) (ht : t.conf = s.conf) : s.Steps u :=
  (State.Updates.of_conf ht).steps h

/-- A new record, not FORMED, takes an entry that is free. -/
theorem State.Steps.setRecord {s : State} {i : Nat} {r : KRecord} (hfree : Sparse.get none s.kln.recs i = none)
    (hr : r.state ≠ .formed) : s.Steps (s.setRecord i (some r)) := by
  refine ⟨fun hwf => ?_⟩
  refine ⟨Sparse.wf_put hwf, fun j q hq _ => ?_, fun j q hq hstate => ?_⟩
  · have hj : j ≠ i := fun h => by simp [h, hfree] at hq
    exact .inr ((Sparse.get_put_ne hwf hj).trans hq)
  · by_cases hj : j = i
    · subst hj
      cases (Sparse.get_put hwf).symm.trans hq
      exact absurd hstate hr
    · exact .inr ((Sparse.get_put_ne hwf hj).symm.trans hq)

/-! ### Kiln commands -/

theorem State.setRecord_none_frees (s : State) (i : Nat) : s.Frees (s.setRecord i none) := by
  refine ⟨fun hwf => ⟨Sparse.wf_put hwf, fun j => ?_⟩⟩
  by_cases hj : j = i
  · exact .inl (hj ▸ Sparse.get_put hwf)
  · exact .inr (Sparse.get_put_ne hwf hj)

theorem State.klnCommand_steps {s : State} {w : Word} {refusals : State → List (Bool × Code)} {f : State → State}
    (hf : (∀ x ∈ refusals s, x.1 = false) → s.Steps (f s)) : s.Steps (s.klnCommand w refusals f) := by
  unfold State.klnCommand
  split <;> [exact .of_conf (by simp); skip]
  split <;> [exact .of_conf (by simp); skip]
  split <;> [exact .of_conf (by simp); skip]
  rename_i hnone
  exact hf fun x hx => lowest_eq_none.1 hnone x (.tail _ hx)

theorem State.putShare_updates {s : State} {m : KuMsg} {key : Bytes}
    (h : ∀ i r, s.record m.part m.job = some (i, r) → r.state = .collecting) : s.Updates (s.putShare m key) := by
  unfold State.putShare
  split <;> [exact .of_conf rfl; skip]
  rename_i i r hrec
  have hget := State.get_of_record hrec
  simp only
  generalize hu : s.writeSlot s.klnSlot _ _ _ = u
  have hconf : u.conf = s.conf := by simp [← hu]
  have hcollecting := h i r hrec
  refine (State.updateRecord_updates (q := r) (fun hwf => ?_) hcollecting ?_ _).after hconf
  · rw [State.recs_of_conf hconf] at hwf ⊢
    exact hget hwf
  · exact hcollecting

theorem State.unwrap_updates {s : State} (h : s.klnMsg.kind = 3 → s.shareDenied s.klnMsg = false) :
    s.Updates s.unwrap := by
  have hin : (s.countIn s.klnMsg).conf = s.conf := by simp
  simp only [State.unwrap]
  split <;> [skip; exact .of_conf (by simp)]
  rename_i hkind
  refine (State.Updates.after (State.putShare_updates fun i r hrec => ?_) hin).conf (State.klnDone_conf ..)
  rw [State.record_of_conf hin] at hrec
  exact State.record_of_share (h hkind) hrec

theorem State.doUnwrap_steps (s : State) (w : Word) (e : MemErr) : s.Steps (s.doUnwrap w e) := by
  have hread : (s.readMsgSession e).countMsg.conf = s.conf := by simp
  refine (State.klnCommand_steps fun hall => ?_).after hread
  refine (State.unwrap_updates fun hkind => ?_).steps (.of_conf rfl)
  have hmem := hall
  simp only [State.msgRefusals] at hmem
  split at hmem
  · exact absurd (hmem (true, .deniedAttr) (by simp)) (by simp)
  · have hdenied := hmem (_, .deniedAttr) (.tail _ (.head _))
    simp only [State.msgDenied, hkind, Bool.or_eq_false_iff] at hdenied
    obtain ⟨⟨⟨-, hshare⟩, -⟩, -⟩ := hdenied
    simpa using hshare

theorem State.doDestroyPart_steps (s : State) (w : Word) : s.Steps (s.doDestroyPart w) :=
  State.klnCommand_steps fun _ =>
    .of_frees (.conf (s.destroyPart_frees s.klnPart .none .kilnCmd) (State.klnDone_conf ..))

theorem State.doJobDestroy_steps (s : State) (w : Word) : s.Steps (s.doJobDestroy w) := by
  refine State.klnCommand_steps fun _ => ?_
  split <;> [exact .of_conf rfl; skip]
  rename_i i r _
  exact .of_frees (.conf (.after (State.setRecord_none_frees _ i) (by simp)) (State.klnDone_conf ..))

theorem State.doJobCreate_steps (s : State) (w : Word) : s.Steps (s.doJobCreate w) := by
  refine State.klnCommand_steps fun hall => ?_
  have hsome : s.freeRecord.isNone = false := hall (s.freeRecord.isNone, .noResource) (by simp [State.jobRefusals])
  have hfree : Sparse.get none s.kln.recs (s.freeRecord.getD 0) = none := by
    cases hi : s.freeRecord with
    | none => simp [hi] at hsome
    | some i => simpa using List.find?_some hi
  exact (State.Steps.setRecord hfree (by simp)).conf (State.klnDone_conf ..)

theorem State.klnRun_steps (s : State) (c : KlnWait) : s.Steps (s.klnRun c) := by
  unfold State.klnRun
  split
  case h_4 => exact s.doUnwrap_steps c.w c.err
  case h_8 => exact s.doDestroyPart_steps c.w
  case h_9 => exact s.doJobCreate_steps c.w
  case h_10 => exact s.doJobDestroy_steps c.w
  case h_12 => exact .of_conf (State.klnCommand_conf (fun _ => rfl) ..)
  all_goals exact .of_conf (by simp)

theorem State.klnStart_steps (s : State) (c : KlnWait) : s.Steps (s.klnStart c) := by
  simp only [State.klnStart]
  split <;> [exact s.klnTurn_updates.steps (State.klnRun_steps _ c); exact s.klnTurn_updates.steps (.of_recs rfl)]

theorem State.klnResume_steps (s : State) : s.Steps s.klnResume := by
  unfold State.klnResume
  split <;> [exact .of_conf rfl; skip]
  split <;> [exact .of_conf rfl; skip]
  have hwait : s.Updates (s.onKln fun k => { k with wait := none }) := .of_recs rfl
  exact hwait.steps (State.klnStart_steps _ _)

theorem State.klnWrite_steps (s : State) (c : KlnWait) : s.Steps (s.klnWrite c) := by
  unfold State.klnWrite
  split <;> [exact .of_conf (by simp); exact s.klnStart_steps c]

end Sys2Proof.Machine
end

section
/-!
PROOFS. No step clears FAILED from a record but one that frees it, and none makes a record FORMED
before all its bits are set.
-/
namespace Sys2Proof.Machine

/-! ### A step that decodes nothing -/

theorem State.tick_steps (s : State) : s.Steps s.tick := by
  obtain ⟨hfrees, hwait⟩ := State.mpGoOn_freesIdle (State.counted { s with outs := [] })
  have hcounted : (State.counted { s with outs := [] }).conf = s.conf := by simp
  have hresume : s.Steps (State.mpGoOn (State.counted { s with outs := [] })).klnResume := by
    rcases hwait with hnone | hconf
    · have hidle : ∀ t : State, t.kln.wait = none → t.klnResume = t := fun t ht => by simp [State.klnResume, ht]
      rw [hidle _ hnone]
      exact .of_frees (hfrees.after hcounted)
    · exact (State.klnResume_steps _).after (hconf.trans hcounted)
  refine State.Steps.frees (State.Steps.conf hresume ?_) (State.updGoOn_frees _)
  simp [State.firmwareGoesOn]

/-! ### What an outcome may do to the records -/

/-- The outcome, where it is a state, keeps the records as a step must. -/
structure StepsTo (s : State) (r : Res) : Prop where
  of_next : ∀ t, r = .next t → s.Steps t

theorem KeepsConf.stepsTo {s : State} {r : Res} (h : KeepsConf s r) : StepsTo s r :=
  ⟨fun t ht => .of_conf (h.of_next t ht)⟩

theorem stepsTo_ran {f : State → State} {s : State} (h : s.quiet.Steps (f s.quiet)) : StepsTo s (ran f s) := by
  refine ⟨fun t ht => ?_⟩
  rw [ran_next ht]
  exact h.after rfl

theorem stepsTo_ranIf {b : Bool} {f : State → State} {s : State} (h : b = true → s.quiet.Steps (f s.quiet)) :
    StepsTo s (ranIf b f s) := by
  cases b with
  | true => exact stepsTo_ran (h rfl)
  | false => exact stepsTo_ran (.of_conf rfl)

theorem stepsTo_ranOn {d : Dom} {f : State → State} {s : State} (h : s.serves d = true → s.quiet.Steps (f s.quiet)) :
    StepsTo s (ranOn d f s) := by
  cases hd : s.serves d with
  | true =>
    rw [ranOn_up hd]
    exact ⟨fun _ ht => by cases ht; exact (h hd).after rfl⟩
  | false =>
    rw [ranOn_down hd]
    exact ⟨fun _ ht => by cases ht; exact .of_conf rfl⟩

/-! #### The partition table -/

theorem execPrtRelease_steps (w : Word) (err : MemErr) (s : State) : StepsTo s (execPrtRelease w err s) :=
  stepsTo_ranOn fun _ =>
    State.prtCommand_of (fun _ h => .of_conf h) (.of_frees (.after (State.prtGoOn_frees _) (by simp))) ..

theorem execScrubRegion_steps (w : Word) (err : MemErr) (s : State) : StepsTo s (execScrubRegion w err s) :=
  stepsTo_ranOn fun _ =>
    State.prtCommand_of (fun _ h => .of_conf h) (.of_frees (.after (State.prtGoOn_frees _) (by simp))) ..

theorem execScrubOrphans_steps (w : Word) (err : MemErr) (s : State) : StepsTo s (execScrubOrphans w err s) :=
  stepsTo_ranOn fun _ =>
    State.prtCommand_of (fun _ h => .of_conf h) (.of_frees (.after (State.prtGoOn_frees _) (by simp))) ..

theorem execScrubDone_steps (w : Word) (err : MemErr) (s : State) : StepsTo s (execScrubDone w err s) :=
  stepsTo_ranOn fun _ =>
    State.prtCommand_of (fun _ h => .of_conf h) (.of_conf (by simp)) ..

theorem execDrainToken_steps (array : BitVec 8) (part : PartId) (gen : Gen) (s : State) :
    StepsTo s (execDrainToken array part gen s) := by
  refine stepsTo_ran ?_
  simp only
  split <;> [exact .of_conf rfl; skip]
  split <;> [exact .of_frees (.after (State.prtGoOn_frees _) (by simp)); exact .of_conf (by simp)]

theorem execEack_steps (port : Fin 8) (age : Nat) (s : State) : StepsTo s (execEack port age s) := by
  refine stepsTo_ran ?_
  split <;> [exact .of_frees (.after (State.prtGoOn_frees _) (by simp)); exact .of_conf rfl]

theorem execKfBeatSend_steps (port : Fin 8) (s : State) : StepsTo s (execKfBeatSend port s) :=
  stepsTo_ranIf fun _ => .of_frees (.after (State.prtGoOn_frees _) (by simp))

theorem execExtensionApply_steps (err : MemErr) (s : State) : StepsTo s (execExtensionApply err s) :=
  stepsTo_ranIf fun _ => .of_frees (.after (State.prtGoOn_frees _) (by simp))

theorem execPurgeResume_steps (s : State) : StepsTo s (execPurgeResume s) :=
  stepsTo_ranIf fun _ => .of_frees (State.purgeResume_frees _)

/-! #### Resets -/

theorem execWarmNAct_steps (s : State) : StepsTo s (execWarmNAct s) :=
  stepsTo_ranIf fun _ => .of_frees (State.act_frees ..)

theorem execColdNAct_steps (s : State) : StepsTo s (execColdNAct s) :=
  stepsTo_ranIf fun _ => .of_frees (State.act_frees ..)

theorem execPorNFall_steps (s : State) : StepsTo s (execPorNFall s) :=
  stepsTo_ranIf fun _ => .of_frees (.conf (State.powerOn_frees _) rfl)

theorem execD0Reset_steps (s : State) : StepsTo s (execD0Reset s) := by
  refine stepsTo_ran ?_
  simp only
  generalize hu : ({ s.quiet with peat := {} } : State) = u
  have hconf : u.conf = s.quiet.conf := by simp [← hu]
  exact .of_frees (.conf (.after u.powerOn_frees hconf) (by simp))

theorem execD4ResetEntry_steps (s : State) : StepsTo s (execD4ResetEntry s) := by
  refine stepsTo_ranIf fun _ => ?_
  simp only
  split <;> [exact .of_frees (.conf (State.enterD4_frees _) (by simp)); exact .of_frees (State.enterD4_frees _)]

theorem execDomainRelease_steps (s : State) : StepsTo s (execDomainRelease s) := by
  refine stepsTo_ranIf fun _ => ?_
  split <;> [exact .of_conf rfl; skip]
  rename_i d _
  simp only
  generalize hu : (s.quiet.unhold d).onCrs _ = u
  have hconf : u.conf = s.quiet.conf := by simp [← hu]
  exact .of_frees (.conf (.after (u.leave_frees d) hconf) (by simp))

theorem execSwWarm_steps (w : Word) (s : State) : StepsTo s (execSwWarm w s) :=
  stepsTo_ranOn fun _ => .of_frees (State.swReset_frees _ w)

theorem execSwCold_steps (w : Word) (s : State) : StepsTo s (execSwCold w s) :=
  stepsTo_ranOn fun _ => .of_frees (State.swReset_frees _ w)

theorem execBlockSample_steps (coresWaiting : Bool) (s : State) : StepsTo s (execBlockSample coresWaiting s) := by
  refine stepsTo_ranIf fun _ => ?_
  split <;> [exact .of_conf rfl; skip]
  split <;> [exact .of_frees (.after (State.act_frees ..) rfl); exact .of_conf rfl]

theorem execWdtSec_steps (s : State) : StepsTo s (execWdtSec s) :=
  stepsTo_ranIf fun _ => .of_frees (.after (State.act_frees ..) rfl)

theorem execWdtCtl_steps (s : State) : StepsTo s (execWdtCtl s) :=
  stepsTo_ranIf fun _ => .of_frees (.after (State.act_frees ..) rfl)

theorem execWritebackUncorr_steps (s : State) : StepsTo s (execWritebackUncorr s) :=
  stepsTo_ranIf fun _ => .of_frees (.after (State.act_frees ..) (by simp))

theorem execTamperInput_steps (i : Fin 8) (s : State) : StepsTo s (execTamperInput i s) := by
  refine stepsTo_ran (.of_frees (.trans (.of_recs ?_) (State.act_frees ..)))
  refine (State.recs_of_conf ((State.raiseEmber_conf ..).trans (State.pkeClear_conf _))).trans ?_
  have hended (t : State) (c : Bool) : (if c then t.klnComplete .aborted else t).kln.recs = t.kln.recs :=
    State.recs_of_conf (by simp)
  simp only [State.onKst, State.onKln]
  exact hended (s.quiet.onPeat _) _

theorem execScanComplete_steps (s : State) : StepsTo s (execScanComplete s) := by
  refine stepsTo_ranIf fun _ => ?_
  simp only
  split <;> [exact .of_conf (by simp); exact .of_frees (.after (State.act_frees ..) (by simp))]

/-! #### The programming path and the life cycle -/

theorem execOtpPulseEnd_steps (m0 nrm m1 : Bool) (vqps : Nat) (s : State) :
    StepsTo s (execOtpPulseEnd m0 nrm m1 vqps s) := by
  refine stepsTo_ranIf fun _ => ?_
  split <;> [exact .of_conf rfl; skip]
  split <;> [exact .of_frees (.trans (State.pathTo_frees ..) (State.afterPath_frees ..)); exact .of_conf rfl]

theorem execOtpCheckDone_steps (vqps later : Nat) (s : State) : StepsTo s (execOtpCheckDone vqps later s) := by
  refine stepsTo_ranIf fun _ => ?_
  split <;> [exact .of_conf rfl; skip]
  split
  · split <;> [exact .of_conf rfl; exact .of_frees (State.pathTo_frees ..)]
  · exact .of_frees (.trans (State.pathTo_frees ..) (State.afterPath_frees ..))

theorem execOtpProgram_steps (w : Word) (vqps : Nat) (s : State) : StepsTo s (execOtpProgram w vqps s) :=
  stepsTo_ranOn fun _ =>
    State.otpCommand_of (fun _ h => .of_conf h) (.of_frees (State.burn_frees ..)) ..

theorem execOtpAdvance_steps (w : Word) (vqps : Nat) (s : State) : StepsTo s (execOtpAdvance w vqps s) :=
  stepsTo_ranOn fun _ =>
    State.otpCommand_of (fun _ h => .of_conf h) (.of_frees (State.burn_frees ..)) ..

theorem execOtpRedirect_steps (w : Word) (vqps : Nat) (s : State) : StepsTo s (execOtpRedirect w vqps s) :=
  stepsTo_ranOn fun _ =>
    State.otpCommand_of (fun _ h => .of_conf h) (.of_frees (State.burn_frees ..)) ..

theorem execGenRootHalf_steps (w : Word) (vqps : Nat) (s : State) : StepsTo s (execGenRootHalf w vqps s) :=
  stepsTo_ranOn fun _ =>
    State.otpCommand_of (fun _ h => .of_conf h) (.of_frees (.after (State.burn_frees ..) (by simp))) ..

theorem execLcTransition_steps (w : Word) (vqps : Nat) (s : State) : StepsTo s (execLcTransition w vqps s) := by
  refine stepsTo_ranOn fun _ => ?_
  split <;> [exact .of_conf (by simp); skip]
  split <;> [exact .of_frees (State.transitionRuns_frees _); exact .of_conf (by simp)]

theorem execLcsPhaseDone_steps (vqps : Nat) (s : State) : StepsTo s (execLcsPhaseDone vqps s) :=
  stepsTo_ranIf fun _ => .of_frees (State.lcsPhase_frees ..)

theorem execOpenDebug_steps (w : Word) (s : State) : StepsTo s (execOpenDebug w s) := by
  refine stepsTo_ranOn fun _ => ?_
  split <;> [exact .of_conf (by simp); exact .of_frees (.after (State.destroyWorking_frees _) rfl)]

/-! #### Memory and Causeway -/

theorem execCommitAdvance_steps (frame : Bytes) (vqps : Nat) (s : State) :
    StepsTo s (execCommitAdvance frame vqps s) :=
  stepsTo_ranIf fun _ =>
    State.commit_of (fun _ h => .of_conf h) (fun _ h => .of_frees (.after (State.commitAdvance_frees ..) h)) ..

theorem execMpReadData_steps (tag : BitVec 8) (last err : Bool) (data : BitVec 512) (s : State) :
    StepsTo s (execMpReadData tag last err data s) := by
  refine stepsTo_ran ?_
  split <;> [exact .of_conf rfl; skip]
  simp only
  split <;> [exact .of_conf rfl; exact .of_frees (State.mpBeat_frees ..)]

theorem execMpWriteAck_steps (tag : BitVec 8) (err : Bool) (s : State) : StepsTo s (execMpWriteAck tag err s) := by
  refine stepsTo_ran ?_
  split <;> [exact .of_conf rfl; skip]
  split <;> [exact .of_conf rfl; skip]
  exact .of_frees (.trans (.after (State.mpAcked_frees ..) (by simp)) (State.mpGoOn_frees _))

/-! #### The Kiln -/

theorem ranKln_steps (n : Nat) (w : Word) (e : MemErr) (s : State) : StepsTo s (ranKln n w e s) :=
  stepsTo_ranOn fun _ => State.klnWrite_steps ..

theorem execKlnEventApply_steps (s : State) : StepsTo s (execKlnEventApply s) :=
  stepsTo_ranIf fun _ => (State.applyEvent_updates _).steps (.of_conf rfl)

theorem execKeyMsg_steps (ss : Option Word) (r : Bytes) (out : Option Bytes) (s : State) :
    StepsTo s (execKeyMsg ss r out s) := by
  refine stepsTo_ran (State.spdm_of (fun _ h => .of_conf h) (fun t m h => ?_) ..)
  refine State.inSession_of (Q := fun u => s.quiet.Steps u) (fun _ h => .of_conf h) (fun u x hu => ?_) h ..
  simp only
  split <;> [exact .of_conf (by simp [hu]); skip]
  split <;> [exact .of_conf rfl; skip]
  split
  · split <;> exact .of_conf (by simp [hu])
  · generalize hv : State.setReg _ .klnOpSlot _ _ = v
    have hconf : v.conf = s.quiet.conf := by simp [← hv, hu]
    split <;> [exact .of_conf rfl; exact .conf (.after (v.doUnwrap_steps 0 .none) hconf) (by simp)]

/-! ### Registers -/

theorem stepsTo_looked {s : State} {r : Res} (h : StepsTo s.looked r) : StepsTo s r :=
  ⟨fun t ht => (h.of_next t ht).after (State.looked_conf s)⟩

theorem otpCmdWrite_steps (w : Word) (s : State) : StepsTo s (otpCmdWrite w s) := by
  unfold otpCmdWrite
  split
  · exact (execOtpRead_conf w s).stepsTo
  · exact stepsTo_looked (execOtpProgram_steps ..)
  · exact (execOtpFinalise_conf w s).stepsTo
  · exact stepsTo_looked (execOtpAdvance_steps ..)
  · exact stepsTo_looked (execOtpRedirect_steps ..)
  · exact stepsTo_looked (execGenRootHalf_steps ..)
  · exact KeepsConf.stepsTo (keepsConf_ran.2 (State.otpCommand_conf rfl ..))

theorem lcsCmdWrite_steps (w : Word) (s : State) : StepsTo s (lcsCmdWrite w s) := by
  unfold lcsCmdWrite
  split
  · exact stepsTo_looked (execLcTransition_steps ..)
  · exact (execEraseDone_conf w s).stepsTo
  · exact execOpenDebug_steps w s
  · exact KeepsConf.stepsTo (keepsConf_ran.2 (State.lcsRefuse_conf ..))

@[simp] theorem ctxCmdWrite_conf (q : Req) (c : Fin 4) (w : Word) (s : State) : KeepsConf s (ctxCmdWrite q c w s) := by
  unfold ctxCmdWrite
  split
  · exact execDgeUpdate_conf ..
  · exact execDgeFinal_conf ..
  · exact execDgeAbandon_conf ..
  · exact keepsConf_ran.2 (State.ctxCommand_conf (fun _ => by simp) ..)

@[simp] theorem kfbCmdWrite_conf (w : Word) (s : State) : KeepsConf s (kfbCmdWrite w s) := by
  unfold kfbCmdWrite
  split
  · exact execKfbLoad_conf ..
  · exact execKfbRotate_conf ..
  · exact execKfbZeroise_conf ..
  · exact execKfbRevoke_conf ..
  · exact execKfbBind_conf ..
  · exact execKfbRelease_conf ..
  · exact keepsConf_ran.2 (State.kfbCommand_conf _ (fun _ => rfl) ..)

@[simp] theorem cntCmdWrite_conf (w : Word) (s : State) : KeepsConf s (cntCmdWrite w s) := by
  unfold cntCmdWrite
  split
  · exact execCntConfigure_conf ..
  · exact execCntRead_conf ..
  · exact execCntAdvance_conf ..
  · exact execCntRetire_conf ..
  · exact keepsConf_ran.2 rfl

@[simp] theorem attCmdWrite_conf (b : Blk) (w : Word) (s : State) : KeepsConf s (attCmdWrite b w s) := by
  unfold attCmdWrite
  split
  · exact execPlatformReport_conf ..
  · exact execJobReport_conf ..
  · exact execSignBind_conf ..
  · exact execCertRead_conf ..
  · exact execAttComposite_conf ..
  · exact keepsConf_ran.2 (by simp)

@[simp] theorem attCtrlWrite_conf (q : Req) (w : Word) (s : State) : KeepsConf s (attCtrlWrite q w s) := by
  unfold attCtrlWrite
  split <;> [(split <;> [exact execHandoverSet_conf ..; exact execHandoverClear_conf ..]); exact execMainReady_conf ..]

theorem prtCmdWrite_steps (w : Word) (s : State) : StepsTo s (prtCmdWrite w s) := by
  unfold prtCmdWrite
  split
  · exact execPrtRelease_steps ..
  · exact (execPrtQuarantine_conf ..).stepsTo
  · exact execScrubRegion_steps ..
  · exact execScrubDone_steps ..
  · exact (execJobRecord_conf ..).stepsTo
  · exact (execJobForget_conf ..).stepsTo
  · exact (execGateEnter_conf ..).stepsTo
  · exact (execGateExit_conf ..).stepsTo
  · exact execScrubOrphans_steps ..
  · exact KeepsConf.stepsTo (keepsConf_ran.2 (State.prtCommand_conf rfl ..))

theorem regWrite_steps (q : Req) (p : RegAt) (w : Word) (s : State) : StepsTo s (regWrite q p w s) := by
  obtain ⟨reg, b, k⟩ := p
  cases reg with
  | crsSwReset =>
    change StepsTo s (if bit w 0 then execSwCold w s else execSwWarm w s)
    split <;> [exact execSwCold_steps w s; exact execSwWarm_steps w s]
  | otpCmd => exact otpCmdWrite_steps w s
  | lcsCmd => exact lcsCmdWrite_steps w s
  | klnCmd => exact ranKln_steps (cmdCode w) w .none s
  | prtCmd => exact prtCmdWrite_steps w s
  | dgeAcquire =>
    change StepsTo s (if bit w 0 then execDgeAcquireReq q w s else execDgeAcquireWithdraw q w s)
    split <;> [exact (execDgeAcquireReq_conf q w s).stepsTo; exact (execDgeAcquireWithdraw_conf q w s).stepsTo]
  | _ => exact KeepsConf.stepsTo (by simp [regWrite])

theorem regTake_conf (q : Req) (p : RegAt) (s : State) : KeepsConf s (regTake q p s) := by
  unfold regTake
  split <;> simp

theorem regAccess_steps (q : Req) (write : Bool) (a : Nat) (v : Word) (s : State) :
    StepsTo s (regAccess q write a v s) := by
  unfold regAccess
  split
  · refine KeepsConf.stepsTo ?_
    simp only
    split <;> [simp; (split <;> [simp; (cases write <;> simp)])]
  · split <;> [exact KeepsConf.stepsTo (by simp); skip]
    split <;> [exact KeepsConf.stepsTo (by simp); skip]
    split <;> [exact regWrite_steps ..; exact (regTake_conf ..).stepsTo]

theorem plicAccess_steps {f : State → State} (hf : ∀ s, (f s).conf = s.conf) (k : Fin 8) (kind : AccKind) (n : Nat)
    (s : State) : StepsTo s (plicAccess k kind n f s) := by
  refine stepsTo_ran (.of_conf ?_)
  split <;> [simp; exact hf _]

theorem icpAccess_steps (write : Bool) (a : IcpAddr) (v : Word) (cls : BitVec 2) (s : State) :
    StepsTo s (icpAccess write a v cls s) := by
  unfold icpAccess
  split <;> [exact KeepsConf.stepsTo (by simp); exact regAccess_steps ..]

theorem execRegisterWrite_steps (q : Req) (a : RegAddr) (size : Fin 3) (v : Word) (s : State) :
    StepsTo s (execRegisterWrite q a size v s) := by
  simp only [execRegisterWrite]
  split
  · split <;> [exact KeepsConf.stepsTo (by simp); exact regAccess_steps ..]
  · split <;> [exact plicAccess_steps (fun _ => by simp) ..; skip]
    split <;> [exact KeepsConf.stepsTo (by simp); exact regAccess_steps ..]
  · split <;> [exact KeepsConf.stepsTo (by simp); exact regAccess_steps ..]
  · exact regAccess_steps ..

theorem execIcpRequest_steps (write : Bool) (a : IcpAddr) (v : Word) (src : BitVec 2) (tag : BitVec 4) (s : State) :
    StepsTo s (execIcpRequest write a v src tag s) := by
  unfold execIcpRequest
  split <;> [exact KeepsConf.stepsTo (by simp); skip]
  have hacc := icpAccess_steps write a v src s
  split
  · rename_i t ht
    exact ⟨fun u hu => by cases hu; exact (hacc.of_next t ht).conf (State.icpOwe_conf ..)⟩
  · exact hacc

/-- No command and no event clears FAILED or forms a record before all its bits are set. -/
theorem exec_steps (i : Instr) (s : State) : StepsTo s (exec i s) := by
  cases i with
  | registerWrite q a size v => exact execRegisterWrite_steps q a size v s
  | icpRequest write a v src tag => exact execIcpRequest_steps write a v src tag s
  | mpReadData tag last err data => exact execMpReadData_steps tag last err data s
  | mpWriteAck tag err => exact execMpWriteAck_steps tag err s
  | extensionApply err => exact execExtensionApply_steps err s
  | purgeResume => exact execPurgeResume_steps s
  | porNFall => exact execPorNFall_steps s
  | d0Reset => exact execD0Reset_steps s
  | coldNAct => exact execColdNAct_steps s
  | warmNAct => exact execWarmNAct_steps s
  | d4ResetEntry => exact execD4ResetEntry_steps s
  | domainRelease => exact execDomainRelease_steps s
  | swWarm w => exact execSwWarm_steps w s
  | swCold w => exact execSwCold_steps w s
  | blockSample coresWaiting => exact execBlockSample_steps coresWaiting s
  | wdtSec => exact execWdtSec_steps s
  | wdtCtl => exact execWdtCtl_steps s
  | otpProgram w vqps => exact execOtpProgram_steps w vqps s
  | otpAdvance w vqps => exact execOtpAdvance_steps w vqps s
  | otpRedirect w vqps => exact execOtpRedirect_steps w vqps s
  | genRootHalf w vqps => exact execGenRootHalf_steps w vqps s
  | otpPulseEnd m0 nrm m1 vqps => exact execOtpPulseEnd_steps m0 nrm m1 vqps s
  | lcTransition w vqps => exact execLcTransition_steps w vqps s
  | lcsPhaseDone vqps => exact execLcsPhaseDone_steps vqps s
  | openDebug w => exact execOpenDebug_steps w s
  | tamperInput pin => exact execTamperInput_steps pin s
  | klnEventApply => exact execKlnEventApply_steps s
  | kfBeatSend port => exact execKfBeatSend_steps port s
  | eack port age => exact execEack_steps port age s
  | keyMsg ss r out => exact execKeyMsg_steps ss r out s
  | prtRelease w err => exact execPrtRelease_steps w err s
  | scrubRegion w err => exact execScrubRegion_steps w err s
  | scrubDone w err => exact execScrubDone_steps w err s
  | scrubOrphans w err => exact execScrubOrphans_steps w err s
  | drainToken array part gen => exact execDrainToken_steps array part gen s
  | writebackUncorr => exact execWritebackUncorr_steps s
  | commitAdvance frame vqps => exact execCommitAdvance_steps frame vqps s
  | scanComplete => exact execScanComplete_steps s
  | otpCheckDone vqps later => exact execOtpCheckDone_steps vqps later s
  | formRoot | sessionOpen | destroyPartition | jobCreate | jobDestroy | saltLoad | klnDerive | klnUnwrap | klnUnseal
  | klnSeal | klnDestroy =>
    exact ranKln_steps ..
  | _ => exact KeepsConf.stepsTo (by simp [exec])

/-- Settles O22: a step frees a record, fails it, or gives a COLLECTING one a share or a bit; and a command that waits
for the Kiln begins only where nothing before it in the step has moved a record. -/
theorem failedRecordsStayFailed : Obligations.FailedRecordsStayFailed := by
  unfold Obligations.FailedRecordsStayFailed
  intro s t hwf hstep
  have hsteps : s.Steps t := by
    unfold step at hstep
    split at hstep
    · cases hstep
      exact s.tick_steps
    · rename_i i rest _
      exact ((exec_steps i { s with pending := rest }).of_next t hstep).after rfl
  obtain ⟨hwt, hfail, hform⟩ := hsteps.of_wf hwf
  exact ⟨hwt, hfail, fun i r hr hstate => (hform i r hr hstate).imp_right fun h => ⟨r, h, hstate⟩⟩

end Sys2Proof.Machine
end

section
/-!
PROOFS. The commit of a revoke (R324, R333, R334): what it leaves of each port, and the commands that commit one (R352).
-/
namespace Sys2Proof.Machine

/-! ### One port changed -/

theorem State.port_onPort (s : State) {p : Nat} (hp : p < s.kfb.ports.length) (f : KfPort → KfPort) (q : Nat) :
    (s.onPort p f).port q = if q = p then f (s.port p) else s.port q := by
  simp only [State.port, State.onPort, State.onKfb, modAt, List.getD_eq_getElem?_getD, List.getElem?_modify]
  by_cases hq : q = p
  · subst hq
    simp [hp]
  · simp [hq, Ne.symm hq]

theorem State.ports_length_onPort (s : State) (p : Nat) (f : KfPort → KfPort) :
    (s.onPort p f).kfb.ports.length = s.kfb.ports.length := List.length_modify ..

/-- What each change keeps, the changes in turn keep. -/
theorem foldl_keeps {α β : Type} {F : State → β} {g : State → α → State} (h : ∀ s a, F (g s a) = F s) (s : State)
    (l : List α) : F (l.foldl g s) = F s := by
  induction l generalizing s with
  | nil => rfl
  | cons a l ih => exact (ih _).trans (h s a)

/-- Each port of a list changed alike. -/
theorem foldl_port {f : KfPort → KfPort} {g : State → Nat → State}
    (hport : ∀ (s : State) (p : Nat), p < s.kfb.ports.length →
      ∀ q, (g s p).port q = if q = p then f (s.port p) else s.port q)
    (hlen : ∀ (s : State) (p : Nat), (g s p).kfb.ports.length = s.kfb.ports.length) (l : List Nat) (s : State)
    (hl : l.Nodup) (hr : ∀ p ∈ l, p < s.kfb.ports.length) (q : Nat) :
    (l.foldl g s).port q = if q ∈ l then f (s.port q) else s.port q := by
  induction l generalizing s with
  | nil => simp
  | cons p l ih =>
    obtain ⟨hp, hl⟩ := List.nodup_cons.1 hl
    have hstep := hport s p (hr p (.head _)) q
    rw [List.foldl_cons, ih (g s p) hl (fun x hx => by rw [hlen]; exact hr x (.tail _ hx)), hstep]
    by_cases hq : q = p
    · subst hq
      simp [hp]
    · simp [hq]

/-! ### The commit of a revoke -/

/-- A port's queues after the commit of revoke `r` of `s`: the covered messages leave, and `r`'s beat joins (R334). -/
def KfPort.committed (s : State) (r : EmberReq) (masked : Bool) (q : KfPort) : KfPort :=
  { q with
    ember := q.ember ++ [⟨s.kfb.nextId, s.emberBeat r, false, masked⟩]
    rotate := s.uncovered r q.rotate
    load := s.uncovered r q.load }

/-- The commit of revoke `r` of `s` on port `p` of `u`. -/
def State.commitOn (s : State) (r : EmberReq) (u : State) (p : Nat) : State :=
  let masked := 16 ≤ (u.port p).used
  let v := u.onPort p (KfPort.committed s r masked)
  if masked then v.onKfb fun k => { k with cntMasked := tally k.cntMasked } else v

/-- The commit cancels, queues the beat on each port in turn, and then records the revoke. -/
theorem State.commitEmber_kfb (s : State) (r : EmberReq) :
    let u := (s.emberPorts r).foldl (s.commitOn r) ((s.emberPorts r).foldl (fun s p => s.abortCovered r p) s)
    (s.commitEmber r).kfb.ports = u.kfb.ports ∧ (s.commitEmber r).kfb.resCode = u.kfb.resCode ∧
      (s.commitEmber r).kfb.mirror = s.mirrorAfter r := by
  simp only [State.commitEmber]
  split
  · split <;> exact ⟨rfl, rfl, rfl⟩
  · exact ⟨rfl, rfl, rfl⟩

theorem settle_ports (s : State) (t n : Nat) (c : Code) :
    (s.settle t n c).kfb.ports = s.kfb.ports ∧ (s.settle t n c).kfb.resCode = s.kfb.resCode := by
  simp only [State.settle]
  split
  · exact ⟨rfl, rfl⟩
  · split <;> exact ⟨rfl, rfl⟩

theorem abortCovered_ports (s : State) (r : EmberReq) (p : Nat) :
    (s.abortCovered r p).kfb.ports = s.kfb.ports ∧ (s.abortCovered r p).kfb.resCode = s.kfb.resCode := by
  simp only [State.abortCovered, ← Prod.mk.injEq]
  refine foldl_keeps (F := fun s : State => (s.kfb.ports, s.kfb.resCode)) (fun s m => ?_) s _
  split <;> [skip; rfl]
  split <;> [exact Prod.ext (settle_ports ..).1 (settle_ports ..).2; rfl]

theorem State.commitOn_port (s : State) (r : EmberReq) (u : State) (p : Nat) (hp : p < u.kfb.ports.length) (q : Nat) :
    (s.commitOn r u p).port q = if q = p then (u.port p).committed s r (16 ≤ (u.port p).used) else u.port q := by
  rw [← State.port_onPort u hp]
  simp only [State.commitOn]
  split <;> rfl

theorem State.commitOn_length (s : State) (r : EmberReq) (u : State) (p : Nat) :
    (s.commitOn r u p).kfb.ports.length = u.kfb.ports.length := by
  rw [← State.ports_length_onPort u p (KfPort.committed s r (16 ≤ (u.port p).used))]
  simp only [State.commitOn]
  split <;> rfl

theorem State.commitOn_resCode (s : State) (r : EmberReq) (u : State) (p : Nat) :
    (s.commitOn r u p).kfb.resCode = u.kfb.resCode := by
  simp only [State.commitOn]
  split <;> rfl

theorem State.commitEmber_resCode (s : State) (r : EmberReq) : (s.commitEmber r).kfb.resCode = s.kfb.resCode := by
  obtain ⟨-, hcode, -⟩ := s.commitEmber_kfb r
  rw [hcode, foldl_keeps (F := fun u : State => u.kfb.resCode) (s.commitOn_resCode r)]
  exact foldl_keeps (F := fun u : State => u.kfb.resCode) (fun u p => (abortCovered_ports u r p).2) s _

/-- Where the ports of a revoke exist, each takes its beat and loses what it covers, and no other port changes. -/
theorem State.commitEmber_port {s : State} {r : EmberReq} (hr : ∀ p ∈ s.emberPorts r, p < s.kfb.ports.length)
    (hnodup : (s.emberPorts r).Nodup) (q : Nat) :
    (s.commitEmber r).port q =
      if q ∈ s.emberPorts r then (s.port q).committed s r (16 ≤ (s.port q).used) else s.port q := by
  obtain ⟨hports, -, -⟩ := s.commitEmber_kfb r
  have habort : ((s.emberPorts r).foldl (fun s p => s.abortCovered r p) s).kfb.ports = s.kfb.ports :=
    foldl_keeps (F := fun u : State => u.kfb.ports) (fun u p => (abortCovered_ports u r p).1) s _
  have hfold := foldl_port (f := fun q => q.committed s r (16 ≤ q.used)) (s.commitOn_port r) (s.commitOn_length r)
    (s.emberPorts r) _ hnodup (by rwa [habort]) q
  have hport : ((s.emberPorts r).foldl (fun s p => s.abortCovered r p) s).port q = s.port q := by
    simp only [State.port, habort]
  rw [hport] at hfold
  exact (congrArg (fun l => l.getD q {}) hports).trans hfold

/-! ### ZEROISE of all endpoints -/

/-- It cancels every LOAD and ROTATE. -/
theorem State.uncovered_zeroiseAll {s : State} {r : EmberReq} (ht : r.typ = tZeroise) (hd : r.dkind = 2)
    (l : List KfMsg) : ∀ m ∈ s.uncovered r l, m.typ ≠ tLoad ∧ m.typ ≠ tRotate := by
  intro m hm
  simpa [State.uncovered, State.covers, ht, hd] using (List.mem_filter.1 hm).2

theorem State.mirrorAfter_zeroiseAll {s : State} {r : EmberReq} (ht : r.typ = tZeroise) (hd : r.dkind = 2) :
    s.mirrorAfter r = [] := by
  simp [State.mirrorAfter, ht, hd]

theorem State.emberBeat_zeroiseAll {s : State} {r : EmberReq} (ht : r.typ = tZeroise) (hd : r.dkind = 2) :
    s.emberBeat r = headerBeat tZeroise 0 2 0 0 0 0 := by
  simp [State.emberBeat, State.headerGen, ht, hd, tZeroise, tRevoke]

/-! ### The statement -/

/-- A KFB command that is taken up and that nothing refuses has its effect. -/
theorem State.kfbTakes.accepted {s : State} {w : Word} (h : s.kfbTakes w) {refusals : State → List (Bool × Code)}
    (hall : ∀ x ∈ refusals s.quiet, x.1 = false) (f : State → State) :
    ranOn .d4 (fun s => s.kfbCommand w (refusals s) f) s = .next (f s.quiet) := by
  obtain ⟨hserves, hfull, hrsv⟩ := h
  have hnone : lowest ((s.quiet.kfbFull, .busy) :: (rsvSet .kfbCmd w, .deniedAttr) :: refusals s.quiet) = none := by
    rw [lowest_eq_none, List.forall_mem_cons, List.forall_mem_cons]
    exact ⟨hfull, hrsv, hall⟩
  exact ranOn_of_eq hserves (by simp only [State.kfbCommand, hnone])

theorem execKfbZeroise_accepted {s : State} {w : Word} (h : s.kfbTakes w) (hd : s.opDkind ≠ 3)
    (hroom : s.emberRoom s.zeroiseReq = true) : exec (.kfbZeroise w) s =
      .next ((s.quiet.kfbAccept 1).commitEmber { s.zeroiseReq with owner := .ticket s.freeTicket }) := by
  refine h.accepted (refusals := fun s => [(s.opDkind == 3, .deniedAttr), (!s.emberRoom s.zeroiseReq, .busy)]) ?_ _
  rw [List.forall_mem_cons, List.forall_mem_singleton]
  exact ⟨beq_eq_false_iff_ne.2 hd, congrArg not hroom⟩

theorem execKfbRevoke_accepted {s : State} {w : Word} (h : s.kfbTakes w)
    (hroom : s.emberRoom (revokeSlot s.kfbSlot s.kfbSlotGen .kilnCmd) = true) : exec (.kfbRevoke w) s =
      .next ((s.quiet.kfbAccept 1).commitEmber
        { revokeSlot s.kfbSlot s.kfbSlotGen .kilnCmd with owner := .ticket s.freeTicket }) := by
  refine h.accepted (refusals := fun s => [(!s.emberRoom (revokeSlot s.kfbSlot s.kfbSlotGen .kilnCmd), .busy)]) ?_ _
  rw [List.forall_mem_singleton]
  exact congrArg not hroom

theorem execKfbRelease_accepted {s : State} {w : Word} (h : s.kfbTakes w) (hd : s.opDkind = 0)
    (hp : (s.endpoint s.opDest).present = true) (hroom : s.emberRoom s.zeroiseReq = true) : exec (.kfbRelease w) s =
      .next (((s.quiet.kfbAccept 1).commitEmber
        { typ := tZeroise, dkind := 0, dest := s.opDest, slot := 0, sgen := 0, owner := .ticket s.freeTicket,
          src := .kilnCmd }).unbind s.opDest) := by
  rw [State.zeroiseReq, hd] at hroom
  refine h.accepted (refusals := fun s => [(s.opDkind != 0 || !(s.endpoint s.opDest).present, .deniedAttr),
    (!s.emberRoom ⟨tZeroise, 0, s.opDest, 0, 0, .none, .kilnCmd⟩, .busy)]) ?_ State.releaseAccepted
  rw [List.forall_mem_cons, List.forall_mem_singleton]
  have hbound : (s.opDkind != 0 || !(s.endpoint s.opDest).present) = false := by simp [hd, hp]
  exact ⟨hbound, congrArg not hroom⟩

/-- A ZEROISE to all endpoints goes to the eight ports. -/
theorem State.zeroiseReq_all {s : State} (hd : s.opDkind = 2) :
    s.zeroiseReq.dkind = 2 ∧ s.emberPorts s.zeroiseReq = List.range 8 := by
  simp [State.zeroiseReq, State.emberPorts, hd]

theorem State.emberRoom_all {s : State} (hd : s.opDkind = 2) (hup : s.kfb.up = true)
    (hfree : ∀ p < 8, (s.port p).ember.length < 64) : s.emberRoom s.zeroiseReq = true := by
  simp only [State.emberRoom, hup, (State.zeroiseReq_all hd).2, Bool.true_and, List.all_eq_true, List.mem_range,
    decide_eq_true_eq]
  exact hfree

/-- The ports after a ZEROISE of all endpoints is committed. -/
theorem State.zeroiseAll_port {s : State} {r : EmberReq} (ht : r.typ = tZeroise) (hd : r.dkind = 2)
    (hlen : s.kfb.ports.length = 8) {p : Nat} (hp : p < 8) :
    (∀ m ∈ ((s.commitEmber r).port p).load ++ ((s.commitEmber r).port p).rotate, m.typ ≠ tLoad ∧ m.typ ≠ tRotate) ∧
      ((s.commitEmber r).port p).ember = (s.port p).ember ++
        [⟨s.kfb.nextId, headerBeat tZeroise 0 2 0 0 0 0, false, decide (16 ≤ (s.port p).used)⟩] := by
  have hports : s.emberPorts r = List.range 8 := by simp [State.emberPorts, hd]
  rw [State.commitEmber_port (by simp [hports, hlen]) (hports ▸ List.nodup_range), hports, if_pos (List.mem_range.2 hp),
    ← State.emberBeat_zeroiseAll (s := s) ht hd]
  refine ⟨fun m hm => ?_, rfl⟩
  exact (List.mem_append.1 hm).elim (State.uncovered_zeroiseAll ht hd _ m) (State.uncovered_zeroiseAll ht hd _ m)

/-- Settles O26: the commit of a revoke, port by port. -/
theorem revokesAreCommittedAndCancelQueuedKeys : Obligations.RevokesAreCommittedAndCancelQueuedKeys := by
  unfold Obligations.RevokesAreCommittedAndCancelQueuedKeys
  refine ⟨fun w s => execKfbZeroise_accepted, fun w s => execKfbRevoke_accepted, fun w s => execKfbRelease_accepted,
    fun w s h hd hup hlen hfree => ?_⟩
  let r : EmberReq := { s.zeroiseReq with owner := .ticket s.freeTicket }
  obtain ⟨-, -, hmirror⟩ := State.commitEmber_kfb (s.quiet.kfbAccept 1) r
  exact ⟨_, execKfbZeroise_accepted h (by simp [hd]) (State.emberRoom_all hd hup hfree), State.commitEmber_resCode ..,
    hmirror.trans (State.mirrorAfter_zeroiseAll rfl hd),
    fun p hp => State.zeroiseAll_port (s := s.quiet.kfbAccept 1) (r := r) rfl hd hlen hp⟩

end Sys2Proof.Machine
end

section
/-!
PROOFS. The sending of EMBER beats and their acknowledgement (R24, R327, R328, R335).
-/
namespace Sys2Proof.Machine

/-! ### The beat that is sent -/

theorem State.port_lt_of_ember {s : State} {p : Nat} (h : ((s.port p).ember.any fun m => !m.sent) = true) :
    p < s.kfb.ports.length := by
  by_contra hlt
  simp [State.port, List.getD_eq_getElem?_getD, List.getElem?_eq_none (Nat.le_of_not_lt hlt)] at h

/-- One EMBER beat sent: it is counted, it uses one grant, and it is an unsent beat of the queue. -/
theorem State.sendEmber_sends {s : State} {p : Nat} (h : ((s.port p).ember.any fun m => !m.sent) = true) :
    (s.sendEmber p).kfb.cntEmber = tally s.kfb.cntEmber ∧ ((s.sendEmber p).port p).used = (s.port p).used + 1 ∧
      ∃ m ∈ (s.port p).ember, m.sent = false ∧ (s.sendEmber p).outs = s.outs ++ [downBeat p true 0 m.beat] := by
  have hlt := State.port_lt_of_ember h
  obtain ⟨m, hm⟩ : ∃ m, (s.port p).ember.find? (fun m => !m.sent) = some m := by
    simpa [← Option.isSome_iff_exists, List.find?_isSome] using h
  have hunsent : m.sent = false := by simpa using List.find?_some hm
  simp only [State.sendEmber, hm]
  generalize hu : (State.onKfb (s.onPort p _) _ : State) = u
  have hcnt : u.kfb.cntEmber = tally s.kfb.cntEmber := by rw [← hu]; rfl
  have hlen : p < u.kfb.ports.length := by
    rw [← hu]
    exact (State.ports_length_onPort s p _).symm ▸ hlt
  have hused : (u.port p).used = (s.port p).used + 1 := by
    have hport := State.port_onPort s hlt
      (fun q => { q with ember := emberSent q.faulted q.ember, used := q.used + 1 }) p
    rw [if_pos rfl] at hport
    rw [← hu]
    exact congrArg KfPort.used hport
  have houts : u.outs = s.outs := by rw [← hu]; rfl
  split
  · refine ⟨hcnt, ?_, m, List.mem_of_find?_eq_some hm, hunsent, congrArg (· ++ [downBeat p true 0 m.beat]) houts⟩
    have hport := State.port_onPort u hlen
      (fun q => { q with ember := q.ember.map fun m => if m.sent then m else { m with masked := true } }) p
    rw [if_pos rfl] at hport
    exact (congrArg KfPort.used hport).trans hused
  · exact ⟨hcnt, hused, m, List.mem_of_find?_eq_some hm, hunsent, congrArg (· ++ [downBeat p true 0 m.beat]) houts⟩

theorem State.portGrant_ember {s : State} {p : Nat} (hused : (s.port p).used < 16)
    (h : ((s.port p).ember.any fun m => !m.sent) = true) : s.portGrant p = some 0 := by
  simp only [State.portGrant, hused, h, decide_true, Bool.and_self, if_true]

theorem execKfBeatSend_ember {p : Fin 8} {s : State} (hused : (s.port p.val).used < 16)
    (h : ((s.port p.val).ember.any fun m => !m.sent) = true) :
    exec (.kfBeatSend p) s = .next (s.quiet.sendEmber p.val).drainEmber.prtGoOn := by
  have hgrant : s.quiet.portGrant p.val = some 0 := State.portGrant_ember hused h
  have hsend : s.quiet.sendBeat p.val = s.quiet.sendEmber p.val := by simp only [State.sendBeat, hgrant]
  change execKfBeatSend p s = _
  exact ranIf_of_eq (congrArg Option.isSome hgrant) (congrArg (fun u => u.drainEmber.prtGoOn) hsend)

/-! ### Acknowledgements -/

/-- A report names its unit in FNC_HEALTH. -/
theorem State.health_unit (s : State) (code : Code) (part : Option PartId) :
    (s.health 3 code part).fnc.healthUnits.getLsbD 3 = true := by
  simp only [State.health]
  split <;> simp

theorem State.eackPulse_none {s : State} {p : Nat} (hf : (s.port p).faulted = false) (h : s.oldestSent p = none)
    (age : Nat) : s.eackPulse p age = (s.faultPort p).drainEmber := by
  simp only [State.eackPulse, hf, h, Bool.false_eq_true, if_false, State.portFails]

theorem State.eackPulse_some {s : State} {p : Nat} {m : EmberSlot} (hf : (s.port p).faulted = false)
    (h : s.oldestSent p = some m) (age : Nat) : s.eackPulse p age =
      ((s.onPort p fun q => { q with ember := q.ember.eraseP fun x => x.id == m.id && x.sent }).ackRevoke p m.id
        age).drainEmber := by
  simp only [State.eackPulse, hf, h, Bool.false_eq_true, if_false]

theorem execEack_up {p : Fin 8} {age : Nat} {s : State} (h : s.kfb.up = true) :
    exec (.eack p age) s = .next (s.quiet.eackPulse p.val age).prtGoOn :=
  ran_of_eq (if_pos h)

/-! ### The statement -/

/-- Settles O27: what a port with quota sends, and what an acknowledgement meets. -/
theorem portsSendEmberFirstAndAcknowledgeInOrder : Obligations.PortsSendEmberFirstAndAcknowledgeInOrder := by
  unfold Obligations.PortsSendEmberFirstAndAcknowledgeInOrder
  refine ⟨fun p s hused h => ?_, fun a s => ?_, fun p age s hup hf hnone => ?_, fun p age s m hup hf hsome => ?_,
    fun p s hf hsome => ?_, fun id s hdue hmask => ?_⟩
  · obtain ⟨hcnt, hgrants, hbeat⟩ := State.sendEmber_sends (s := s.quiet) h
    exact ⟨execKfBeatSend_ember hused h, hcnt, hgrants, hbeat⟩
  · cases a <;> rfl
  · refine ⟨?_, rfl, ?_⟩
    · rw [execEack_up hup, State.eackPulse_none (s := s.quiet) hf hnone]
    · exact State.health_unit ..
  · rw [execEack_up hup, State.eackPulse_some (s := s.quiet) hf hsome]
  · have hdue : (!(s.port p.val).faulted && (s.oldestSent p.val).isSome) = true := by rw [hf, hsome]; rfl
    exact ranIf_of_eq (f := fun s => s.portFails p.val) hdue rfl
  · change execEmberLate id s = _
    exact ranIf_of_eq (by rw [hdue, hmask]; rfl) rfl

end Sys2Proof.Machine
end

section
/-!
PROOFS. What a destroyed key slot is, and a confluence record that fails (R283, R301, R304).
-/
namespace Sys2Proof.Machine

/-! ### Revokes leave the key slots -/

theorem State.endTicket_kst (s : State) (t : Nat) (c : Code) : (s.endTicket t c).kst = s.kst := rfl

theorem State.settle_kst (s : State) (t n : Nat) (c : Code) : (s.settle t n c).kst = s.kst := by
  simp only [State.settle]
  split
  · rfl
  · split <;> rfl

theorem State.abortCovered_kst (s : State) (r : EmberReq) (p : Nat) : (s.abortCovered r p).kst = s.kst := by
  simp only [State.abortCovered]
  refine foldl_keeps (F := State.kst) (fun s m => ?_) s _
  split <;> [skip; rfl]
  split <;> [exact State.settle_kst ..; rfl]

theorem State.commitOn_kst (s : State) (r : EmberReq) (u : State) (p : Nat) : (s.commitOn r u p).kst = u.kst := by
  simp only [State.commitOn]
  split <;> rfl

theorem State.commitEmber_kst (s : State) (r : EmberReq) : (s.commitEmber r).kst = s.kst := by
  have habort : ((s.emberPorts r).foldl (fun u p => u.abortCovered r p) s).kst = s.kst :=
    foldl_keeps (F := State.kst) (fun u p => u.abortCovered_kst r p) s _
  have hcommit := foldl_keeps (F := State.kst) (s.commitOn_kst r)
    ((s.emberPorts r).foldl (fun u p => u.abortCovered r p) s) (s.emberPorts r)
  simp only [State.commitEmber]
  split
  · split <;> exact hcommit.trans habort
  · exact hcommit.trans habort

theorem State.drainEmber_kst (s : State) : s.drainEmber.kst = s.kst := by
  have hsettle (u : State) : u.klnSettle.kst = u.kst := by
    unfold State.klnSettle
    split <;> [rfl; (split <;> rfl)]
  simp only [State.drainEmber, hsettle]
  refine (foldl_keeps (F := State.kst) (fun u r => ?_) _ _).trans rfl
  split <;> [exact u.commitEmber_kst r; rfl]

theorem State.raiseEmber_kst (s : State) (r : EmberReq) : (s.raiseEmber r).kst = s.kst := State.drainEmber_kst _

/-! ### Destroyed slots -/

theorem State.slot_setSlot {s : State} (hwf : Sparse.wf ({} : Slot) s.kst.slots = true) (i : SlotIx) (v : Slot)
    (j : SlotIx) : (s.setSlot i v).slot j = if j = i then v else s.slot j := by
  by_cases hj : j = i
  · subst hj
    rw [if_pos rfl]
    exact Sparse.get_put hwf
  · rw [if_neg hj]
    exact Sparse.get_put_ne hwf fun he => hj (BitVec.eq_of_toNat_eq he)

/-- A slot zeroed holds no key. -/
theorem State.zeroSlot_keyless {s : State} (hwf : Sparse.wf ({} : Slot) s.kst.slots = true) (i : SlotIx) (g : Gen) :
    (s.zeroSlot i g).keyless i := by
  simp only [State.keyless, State.zeroSlot, State.slot_setSlot hwf, if_pos]
  split
  · exact ⟨rfl, rfl⟩
  · exact ⟨rfl, by simp [Slot.valid, bit, put]⟩

/-- The slots of `l` hold no key in `t`, and the others stand as in `s`. -/
structure State.Destroyed (s : State) (l : List SlotIx) (t : State) : Prop where
  wf : Sparse.wf ({} : Slot) t.kst.slots = true
  keyless : ∀ j ∈ l, t.keyless j
  same : ∀ j, j ∉ l → t.slot j = s.slot j

theorem State.keyless_of_slot {s t : State} {j : SlotIx} (h : t.slot j = s.slot j) (hs : s.keyless j) :
    t.keyless j := by
  rw [State.keyless, h]
  exact hs

theorem State.Destroyed.nil {s : State} (hwf : Sparse.wf ({} : Slot) s.kst.slots = true) : s.Destroyed [] s :=
  ⟨hwf, fun _ h => absurd h List.not_mem_nil, fun _ _ => rfl⟩

theorem State.Destroyed.append {s t u : State} {l m : List SlotIx} (h : s.Destroyed l t) (h' : t.Destroyed m u) :
    s.Destroyed (l ++ m) u := by
  refine ⟨h'.wf, fun j hj => ?_, fun j hj => ?_⟩
  · by_cases hm : j ∈ m
    · exact h'.keyless j hm
    · exact State.keyless_of_slot (h'.same j hm) (h.keyless j ((List.mem_append.1 hj).resolve_right hm))
  · rw [List.mem_append, not_or] at hj
    exact (h'.same j hj.2).trans (h.same j hj.1)

theorem State.destroySlot_destroyed {s : State} (hwf : Sparse.wf ({} : Slot) s.kst.slots = true) (i : SlotIx)
    (src : EmberSrc) : s.Destroyed [i] (s.destroySlot i src) := by
  have hkst : (s.destroySlot i src).kst = (s.zeroSlot i (s.slot i).gen).kst := by
    simp only [State.destroySlot]
    split <;> [exact State.raiseEmber_kst ..; rfl]
  have hslot (j : SlotIx) : (s.destroySlot i src).slot j = (s.zeroSlot i (s.slot i).gen).slot j := by
    simp only [State.slot, hkst]
  refine ⟨hkst ▸ Sparse.wf_put hwf, fun j hj => ?_, fun j hj => ?_⟩
  · cases List.mem_singleton.1 hj
    exact State.keyless_of_slot (hslot i) (State.zeroSlot_keyless hwf i _)
  · rw [List.mem_singleton] at hj
    rw [hslot, State.zeroSlot, State.slot_setSlot hwf, if_neg hj]

theorem State.destroySlots_destroyed {s : State} (hwf : Sparse.wf ({} : Slot) s.kst.slots = true) (l : List SlotIx)
    (src : EmberSrc) : s.Destroyed l (s.destroySlots l src) := by
  induction l generalizing s with
  | nil => exact .nil hwf
  | cons i l ih =>
    have hi := State.destroySlot_destroyed hwf i src
    exact hi.append (ih hi.wf)

/-! ### Slots of a lineage -/

theorem Sparse.mem_of_get_ne {α : Type} {d : α} {m : Sparse α} {k : Nat} (h : Sparse.get d m k ≠ d) :
    (k, Sparse.get d m k) ∈ m := by
  induction m with
  | nil => exact absurd rfl h
  | cons e m ih =>
    obtain ⟨j, v⟩ := e
    unfold Sparse.get at h ⊢
    split <;> rename_i hj
    · cases hj
      exact .head _
    · rw [if_neg hj] at h
      split <;> rename_i hk
      · exact absurd (if_pos hk) h
      · rw [if_neg hk] at h
        exact .tail _ (ih h)

theorem State.mem_lineageSlots {s : State} {i : Nat} {j : SlotIx} (hl : (s.slot j).lineage.toNat = i)
    (hv : (s.slot j).valid = true) : j ∈ s.lineageSlots i := by
  have hne : s.slot j ≠ {} := fun h => by rw [h] at hv; exact absurd hv (by decide)
  refine List.mem_map.2 ⟨_, List.mem_filter.2 ⟨Sparse.mem_of_get_ne hne, ?_⟩, BitVec.ofNat_toNat 14 j⟩
  have hlt : j.toNat < 0x4000 := j.isLt
  have hslot : Sparse.get {} s.kst.slots j.toNat = s.slot j := rfl
  simp only [hslot, hl, hv, hlt, decide_true, beq_self_eq_true, Bool.true_or, Bool.and_self]

/-! ### A record that fails -/

theorem State.destroyShares_destroyed {s : State} (hwf : Sparse.wf ({} : Slot) s.kst.slots = true) (r : KRecord)
    (src : EmberSrc) : s.Destroyed ((r.shares.filter s.ownShare).map fun h => h.slot) (s.destroyShares r src) :=
  State.destroySlots_destroyed hwf ..

/-- The shares of a record that still carry their GEN are destroyed with it. -/
theorem State.mem_ownShares {s : State} {r : KRecord} {h : Share} (hh : h ∈ r.shares)
    (hg : (s.slot h.slot).gen = h.gen) : h.slot ∈ (r.shares.filter s.ownShare).map fun h => h.slot :=
  List.mem_map.2 ⟨h, List.mem_filter.2 ⟨hh, by simp [State.ownShare, hg]⟩, rfl⟩

theorem State.get_setRecord_of_conf {s t : State} {i : Nat} {r : KRecord} (ht : t.conf = s.conf)
    (hwf : Sparse.wf (none : Option KRecord) s.kln.recs = true) :
    Sparse.get none (t.setRecord i (some r)).kln.recs i = some r := by
  simp only [State.setRecord, State.onKln, State.recs_of_conf ht]
  exact Sparse.get_put hwf

theorem State.failRecord_fails (s : State) (i : Nat) (r : KRecord) (src : EmberSrc)
    (hwf : Sparse.wf ({} : Slot) s.kst.slots = true) (hrecs : Sparse.wf (none : Option KRecord) s.kln.recs = true) :
    let t := s.failRecord i r src
    Sparse.get none t.kln.recs i = some { r with state := .failed } ∧ t.kln.intFailed = true ∧
      (∀ h ∈ r.shares, (s.slot h.slot).gen = h.gen → t.keyless h.slot) ∧
      (r.state = .formed → t.keyless r.joint ∧
        ∀ j : SlotIx, (s.slot j).lineage.toNat = i → (s.slot j).valid = true → t.keyless j) := by
  have hshares := State.destroyShares_destroyed hwf r src
  have hlineage := State.destroySlots_destroyed hshares.wf (r.joint :: (s.destroyShares r src).lineageSlots i) src
  have hconf := s.destroyShares_conf r src
  have hown {h : Share} (hh : h ∈ r.shares) (hg : (s.slot h.slot).gen = h.gen) := State.mem_ownShares hh hg
  have hconf' := (State.destroySlots_conf _ (r.joint :: (s.destroyShares r src).lineageSlots i) src).trans hconf
  simp only [State.failRecord]
  generalize s.destroyShares r src = u at *
  split <;> rename_i hstate
  · have hall := hshares.append hlineage
    generalize u.destroySlots _ src = v at *
    refine ⟨State.get_setRecord_of_conf hconf' hrecs, rfl,
      fun h hh hg => hall.keyless _ (List.mem_append_left _ (hown hh hg)),
      fun _ => ⟨hall.keyless _ (List.mem_append_right _ (.head _)), fun j hj hv => hall.keyless j ?_⟩⟩
    by_cases hmem : j ∈ (r.shares.filter s.ownShare).map fun h => h.slot
    · exact List.mem_append_left _ hmem
    · have hsame := hshares.same j hmem
      exact List.mem_append_right _ (.tail _ (State.mem_lineageSlots (hsame ▸ hj) (hsame ▸ hv)))
  · exact ⟨State.get_setRecord_of_conf hconf hrecs, rfl, fun h hh hg => hshares.keyless _ (hown hh hg),
      fun h => absurd h hstate⟩

end Sys2Proof.Machine
end

section
/-!
PROOFS. The formation of a confluence record (R302, R304): the reads of its shares, the joint key, and FAULTED.
-/
namespace Sys2Proof.Machine

/-! ### Attribute words -/

/-- The fields below GEN of a written slot are those of the attributes it is written with. -/
theorem getLsbD_attrWithGen (a : Word) (g : Gen) {k : Nat} (hk : k < 17) :
    (attrWithGen a g).getLsbD k = a.getLsbD k := by
  have hones : (ones 17 8).getLsbD k = false := by
    rw [ones, BitVec.getLsbD_shiftLeft]
    simp [hk]
  have hgen : (put g 17).getLsbD k = false := by simp [put, hk]
  rw [attrWithGen, BitVec.getLsbD_or, BitVec.getLsbD_and, BitVec.getLsbD_not, hones, hgen]
  simp [show k < 32 by omega]

theorem getLsbD_childAttr (a : Word) (root : RootKind) {k : Nat} (h1 : 1 ≤ k) (h2 : k ≤ 14) :
    (childAttr a root).getLsbD k = a.getLsbD k := by
  have hmask : (0x17FFE#32).getLsbD k = true := by
    interval_cases k <;> rfl
  have hroot : (putB (root == .test) 15).getLsbD k = false := by
    unfold putB
    split <;> [(interval_cases k <;> rfl); simp]
  simp [childAttr, hmask, hroot, show k ≠ 0 by omega]

theorem getLsbD_childAttr_zero (a : Word) (root : RootKind) : (childAttr a root).getLsbD 0 = true := by
  simp [childAttr]

/-- The attributes of a joint key: its usage, the record's partition and DERIVE_OK (R302). -/
theorem joint_attr (p : PartId) (root : RootKind) (g : Gen) (v : Slot)
    (hv : v.attr = attrWithGen (childAttr (attrOf usageJoint p (putB true 13)) root) g) :
    v.usage = usageJoint ∧ v.part = p ∧ v.deriveOk = true := by
  have hbit {k : Nat} (h1 : 1 ≤ k) (h2 : k ≤ 14) :
      v.attr.getLsbD k = (attrOf usageJoint p (putB true 13)).getLsbD k := by
    rw [hv, getLsbD_attrWithGen _ _ (by omega), getLsbD_childAttr _ _ h1 h2]
  refine ⟨?_, ?_, ?_⟩
  · refine BitVec.eq_of_getLsbD_eq fun k hk => ?_
    have h : v.usage.getLsbD k = v.attr.getLsbD (1 + k) := by simp [Slot.usage, fld, hk]
    rw [h, hbit (by omega) (by omega)]
    interval_cases k <;> simp [attrOf, put, putB, usageJoint]
  · refine BitVec.eq_of_getLsbD_eq fun k hk => ?_
    have h : v.part.getLsbD k = v.attr.getLsbD (5 + k) := by simp [Slot.part, fld, hk]
    rw [h, hbit (by omega) (by omega)]
    interval_cases k <;> simp [attrOf, put, putB, usageJoint]
  · rw [Slot.deriveOk, bit, hbit (by omega) (by omega)]
    simp [attrOf, put, putB, usageJoint]

/-! ### The reads of a formation -/

/-- The share slots of a record read (R304). -/
def State.readShares (s : State) (r : KRecord) : State :=
  (r.shares.filter s.ownShare).foldl (fun s h => s.readSlot h.slot) s

theorem State.readShares_conf (s : State) (r : KRecord) : (s.readShares r).conf = s.conf :=
  conf_foldl (fun s (h : Share) => s.readSlot_conf h.slot) s _

theorem State.readShares_readTo (s : State) (r : KRecord) : s.ReadTo (s.readShares r) := by
  have hreads (l : List Share) (u : State) : u.ReadTo (l.foldl (fun s h => s.readSlot h.slot) u) := by
    induction l generalizing u with
    | nil => exact .refl u
    | cons h l ih => exact (readSlot_readTo u h.slot).trans (ih _)
  exact hreads _ s

/-- A read of usable slots changes nothing. -/
theorem State.readShares_usable {s : State} {r : KRecord} (h : ∀ x ∈ r.shares, s.slotUnusable x.slot = false) :
    s.readShares r = s := by
  have hread {x : Share} (hx : s.slotUnusable x.slot = false) : s.readSlot x.slot = s := by
    obtain ⟨-, hsound⟩ := Bool.or_eq_false_iff.1 hx
    simp only [Bool.not_eq_false'] at hsound
    simp only [State.readSlot, hsound, Bool.or_true, if_true]
  have hreads (l : List Share) (hl : ∀ x ∈ l, s.slotUnusable x.slot = false) :
      l.foldl (fun s h => s.readSlot h.slot) s = s := by
    induction l with
    | nil => rfl
    | cons x l ih =>
      rw [List.foldl_cons, hread (hl x (.head _))]
      exact ih fun y hy => hl y (.tail _ hy)
  exact hreads _ fun x hx => h x (List.mem_filter.1 hx).1

/-! ### Formation -/

/-- What keeps a record from FORMED once its bits are set (R304). -/
def State.unsound (s : State) (r : KRecord) : Bool :=
  (r.shares.any (s.badShare r)) || (s.slot r.joint).valid || s.slotUnusable r.joint

theorem State.formRecord_of_unsound {s : State} {r : KRecord} (h : (s.readShares r).unsound r = true) (i : Nat)
    (src : EmberSrc) : s.formRecord i r src = (s.readShares r).faultRecord i r src := if_pos h

/-- The slot that holds the joint key of record `i` (R302). -/
def State.jointSlot (s : State) (i : Nat) (r : KRecord) : Slot :=
  let a := attrWithGen (childAttr (attrOf usageJoint r.part (putB true 13)) s.kln.root) ((s.slot r.joint).gen + 1)
  let key := keyOf (s.jointKey r)
  { key := key, attr := a, crc := slotCrc r.joint a key, lineage := BitVec.ofNat 7 i }

theorem State.jointSlot_attr (s : State) (i : Nat) (r : KRecord) : (s.jointSlot i r).usage = usageJoint ∧
    (s.jointSlot i r).part = r.part ∧ (s.jointSlot i r).deriveOk = true :=
  joint_attr r.part s.kln.root ((s.slot r.joint).gen + 1) _ rfl

theorem State.formRecord_of_sound {s : State} {r : KRecord} (h : (s.readShares r).unsound r = false) (i : Nat)
    (src : EmberSrc) : s.formRecord i r src =
      ((((s.readShares r).setSlot r.joint ((s.readShares r).jointSlot i r)).destroyShares r src).setRecord i
        (some { r with state := .formed })).onKln fun k => { k with intFormed := true } :=
  if_neg (ne_true_of_eq_false h)

/-- A joint slot that is VALID, or a share that is not there any more: the record is FAULTED (R304). -/
theorem State.formRecord_faults (s : State) (i : Nat) (r : KRecord) (src : EmberSrc)
    (hwf : Sparse.wf ({} : Slot) s.kst.slots = true) (hrecs : Sparse.wf (none : Option KRecord) s.kln.recs = true)
    (h : (s.slot r.joint).valid = true ∨
      ∃ x ∈ r.shares, (s.slot x.slot).valid = false ∨ (s.slot x.slot).gen ≠ x.gen) :
    let t := s.formRecord i r src
    Sparse.get none t.kln.recs i = some { r with state := .faulted } ∧ t.kln.intFailed = true ∧
      ∀ j : SlotIx, (t.slot j).key = (s.slot j).key ∨ t.keyless j := by
  have hread := s.readShares_readTo r
  have hconf := s.readShares_conf r
  have hsame (j : SlotIx) : ((s.readShares r).slot j).key = (s.slot j).key ∧
      ((s.readShares r).slot j).attr = (s.slot j).attr := by
    obtain ⟨hkey, hattr, -⟩ := hread.keys hwf j
    exact ⟨hkey, hattr⟩
  have hunsound : (s.readShares r).unsound r = true := by
    rcases h with hvalid | ⟨x, hx, hgone⟩
    · rw [Slot.valid, ← (hsame _).2] at hvalid
      rw [State.unsound, Slot.valid, hvalid, Bool.or_true, Bool.true_or]
    · have hbad : (s.readShares r).badShare r x = true := by
        rw [Slot.valid, Slot.gen, ← (hsame _).2] at hgone
        rcases hgone with hgone | hgone <;> simp [State.badShare, Slot.valid, Slot.gen, hgone]
      rw [State.unsound, List.any_eq_true.2 ⟨x, hx, hbad⟩, Bool.true_or, Bool.true_or]
  have hdestroyed := State.destroyShares_destroyed (hread.wf hwf) r src
  have hconf' := ((s.readShares r).destroyShares_conf r src).trans hconf
  simp only [State.formRecord_of_unsound hunsound, State.faultRecord]
  generalize (s.readShares r).destroyShares r src = u at *
  refine ⟨State.get_setRecord_of_conf hconf' hrecs, rfl, fun j => ?_⟩
  by_cases hj : j ∈ (r.shares.filter (s.readShares r).ownShare).map fun h => h.slot
  · exact .inr (hdestroyed.keyless j hj)
  · exact .inl ((congrArg Slot.key (hdestroyed.same j hj)).trans (hsame j).1)

/-- Sound shares and a free joint slot: the record is FORMED (R302). -/
theorem State.formRecord_forms (s : State) (i : Nat) (r : KRecord) (src : EmberSrc)
    (hwf : Sparse.wf ({} : Slot) s.kst.slots = true) (hrecs : Sparse.wf (none : Option KRecord) s.kln.recs = true)
    (hsound : ∀ h ∈ r.shares, s.slotUnusable h.slot = false ∧ (s.slot h.slot).valid = true ∧
      (s.slot h.slot).usage = usageShare ∧ (s.slot h.slot).part = r.part ∧ (s.slot h.slot).gen = h.gen ∧
      h.slot ≠ r.joint)
    (hfree : (s.slot r.joint).valid = false) (husable : s.slotUnusable r.joint = false) :
    let t := s.formRecord i r src
    Sparse.get none t.kln.recs i = some { r with state := .formed } ∧ t.kln.intFormed = true ∧
      (t.slot r.joint).key = keyOf (s.jointKey r) ∧ (t.slot r.joint).usage = usageJoint ∧
      (t.slot r.joint).part = r.part ∧ (t.slot r.joint).deriveOk = true ∧
      (t.slot r.joint).lineage = BitVec.ofNat 7 i ∧ ∀ h ∈ r.shares, t.keyless h.slot := by
  have hread : s.readShares r = s := State.readShares_usable fun x hx => (hsound x hx).1
  have hunsound : (s.readShares r).unsound r = false := by
    have hshares : r.shares.any (s.badShare r) = false := by
      rw [List.any_eq_false]
      intro x hx
      obtain ⟨h1, h2, h3, h4, h5, -⟩ := hsound x hx
      simp [State.badShare, h1, h2, h3, h4, h5]
    rw [hread, State.unsound, hshares, hfree, husable]
    rfl
  simp only [State.formRecord_of_sound hunsound, hread]
  have hput := State.slot_setSlot hwf r.joint (s.jointSlot i r)
  generalize hw : s.setSlot r.joint (s.jointSlot i r) = w at *
  have hwfw : Sparse.wf ({} : Slot) w.kst.slots = true := hw ▸ Sparse.wf_put hwf
  have hconf : w.conf = s.conf := by rw [← hw, State.setSlot_conf]
  have hdestroyed := State.destroyShares_destroyed hwfw r src
  have hconf' := (w.destroyShares_conf r src).trans hconf
  have hown {x : Share} (hx : x ∈ r.shares) : x.slot ∈ (r.shares.filter w.ownShare).map fun h => h.slot := by
    obtain ⟨-, -, -, -, hgen, hne⟩ := hsound x hx
    exact State.mem_ownShares hx (by rw [hput, if_neg hne, hgen])
  have hjoint : r.joint ∉ (r.shares.filter w.ownShare).map fun h => h.slot := by
    intro hmem
    obtain ⟨x, hx, heq⟩ := List.mem_map.1 hmem
    obtain ⟨-, -, -, -, -, hne⟩ := hsound x (List.mem_filter.1 hx).1
    exact hne heq
  have hslot := (hdestroyed.same _ hjoint).trans ((hput r.joint).trans (if_pos rfl))
  obtain ⟨husage, hpart, hderive⟩ := s.jointSlot_attr i r
  generalize w.destroyShares r src = u at *
  have hkey : (u.slot r.joint).key = keyOf (s.jointKey r) := (congrArg Slot.key hslot).trans rfl
  have hline : (u.slot r.joint).lineage = BitVec.ofNat 7 i := (congrArg Slot.lineage hslot).trans rfl
  rw [← hslot] at husage hpart hderive
  refine ⟨State.get_setRecord_of_conf hconf' hrecs, rfl, hkey, husage, hpart, hderive, hline,
    fun x hx => hdestroyed.keyless _ (hown hx)⟩

end Sys2Proof.Machine
end

section
/-!
PROOFS. FORM_ROOT, JOB_CREATE, SALT_LOAD (R273, R298, R310) and the Kiln's events (R301).
-/
namespace Sys2Proof.Machine

/-! ### Commands that nothing refuses -/

theorem State.klnTakes.accepted {s u : State} {w : Word} (h : s.klnTakes u w) {refusals : State → List (Bool × Code)}
    (hall : ∀ x ∈ refusals u, x.1 = false) (f : State → State) : u.klnCommand w refusals f = f u := by
  obtain ⟨hh, hb⟩ := h.free
  obtain ⟨-, -, -, -, -, -, -, hrsv⟩ := h
  have hnone : lowest ((rsvSet .klnCmd w, Code.deniedAttr) :: refusals u) = none := by
    rw [lowest_eq_none, List.forall_mem_cons]
    exact ⟨hrsv, hall⟩
  simp only [State.klnCommand, hh, hb, hnone, Bool.false_eq_true, if_false]

theorem State.klnTakes.waits {s u : State} {w : Word} (h : s.klnTakes u w) : u.klnWaits = false :=
  (Bool.or_eq_false_iff.1 h.free.2).2

theorem State.klnDone_of_waits {s : State} (h : s.klnWaits = false) (c : Code) :
    (s.klnDone c).kln.code = c ∧ (s.klnDone c).sme = s.sme := by
  rw [State.klnDone, if_neg (ne_true_of_eq_false h)]
  exact ⟨rfl, rfl⟩

/-- FORM_ROOT of a boot that has not reached stage 5 (R273). -/
theorem execFormRoot_accepted {s u : State} {w : Word} (h : s.klnTakes u w) (hformed : u.kln.formed = false)
    (hstage : u.boot.stage < 5) : exec (.formRoot w) s = .next u.formRoot := by
  have hrun : u.doFormRoot w = u.formRoot :=
    h.accepted (refusals := fun s => [(s.kln.formed || 5 ≤ s.boot.stage, .deniedAttr)])
      (by simp [hformed, hstage]) State.formRoot
  exact (ranKln_of_takes h 1 .none).trans (congrArg _ hrun)

theorem State.formRoot_rootless {u : State} (hroot : u.rootSelect = .none) : u.formRoot =
    (u.onKln fun n => { n with formed := true, root := .none, rootKey := [] }).klnDone .done := by
  simp only [State.formRoot, hroot, if_true]

/-- A slot written with VALID set, in any table. -/
theorem State.slot_writeSlot (s : State) (i : SlotIx) (key : BitVec 256) {attr : Word} (lineage : BitVec 7)
    (hattr : attr.getLsbD 0 = true) (j : SlotIx) : ((s.writeSlot i key attr lineage).slot j).key =
      if j = i then key else (s.slot j).key := by
  have hvalid : (attrWithGen attr ((s.slot i).gen + 1)).getLsbD 0 = true := by
    rw [getLsbD_attrWithGen _ _ (by omega), hattr]
  have hne (crc : Word) : (⟨key, attrWithGen attr ((s.slot i).gen + 1), crc, false, false, lineage⟩ : Slot) ≠ {} := by
    intro h
    rw [(Slot.mk.inj h).2.1] at hvalid
    exact absurd hvalid (by decide)
  have hget := Sparse.get_put_of_ne (m := s.kst.slots) (k := i.toNat) (i := j.toNat) 
    (hne (slotCrc i (attrWithGen attr ((s.slot i).gen + 1)) key))
  refine (congrArg Slot.key hget).trans ?_
  simp only [apply_ite Slot.key, BitVec.toNat_inj]
  rfl

/-- Slots 0 and 1 derived from the selected root (R273). -/
theorem State.formRoot_root {u : State} (hroot : u.rootSelect ≠ .none) : u.formRoot.kln.formed = true ∧
    u.formRoot.kln.forming = some (u.rootSelect, u.rootOf u.rootSelect) ∧
    (u.formRoot.slot 0).key =
      keyOf (kdf (u.rootOf u.rootSelect) "DEVID" (leBytes 4 (seedAttr u.rootSelect).toNat)) := by
  have hvalid := getLsbD_childAttr_zero (attrOf usageSeed 0 0) u.rootSelect
  simp only [State.formRoot, if_neg hroot]
  refine ⟨rfl, rfl, ?_⟩
  refine (State.slot_writeSlot _ 1 _ 0x7F hvalid 0).trans ((if_neg (by decide)).trans ?_)
  exact (State.slot_writeSlot _ 0 _ 0x7F hvalid 0).trans (if_pos rfl)

theorem execJobCreate_accepted {s u : State} {w : Word} {i : Nat} (h : s.klnTakes u w)
    (hnone : lowest u.jobRefusals = none) (hi : u.freeRecord = some i) :
    exec (.jobCreate w) s = .next ((u.setRecord i (some
      { part := u.klnPart, pgen := u.partGen u.klnPart, job := u.klnJob, mask := fld (u.reg .klnOpMask) 0 16,
        bind := u.regBytes .klnCtx 0 16, joint := u.klnSlot,
        streams := u.jobList.map fun e => { sid := BitVec.ofNat 12 e } })).klnDone .done) := by
  have hrun := h.accepted (refusals := State.jobRefusals) (lowest_eq_none.1 hnone) State.jobCreate
  refine (ranKln_of_takes h 9 .none).trans (congrArg _ (hrun.trans ?_))
  simp only [State.jobCreate, hi, Option.getD_some]

theorem execSaltLoad_accepted {s u : State} {w : Word} (h : s.klnTakes u w) (hd3 : u.d3Serves = true)
    (hd4 : u.up .d4 = true) (hroot : u.rootless = false) (hpart : u.partDefined u.klnPart = true) :
    ∃ t, exec (.saltLoad w) s = .next t ∧ t.kln.code = .done ∧
      t.sme.salts = Sparse.put none u.sme.salts u.klnPart.toNat (some (kdf u.kln.rootKey "SALT"
        (leBytes 1 u.klnPart.toNat ++ leBytes 1 (u.partGen u.klnPart).toNat ++ u.kln.nonce))) := by
  have hrun : u.doSaltLoad w = _ := h.accepted (refusals := fun s =>
    [(!s.d3Serves || !s.up .d4, .busy), (s.rootless, .deniedLc), (!s.partDefined s.klnPart, .deniedAttr)])
    (by simp [hd3, hd4, hroot, hpart]) _
  refine ⟨_, (ranKln_of_takes h 11 .none).trans (congrArg _ hrun), ?_⟩
  have hdone (x : Sme) := State.klnDone_of_waits (s := { u with sme := x }) h.waits .done
  exact ⟨(hdone _).1, congrArg Sme.salts (hdone _).2⟩

/-! ### Events -/

theorem KRecord.complete_of_full {r : KRecord} (hstate : r.state = .collecting) (h : r.full) : r.complete = true := by
  obtain ⟨hstreams, howners⟩ := h
  simp only [KRecord.complete, hstate, beq_self_eq_true, Bool.true_and, Bool.and_eq_true, List.all_eq_true,
    List.mem_range, Bool.or_eq_true, Bool.not_eq_true', List.any_eq_true, beq_iff_eq]
  exact ⟨hstreams, fun o ho => (Bool.eq_false_or_eq_true _).symm.imp_right (howners o ho)⟩

theorem KRecord.not_complete {r : KRecord} (h : ¬ r.full) : r.complete = false :=
  Bool.eq_false_iff.2 fun hc => h (KRecord.full_of_complete hc).2

theorem State.updateRecord_of_not_full {s : State} {i : Nat} {r : KRecord} (h : ¬ r.full) (src : EmberSrc) :
    s.updateRecord i r src = s.setRecord i (some r) :=
  if_neg (ne_true_of_eq_false (KRecord.not_complete h))

theorem State.updateRecord_of_full {s : State} {i : Nat} {r : KRecord} (hstate : r.state = .collecting) (h : r.full)
    (src : EmberSrc) : s.updateRecord i r src = (s.setRecord i (some r)).formRecord i r src :=
  if_pos (KRecord.complete_of_full hstate h)

/-- A required stream whose EQUAL is clear keeps its record from being full. -/
theorem KRecord.not_full_putStream {r : KRecord} {x y : ReqStream} (hx : x ∈ r.streams) (hsid : y.sid = x.sid)
    (hy : y.equal = false) : ¬ (r.putStream y).full := by
  rintro ⟨hstreams, -⟩
  have hmem : y ∈ (r.putStream y).streams := List.mem_map.2 ⟨x, hx, if_pos (by rw [hsid, beq_self_eq_true])⟩
  exact Bool.false_ne_true (hy.symm.trans (hstreams y hmem))

section
variable {s : State} {e : SmeEvent} {l : List SmeEvent} (hq : s.kln.queue = e :: l) (hh : s.kln.halted = false)
  (hheld : s.klnHeld = false)
include hq hh hheld

theorem execKlnEventApply_applies : exec .klnEventApply s = .next s.quiet.applyEvent := by
  have hdue : (!s.kln.queue.isEmpty && !s.kln.halted && !s.klnHeld) = true := by
    rw [hq, hh, hheld]
    rfl
  exact ranIf_due (f := State.applyEvent) hdue

/-- An event that names no record. -/
theorem execKlnEventApply_noRecord (hrec : s.record e.part.toNat e.job = none) :
    exec .klnEventApply s = .next (s.quiet.onKln fun k => { k with queue := l }).dropEvent := by
  have hqueue : s.quiet.kln.queue = e :: l := hq
  have hnone : (s.quiet.onKln fun k => { k with queue := l }).record e.part.toNat e.job = none := hrec
  rw [execKlnEventApply_applies hq hh hheld]
  simp only [State.applyEvent, hqueue, hnone]

variable {i : Nat} {r : KRecord} (hrec : s.record e.part.toNat e.job = some (i, r))
include hrec

/-- An event that names no required stream of its record. -/
theorem execKlnEventApply_noStream (hx : ∀ x ∈ r.streams, x.sid ≠ e.sid) :
    exec .klnEventApply s = .next (s.quiet.onKln fun k => { k with queue := l }).dropEvent := by
  have hqueue : s.quiet.kln.queue = e :: l := hq
  have hsome : (s.quiet.onKln fun k => { k with queue := l }).record e.part.toNat e.job = some (i, r) := hrec
  have hnone : (r.streams.find? fun t => t.sid == e.sid) = none := by simpa [List.find?_eq_none] using hx
  rw [execKlnEventApply_applies hq hh hheld]
  simp only [State.applyEvent, hqueue, hsome, hnone]

/-- An event of a required stream. -/
theorem execKlnEventApply_stream {x : ReqStream} (hx : (r.streams.find? fun t => t.sid == e.sid) = some x) :
    exec .klnEventApply s = .next ((s.quiet.onKln fun k => { k with queue := l }).applyTo e i r x) := by
  have hqueue : s.quiet.kln.queue = e :: l := hq
  have hsome : (s.quiet.onKln fun k => { k with queue := l }).record e.part.toNat e.job = some (i, r) := hrec
  rw [execKlnEventApply_applies hq hh hheld]
  simp only [State.applyEvent, hqueue, hsome, hx]

end

section
variable {u : State} {e : SmeEvent} {i : Nat} {r : KRecord} {x : ReqStream}

theorem State.applyTo_bind (hx : x ∈ r.streams) (hstate : r.state = .collecting) (hkind : e.kind = .bind) :
    u.applyTo e i r x =
      u.setRecord i (some (r.putStream { x with bound := some (e.gen, e.entry), equal := false })) := by
  simp only [State.applyTo, hstate, hkind]
  exact State.updateRecord_of_not_full
    (KRecord.not_full_putStream (y := { x with bound := some (e.gen, e.entry), equal := false }) hx rfl rfl) _

theorem State.applyTo_token (hstate : r.state = .collecting) (hkind : e.kind = .token)
    (hcur : (x.bound.map fun b => b.1) = some e.gen) :
    u.applyTo e i r x = u.updateRecord i (r.putStream { x with equal := true }) .kilnEvt := by
  simp only [State.applyTo, hstate, hkind, hcur, beq_self_eq_true, if_true]

theorem State.applyTo_token_of_not_full (hstate : r.state = .collecting) (hkind : e.kind = .token)
    (hcur : (x.bound.map fun b => b.1) = some e.gen) (hfull : ¬ (r.putStream { x with equal := true }).full) :
    u.applyTo e i r x = u.setRecord i (some (r.putStream { x with equal := true })) :=
  (State.applyTo_token hstate hkind hcur).trans (State.updateRecord_of_not_full hfull _)

theorem State.applyTo_token_of_full (hstate : r.state = .collecting) (hkind : e.kind = .token)
    (hcur : (x.bound.map fun b => b.1) = some e.gen) (hfull : (r.putStream { x with equal := true }).full) :
    u.applyTo e i r x = (u.setRecord i (some (r.putStream { x with equal := true }))).formRecord i
      (r.putStream { x with equal := true }) .kilnEvt :=
  (State.applyTo_token hstate hkind hcur).trans
    (State.updateRecord_of_full (r := r.putStream { x with equal := true }) hstate hfull _)

theorem State.applyTo_fail (hstate : r.state = .collecting) (hkind : e.kind = .fail)
    (hcur : (x.bound.map fun b => b.1) = some e.gen) : u.applyTo e i r x = u.failRecord i r .kilnEvt := by
  simp only [State.applyTo, hstate, hkind, hcur, beq_self_eq_true, if_true]

theorem State.applyTo_old (hstate : r.state = .collecting) (hkind : e.kind ≠ .bind)
    (hcur : ¬ (x.bound.map fun b => b.1) = some e.gen) : u.applyTo e i r x = u.dropEvent := by
  have hold : ((x.bound.map fun b => b.1) == some e.gen) = false := beq_eq_false_iff_ne.2 hcur
  cases hk : e.kind with
  | bind => exact absurd hk hkind
  | token | fail => simp only [State.applyTo, hstate, hk, hold, Bool.false_eq_true, if_false]

theorem State.applyTo_formed (hstate : r.state = .formed) (hkind : e.kind ≠ .token) :
    u.applyTo e i r x = u.failRecord i r .kilnEvt := by
  cases hk : e.kind with
  | token => exact absurd hk hkind
  | bind | fail => simp only [State.applyTo, hstate, hk]

theorem State.applyTo_drop (h : r.state = .formed ∧ e.kind = .token ∨ r.state = .failed ∨ r.state = .faulted) :
    u.applyTo e i r x = u.dropEvent := by
  rcases h with ⟨hstate, hkind⟩ | hstate | hstate
  · simp only [State.applyTo, hstate, hkind]
  · simp only [State.applyTo, hstate]
  · simp only [State.applyTo, hstate]

end

/-! ### The statement -/

/-- Settles O21: the commands that nothing refuses, an event case by case, and the end of a record either way. -/
theorem kilnRecordsAndSaltsAreMade : Obligations.KilnRecordsAndSaltsAreMade := by
  unfold Obligations.KilnRecordsAndSaltsAreMade
  refine ⟨⟨fun w s u h hf hs hroot => ?_, fun w s u h hf hs hroot => ?_,
    fun w s u i h hn hi => execJobCreate_accepted h hn hi,
    fun w s u h hd3 hd4 hroot hpart => execSaltLoad_accepted h hd3 hd4 hroot hpart⟩,
    fun s e l hq hh hheld => ⟨execKlnEventApply_noRecord hq hh hheld, fun i r hrec =>
      ⟨execKlnEventApply_noStream hq hh hheld hrec, fun x hx => ?_⟩⟩,
    fun s i r src hwf hrecs => s.failRecord_fails i r src hwf hrecs, fun s i r src hwf hrecs =>
      ⟨fun ⟨hsound, hfree, husable⟩ => s.formRecord_forms i r src hwf hrecs hsound hfree husable,
        s.formRecord_faults i r src hwf hrecs⟩⟩
  · rw [execFormRoot_accepted h hf hs, State.formRoot_rootless hroot]
  · exact ⟨_, execFormRoot_accepted h hf hs, State.formRoot_root hroot⟩
  · have hmem := List.mem_of_find?_eq_some hx
    rw [execKlnEventApply_stream hq hh hheld hrec hx]
    exact ⟨fun hstate hkind => congrArg _ (State.applyTo_bind hmem hstate hkind),
      fun hstate hkind hcur hfull => congrArg _ (State.applyTo_token_of_not_full hstate hkind hcur hfull),
      fun hstate hkind hcur hfull => congrArg _ (State.applyTo_token_of_full hstate hkind hcur hfull),
      fun hstate hkind hcur => congrArg _ (State.applyTo_old hstate hkind hcur),
      fun hstate hkind hcur => congrArg _ (State.applyTo_fail hstate hkind hcur),
      fun hstate hkind => congrArg _ (State.applyTo_formed hstate hkind), fun h => congrArg _ (State.applyTo_drop h)⟩

end Sys2Proof.Machine
end

section
/-!
PROOFS. What leaves the bits of the debug gate, the domains that are released and the episode as they are: one
equation for each operation of the model, for `simp` (R91 to R99, R161 to R163).
-/
namespace Sys2Proof.Machine

/-- DEBUG_OPEN and CONF_CLOSED, the internal domains that are released, and the episode. -/
def State.still (s : State) : Bool × Bool × BitVec 6 × Option Episode :=
  (s.lcs.debugOpen, s.lcs.confClosed, s.crs.released, s.crs.ep)

@[simp] theorem still_eta (s : State) :
    (s.lcs.debugOpen, s.lcs.confClosed, s.crs.released, s.crs.ep) = s.still := rfl

@[simp] theorem still_mk (crs : Crs) (lcs : Lcs) (otp kfb cnt kst kln peat prt fnc fncCore sme mrs dge cmp pke att boot
    mbx wcp cwy trng top plic fw upd mp icp tap ast cntAstdrop regs psram csram nvm outs trngDrawn nvmTears pending) :
    State.still ⟨crs, otp, lcs, kfb, cnt, kst, kln, peat, prt, fnc, fncCore, sme, mrs, dge, cmp, pke, att, boot, mbx,
      wcp, cwy, trng, top, plic, fw, upd, mp, icp, tap, ast, cntAstdrop, regs, psram, csram, nvm, outs, trngDrawn,
      nvmTears, pending⟩ = (lcs.debugOpen, lcs.confClosed, crs.released, crs.ep) := rfl

@[simp] theorem still_ite (c : Prop) [Decidable c] (s t : State) :
    (if c then s else t).still = if c then s.still else t.still := apply_ite State.still c s t

@[simp] theorem still_foldl {α : Type} {f : State → α → State} (h : ∀ s a, (f s a).still = s.still)
    (s : State) (l : List α) : (l.foldl f s).still = s.still := by
  induction l generalizing s with
  | nil => rfl
  | cons a l ih => exact (ih _).trans (h s a)

/-- Either branch of an optional value. -/
theorem still_elim {α : Type} {s t : State} {f : α → State} (hs : s.still = t.still)
    (hf : ∀ a, (f a).still = t.still) (o : Option α) : (o.elim s f).still = t.still := by
  cases o <;> [exact hs; exact hf _]

/-! ### The operations that every unit shares -/

@[simp] theorem State.emit_still (s : State) (o : Out) : (s.emit o).still = s.still := rfl

@[simp] theorem State.onCrs_still (s : State) (f : Crs → Crs) :
    (s.onCrs f).still = (s.lcs.debugOpen, s.lcs.confClosed, (f s.crs).released, (f s.crs).ep) := rfl

@[simp] theorem State.onOtp_still (s : State) (f : Otp → Otp) : (s.onOtp f).still = s.still := rfl

@[simp] theorem State.onLcs_still (s : State) (f : Lcs → Lcs) :
    (s.onLcs f).still = ((f s.lcs).debugOpen, (f s.lcs).confClosed, s.crs.released, s.crs.ep) := rfl

@[simp] theorem State.onKfb_still (s : State) (f : Kfb → Kfb) : (s.onKfb f).still = s.still := rfl

@[simp] theorem State.onCnt_still (s : State) (f : Cnt → Cnt) : (s.onCnt f).still = s.still := rfl

@[simp] theorem State.onKln_still (s : State) (f : Kln → Kln) : (s.onKln f).still = s.still := rfl

@[simp] theorem State.onKst_still (s : State) (f : Kst → Kst) : (s.onKst f).still = s.still := rfl

@[simp] theorem State.onFw_still (s : State) (f : Fw → Fw) : (s.onFw f).still = s.still := rfl

@[simp] theorem State.onPeat_still (s : State) (f : Peat → Peat) : (s.onPeat f).still = s.still := rfl

@[simp] theorem State.nvmDrive_still (s : State) (op : NvmBus) : (s.nvmDrive op).still = s.still := rfl

@[simp] theorem State.nvmFetch_still (s : State) (a n : Nat) : (s.nvmFetch a n).still = s.still := rfl

@[simp] theorem State.nvmPut_still (s : State) (a : Nat) (bs : Bytes) :
    (s.nvmPut a bs).still = s.still := rfl

@[simp] theorem State.setReg_still (s : State) (r : Reg) (v : Word) (b : Nat) (k : Nat) :
    (s.setReg r v b k).still = s.still := rfl

@[simp] theorem State.clearReg_still (s : State) (r : Reg) (b : Nat) :
    (s.clearReg r b).still = s.still := rfl

@[simp] theorem State.health_still (s : State) (unit : Nat) (code : Code) (part : Option PartId) :
    (s.health unit code part).still = s.still := rfl

@[simp] theorem State.drew_still (s : State) (n : Nat) : (s.drew n).still = s.still := rfl

@[simp] theorem State.psramPut_still (s : State) (a : Nat) (bs : Bytes) :
    (s.psramPut a bs).still = s.still := rfl

@[simp] theorem State.csramPut_still (s : State) (a : Nat) (bs : Bytes) :
    (s.csramPut a bs).still = s.still := rfl

@[simp] theorem State.mpIssue_still (s : State) (write : Bool) (addr beats : Nat) (part : PartId) (ctx : EndpointId)
    (data : Bytes) (owner : MpOwner) :
    (s.mpIssue write addr beats part ctx data owner).still = s.still := rfl

/-! ### The fence -/

@[simp] theorem State.onFnc_still (s : State) (f : Fnc → Fnc) : (s.onFnc f).still = s.still := rfl

@[simp] theorem State.avsSend_still (s : State) (op : AvsOp) : (s.avsSend op).still = s.still := by simp [State.avsSend]

@[simp] theorem State.movePoint_still (s : State) (v d : Nat) :
    (s.movePoint v d).still = s.still := by simp [State.movePoint]

@[simp] theorem State.boostOff_still (s : State) : s.boostOff.still = s.still := rfl

@[simp] theorem State.takePoint_still (s : State) : s.takePoint.still = s.still := by simp [State.takePoint]

@[simp] theorem State.countFall_still (s : State) (d : Nat) : (s.countFall d).still = s.still := rfl

@[simp] theorem State.avsFails_still (s : State) : s.avsFails.still = s.still := by simp [State.avsFails]

@[simp] theorem State.fenceStart_still (s : State) : s.fenceStart.still = s.still := by simp [State.fenceStart]

@[simp] theorem State.fenceCommit_still (s : State) : s.fenceCommit.still = s.still := by simp [State.fenceCommit]

@[simp] theorem State.sensorReads_still (s : State) (a : BitVec 8) (v : Option (BitVec 16)) :
    (s.sensorReads a v).still = s.still := rfl

@[simp] theorem State.avsNext_still (s : State) : s.avsNext.still = s.still := by
  simp only [State.avsNext]
  split <;> simp

@[simp] theorem State.avsBar_still (s : State) : s.avsBar.still = s.still := rfl

@[simp] theorem State.avsAlerted_still (s : State) (alert : Bool) :
    (s.avsAlerted alert).still = s.still := by simp [State.avsAlerted]

@[simp] theorem State.scanEnd_still (s : State) : s.scanEnd.still = s.still := by simp [State.scanEnd]

@[simp] theorem State.dimEnd_still (s : State) (why : Nat) : (s.dimEnd why).still = s.still := by
  simp only [State.dimEnd]
  split <;> simp

@[simp] theorem State.refuseD3_still (s : State) : s.refuseD3.still = s.still := by simp [State.refuseD3]

/-! ### Key slots -/

@[simp] theorem State.setSlot_still (s : State) (i : SlotIx) (v : Slot) :
    (s.setSlot i v).still = s.still := rfl

@[simp] theorem State.readSlot_still (s : State) (i : SlotIx) : (s.readSlot i).still = s.still := by
  simp [State.readSlot]

@[simp] theorem State.slotErr_still (s : State) (i : SlotIx) (e : MemErr) :
    (s.slotErr i e).still = s.still := by
  simp only [State.slotErr]
  split <;> simp

@[simp] theorem State.fetchSlot_still (s : State) (i : SlotIx) (e : MemErr) :
    (s.fetchSlot i e).still = s.still := by simp [State.fetchSlot]

@[simp] theorem State.writeSlot_still (s : State) (i : SlotIx) (key : BitVec 256) (attr : Word) (lineage : BitVec 7) :
    (s.writeSlot i key attr lineage).still = s.still := rfl

@[simp] theorem State.zeroSlot_still (s : State) (i : SlotIx) (g : Gen) :
    (s.zeroSlot i g).still = s.still := rfl

/-! ### The key fabric -/

@[simp] theorem State.setEndpoint_still (s : State) (e : EndpointId) (v : Endpoint) :
    (s.setEndpoint e v).still = s.still := rfl

@[simp] theorem State.onPort_still (s : State) (p : Nat) (f : KfPort → KfPort) :
    (s.onPort p f).still = s.still := rfl

@[simp] theorem State.faultPort_still (s : State) (p : Nat) : (s.faultPort p).still = s.still := rfl

@[simp] theorem State.endTicket_still (s : State) (t : Nat) (c : Code) :
    (s.endTicket t c).still = s.still := rfl

@[simp] theorem State.settle_still (s : State) (t n : Nat) (c : Code) :
    (s.settle t n c).still = s.still := by
  simp only [State.settle]
  split <;> simp

@[simp] theorem State.abortCovered_still (s : State) (r : EmberReq) (p : Nat) :
    (s.abortCovered r p).still = s.still := by
  refine still_foldl (fun s m => ?_) s _
  split <;> simp

@[simp] theorem State.commitEmber_still (s : State) (r : EmberReq) :
    (s.commitEmber r).still = s.still := by
  simp only [State.commitEmber]
  repeat' split
  all_goals simp

@[simp] theorem State.klnComplete_still (s : State) (c : Code) : (s.klnComplete c).still = s.still := rfl

@[simp] theorem State.klnSettle_still (s : State) : s.klnSettle.still = s.still := by
  simp only [State.klnSettle]
  split <;> simp

@[simp] theorem State.drainEmber_still (s : State) : s.drainEmber.still = s.still := by simp [State.drainEmber]

@[simp] theorem State.raiseEmber_still (s : State) (r : EmberReq) :
    (s.raiseEmber r).still = s.still := by simp [State.raiseEmber]

@[simp] theorem State.portFails_still (s : State) (p : Nat) : (s.portFails p).still = s.still := by
  simp [State.portFails]

@[simp] theorem State.sendEmber_still (s : State) (p : Nat) : (s.sendEmber p).still = s.still := by
  simp only [State.sendEmber]
  split <;> simp

@[simp] theorem State.sendClass_still (s : State) (p c : Nat) : (s.sendClass p c).still = s.still := by
  simp only [State.sendClass]
  split <;> simp

@[simp] theorem State.sendBeat_still (s : State) (p : Nat) : (s.sendBeat p).still = s.still := by
  simp only [State.sendBeat]
  split <;> simp

@[simp] theorem State.ackRevoke_still (s : State) (p id age : Nat) :
    (s.ackRevoke p id age).still = s.still := by
  simp only [State.ackRevoke]
  repeat' split
  all_goals simp

@[simp] theorem State.eackPulse_still (s : State) (p age : Nat) :
    (s.eackPulse p age).still = s.still := by
  simp only [State.eackPulse]
  repeat' split
  all_goals simp

@[simp] theorem State.countUpdrop_still (s : State) : s.countUpdrop.still = s.still := rfl

@[simp] theorem State.ackBeat_still (s : State) (beat : BitVec 64) (c : Code) :
    (s.ackBeat beat c).still = s.still := by
  simp only [State.ackBeat]
  split <;> simp

@[simp] theorem State.queueCntReq_still (s : State) (p : Nat) (beat : BitVec 64) :
    (s.queueCntReq p beat).still = s.still := by simp [State.queueCntReq]

@[simp] theorem State.queueNextReq_still (s : State) (beat : BitVec 64) :
    (s.queueNextReq beat).still = s.still := by simp [State.queueNextReq]

@[simp] theorem State.faultBeat_still (s : State) (beat : BitVec 64) :
    (s.faultBeat beat).still = s.still := rfl

@[simp] theorem State.upBeat_still (s : State) (p : Nat) (beat : BitVec 64) :
    (s.upBeat p beat).still = s.still := by
  unfold State.upBeat
  split
  · exact still_elim (by simp) (fun c => by simp) _
  all_goals simp

@[simp] theorem State.upstream_still (s : State) (p : Nat) (beat : BitVec 64) (corrected : Bool) :
    (s.upstream p beat corrected).still = s.still := by simp [State.upstream]

@[simp] theorem State.kfbRefuse_still (s : State) (c : Code) : (s.kfbRefuse c).still = s.still := rfl

@[simp] theorem State.kfbAccept_still (s : State) (wait : Nat) : (s.kfbAccept wait).still = s.still := rfl

@[simp] theorem State.kfbCommand_still (s : State) {f : State → State} (h : ∀ s, (f s).still = s.still) (w : Word)
    (refusals : List (Bool × Code)) : (s.kfbCommand w refusals f).still = s.still := by
  unfold State.kfbCommand
  split <;> simp [h]

@[simp] theorem State.queueMsg_still (s : State) (m : KfMsg) : (s.queueMsg m).still = s.still := by
  simp only [State.queueMsg, State.onKfb_still]
  exact still_foldl (by intros; rfl) _ _

@[simp] theorem State.putKgen_still (s : State) (g : Gen) : (s.putKgen g).still = s.still := by simp [State.putKgen]

@[simp] theorem State.loadAccepted_still (s : State) : s.loadAccepted.still = s.still := by simp [State.loadAccepted]

@[simp] theorem State.doLoad_still (s : State) (w : Word) (e : MemErr) :
    (s.doLoad w e).still = s.still := by
  simp only [State.doLoad, still_ite, State.onKst_still, State.kfbCommand_still _ State.loadAccepted_still,
    State.fetchSlot_still, ite_self]

@[simp] theorem State.rotateAccepted_still (s : State) : s.rotateAccepted.still = s.still := by
  simp [State.rotateAccepted]

@[simp] theorem State.emberAccepted_still (s : State) (r : EmberReq) :
    (s.emberAccepted r).still = s.still := by simp [State.emberAccepted]

@[simp] theorem State.bindAccepted_still (s : State) : s.bindAccepted.still = s.still := by simp [State.bindAccepted]

@[simp] theorem State.abandonOwed_still (s : State) (e : EndpointId) :
    (s.abandonOwed e).still = s.still := by simp [State.abandonOwed]

@[simp] theorem State.unbind_still (s : State) (e : EndpointId) : (s.unbind e).still = s.still := by simp [State.unbind]

@[simp] theorem State.releaseAccepted_still (s : State) :
    s.releaseAccepted.still = s.still := by simp [State.releaseAccepted]

@[simp] theorem State.kfbUp_still (s : State) : s.kfbUp.still = s.still := by simp [State.kfbUp]

/-! ### Counter cells -/

@[simp] theorem State.setCell_still (s : State) (c : CellId) (v : CtrCell) :
    (s.setCell c v).still = s.still := rfl

@[simp] theorem State.queueExh_still (s : State) (c : CellId) : (s.queueExh c).still = s.still := by
  simp [State.queueExh]

@[simp] theorem State.exhaust_still (s : State) (c : CellId) : (s.exhaust c).still = s.still := by simp [State.exhaust]

@[simp] theorem State.faultCell_still (s : State) (c : CellId) (residue : Bool) :
    (s.faultCell c residue).still = s.still := by simp [State.faultCell]

@[simp] theorem State.cellCorrected_still (s : State) (err : CellErr) :
    (s.cellCorrected err).still = s.still := by simp [State.cellCorrected]

@[simp] theorem State.grantMade_still (s : State) (r : CntReq) :
    (s.grantMade r).still = s.still := by simp [State.grantMade]

@[simp] theorem State.grantRefused_still (s : State) (r : CntReq) (err : CellErr) (c : Code) :
    (s.grantRefused r err c).still = s.still := by simp [State.grantRefused]

@[simp] theorem State.grantOp_still (s : State) (r : CntReq) (err : CellErr) :
    (s.grantOp r err).still = s.still := by
  simp only [State.grantOp]
  split <;> simp

@[simp] theorem State.cntEnd_still (s : State) (c : Code) : (s.cntEnd c).still = s.still := rfl

@[simp] theorem State.cntCommand_still (s : State) (c : CntCmd) (err : CellErr) :
    (s.cntCommand c err).still = s.still := by
  simp only [State.cntCommand]
  repeat' split
  all_goals simp

@[simp] theorem State.bankOp_still (s : State) (b : Nat) (err : CellErr) :
    (s.bankOp b err).still = s.still := by
  simp only [State.bankOp]
  split <;> simp

@[simp] theorem State.cntStart_still (s : State) (w : Word) (c : CntCmd) :
    (s.cntStart w c).still = s.still := by
  simp only [State.cntStart]
  split <;> simp

/-! ### The Kiln -/

@[simp] theorem State.klnDone_still (s : State) (c : Code) : (s.klnDone c).still = s.still := by simp [State.klnDone]

@[simp] theorem State.countStale_still (s : State) (c : Code) :
    (s.countStale c).still = s.still := by simp [State.countStale]

theorem State.klnCommand_still {f : State → State} (h : ∀ s, (f s).still = s.still) (s : State) (w : Word)
    (refusals : State → List (Bool × Code)) : (s.klnCommand w refusals f).still = s.still := by
  unfold State.klnCommand
  split
  · simp
  · split
    · simp
    · split <;> simp [h]

@[simp] theorem State.formSeeds_still (s : State) (k : RootKind) : (s.formSeeds k).still = s.still := rfl

@[simp] theorem State.formRoot_still (s : State) : s.formRoot.still = s.still := by simp [State.formRoot]

@[simp] theorem State.formFinish_still (s : State) (digest : Bytes) :
    (s.formFinish digest).still = s.still := by
  simp only [State.formFinish]
  split <;> simp

@[simp] theorem State.formFails_still (s : State) (c : Code) : (s.formFails c).still = s.still := by
  simp only [State.formFails]
  split <;> simp

@[simp] theorem State.derive_still (s : State) : s.derive.still = s.still := by simp [State.derive]

@[simp] theorem State.readParent_still (s : State) (e : MemErr) :
    (s.readParent e).still = s.still := by simp [State.readParent]

@[simp] theorem State.onSession_still (s : State) (sid : Word) (f : Session → Session) :
    (s.onSession sid f).still = s.still := rfl

@[simp] theorem State.sessionOpen_still (s : State) : s.sessionOpen.still = s.still := by simp [State.sessionOpen]

@[simp] theorem State.doSessionOpen_still (s : State) (w : Word) :
    (s.doSessionOpen w).still = s.still := by
  simp [State.doSessionOpen, State.klnCommand_still State.sessionOpen_still]

@[simp] theorem State.destroySlot_still (s : State) (i : SlotIx) (src : EmberSrc) :
    (s.destroySlot i src).still = s.still := by simp [State.destroySlot]

@[simp] theorem State.destroySlots_still (s : State) (l : List SlotIx) (src : EmberSrc) :
    (s.destroySlots l src).still = s.still := by simp [State.destroySlots]

@[simp] theorem State.doDestroy_still (s : State) (w : Word) (e : MemErr) :
    (s.doDestroy w e).still = s.still := by
  refine (State.klnCommand_still (fun s => ?_) _ _ _).trans ?_ <;> simp

@[simp] theorem State.countMsg_still (s : State) : s.countMsg.still = s.still := by simp [State.countMsg]

@[simp] theorem State.readMsgSession_still (s : State) (e : MemErr) :
    (s.readMsgSession e).still = s.still := by
  simp only [State.readMsgSession]
  repeat' split
  all_goals simp

@[simp] theorem State.countIn_still (s : State) (m : KuMsg) : (s.countIn m).still = s.still := by simp [State.countIn]

@[simp] theorem State.putKey_still (s : State) (m : KuMsg) (key : Bytes) :
    (s.putKey m key).still = s.still := by simp [State.putKey]

@[simp] theorem State.putPersist_still (s : State) (m : KuMsg) (key : Bytes) :
    (s.putPersist m key).still = s.still := by simp [State.putPersist]

@[simp] theorem State.destroyShares_still (s : State) (r : KRecord) (src : EmberSrc) :
    (s.destroyShares r src).still = s.still := by simp [State.destroyShares]

@[simp] theorem State.unsealMsg_still (s : State) : s.unsealMsg.still = s.still := by simp [State.unsealMsg]

@[simp] theorem State.doUnseal_still (s : State) (w : Word) (e : MemErr) :
    (s.doUnseal w e).still = s.still := by
  simp [State.doUnseal, State.klnCommand_still State.unsealMsg_still]

@[simp] theorem State.sealMsg_still (s : State) : s.sealMsg.still = s.still := by
  simp only [State.sealMsg]
  split <;> simp

@[simp] theorem State.readSealSession_still (s : State) (e : MemErr) :
    (s.readSealSession e).still = s.still := by
  simp only [State.readSealSession]
  repeat' split
  all_goals simp

@[simp] theorem State.doSeal_still (s : State) (w : Word) (e : MemErr) :
    (s.doSeal w e).still = s.still := by
  simp [State.doSeal, State.klnCommand_still State.sealMsg_still]

@[simp] theorem State.dropEvent_still (s : State) : s.dropEvent.still = s.still := rfl

@[simp] theorem State.doFormRoot_still (s : State) (w : Word) : (s.doFormRoot w).still = s.still := by
  simp [State.doFormRoot, State.klnCommand_still State.formRoot_still]

@[simp] theorem State.doDerive_still (s : State) (w : Word) (e : MemErr) :
    (s.doDerive w e).still = s.still := by
  simp [State.doDerive, State.klnCommand_still State.derive_still]

@[simp] theorem State.doSaltLoad_still (s : State) (w : Word) : (s.doSaltLoad w).still = s.still := by
  exact State.klnCommand_still (fun s => by simp) _ _ _

/-! ### Stream measurement -/

@[simp] theorem State.onSme_still (s : State) (f : Sme → Sme) : (s.onSme f).still = s.still := rfl

@[simp] theorem State.setStream_still (s : State) (sid : StreamId) (v : Stream) :
    (s.setStream sid v).still = s.still := rfl

@[simp] theorem State.onStream_still (s : State) (sid : StreamId) (f : Stream → Stream) :
    (s.onStream sid f).still = s.still := rfl

@[simp] theorem State.setLane_still (s : State) (l : Nat) (v : FenLane) :
    (s.setLane l v).still = s.still := rfl

@[simp] theorem State.setExp_still (s : State) (i : Nat) (v : ExpEntry) :
    (s.setExp i v).still = s.still := rfl

@[simp] theorem State.setMreg_still (s : State) (i : Nat) (v : MReg) :
    (s.setMreg i v).still = s.still := rfl

@[simp] theorem State.onSmeBlk_still (s : State) (b : Blk) (f : SmeBlk → SmeBlk) :
    (s.onSmeBlk b f).still = s.still := by
  simp only [State.onSmeBlk]
  split <;> simp

@[simp] theorem State.smeErr_still (s : State) (e : MemErr) (part : Option PartId) :
    (s.smeErr e part).still = s.still := by
  simp only [State.smeErr]
  split <;> simp

@[simp] theorem State.spoilStream_still (s : State) (sid : StreamId) :
    (s.spoilStream sid).still = s.still := by
  simp only [State.spoilStream]
  split <;> simp

@[simp] theorem State.ctxErr_still (s : State) (e : MemErr) (sid : StreamId) :
    (s.ctxErr e sid).still = s.still := by simp [State.ctxErr]

@[simp] theorem State.sendEvent_still (s : State) (e : SmeEvent) :
    (s.sendEvent e).still = s.still := by simp [State.sendEvent]

@[simp] theorem State.dropBeat_still (s : State) (tap : Nat) (sid : StreamId) :
    (s.dropBeat tap sid).still = s.still := by simp [State.dropBeat]

@[simp] theorem State.openBeat_still (s : State) (tap : Nat) (sid : StreamId) (bytes : Bytes) (first last : Bool) :
    (s.openBeat tap sid bytes first last).still = s.still := by simp [State.openBeat]

@[simp] theorem State.fillLeaf_still (s : State) (l : Nat) (sid : StreamId) (bs : Bytes) :
    (s.fillLeaf l sid bs).still = s.still := rfl

@[simp] theorem State.beginLeaf_still (s : State) (l : Nat) (sid : StreamId) (bs : Bytes) :
    (s.beginLeaf l sid bs).still = s.still := rfl

theorem State.intake_still {s t : State} {b : TapBeat} {bs : Bytes} (h : s.intake b = some (t, bs)) :
    t.still = s.still := by
  simp only [State.intake] at h
  split at h
  · obtain ⟨l, -, hl⟩ := Option.map_eq_some_iff.1 h
    rw [← (Prod.mk.inj hl).1, State.beginLeaf_still]
  · split at h <;> cases h <;> simp

theorem State.intakeTap_still {s t : State} {tap : Nat} (h : s.intakeTap tap = some t) : t.still = s.still := by
  unfold State.intakeTap at h
  split at h
  · cases h
  · split at h
    · cases h
    · rename_i hi
      cases h
      exact (State.intake_still hi :)
    · rename_i hi
      cases h
      exact (State.intake_still hi :)

@[simp] theorem State.finishLeaf_still (s : State) (l : Nat) (e : MemErr) :
    (s.finishLeaf l e).still = s.still := by
  simp only [State.finishLeaf]
  split <;> simp

@[simp] theorem State.feedSlice_still (s : State) (c : Nat) : (s.feedSlice c).still = s.still := by
  simp only [State.feedSlice]
  repeat' split
  all_goals simp

@[simp] theorem State.queueExt_still (s : State) (r : ExtReq) : (s.queueExt r).still = s.still := rfl

@[simp] theorem State.smeDone_still (s : State) (b : Blk) (c : Code) :
    (s.smeDone b c).still = s.still := by simp [State.smeDone]

@[simp] theorem State.postResult_still (s : State) (b : Blk) (r : StreamResult) :
    (s.postResult b r).still = s.still := by simp [State.postResult]

@[simp] theorem State.closeEvent_still (s : State) (v : Stream) (sid : StreamId) (c : Code) :
    (s.closeEvent v sid c).still = s.still := by simp [State.closeEvent]

@[simp] theorem State.closeExt_still (s : State) (v : Stream) (sid : StreamId) (c : Code) (digest : Bytes) :
    (s.closeExt v sid c digest).still = s.still := by simp [State.closeExt]

@[simp] theorem State.purgeTokens_still (s : State) (p : PartId) :
    (s.purgeTokens p).still = s.still := by simp [State.purgeTokens]

@[simp] theorem State.closeStream_still (s : State) (sid : StreamId) (e : MemErr) :
    (s.closeStream sid e).still = s.still := by
  simp only [State.closeStream]
  split <;> simp

@[simp] theorem State.loadStream_still (s : State) (b : Blk) (sid : StreamId) (digest : Option Bytes) :
    (s.loadStream b sid digest).still = s.still := by simp [State.loadStream]

@[simp] theorem State.openStream_still (s : State) (b : Blk) :
    (s.openStream b).still = s.still := by simp [State.openStream]

@[simp] theorem State.endCtx_still (s : State) (c : Nat) (code : Code) (digest : Bytes) (aux : Word) :
    (s.endCtx c code digest aux).still = s.still := rfl

@[simp] theorem State.zeroMreg_still (s : State) (i : Nat) (owner : Option PartId) :
    (s.zeroMreg i owner).still = s.still := by
  refine (still_foldl (fun s r => ?_) _ _).trans (by simp)
  split <;> simp

@[simp] theorem State.mrAssign_still (s : State) (b : Blk) (rsv : Bool) :
    (s.mrAssign b rsv).still = s.still := by
  simp only [State.mrAssign]
  split <;> simp

@[simp] theorem State.mrRead_still (s : State) (b : Blk) (rsv : Bool) (e : MemErr) :
    (s.mrRead b rsv e).still = s.still := by simp [State.mrRead]

@[simp] theorem State.mrExtend_still (s : State) (b : Blk) (rsv : Bool) :
    (s.mrExtend b rsv).still = s.still := by simp [State.mrExtend]

@[simp] theorem State.smeStatus_still (s : State) (b : Blk) (rsv : Bool) (e : MemErr) :
    (s.smeStatus b rsv e).still = s.still := by simp [State.smeStatus]

@[simp] theorem State.expErr_still (s : State) (e : MemErr) (i : Nat) :
    (s.expErr e i).still = s.still := by
  simp only [State.expErr]
  split <;> simp

@[simp] theorem State.expWrite_still (s : State) (b : Blk) (rsv : Bool) (e : MemErr) :
    (s.expWrite b rsv e).still = s.still := by
  simp only [State.expWrite]
  split <;> simp

@[simp] theorem State.expClear_still (s : State) (b : Blk) (rsv : Bool) :
    (s.expClear b rsv).still = s.still := by
  simp only [State.expClear]
  split <;> simp

@[simp] theorem State.expRead_still (s : State) (b : Blk) (rsv : Bool) (e : MemErr) :
    (s.expRead b rsv e).still = s.still := by simp [State.expRead]

@[simp] theorem State.smeAbort_still (s : State) (b : Blk) (rsv : Bool) :
    (s.smeAbort b rsv).still = s.still := by
  simp only [State.smeAbort]
  split <;> simp

@[simp] theorem State.purgeStart_still (s : State) (p : PartId) (run : SmeRun) :
    (s.purgeStart p run).still = s.still := by simp [State.purgeStart]

@[simp] theorem State.purgeEnd_still (s : State) (p : PartId) : (s.purgeEnd p).still = s.still := by
  simp [State.purgeEnd]

@[simp] theorem State.smeOpen_still (s : State) (b : Blk) (rsv : Bool) :
    (s.smeOpen b rsv).still = s.still := by
  simp only [State.smeOpen]
  split <;> simp

@[simp] theorem State.smePurge_still (s : State) (b : Blk) (rsv : Bool) :
    (s.smePurge b rsv).still = s.still := by simp [State.smePurge]

@[simp] theorem State.smeRun_still (s : State) (b : Blk) (code : Nat) (w : Word) (e : MemErr) :
    (s.smeRun b code w e).still = s.still := by
  simp only [State.smeRun]
  split <;> simp

@[simp] theorem State.smeNext_still (s : State) : s.smeNext.still = s.still := by
  simp only [State.smeNext]
  repeat' split
  all_goals simp

@[simp] theorem State.smeCommand_still (s : State) (b : Blk) (code : Nat) (w : Word) (e : MemErr) :
    (s.smeCommand b code w e).still = s.still := by
  simp only [State.smeCommand]
  repeat' split
  all_goals simp

@[simp] theorem State.smeCommit_still (s : State) : s.smeCommit.still = s.still := by
  simp only [State.smeCommit]
  split <;> simp

/-! ### Small digests and the comparator -/

@[simp] theorem State.onDge_still (s : State) (f : Dge → Dge) : (s.onDge f).still = s.still := rfl

@[simp] theorem State.onCmp_still (s : State) (f : Cmp → Cmp) : (s.onCmp f).still = s.still := rfl

@[simp] theorem State.setCtx_still (s : State) (c : Nat) (x : DgeCtx) :
    (s.setCtx c x).still = s.still := rfl

@[simp] theorem State.feedCores_still (s : State) : s.feedCores.still = s.still := by simp [State.feedCores]

@[simp] theorem State.readNext_still (s : State) (c : Nat) : (s.readNext c).still = s.still := by
  simp only [State.readNext]
  split <;> simp

@[simp] theorem State.askSlice_still (s : State) (r : CmpReq) : (s.askSlice r).still = s.still := rfl

@[simp] theorem State.deliver_still (s : State) (c : Nat) (dest : DgeDest) :
    (s.deliver c dest).still = s.still := by
  simp only [State.deliver]
  split <;> simp

@[simp] theorem State.dgeProgress_still (s : State) (c : Nat) : (s.dgeProgress c).still = s.still := by
  simp only [State.dgeProgress]
  repeat' split
  all_goals simp

@[simp] theorem State.abandonNow_still (s : State) (c : Nat) :
    (s.abandonNow c).still = s.still := by simp [State.abandonNow]

@[simp] theorem State.abandonCtx_still (s : State) (c : Nat) (code : Code) :
    (s.abandonCtx c code).still = s.still := by simp [State.abandonCtx]

@[simp] theorem State.forceAbandon_still (s : State) (c : Nat) :
    (s.forceAbandon c).still = s.still := by simp [State.forceAbandon]

@[simp] theorem State.faultCtx_still (s : State) (c : Nat) : (s.faultCtx c).still = s.still := rfl

@[simp] theorem State.dgeErr_still (s : State) (e : MemErr) : (s.dgeErr e).still = s.still := by
  simp only [State.dgeErr]
  split <;> simp

@[simp] theorem State.dgeReadDone_still (s : State) (c : Nat) (gen : Gen) (data : Bytes) (err : Bool) :
    (s.dgeReadDone c gen data err).still = s.still := by
  simp only [State.dgeReadDone]
  repeat' split
  all_goals simp

@[simp] theorem State.dgeAcquire_still (s : State) (q : Req) (w : Word) :
    (s.dgeAcquire q w).still = s.still := by
  simp only [State.dgeAcquire]
  repeat' split
  all_goals simp

@[simp] theorem State.dgeGrant_still (s : State) : s.dgeGrant.still = s.still := by
  simp only [State.dgeGrant]
  split <;> simp

@[simp] theorem State.arbWrite_still (s : State) (w : Word) : (s.arbWrite w).still = s.still := by simp [State.arbWrite]

@[simp] theorem State.dgeAbandonHolders_still (s : State) (p : BitVec 4 → Bool) :
    (s.dgeAbandonHolders p).still = s.still := by simp [State.dgeAbandonHolders]

@[simp] theorem State.updateStart_still (s : State) (c : Nat) (w : Word) :
    (s.updateStart c w).still = s.still := by simp [State.updateStart]

@[simp] theorem State.finalStart_still (s : State) (c : Nat) (dest : DgeDest) :
    (s.finalStart c dest).still = s.still := by simp [State.finalStart]

@[simp] theorem State.ctxCode_still (s : State) (c : Nat) (code : Code) :
    (s.ctxCode c code).still = s.still := rfl

theorem State.ctxCommand_still {f : State → State} (h : ∀ s, (f s).still = s.still) (s : State) (q : Req) (c : Nat) :
    (s.ctxCommand q c f).still = s.still := by
  simp only [State.ctxCommand]
  split <;> [simp; skip]
  split <;> [simp; skip]
  split <;> simp [h]

@[simp] theorem State.ctxRefuse_still (s : State) (c : Nat) (k : Code) :
    (s.ctxRefuse c k).still = s.still := by simp [State.ctxRefuse]

@[simp] theorem State.ctxSpoilt_still (s : State) (c : Nat) : (s.ctxSpoilt c).still = s.still := rfl

@[simp] theorem State.dgeUpdate_still (s : State) (c : Nat) (w : Word) (e : MemErr) :
    (s.dgeUpdate c w e).still = s.still := by
  simp only [State.dgeUpdate]
  split <;> simp

@[simp] theorem State.dgeFinal_still (s : State) (c : Nat) (w : Word) (e : MemErr) :
    (s.dgeFinal c w e).still = s.still := by
  simp only [State.dgeFinal]
  repeat' split
  all_goals simp

@[simp] theorem State.dgeAbandon_still (s : State) (c : Nat) (w : Word) :
    (s.dgeAbandon c w).still = s.still := by simp [State.dgeAbandon]

@[simp] theorem State.blockDone_still (s : State) (c : Nat) (e : MemErr) :
    (s.blockDone c e).still = s.still := by simp [State.blockDone]

@[simp] theorem State.cmpCode_still (s : State) (b : Blk) (k : Code) :
    (s.cmpCode b k).still = s.still := by
  simp only [State.cmpCode]
  split <;> simp

@[simp] theorem State.cmpDone_still (s : State) (b : Blk) (k : Code) :
    (s.cmpDone b k).still = s.still := by simp [State.cmpDone]

@[simp] theorem State.cmpCommand_still (s : State) (b : Blk) (w : Word) :
    (s.cmpCommand b w).still = s.still := by
  simp only [State.cmpCommand]
  repeat' split
  all_goals simp

@[simp] theorem State.cmpResult_still (s : State) (r : CmpReq) (e : MemErr) :
    (s.cmpResult r e).still = s.still := by
  simp only [State.cmpResult]
  split <;> simp

@[simp] theorem State.spoilResult_still (s : State) (sid : StreamId) (gen : Gen) :
    (s.spoilResult sid gen).still = s.still := by simp [State.spoilResult]

@[simp] theorem State.applyExt_still (s : State) (r : ExtReq) : (s.applyExt r).still = s.still := by
  simp only [State.applyExt]
  split <;> simp

@[simp] theorem State.extensionStep_still (s : State) (err : MemErr) :
    (s.extensionStep err).still = s.still := by
  simp only [State.extensionStep]
  split <;> simp

/-! ### The partition manager -/

@[simp] theorem State.onPrt_still (s : State) (f : Prt → Prt) : (s.onPrt f).still = s.still := rfl

@[simp] theorem State.setPart_still (s : State) (p : PartId) (v : PartEntry) :
    (s.setPart p v).still = s.still := rfl

@[simp] theorem State.setRegion_still (s : State) (i : Nat) (v : Region) :
    (s.setRegion i v).still = s.still := rfl

@[simp] theorem State.prtHealth_still (s : State) (c : Code) : (s.prtHealth c).still = s.still := by
  simp [State.prtHealth]

@[simp] theorem State.prtDone_still (s : State) (c : Code) : (s.prtDone c).still = s.still := rfl

theorem State.prtCommand_stills {Q : State → Prop} {s : State} {f : State → State} (hQ : ∀ t, t.still = s.still → Q t)
    (hf : Q (f s)) (w : Word) (err : MemErr) (early refusals : List (Bool × Code)) :
    Q (s.prtCommand w err early refusals f) := by
  unfold State.prtCommand
  split <;> [exact hQ _ (by simp); exact hf]

@[simp] theorem State.setJob_still (s : State) (i : Nat) (v : Option JobDigest) :
    (s.setJob i v).still = s.still := rfl

@[simp] theorem State.zeroScratch_still (s : State) : s.zeroScratch.still = s.still := rfl

@[simp] theorem State.gateLeave_still (s : State) (why : GateReason) :
    (s.gateLeave why).still = s.still := by simp [State.gateLeave]

@[simp] theorem State.gateStop_still (s : State) (p : PartId) (why : GateReason) :
    (s.gateStop p why).still = s.still := by simp [State.gateStop]

@[simp] theorem State.sendScrub_still (s : State) (i : Nat) : (s.sendScrub i).still = s.still := rfl

@[simp] theorem State.relTo_still (s : State) (st : RelStage) : (s.relTo st).still = s.still := rfl

@[simp] theorem State.relUnbind_still (s : State) (p : PartId) :
    (s.relUnbind p).still = s.still := by simp [State.relUnbind]

@[simp] theorem State.relJobs_still (s : State) (p : PartId) : (s.relJobs p).still = s.still := rfl

@[simp] theorem State.relPurged_still (s : State) (p : PartId) :
    (s.relPurged p).still = s.still := by simp [State.relPurged]

@[simp] theorem State.relEnd_still (s : State) (p : PartId) : (s.relEnd p).still = s.still := by
  simp only [State.relEnd, State.onPrt_still, State.setPart_still]
  exact still_foldl (by intros; rfl) _ _

@[simp] theorem State.fillStep_still (s : State) : s.fillStep.still = s.still := by
  unfold State.fillStep
  split
  · rfl
  · split <;> rfl

@[simp] theorem State.orphanStep_still (s : State) : s.orphanStep.still = s.still := by
  simp only [State.orphanStep]
  split <;> simp

@[simp] theorem State.orphanDone_still (s : State) (i : Nat) (ok : Bool) :
    (s.orphanDone i ok).still = s.still := by simp [State.orphanDone]

@[simp] theorem State.relFail_still (s : State) : s.relFail.still = s.still := rfl

@[simp] theorem State.relStart_still (s : State) (p : PartId) : (s.relStart p).still = s.still := by
  simp only [State.relStart]
  rw [still_foldl (fun s i => by rw [still_ite, State.emit_still, ite_self]), State.onPrt_still,
    still_foldl (by intros; rfl),
    State.gateStop_still, State.setPart_still]

/-! ### The public-key engine -/

@[simp] theorem State.onPke_still (s : State) (f : Pke → Pke) : (s.onPke f).still = s.still := rfl

@[simp] theorem State.pkeCode_still (s : State) (b : Blk) (k : Code) :
    (s.pkeCode b k).still = s.still := by
  simp only [State.pkeCode]
  split <;> simp

@[simp] theorem State.pkeWrite_still (s : State) (r a : Nat) (bs : Bytes) :
    (s.pkeWrite r a bs).still = s.still := by simp [State.pkeWrite]

@[simp] theorem State.pkeCommand_still (s : State) (b : Blk) (op : PkeOp) (w : Word) (e : MemErr) :
    (s.pkeCommand b op w e).still = s.still := by
  simp only [State.pkeCommand]
  repeat' split
  all_goals simp

@[simp] theorem State.pkeGrant_still (s : State) (c : PkeCmd) : (s.pkeGrant c).still = s.still := rfl

@[simp] theorem State.setCache_still (s : State) (i : SlotIx) (e : Option PkeEntry) :
    (s.setCache i e).still = s.still := rfl

@[simp] theorem State.fillCache_still (s : State) (i : SlotIx) : (s.fillCache i).still = s.still := rfl

@[simp] theorem State.zeroTouched_still (s : State) (c : PkeCmd) : (s.zeroTouched c).still = s.still := rfl

@[simp] theorem State.selfFail_still (s : State) : s.selfFail.still = s.still := rfl

@[simp] theorem State.pkeCompute_still (s : State) (c : PkeCmd) : (s.pkeCompute c).1.still = s.still := by
  simp only [State.pkeCompute]
  split
  case h_4 => split <;> [simp; (split <;> simp)]
  case h_7 => split <;> simp
  case h_10 => split <;> [rfl; (split <;> simp)]
  all_goals simp

@[simp] theorem State.pkeResult_still (s : State) (c : PkeCmd) (f : PkeFault) :
    (s.pkeResult c f).1.still = s.still := by
  simp only [State.pkeResult]
  split
  case h_5 => split <;> simp
  case h_6 => split <;> simp
  all_goals simp

@[simp] theorem State.pkeEnd_still (s : State) (c : PkeCmd) (k : Code) :
    (s.pkeEnd c k).still = s.still := by
  simp only [State.pkeEnd]
  split <;> simp

/-! ### Attestation -/

@[simp] theorem State.onAtt_still (s : State) (f : Att → Att) : (s.onAtt f).still = s.still := rfl

@[simp] theorem State.attEdge_still (s : State) (b : Blk) : (s.attEdge b).still = s.still := rfl

@[simp] theorem State.attDone_still (s : State) (b : Blk) (c : Code) (len : Nat) :
    (s.attDone b c len).still = s.still := rfl

@[simp] theorem State.attEnd_still (s : State) (c : AttCmd) (k : Code) (len : Nat) :
    (s.attEnd c k len).still = s.still := by simp [State.attEnd]

@[simp] theorem State.attRefused_still (s : State) : s.attRefused.still = s.still := rfl

@[simp] theorem State.attWrite_still (s : State) (b : Blk) (a : Nat) (bs : Bytes) :
    (s.attWrite b a bs).still = s.still := by
  simp only [State.attWrite]
  split <;> simp

@[simp] theorem State.attOutput_still (s : State) (c : AttCmd) (bs : Bytes) (k : Code) :
    (s.attOutput c bs k).still = s.still := by simp [State.attOutput]

@[simp] theorem State.attAsk_still (s : State) : s.attAsk.still = s.still := by simp [State.attAsk]

@[simp] theorem State.attRunTo_still (s : State) (r : AttRun) : (s.attRunTo r).still = s.still := rfl

@[simp] theorem State.attDefer_still (s : State) (r : AttRun) (c : AttCmd) :
    (s.attDefer r c).still = s.still := rfl

@[simp] theorem State.sampled_still (s : State) (c : AttCmd) (err : MemErr) : (s.sampled c err).1.still = s.still := by
  simp [State.sampled]

@[simp] theorem State.attSample_still (s : State) (r : AttRun) (c : AttCmd) (err : MemErr) :
    (s.attSample r c err).still = s.still := by
  simp only [State.attSample]
  split <;> simp

@[simp] theorem State.attBegin_still (s : State) (c : AttCmd) : (s.attBegin c).still = s.still := by
  simp only [State.attBegin]
  split <;> simp

@[simp] theorem State.attNext_still (s : State) : s.attNext.still = s.still := by
  simp only [State.attNext]
  repeat' split
  all_goals simp

@[simp] theorem State.attGoOn_still (s : State) : s.attGoOn.still = s.still := by simp [State.attGoOn]

@[simp] theorem State.attRefuse_still (s : State) (b : Blk) (k : Code) :
    (s.attRefuse b k).still = s.still := by simp [State.attRefuse]

@[simp] theorem State.attCommand_still (s : State) (b : Blk) (op : AttOp) (w : Word) :
    (s.attCommand b op w).still = s.still := by
  simp only [State.attCommand]
  split <;> simp

@[simp] theorem State.attHash_still (s : State) (c : Nat) (r : AttRun) (p : Bytes) :
    (s.attHash c r p).still = s.still := by simp [State.attHash]

@[simp] theorem State.attYield_still (s : State) (c : Nat) : (s.attYield c).still = s.still := rfl

@[simp] theorem State.attTake_still (s : State) (c : Nat) (err : MemErr) :
    (s.attTake c err).still = s.still := by
  simp only [State.attTake]
  split
  · simp
  · split <;> [simp; simp; skip]
    split
    · simp
    · split <;> simp

@[simp] theorem State.attHashed_still (s : State) : s.attHashed.still = s.still := by
  simp only [State.attHashed]
  repeat' split
  all_goals simp

@[simp] theorem State.certKeys_still (s : State) (r : AttRun) (keys : Bytes) :
    (s.certKeys r keys).still = s.still := rfl

@[simp] theorem State.attSigned_still (s : State) (r : AttRun) (sig : Bytes) :
    (s.attSigned r sig).still = s.still := by
  simp only [State.attSigned]
  repeat' split
  all_goals simp

@[simp] theorem State.attAnswer_still (s : State) (k : Code) (out : Bytes) :
    (s.attAnswer k out).still = s.still := by
  simp only [State.attAnswer]
  repeat' split
  all_goals simp

@[simp] theorem State.pkeAnswer_still (s : State) (c : PkeCmd) (k : Code) (out : Bytes) :
    (s.pkeAnswer c k out).still = s.still := by
  simp only [State.pkeAnswer]
  split <;> simp

@[simp] theorem State.pkeAbandon_still (s : State) : s.pkeAbandon.still = s.still := by
  simp only [State.pkeAbandon]
  split <;> simp

@[simp] theorem State.attIssue_still (s : State) (op : PkeOp) (next : AttPhase) (e : MemErr) :
    (s.attIssue op next e).still = s.still := by
  simp only [State.attIssue]
  repeat' split
  all_goals simp

@[simp] theorem State.attCommit_still (s : State) : s.attCommit.still = s.still := by simp [State.attCommit]

@[simp] theorem State.setHandover_still (s : State) (w : Word) : (s.setHandover w).still = s.still := rfl

/-! ### Access faults -/

@[simp] theorem State.recordFault_still (s : State) (f : Afault) : (s.recordFault f).still = s.still := rfl

@[simp] theorem State.coreFault_still (s : State) (core : Nat) (k : AccKind) (space : Nat) (a : BitVec 64) :
    (s.coreFault core k space a).still = s.still := by simp [State.coreFault]

@[simp] theorem State.secFault_still (s : State) (k : AccKind) (space : Nat) (a : BitVec 32) :
    (s.secFault k space a).still = s.still := rfl

@[simp] theorem State.gateTrap_still (s : State) (k : AccKind) (a : Nat) :
    (s.gateTrap k a).still = s.still := by simp [State.gateTrap]

/-! ### Mailboxes -/

@[simp] theorem State.onMbx_still (s : State) (f : Mbx → Mbx) : (s.onMbx f).still = s.still := rfl

@[simp] theorem State.setMslot_still (s : State) (i : Nat) (v : MbxSlot) :
    (s.setMslot i v).still = s.still := rfl

@[simp] theorem State.onMslot_still (s : State) (i : Nat) (f : MbxSlot → MbxSlot) :
    (s.onMslot i f).still = s.still := rfl

@[simp] theorem State.post_still (s : State) (i n : Nat) : (s.post i n).still = s.still := rfl

@[simp] theorem State.sendSlot_still (s : State) (i n : Nat) (ok : Bool) : (s.sendSlot i n ok).1.still = s.still := by
  unfold State.sendSlot
  split <;> [simp; (split <;> simp)]

@[simp] theorem State.take_still (s : State) (i : Nat) : (s.take i).still = s.still := rfl

@[simp] theorem State.postMsg_still (s : State) (i : Nat) (ws : List Word) :
    (s.postMsg i ws).still = s.still := rfl

@[simp] theorem State.ring_still (s : State) (i : Nat) (w : Word) : (s.ring i w).still = s.still := by simp [State.ring]

@[simp] theorem State.ringBell_still (s : State) (w : Word) : (s.ringBell w).still = s.still := by simp [State.ringBell]

@[simp] theorem State.sideSurvives_still (s : State) (m : Nat) (b : Bool) :
    (s.sideSurvives m b).still = s.still := rfl

@[simp] theorem State.sideReset_still (s : State) (m : Nat) (b : Bool) :
    (s.sideReset m b).still = s.still := rfl

@[simp] theorem State.sidesReset_still (s : State) (d : Dom) :
    (s.sidesReset d).still = s.still := by simp [State.sidesReset]

@[simp] theorem State.mailboxesUp_still (s : State) (reached : Dom → Bool) :
    (s.mailboxesUp reached).still = s.still := by simp [State.mailboxesUp]

/-! ### Interrupts and random numbers -/

@[simp] theorem State.onPlic_still (s : State) (f : Plic → Plic) : (s.onPlic f).still = s.still := rfl

@[simp] theorem State.plicWrite_still (s : State) (o : Nat) (w : Word) :
    (s.plicWrite o w).still = s.still := by
  simp only [State.plicWrite]
  split <;> simp

@[simp] theorem State.clearEdge_still (s : State) (n : Nat) : (s.clearEdge n).still = s.still := rfl

@[simp] theorem State.plicClaim_still (s : State) (c : Nat) : (s.plicClaim c).still = s.still := by
  simp [State.plicClaim]

@[simp] theorem State.vectorClaim_still (s : State) (n : Nat) :
    (s.vectorClaim n).still = s.still := by simp [State.vectorClaim]

@[simp] theorem State.onTrng_still (s : State) (f : Trng → Trng) : (s.onTrng f).still = s.still := rfl

@[simp] theorem State.trngPop_still (s : State) (b : Nat) : (s.trngPop b).still = s.still := by
  simp only [State.trngPop]
  split <;> simp

@[simp] theorem State.drawBootId_still (s : State) : s.drawBootId.still = s.still := by simp [State.drawBootId]

/-! ### The resident firmware -/

@[simp] theorem State.fwPost_still (s : State) (i : Nat) (ws : List Word) :
    (s.fwPost i ws).still = s.still := rfl

@[simp] theorem State.mbx1Pass_still (s : State) (i kind : Nat) :
    (s.mbx1Pass i kind).still = s.still := rfl

@[simp] theorem State.ioHead_still (s : State) (g : FwIo) : (s.ioHead g).still = s.still := rfl

@[simp] theorem State.ioFail_still (s : State) (c : Code) : (s.ioFail c).still = s.still := by
  simp only [State.ioFail]
  split <;> simp

@[simp] theorem State.coreIssue_still (s : State) (write : Bool) (addr beats : Nat) (data : Bytes) :
    (s.coreIssue write addr beats data).still = s.still := rfl

@[simp] theorem State.ioWrite_still (s : State) (a : Nat) (data : Bytes) :
    (s.ioWrite a data).still = s.still := by simp [State.ioWrite]

@[simp] theorem State.ioStep_still (s : State) : s.ioStep.still = s.still := by
  simp only [State.ioStep]
  repeat' split
  all_goals simp

@[simp] theorem State.ioGo_still (s : State) : s.ioGo.still = s.still := by simp [State.ioGo]

@[simp] theorem State.ioRun_still (s : State) (sec : Bool) (ops : List FwOp) :
    (s.ioRun sec ops).still = s.still := by simp [State.ioRun]

@[simp] theorem State.ioFilled_still (s : State) (line : Bytes) (err : Bool) :
    (s.ioFilled line err).still = s.still := by
  simp only [State.ioFilled]
  repeat' split
  all_goals simp

@[simp] theorem State.ioAcked_still (s : State) (err : Bool) : (s.ioAcked err).still = s.still := by
  simp only [State.ioAcked]
  repeat' split
  all_goals simp

@[simp] theorem State.ioLost_still (s : State) : s.ioLost.still = s.still := rfl

@[simp] theorem State.setTask_still (s : State) (b : Blk) (t : Option FwTask) :
    (s.setTask b t).still = s.still := rfl

@[simp] theorem State.attGive_still (s : State) (b : Blk) (op : AttOp) (job : FwJob) :
    (s.attGive b op job).still = s.still := by simp [State.attGive]

@[simp] theorem State.setWords_still (s : State) (r : Reg) (b n : Nat) (bs : Bytes) :
    (s.setWords r b n bs).still = s.still := still_foldl (by intros; rfl) _ _

@[simp] theorem State.askReport_still (s : State) (b : Blk) (op : AttOp) (nonce : Bytes) (max : Nat) (job : FwJob) :
    (s.askReport b op nonce max job).still = s.still := by simp [State.askReport]

@[simp] theorem State.askSign_still (s : State) (b : Blk) (purpose : Nat) (h : Bytes) (job : FwJob) :
    (s.askSign b purpose h job).still = s.still := by simp [State.askSign]

@[simp] theorem State.dgeTurns_still (s : State) (who n : Nat) (v : Bytes) :
    (s.dgeTurns who n v).still = s.still := by
  simp only [State.dgeTurns]
  split <;> simp

@[simp] theorem State.cmpTurn_still (s : State) (equal : Bool) : (s.cmpTurn equal).still = s.still := rfl

@[simp] theorem State.d3Missed_still (s : State) : s.d3Missed.still = s.still := by simp [State.d3Missed]

@[simp] theorem State.destroyNow_still (s : State) (i : SlotIx) (g : Gen) :
    (s.destroyNow i g).still = s.still := by simp [State.destroyNow]

theorem State.fwRandom_still {s t : State} {n : Nat} {b : Bytes} (h : s.fwRandom n = some (t, b)) :
    t.still = s.still := by
  simp only [State.fwRandom] at h
  split at h <;> cases h
  simp

/-! ### The workers of a manager -/

@[simp] theorem State.recheckJobs_still (s : State) (w : BitVec 12) :
    (s.recheckJobs w).still = s.still := by
  simp only [State.recheckJobs]
  exact (still_foldl (by intros; rfl) _ _).trans (State.onFw_still ..)

/-! ### The SPDM responder -/

@[simp] theorem State.onSpdm_still (s : State) (id : Word) (f : SpdmSession → SpdmSession) :
    (s.onSpdm id f).still = s.still := rfl

@[simp] theorem State.endSpdm_still (s : State) (id : Word) : (s.endSpdm id).still = s.still := rfl

@[simp] theorem State.fwDestroys_still (s : State) : s.fwDestroys.still = s.still := by simp [State.fwDestroys]

@[simp] theorem State.answer_still (s : State) (ss : Option Word) (m : Bytes) :
    (s.answer ss m).still = s.still := by
  simp only [State.answer]
  split <;> simp

@[simp] theorem State.answerError_still (s : State) (ss : Option Word) (c : Byte) :
    (s.answerError ss c).still = s.still := by simp [State.answerError]

@[simp] theorem State.transcripts_still (s : State) (ss : Option Word) (code : Byte) :
    (s.transcripts ss code).still = s.still := by
  simp only [State.transcripts]
  split <;> simp

@[simp] theorem State.countRecord_still (s : State) (ss : Option Word) :
    (s.countRecord ss).still = s.still := by
  simp only [State.countRecord]
  split <;> simp

/-- A request that reaches its meaning does so with what stands as it was. -/
theorem State.spdm_stills {Q : State → Prop} {s : State} {f : State → Bytes → State} (hQ : ∀ t, t.still = s.still → Q t)
    (hf : ∀ t m, t.still = s.still → Q (f t m)) (ss : Option Word) (r : Bytes) (mine : Byte × Byte) :
    Q (s.spdm ss r mine f) := by
  simp only [State.spdm]
  split <;> [exact hQ _ rfl; skip]
  split <;> [exact hQ _ (by simp); skip]
  generalize hu : (if (ss.bind s.spdmSession).isSome = true then s.cmpTurn (s.opened ss r).isSome else s) = u
  have hst : u.still = s.still := by simp [← hu]
  split
  · split <;> exact hQ _ (by simp [hst])
  · split
    · split <;> exact hQ _ (by simp [hst])
    · split <;> [exact hQ _ hst; (split <;> [exact hQ _ (by simp [hst]); exact hf _ _ (by simp [hst])])]

theorem State.inSession_stills {Q : State → Prop} {k : Bool × Bool × BitVec 6 × Option Episode} {s : State}
    {f : State → SpdmSession → State} (hQ : ∀ t, t.still = k → Q t) (hf : ∀ t x, t.still = k → Q (f t x))
    (hs : s.still = k) (ss : Option Word) (late : Bool) : Q (s.inSession ss late f) := by
  unfold State.inSession
  split <;> [exact hQ _ (by simp [hs]); (split <;> [exact hf _ _ hs; exact hQ _ (by simp [hs])])]

@[simp] theorem State.negotiated_still (s : State) (n : Nat) (m rsp : Bytes) :
    (s.negotiated n m rsp).still = s.still := rfl

@[simp] theorem State.fetchCerts_still (s : State) (ec : Bool) :
    (s.fetchCerts ec).still = s.still := still_foldl (by intros; rfl) _ _

@[simp] theorem State.noteB_still (s : State) (ss : Option Word) (m rsp : Bytes) :
    (s.noteB ss m rsp).still = s.still := by simp [State.noteB]

@[simp] theorem State.withSignature_still (s : State) (purpose : Nat) (t : Bytes) (job : FwJob) :
    (s.withSignature purpose t job).still = s.still := by simp [State.withSignature]

@[simp] theorem State.setMsgL_still (s : State) (ss : Option Word) (l : Bytes) :
    (s.setMsgL ss l).still = s.still := by
  simp only [State.setMsgL]
  split <;> simp

@[simp] theorem State.exchanged_still (s : State) (id : Word) (t body hs sig : Bytes) :
    (s.exchanged id t body hs sig).still = s.still := by simp [State.exchanged]

@[simp] theorem State.answerVendor_still (s : State) (ss : Option Word) (op : Byte) (payload : Bytes) :
    (s.answerVendor ss op payload).still = s.still := by simp [State.answerVendor]

@[simp] theorem State.answerCode_still (s : State) (ss : Option Word) (op : Byte) (c : Code) :
    (s.answerCode ss op c).still = s.still := by simp [State.answerCode]

@[simp] theorem State.setPq_still (s : State) (q : Option PqWork) : (s.setPq q).still = s.still := rfl

@[simp] theorem State.pqOver_still (s : State) (q : PqWork) (op : Byte) (c : Code) :
    (s.pqOver q op c).still = s.still := by simp [State.pqOver]

@[simp] theorem State.pqCommand_still (s : State) (q : PqWork) (op : PkeOp) (w : Word) :
    (s.pqCommand q op w).still = s.still := by simp [State.pqCommand]

@[simp] theorem State.openNow_still (s : State) (i : SlotIx) (id : Word) (p : BitVec 8) (th : Bytes) :
    (s.openNow i id p th).still = s.still := by simp [State.openNow]

@[simp] theorem State.pqAsk_still (s : State) (q : PqWork) : (s.pqAsk q).still = s.still := by
  simp only [State.pqAsk]
  repeat' split
  all_goals simp

@[simp] theorem State.pqDone_still (s : State) (q : PqWork) (k : Code) :
    (s.pqDone q k).still = s.still := by
  simp only [State.pqDone]
  repeat' split
  all_goals simp

@[simp] theorem State.pqNext_still (s : State) : s.pqNext.still = s.still := by
  simp only [State.pqNext]
  split <;> simp

@[simp] theorem State.pqGo_still (s : State) : s.pqGo.still = s.still := by
  simp only [State.pqGo]
  repeat' split
  all_goals simp

@[simp] theorem State.dataIn_still (s : State) (x : SpdmSession) (n : Nat) : (s.dataIn x n).1.still = s.still := by
  simp only [State.dataIn]
  split <;> simp

@[simp] theorem State.dataOut_still (s : State) (id : Word) (text : Bytes) : (s.dataOut id text).1.still = s.still := by
  simp [State.dataOut]

/-! ### Rings of the host -/

@[simp] theorem State.reply_still (s : State) (ws : List Word) : (s.reply ws).still = s.still := by simp [State.reply]

theorem State.serveType_still {f : State → State} (h : ∀ s, (f s).still = s.still) (s : State) (t : Nat) :
    (s.serveType t f).still = s.still := by
  simp [State.serveType, h]

@[simp] theorem State.capPrepare_still (s : State) (area : Nat) (gen : BitVec 8) :
    (s.capPrepare area gen).still = s.still := rfl

@[simp] theorem State.capOffer_still (s : State) :
    s.capOffer.still = s.still := (State.ioRun_still _ _ _).trans (State.capPrepare_still _ _ _)

@[simp] theorem State.capAccept_still (s : State) (page : Option Bytes) :
    (s.capAccept page).still = s.still := by simp [State.capAccept]

@[simp] theorem State.setRing_still (s : State) (r : Nat) (v : Ring) :
    (s.setRing r v).still = s.still := rfl

@[simp] theorem State.ringRefuse_still (s : State) (r : Nat) :
    (s.ringRefuse r).still = s.still := by simp [State.ringRefuse]

@[simp] theorem State.ringPut_still (s : State) (r : Nat) (v : Ring) :
    (s.ringPut r v).still = s.still := by simp [State.ringPut]

@[simp] theorem State.hostReported_still (s : State) (b : Blk) (addr : Nat) (k : Code) (n : Nat) :
    (s.hostReported b addr k n).still = s.still := by simp [State.hostReported]

@[simp] theorem State.complete_still (s : State) (r : Nat) (e : Bytes) (c : Code) (result : Bytes) :
    (s.complete r e c result).still = s.still := by simp [State.complete]

theorem State.submission_still {f : State → Bytes → State} (h : ∀ s e, (f s e).still = s.still) (s : State)
    (r op feature : Nat) : (s.submission r op feature f).still = s.still := by
  simp [State.submission, h]

@[simp] theorem State.lookAt_still (s : State) (x : FwRead) (addr beats : Nat) :
    (s.lookAt x addr beats).still = s.still := rfl

@[simp] theorem State.lookDescriptor_still (s : State) (r : Nat) (gen : Gen) (addr left : Nat) :
    (s.lookDescriptor r gen addr left).still = s.still := rfl

@[simp] theorem State.lookNext_still (s : State) : s.lookNext.still = s.still := by
  simp only [State.lookNext]
  repeat' split
  all_goals simp

@[simp] theorem State.entryRead_still (s : State) (r : Nat) (gen : Gen) (e : Bytes) :
    (s.entryRead r gen e).still = s.still := by simp [State.entryRead]

@[simp] theorem State.blockRead_still (s : State) (r : Nat) (gen : Gen) (b : Bytes) :
    (s.blockRead r gen b).still = s.still := by simp [State.blockRead]

@[simp] theorem State.lookDone_still (s : State) (data : Bytes) (err : Bool) :
    (s.lookDone data err).still = s.still := by
  simp only [State.lookDone]
  repeat' split
  all_goals simp

@[simp] theorem State.jobStep_still (s : State) (r : Nat) (e : Bytes) (workers : List (BitVec 12)) :
    (s.jobStep r e workers).1.still = s.still := by
  simp only [State.jobStep]
  split <;> [simp; (split <;> simp)]

@[simp] theorem State.ringOpen_still (s : State) (e : Bytes) (p : PartId) :
    (s.ringOpen e p).still = s.still := by simp [State.ringOpen]

@[simp] theorem State.parkRings_still (s : State) : s.parkRings.still = s.still := by simp [State.parkRings]

/-! ### The worker channel -/

@[simp] theorem State.onWcp_still (s : State) (f : Wcp → Wcp) : (s.onWcp f).still = s.still := rfl

@[simp] theorem State.notesGen_still (s : State) (h : WBeat) : (s.notesGen h).still = s.still := rfl

@[simp] theorem State.wcpAccept_still (s : State) (h : WBeat) (beats : List WBeat) :
    (s.wcpAccept h beats).still = s.still := by simp [State.wcpAccept]

@[simp] theorem State.wcpReceive_still (s : State) (h : WBeat) (beats : List WBeat) :
    (s.wcpReceive h beats).still = s.still := by simp [State.wcpReceive]

@[simp] theorem State.wcpTake_still (s : State) : s.wcpTake.still = s.still := by
  simp only [State.wcpTake]
  split <;> simp

@[simp] theorem State.wcpPump_still (n : Nat) (s : State) : (State.wcpPump n s).still = s.still := by
  induction n generalizing s with
  | zero => rfl
  | succ n ih =>
    unfold State.wcpPump
    split <;> [rfl; (split <;> simp [ih])]

@[simp] theorem State.wcpStart_still (s : State) : s.wcpStart.still = s.still := by simp [State.wcpStart]

@[simp] theorem State.noteCollection_still (s : State) (h : WBeat) (beats : List WBeat) :
    (s.noteCollection h beats).still = s.still := by simp [State.noteCollection]

@[simp] theorem State.wcpSend_still (s : State) (n : Nat) : (s.wcpSend n).still = s.still := by simp [State.wcpSend]

@[simp] theorem State.wcpNext_still (s : State) : s.wcpNext.still = s.still := by
  simp only [State.wcpNext]
  split <;> simp

@[simp] theorem State.wcpQueue_still (s : State) (l : List (List WBeat)) :
    (s.wcpQueue l).still = s.still := by simp [State.wcpQueue]

@[simp] theorem State.workerReported_still (s : State) (h : WBeat) (k : Code) (n : Nat) :
    (s.workerReported h k n).still = s.still := by simp [State.workerReported]

@[simp] theorem State.onColl_still (s : State) (f : Collection → Collection) :
    (s.onColl f).still = s.still := rfl

@[simp] theorem State.keepReport_still (s : State) (w : BitVec 12) (r : Bytes) :
    (s.keepReport w r).still = s.still := by simp [State.keepReport]

@[simp] theorem State.sessionReported_still (s : State) (id : Word) (n : Nat) :
    (s.sessionReported id n).still = s.still := by simp [State.sessionReported]

@[simp] theorem State.composeNext_still (s : State) : s.composeNext.still = s.still := by
  simp only [State.composeNext]
  split <;> simp

@[simp] theorem State.beginComposite_still (s : State) (id : Word) (nonce : Bytes) :
    (s.beginComposite id nonce).still = s.still := by simp [State.beginComposite]

@[simp] theorem State.attSettled_still (s : State) (j : FwJob) (k : Code) (n : Nat) :
    (s.attSettled j k n).still = s.still := by
  simp only [State.attSettled]
  split <;> simp

@[simp] theorem State.attResumeC_still (s : State) : s.attResumeC.still = s.still := by
  simp only [State.attResumeC]
  split <;> simp

@[simp] theorem State.attResumeS_still (s : State) : s.attResumeS.still = s.still := by
  simp only [State.attResumeS]
  repeat' split
  all_goals simp

/-! ### What a reset clears -/

@[simp] theorem State.clearDom_still (s : State) (d : Dom) : (s.clearDom d).still = s.still := rfl

@[simp] theorem State.passSlot_still (s : State) (i : SlotIx) : (s.passSlot i).still = s.still := by
  simp [State.passSlot]

@[simp] theorem State.keyPass_still (s : State) (rank : Nat) (fresh : Bool) :
    (s.keyPass rank fresh).still = s.still := by simp [State.keyPass]

@[simp] theorem State.chunkAcked_still (s : State) (sid : StreamId) (gen : Gen) (err : Bool) :
    (s.chunkAcked sid gen err).still = s.still := by simp [State.chunkAcked]

@[simp] theorem State.pkeDropC_still (s : State) : s.pkeDropC.still = s.still := by simp [State.pkeDropC]

@[simp] theorem State.tearNvm_still (s : State) : s.tearNvm.still = s.still := by
  unfold State.tearNvm
  split <;> [rfl; (split <;> [rfl; exact still_mk ..])]

@[simp] theorem State.letCtx_still (s : State) (c : Nat) (g : Gen) :
    (s.letCtx c g).still = s.still := by simp [State.letCtx]

@[simp] theorem State.updDrop_still (s : State) : s.updDrop.still = s.still := by
  simp only [State.updDrop]
  repeat' split
  all_goals simp

/-! ### The reset sequencer, the watchdogs and DIM -/

@[simp] theorem State.lcsStopped_still (s : State) : s.lcsStopped.still = s.still := by simp [State.lcsStopped]

@[simp] theorem State.dimReset_still (s : State) (doms : List Dom) :
    (s.dimReset doms).still = s.still := by simp [State.dimReset]

@[simp] theorem State.blockOver_still (s : State) (d : Dom) : (s.blockOver d).still = s.still := by
  simp [State.blockOver]

@[simp] theorem State.crsCommit_still (s : State) : s.crsCommit.still = s.still := by
  simp only [State.crsCommit]
  split <;> simp

@[simp] theorem State.blockWrite_still (s : State) (w : Word) :
    (s.blockWrite w).still = s.still := by
  simp only [State.blockWrite]
  split <;> [(simp only [State.onCrs_still]; split <;> rfl); rfl]

@[simp] theorem State.ctlKick_still (s : State) (w : Word) : (s.ctlKick w).still = s.still := by simp [State.ctlKick]

@[simp] theorem State.ctlCtrl_still (s : State) (w : Word) : (s.ctlCtrl w).still = s.still := by simp [State.ctlCtrl]

@[simp] theorem State.dimWrite_still (s : State) (w : Word) (coresWaiting : Bool) :
    (s.dimWrite w coresWaiting).still = s.still := by simp [State.dimWrite]

@[simp] theorem State.pkeClear_still (s : State) : s.pkeClear.still = s.still := by simp [State.pkeClear]

/-! ### The programming path and the life cycle -/

@[simp] theorem State.cwyField_still (s : State) (lo len v : Nat) :
    (s.cwyField lo len v).still = s.still := rfl

@[simp] theorem State.cwyPhase_still (s : State) (p : Nat) : (s.cwyPhase p).still = s.still := by simp [State.cwyPhase]

theorem State.otpCommand_stills {Q : State → Prop} {s : State} {f : State → State} (hQ : ∀ t, t.still = s.still → Q t)
    (hf : Q (f s)) (w : Word) (allowed : LcState → Bool) (refusals : List (Bool × Code)) :
    Q (s.otpCommand w allowed refusals f) := by
  unfold State.otpCommand
  split <;> [exact hQ _ (by simp); exact hf]

@[simp] theorem State.lcsRefuse_still (s : State) (c : Code) : (s.lcsRefuse c).still = s.still := rfl

@[simp] theorem State.rootAction_still (s : State) : s.rootAction.still = s.still := by
  simp only [State.rootAction]
  split <;> simp

/-! ### The Tinder ROM -/

@[simp] theorem State.onBoot_still (s : State) (f : Boot → Boot) : (s.onBoot f).still = s.still := rfl

@[simp] theorem State.extendNow_still (s : State) (i : Nat) (v : Bytes) :
    (s.extendNow i v).still = s.still := rfl

@[simp] theorem State.formNow_still (s : State) : s.formNow.1.still = s.still := by
  simp only [State.formNow]
  split <;> [rfl; skip]
  split <;> [simp; skip]
  split <;> simp

@[simp] theorem State.bootHalt_still (s : State) (f : SetFail) : (s.bootHalt f).still = s.still := rfl

@[simp] theorem State.enterRecovery_still (s : State) : s.enterRecovery.still = s.still := by simp [State.enterRecovery]

@[simp] theorem State.bootFail_still (s : State) (f : SetFail) : (s.bootFail f).still = s.still := by
  simp [State.bootFail]

@[simp] theorem State.bootAbort_still (s : State) : s.bootAbort.still = s.still := rfl

@[simp] theorem State.bootStop_still (s : State) (abort : Option (Fin 27)) (f : SetFail) :
    (s.bootStop abort f).still = s.still := by simp [State.bootStop]

@[simp] theorem State.placePart_still (s : State) (p : Part) (bs : Bytes) :
    (s.placePart p bs).still = s.still := by
  unfold State.placePart
  split <;> [rfl; exact still_elim rfl (by intros; rfl) _]

@[simp] theorem State.placeAll_still (s : State) (m : Bytes) : (s.placeAll m).still = s.still := by
  simp [State.placeAll]

@[simp] theorem State.bootHand_still (s : State) (r m : Bytes) (abort : Option (Fin 27)) :
    (s.bootHand r m abort).still = s.still := by simp [State.bootHand]

@[simp] theorem State.bootFinish_still (s : State) (r m : Bytes) (abort : Option (Fin 27)) :
    (s.bootFinish r m abort).still = s.still := by
  have hfold (l : List Nat) : (l.foldl (fun s t => (partOf m t).elim s fun p => s.extendNow (t + 1) p.digest) s).still =
      s.still := still_foldl (fun s t => still_elim rfl (fun p => by simp) _) s l
  simp only [State.bootFinish]
  split <;> [simp; skip]
  generalize hu : [1, 2, 3, 4].foldl _ s = u
  have hst : u.still = s.still := hu ▸ hfold _
  simp [hst]

@[simp] theorem State.bootParts_still (s : State) (r m : Bytes) (abort : Option (Fin 27)) :
    (s.bootParts r m abort).still = s.still := by
  simp only [State.bootParts]
  repeat' split
  all_goals simp

@[simp] theorem State.bootSet_still (s : State) (r : Bytes) (abort : Option (Fin 27)) :
    (s.bootSet r abort).still = s.still := by
  simp only [State.bootSet]
  repeat' split
  all_goals simp

@[simp] theorem State.secKick_still (s : State) : s.secKick.still = s.still := rfl

@[simp] theorem State.bootRun_still (s : State) (abort : Option (Fin 27)) :
    (s.bootRun abort).still = s.still := by
  simp only [State.bootRun]
  repeat' split
  all_goals simp

@[simp] theorem State.testArray_still (s : State) (i : Nat) : (s.testArray i).still = s.still := by
  simp [State.testArray]

@[simp] theorem State.mainStart_still (s : State) (w : Word) : (s.mainStart w).still = s.still := by
  simp [State.mainStart]

@[simp] theorem State.lockWrite_still (s : State) (which : Nat) (w : Word) :
    (s.lockWrite which w).still = s.still := by simp [State.lockWrite]

/-! ### The Causeway link -/

@[simp] theorem State.onCwy_still (s : State) (f : Cwy → Cwy) : (s.onCwy f).still = s.still := rfl

@[simp] theorem State.dropFrame_still (s : State) (why : FrameFault) :
    (s.dropFrame why).still = s.still := rfl

@[simp] theorem State.engineAnswer_still (s : State) (f : Bytes) (c : Code) (keep : Bool) :
    (s.engineAnswer f c keep).still = s.still := by simp [State.engineAnswer]

@[simp] theorem State.stageIssue_still (n : Nat) (s : State) : (State.stageIssue n s).still = s.still := by
  induction n generalizing s with
  | zero => rfl
  | succ n ih =>
    unfold State.stageIssue
    split <;> [rfl; simp [ih]]

@[simp] theorem State.stage_still (s : State) (f : Bytes) : (s.stage f).still = s.still := by simp [State.stage]

@[simp] theorem State.describe_still (s : State) (f : Bytes) (c : Code) (buffered : Bool) :
    (s.describe f c buffered).still = s.still := rfl

@[simp] theorem State.postFrame_still (s : State) (typ : Nat) (seq : BitVec 16) (arg : Nat) (payload : Bytes) :
    (s.postFrame typ seq arg payload).still = s.still := rfl

@[simp] theorem State.sendPosted_still (s : State) : s.sendPosted.still = s.still := rfl

@[simp] theorem State.sendFrom_still (s : State) (m : Nat) (d : MbxDir) (n : Nat) :
    (s.sendFrom m d n).still = s.still := by simp [State.sendFrom]

@[simp] theorem State.copyNext_still (s : State) : s.copyNext.still = s.still := by
  simp only [State.copyNext]
  split <;> simp

@[simp] theorem State.copyRead_still (s : State) (data : Bytes) (err : Bool) :
    (s.copyRead data err).still = s.still := by
  simp only [State.copyRead]
  split <;> simp

@[simp] theorem State.cwyCopy_still (s : State) (w : Word) : (s.cwyCopy w).still = s.still := by
  simp only [State.cwyCopy]
  split <;> simp

@[simp] theorem State.nvmNext_still (s : State) : s.nvmNext.still = s.still := by
  simp only [State.nvmNext]
  split <;> simp

@[simp] theorem State.nvmRead_still (s : State) (data : Bytes) (err : Bool) :
    (s.nvmRead data err).still = s.still := by
  simp only [State.nvmRead]
  split <;> simp

@[simp] theorem State.cwyNvm_still (s : State) (w : Word) : (s.cwyNvm w).still = s.still := by
  simp only [State.cwyNvm]
  split <;> simp

@[simp] theorem State.nvmBus_still (s : State) (r : NvmRun) : (s.nvmBus r).still = s.still := by
  unfold State.nvmBus
  split <;> [rfl; rfl; skip]
  exact still_foldl (by intros; rfl) _ _

@[simp] theorem State.nvmEnd_still (s : State) (r : NvmRun) (ok : Bool) :
    (s.nvmEnd r ok).still = s.still := by
  unfold State.nvmEnd
  extract_lets old done t
  have hdone (c : Code) (t : State) : (done c t).still = t.still := rfl
  have ht : t.still = s.still := State.nvmBus_still ..
  split <;> [exact hdone ..; skip]
  split <;> [skip; split; split] <;> refine (hdone ..).trans ?_
  · exact ht
  · exact (State.nvmPut_still ..).trans ht
  · exact (State.tearNvm_still _).trans ht
  · exact (State.nvmPut_still ..).trans ht
  · exact (State.tearNvm_still _).trans ht

/-! ### Field update -/

@[simp] theorem State.status_still (s : State) (f : Bytes) (c : Code) :
    (s.status f c).still = s.still := rfl

@[simp] theorem State.statusFull_still (s : State) (f : Bytes) (c : Code) :
    (s.statusFull f c).still = s.still := rfl

@[simp] theorem State.noteFail_still (s : State) (f : Option SetFail) :
    (s.noteFail f).still = s.still := rfl

@[simp] theorem State.answerFail_still (s : State) (f : Bytes) (x : Option SetFail) :
    (s.answerFail f x).still = s.still := by simp [State.answerFail]

@[simp] theorem State.rephase_still (s : State) (p : Nat) : (s.rephase p).still = s.still := by simp [State.rephase]

@[simp] theorem State.dropSet_still (s : State) : s.dropSet.still = s.still := still_elim (by simp) (fun f => by simp) _

@[simp] theorem State.endService_still (s : State) : s.endService.still = s.still := by simp [State.endService]

@[simp] theorem State.hello_still (s : State) (f : Bytes) : (s.hello f).still = s.still := by simp [State.hello]

@[simp] theorem State.noteLimit_still (s : State) (x : SetFail) :
    (s.noteLimit x).still = s.still := by simp [State.noteLimit]

@[simp] theorem State.manifestFrame_still (s : State) (f : Bytes) :
    (s.manifestFrame f).still = s.still := by
  simp only [State.manifestFrame]
  repeat' split
  all_goals simp

@[simp] theorem State.stagedAnswer_still (s : State) (r : CwyRx) :
    (s.stagedAnswer r).still = s.still := by simp [State.stagedAnswer]

@[simp] theorem State.stageGoOn_still (s : State) : s.stageGoOn.still = s.still := by
  simp only [State.stageGoOn]
  split <;> simp

@[simp] theorem State.stageAcked_still (s : State) (err : Bool) :
    (s.stageAcked err).still = s.still := by simp [State.stageAcked]

@[simp] theorem State.stageFrame_still (s : State) (f : Bytes) :
    (s.stageFrame f).still = s.still := by simp [State.stageFrame]

@[simp] theorem State.updTo_still (s : State) (st : UpdStep) : (s.updTo st).still = s.still := rfl

@[simp] theorem State.updStarted_still (s : State) (b : Bool) : (s.updStarted b).still = s.still := rfl

@[simp] theorem State.updRefuse_still (s : State) (u : UpdWork) (c : Code) (x : Option SetFail) :
    (s.updRefuse u c x).still = s.still := by simp [State.updRefuse]

@[simp] theorem State.updVerified_still (s : State) (u : UpdWork) :
    (s.updVerified u).still = s.still := by simp [State.updVerified]

@[simp] theorem State.hashPart_still (s : State) (p : Part) (c : Nat) (g : Gen) :
    (s.hashPart p c g).still = s.still := by
  simp only [State.hashPart, State.dgeUpdate_still]
  rw [still_foldl (by intros; rfl), State.setReg_still, State.setReg_still, State.setReg_still]

@[simp] theorem State.updAsk_still (s : State) (u : UpdWork) (i : Nat) :
    (s.updAsk u i).still = s.still := by
  simp only [State.updAsk]
  split <;> simp

@[simp] theorem State.updAbsorb_still (s : State) (u : UpdWork) (i c : Nat) (g : Gen) :
    (s.updAbsorb u i c g).still = s.still := by simp [State.updAbsorb]

@[simp] theorem State.updCompare_still (s : State) (u : UpdWork) (i c : Nat) (g : Gen) :
    (s.updCompare u i c g).still = s.still := by
  simp only [State.updCompare]
  repeat' split
  all_goals simp

@[simp] theorem State.compareTurn_still (s : State) (who : Nat) :
    (s.compareTurn who).still = s.still := by simp [State.compareTurn]

@[simp] theorem State.raiseLock_still (s : State) (t : Nat) (p : Part) :
    (s.raiseLock t p).still = s.still := by
  simp only [State.raiseLock]
  split <;> simp

@[simp] theorem State.copyPart_still (s : State) (t : Nat) (p : Part) :
    (s.copyPart t p).still = s.still := by simp [State.copyPart]

@[simp] theorem State.afterCopy_still (s : State) (t : Nat) : (s.afterCopy t).still = s.still := by
  simp only [State.afterCopy]
  split <;> simp

@[simp] theorem State.secMigrates_still (s : State) (m : Bytes) :
    (s.secMigrates m).still = s.still := by simp [State.secMigrates]

@[simp] theorem State.updCopy_still (s : State) (u : UpdWork) (t : Nat) :
    (s.updCopy u t).still = s.still := by
  simp only [State.updCopy]
  split <;> simp

@[simp] theorem State.raiseEnd_still (s : State) (m : Bytes) (t : Nat) :
    (s.raiseEnd m t).still = s.still := by
  simp only [State.raiseEnd]
  split <;> simp

@[simp] theorem State.updGate_still (s : State) (u : UpdWork) : (s.updGate u).still = s.still := by
  simp only [State.updGate]
  split <;> [rfl; skip]
  simp only [State.updTo_still, State.raiseEnd_still]
  rw [still_foldl (by intros; rfl)]
  rfl

@[simp] theorem State.updMeet_still (s : State) (u : UpdWork) : (s.updMeet u).still = s.still := by simp [State.updMeet]

@[simp] theorem State.mainHandsOver_still (s : State) (m : Bytes) :
    (s.mainHandsOver m).still = s.still := by simp [State.mainHandsOver]

@[simp] theorem State.afterRequest_still (s : State) : s.afterRequest.still = s.still := rfl

@[simp] theorem State.updAsks_still (s : State) : s.updAsks.still = s.still := by simp [State.updAsks]

@[simp] theorem State.updRequest_still (s : State) (u : UpdWork) :
    (s.updRequest u).still = s.still := by simp [State.updRequest]

@[simp] theorem State.updIdle_still (s : State) : s.updIdle.still = s.still := by simp [State.updIdle]

@[simp] theorem State.updBlock_still (s : State) (u : UpdWork) : (s.updBlock u).still = s.still := by
  simp [State.updBlock]

@[simp] theorem State.mainMigrates_still (s : State) (k : Fw) :
    (s.mainMigrates k).still = s.still := by simp [State.mainMigrates]

@[simp] theorem State.updServe_still (s : State) (u : UpdWork) : (s.updServe u).still = s.still := by
  simp only [State.updServe]
  split <;> [rfl; skip]
  split <;> [simp; skip]
  rw [State.updTo_still, State.mbx1Pass_still]
  exact still_elim (by simp) (fun k => by simp) _

@[simp] theorem State.updFinish_still (s : State) (u : UpdWork) :
    (s.updFinish u).still = s.still := by simp [State.updFinish]

@[simp] theorem State.rewriteFails_still (s : State) : s.rewriteFails.still = s.still := by simp [State.rewriteFails]

@[simp] theorem State.sectorDone_still (s : State) (a : Nat) (rest : List Nat) (st : SectorStep) (again : Bool) :
    (s.sectorDone a rest st again).still = s.still := by
  simp only [State.sectorDone]
  split <;> simp

@[simp] theorem State.commitSet_still (s : State) (f : Bytes) (now : Bool) :
    (s.commitSet f now).still = s.still := by
  simp only [State.commitSet]
  repeat' split
  all_goals simp

theorem State.receive_stills {Q : State → Prop} {s : State} {go : State → State} (hQ : ∀ t, t.still = s.still → Q t)
    (hgo : ∀ t, t.still = s.still → Q (go t)) (f : Bytes) : Q (s.receive f go) := by
  simp only [State.receive]
  split <;> [exact hQ _ rfl; skip]
  split <;> [exact hQ _ (by simp); skip]
  split <;> [exact hQ _ (by simp); skip]
  split <;> [exact hQ _ (by simp); skip]
  split
  · exact hQ _ (by simp)
  · split <;> [exact hQ _ (by simp); skip]
    split <;> [exact hQ _ (by simp); skip]
    split <;> [exact hQ _ (by simp); exact hgo _ (by simp)]

theorem State.plainFrame_stills {Q : State → Prop} {s : State} {go : State → State} (hQ : ∀ t, t.still = s.still → Q t)
    (hgo : ∀ t, t.still = s.still → Q (go t)) (f : Bytes) : Q (s.plainFrame f go) := by
  simp only [State.plainFrame]
  split <;> [exact hgo _ (by simp); exact hQ _ (by simp)]

theorem State.commit_stills {Q : State → Prop} {s : State} {go : State → State} (hQ : ∀ t, t.still = s.still → Q t)
    (hgo : ∀ t, t.still = s.still → Q (go t)) (f : Bytes) : Q (s.commit f go) := by
  refine State.receive_stills hQ (fun t ht => ?_) f
  refine State.plainFrame_stills (fun u hu => hQ u (hu.trans ht)) (fun u hu => ?_) f
  split <;> [exact hQ _ ((State.statusFull_still ..).trans (hu.trans ht)); exact hgo _ (hu.trans ht)]

/-! ### The memory port -/

@[simp] theorem State.mpDeliver_still (s : State) (r : MpReq) : (s.mpDeliver r).still = s.still := by
  simp only [State.mpDeliver]
  split <;> simp

/-! ### Writes of registers -/

@[simp] theorem State.store_still (s : State) (r : Reg) (b k : Nat) (w : Word) :
    (s.store r b k w).still = s.still := by simp [State.store]

@[simp] theorem State.looked_still (s : State) : s.looked.still = s.still := rfl

@[simp] theorem State.dimCtrl_still (s : State) (w : Word) : (s.dimCtrl w).still = s.still := by simp [State.dimCtrl]

@[simp] theorem State.smeIntClear_still (s : State) (b : Blk) (w : Word) :
    (s.smeIntClear b w).still = s.still := by simp [State.smeIntClear]

@[simp] theorem State.klnIntClear_still (s : State) (w : Word) : (s.klnIntClear w).still = s.still := rfl

@[simp] theorem State.kfbIntClear_still (s : State) (w : Word) : (s.kfbIntClear w).still = s.still := rfl

@[simp] theorem State.cntIntClear_still (s : State) (w : Word) : (s.cntIntClear w).still = s.still := rfl

@[simp] theorem State.prtIntClear_still (s : State) (w : Word) : (s.prtIntClear w).still = s.still := rfl

@[simp] theorem State.onStaged_still (s : State) (f : StagedRegion → StagedRegion) :
    (s.onStaged f).still = s.still := rfl

@[simp] theorem State.gateEpWrite_still (s : State) (w : Word) :
    (s.gateEpWrite w).still = s.still := by simp [State.gateEpWrite]

@[simp] theorem State.scrubAddrWrite_still (s : State) (hi : Bool) (w : Word) :
    (s.scrubAddrWrite hi w).still = s.still := by simp [State.scrubAddrWrite]

@[simp] theorem State.onEntry_still (s : State) (f : FwEntry → FwEntry) :
    (s.onEntry f).still = s.still := rfl

@[simp] theorem State.thrMaskWrite_still (s : State) (w : Word) :
    (s.thrMaskWrite w).still = s.still := by simp [State.thrMaskWrite]

@[simp] theorem State.msgWrite_still (s : State) (i k : Nat) (w : Word) :
    (s.msgWrite i k w).still = s.still := rfl

/-! ### Windows and the control port -/

@[simp] theorem State.refuseDown_still (s : State) (d : Dom) :
    (s.refuseDown d).still = s.still := by simp [State.refuseDown]

@[simp] theorem State.zeroLook_still (s : State) : s.zeroLook.still = s.still := by simp [State.zeroLook]

theorem State.throughWindow_still {f : State → Nat → State} (h : ∀ s i, (f s i).still = s.still) (s : State)
    (k : AccKind) (size a : Nat) : (s.throughWindow k size a f).still = s.still := by
  simp [State.throughWindow, h]

@[simp] theorem State.windowWrite_still (s : State) (size a : Nat) (v : Word) :
    (s.windowWrite size a v).still = s.still :=
  State.throughWindow_still (f := fun s i => s.csramPut i ((wordBytes v).take (2 ^ size))) (fun _ _ => rfl) s _ size a

@[simp] theorem State.icpOwe_still (s : State) (tag : BitVec 4) : (s.icpOwe tag).still = s.still := rfl

@[simp] theorem State.newWindow_still (s : State) (arb : Arbiter) :
    (s.newWindow arb).still = s.still := by
  simp only [State.newWindow]
  split <;> simp

/-! ### A cycle -/

@[simp] theorem State.raise_still (s : State) (i : Instr) : (s.raise i).still = s.still := rfl

@[simp] theorem State.secTick_still (s : State) : s.secTick.still = s.still := by simp [State.secTick]

@[simp] theorem State.ctlTick_still (s : State) : s.ctlTick.still = s.still := by simp [State.ctlTick]

@[simp] theorem State.gateTick_still (s : State) : s.gateTick.still = s.still := by simp [State.gateTick]

@[simp] theorem State.availTick_still (s : State) : s.availTick.still = s.still := by simp [State.availTick]

@[simp] theorem State.gateCycle_still (s : State) : s.gateCycle.still = s.still := by simp [State.gateCycle]

@[simp] theorem State.counted_still (s : State) : s.counted.still = s.still := by simp [State.counted]

/-! ### The queue -/

@[simp] theorem State.withFetchWord_still (s : State) (nbits w : Nat) :
    (s.withFetchWord nbits w).still = s.still := rfl

/-! ### The checks of an SPDM request -/

section
variable {k : Bool × Bool × BitVec 6 × Option Episode} {s : State}

theorem State.spdm_still {f : State → Bytes → State} (hf : ∀ t m, t.still = k → (f t m).still = k) (hs : s.still = k)
    (ss : Option Word) (r : Bytes) (mine : Byte × Byte) : (s.spdm ss r mine f).still = k := by
  subst hs
  exact State.spdm_stills (Q := fun t => t.still = s.still) (fun _ h => h) hf ss r mine

theorem State.inSession_still {f : State → SpdmSession → State} (hf : ∀ t x, t.still = k → (f t x).still = k)
    (hs : s.still = k) (ss : Option Word) (late : Bool) : (s.inSession ss late f).still = k :=
  State.inSession_stills (Q := fun t => t.still = k) (fun _ h => h) hf hs ss late

theorem State.outside_still {f : State → State} (hf : ∀ t, t.still = k → (f t).still = k) (hs : s.still = k)
    (ss : Option Word) (n : Nat) : (s.outside ss n f).still = k := by
  unfold State.outside
  split <;> [simp [hs]; (split <;> [simp [hs]; exact hf _ hs])]

theorem State.anywhere_still {f : State → State} (hf : ∀ t, t.still = k → (f t).still = k) (hs : s.still = k)
    (ss : Option Word) : (s.anywhere ss f).still = k := by
  unfold State.anywhere
  split <;> split <;> [simp [hs]; exact hf _ hs; exact hf _ hs; simp [hs]]

theorem State.longEnough_still {f : State → State} (hf : ∀ t, t.still = k → (f t).still = k) (hs : s.still = k)
    (ss : Option Word) (m : Bytes) (n : Nat) : (s.longEnough ss m n f).still = k := by
  unfold State.longEnough
  split <;> [simp [hs]; exact hf _ hs]

theorem State.withChain_still {f : State → List Bytes → State} (hf : ∀ t c, t.still = k → (f t c).still = k)
    (hs : s.still = k) {old : State} (hold : old.still = k) (ss : Option Word) (ec : Bool) :
    (s.withChain old ss ec f).still = k := by
  unfold State.withChain
  split <;> [exact hf _ _ (by simp [hs]); (split <;> [simp [hs]; exact hold])]

theorem State.withRandom_still {f : State → Bytes → State} (hf : ∀ t b, t.still = k → (f t b).still = k)
    (hs : s.still = k) (ss : Option Word) (n : Nat) : (s.withRandom ss n f).still = k := by
  unfold State.withRandom
  split <;> [exact hf _ _ ((State.fwRandom_still ‹_›).trans hs); simp [hs]]

theorem State.withArgs_still {f : State → Bytes → State} (hf : ∀ t a, t.still = k → (f t a).still = k)
    (hs : s.still = k) (ss : Option Word) (m : Bytes) (n used : Nat) : (s.withArgs ss m n used f).still = k := by
  simp only [State.withArgs]
  split <;> [simp [hs]; exact hf _ _ hs]

end

/-! ### Confluence records and commands of the Kiln -/

@[simp] theorem State.setRecord_still (s : State) (i : Nat) (r : Option KRecord) :
    (s.setRecord i r).still = s.still := rfl

@[simp] theorem State.failRecord_still (s : State) (i : Nat) (r : KRecord) (src : EmberSrc) :
    (s.failRecord i r src).still = s.still := by simp [State.failRecord]

@[simp] theorem State.faultRecord_still (s : State) (i : Nat) (r : KRecord) (src : EmberSrc) :
    (s.faultRecord i r src).still = s.still := by simp [State.faultRecord]

@[simp] theorem State.formRecord_still (s : State) (i : Nat) (r : KRecord) (src : EmberSrc) :
    (s.formRecord i r src).still = s.still := by simp [State.formRecord]

@[simp] theorem State.updateRecord_still (s : State) (i : Nat) (r : KRecord) (src : EmberSrc) :
    (s.updateRecord i r src).still = s.still := by simp [State.updateRecord]

@[simp] theorem State.applyTo_still (s : State) (e : SmeEvent) (i : Nat) (r : KRecord) (t : ReqStream) :
    (s.applyTo e i r t).still = s.still := by
  simp only [State.applyTo]
  split <;> simp

@[simp] theorem State.applyEvent_still (s : State) : s.applyEvent.still = s.still := by
  simp only [State.applyEvent]
  repeat' split
  all_goals simp

@[simp] theorem State.klnTurn_still (s : State) : s.klnTurn.still = s.still := by simp [State.klnTurn]

@[simp] theorem State.destroyKeys_still (s : State) : s.destroyKeys.still = s.still :=
  still_foldl (by intros; rfl) s _

@[simp] theorem State.destroyPart_still (s : State) (p : PartId) (owner : EmberOwner) (src : EmberSrc) :
    (s.destroyPart p owner src).still = s.still := by
  simp only [State.destroyPart, State.raiseEmber_still, State.onKln_still]
  exact still_foldl (by intros; rfl) s _

@[simp] theorem State.putShare_still (s : State) (m : KuMsg) (key : Bytes) :
    (s.putShare m key).still = s.still := by
  simp only [State.putShare]
  split <;> simp

@[simp] theorem State.unwrap_still (s : State) : s.unwrap.still = s.still := by simp [State.unwrap]

@[simp] theorem State.doUnwrap_still (s : State) (w : Word) (e : MemErr) :
    (s.doUnwrap w e).still = s.still := by
  simp [State.doUnwrap, State.klnCommand_still State.unwrap_still]

@[simp] theorem State.doDestroyPart_still (s : State) (w : Word) : (s.doDestroyPart w).still = s.still :=
  State.klnCommand_still (fun s => by simp) ..

@[simp] theorem State.doJobCreate_still (s : State) (w : Word) : (s.doJobCreate w).still = s.still :=
  State.klnCommand_still (fun s => by simp [State.jobCreate]) ..

@[simp] theorem State.doJobDestroy_still (s : State) (w : Word) : (s.doJobDestroy w).still = s.still :=
  State.klnCommand_still (fun s => by split <;> simp) ..

@[simp] theorem State.klnRun_still (s : State) (c : KlnWait) : (s.klnRun c).still = s.still := by
  unfold State.klnRun
  split
  case h_12 => exact State.klnCommand_still (fun _ => rfl) ..
  all_goals simp

@[simp] theorem State.klnStart_still (s : State) (c : KlnWait) : (s.klnStart c).still = s.still := by
  simp [State.klnStart]

@[simp] theorem State.klnResume_still (s : State) : s.klnResume.still = s.still := by
  simp only [State.klnResume]
  split <;> simp

@[simp] theorem State.klnWrite_still (s : State) (c : KlnWait) : (s.klnWrite c).still = s.still := by
  simp [State.klnWrite]

@[simp] theorem State.firmwareGoesOn_still (s : State) : s.firmwareGoesOn.still = s.still := by
  simp [State.firmwareGoesOn]

/-! ### A RELEASE, and what waits for the memory port -/

theorem State.relStep_still {s t : State} (h : s.relStep = some t) : t.still = s.still := by
  unfold State.relStep at h
  split at h <;> [cases h; skip]
  simp only at h
  split at h
  case h_7 =>
    split at h
    · split at h <;> cases h
      simp
    · split at h
      · cases h
      · split at h <;> cases h <;> simp
  case h_1 | h_2 | h_3 | h_4 | h_5 =>
    split at h <;> cases h
    simp
  case h_6 | h_8 => cases h

@[simp] theorem State.relRun_still (n : Nat) (s : State) : (State.relRun n s).still = s.still := by
  induction n generalizing s with
  | zero => rfl
  | succ n ih =>
    unfold State.relRun
    split <;> [rfl; exact (ih _).trans (State.relStep_still ‹_›)]

@[simp] theorem State.prtGoOn_still (s : State) : s.prtGoOn.still = s.still := by simp [State.prtGoOn]

@[simp] theorem State.mpGoOn_still (s : State) : s.mpGoOn.still = s.still := by simp [State.mpGoOn]

@[simp] theorem State.scrubAcked_still (s : State) (i : Nat) (err : Bool) :
    (s.scrubAcked i err).still = s.still := by simp [State.scrubAcked]

@[simp] theorem State.fillAcked_still (s : State) (i : Nat) (err : Bool) :
    (s.fillAcked i err).still = s.still := by
  simp only [State.fillAcked]
  split <;> simp

@[simp] theorem State.purgeResume_still (s : State) : s.purgeResume.still = s.still := by
  simp only [State.purgeResume]
  split <;> simp

@[simp] theorem State.mpLost_still (s : State) (r : MpReq) : (s.mpLost r).still = s.still := by
  simp only [State.mpLost]
  split <;> simp

@[simp] theorem State.mpAcked_still (s : State) (r : MpReq) (err : Bool) :
    (s.mpAcked r err).still = s.still := by
  simp only [State.mpAcked]
  split <;> simp

@[simp] theorem State.mpBeat_still (s : State) (r : MpReq) (err : Bool) (data : BitVec 512) :
    (s.mpBeat r err data).still = s.still := by simp [State.mpBeat]

/-! ### Leaving reset -/

@[simp] theorem State.leaveD2_still (s : State) : s.leaveD2.still = s.still := by simp [State.leaveD2]

@[simp] theorem State.leave_still (s : State) (d : Dom) : (s.leave d).still = s.still := by
  cases d <;> simp [State.leave]

/-! ### A transition's keys -/

@[simp] theorem State.destroyWorking_still (s : State) : s.destroyWorking.still = s.still := by
  simp [State.destroyWorking]

@[simp] theorem State.transitionRuns_still (s : State) : s.transitionRuns.still = s.still := by
  simp [State.transitionRuns]

end Sys2Proof.Machine
end

section
/-!
PROOFS. The commands and events that leave the bits of the debug gate, the released domains and the episode.
-/
namespace Sys2Proof.Machine

/-- The outcome, where it is a state, has the debug gate, the released domains and the episode of `s`. -/
structure Stays (s : State) (r : Res) : Prop where
  of_next : ∀ t, r = .next t → t.still = s.still

@[simp] theorem quiet_still (s : State) : s.quiet.still = s.still := rfl

@[simp] theorem stays_ran {f : State → State} {s : State} : Stays s (ran f s) ↔ (f s.quiet).still = s.still :=
  ⟨fun h => h.of_next _ rfl, fun h => ⟨fun _ ht => by rwa [ran_next ht]⟩⟩

@[simp] theorem stays_ranIf {b : Bool} {f : State → State} {s : State} :
    Stays s (ranIf b f s) ↔ (b = true → (f s.quiet).still = s.still) := by
  cases b with
  | true => exact stays_ran.trans (by simp)
  | false => exact stays_ran.trans (by simp)

@[simp] theorem stays_ranOn {d : Dom} {f : State → State} {s : State} :
    Stays s (ranOn d f s) ↔ (s.serves d = true → (f s.quiet).still = s.still) := by
  cases h : s.serves d with
  | true =>
    refine ⟨fun hk _ => hk.of_next _ (ranOn_up h), fun hf => ⟨fun t ht => ?_⟩⟩
    cases (ranOn_up h).symm.trans ht
    exact hf rfl
  | false =>
    refine ⟨fun _ hd => (nomatch hd), fun _ => ⟨fun t ht => ?_⟩⟩
    cases (ranOn_down h).symm.trans ht
    rfl

theorem State.prtCommand_still {s : State} {f : State → State} (hf : (f s).still = s.still) (w : Word) (err : MemErr)
    (early refusals : List (Bool × Code)) : (s.prtCommand w err early refusals f).still = s.still :=
  State.prtCommand_stills (Q := fun t => t.still = s.still) (fun _ h => h) hf w err early refusals

theorem State.otpCommand_still {s : State} {f : State → State} (hf : (f s).still = s.still) (w : Word)
    (allowed : LcState → Bool) (refusals : List (Bool × Code)) : (s.otpCommand w allowed refusals f).still = s.still :=
  State.otpCommand_stills (Q := fun t => t.still = s.still) (fun _ h => h) hf w allowed refusals

theorem State.receive_still {s : State} {go : State → State} (hgo : ∀ t, t.still = s.still → (go t).still = s.still)
    (f : Bytes) : (s.receive f go).still = s.still :=
  State.receive_stills (Q := fun t => t.still = s.still) (fun _ h => h) hgo f

theorem State.plainFrame_still {s t : State} {go : State → State}
    (hgo : ∀ u, u.still = s.still → (go u).still = s.still) (h : t.still = s.still) (f : Bytes) :
    (t.plainFrame f go).still = s.still :=
  State.plainFrame_stills (Q := fun u => u.still = s.still) (fun _ hu => hu.trans h) (fun _ hu => hgo _ (hu.trans h)) f

theorem State.commit_still {s : State} {go : State → State} (hgo : ∀ t, t.still = s.still → (go t).still = s.still)
    (f : Bytes) : (s.commit f go).still = s.still :=
  State.commit_stills (Q := fun t => t.still = s.still) (fun _ h => h) hgo f

@[simp] theorem execFncCommit_still (w : Word) (s : State) : Stays s (execFncCommit w s) := by simp [execFncCommit]

/-! ### The fence -/

@[simp] theorem execSnsRequest_still (s : State) : Stays s (execSnsRequest s) := by
  simp only [execSnsRequest, stays_ranIf]
  repeat' split
  all_goals simp

@[simp] theorem execSnsResponse_still (addr : BitVec 8) (data : BitVec 16) (s : State) :
    Stays s (execSnsResponse addr data s) := by
  simp only [execSnsResponse, stays_ran]
  repeat' split
  all_goals simp

@[simp] theorem execSnsTimeout_still (addr : BitVec 8) (s : State) :
    Stays s (execSnsTimeout addr s) := by simp [execSnsTimeout]

@[simp] theorem execAvsResponse_still (good alert : Bool) (data : BitVec 16) (s : State) :
    Stays s (execAvsResponse good alert data s) := by
  simp only [execAvsResponse, stays_ranIf]
  repeat' split
  all_goals simp

@[simp] theorem execAvsReadback_still (good : Bool) (mv : BitVec 16) (s : State) :
    Stays s (execAvsReadback good mv s) := by
  simp only [execAvsReadback, stays_ranIf]
  repeat' split
  all_goals simp

@[simp] theorem execAvsSettleTimeout_still (s : State) :
    Stays s (execAvsSettleTimeout s) := by simp [execAvsSettleTimeout]

@[simp] theorem execFncHealthPop_still (s : State) : Stays s (execFncHealthPop s) := by simp [execFncHealthPop]

/-! ### The key fabric -/

@[simp] theorem execEmberLate_still (id : Nat) (s : State) : Stays s (execEmberLate id s) := by simp [execEmberLate]

@[simp] theorem execEmberTimeout_still (port : Fin 8) (s : State) :
    Stays s (execEmberTimeout port s) := by simp [execEmberTimeout]

@[simp] theorem execKfAck_still (port : Fin 8) (beat : BitVec 64) (corrected : Bool) (s : State) :
    Stays s (execKfAck port beat corrected s) := by simp [execKfAck]

@[simp] theorem execKfCntReq_still (port : Fin 8) (beat : BitVec 64) (corrected : Bool) (s : State) :
    Stays s (execKfCntReq port beat corrected s) := by simp [execKfCntReq]

@[simp] theorem execKfNextReq_still (port : Fin 8) (beat : BitVec 64) (corrected : Bool) (s : State) :
    Stays s (execKfNextReq port beat corrected s) := by simp [execKfNextReq]

@[simp] theorem execKfFault_still (port : Fin 8) (beat : BitVec 64) (corrected : Bool) (s : State) :
    Stays s (execKfFault port beat corrected s) := by simp [execKfFault]

@[simp] theorem execUpstreamDrop_still (port : Fin 8) (beat : BitVec 64) (uncorr : Bool) (s : State) :
    Stays s (execUpstreamDrop port beat uncorr s) := by
  simp only [execUpstreamDrop, stays_ranIf]
  repeat' split
  all_goals simp

@[simp] theorem execKfbLoad_still (w : Word) (err : MemErr) (s : State) :
    Stays s (execKfbLoad w err s) := by simp [execKfbLoad]

@[simp] theorem execKfbRotate_still (w : Word) (s : State) : Stays s (execKfbRotate w s) := by simp [execKfbRotate]

@[simp] theorem execKfbZeroise_still (w : Word) (s : State) :
    Stays s (execKfbZeroise w s) := by simp [execKfbZeroise]

@[simp] theorem execKfbRevoke_still (w : Word) (s : State) : Stays s (execKfbRevoke w s) := by simp [execKfbRevoke]

@[simp] theorem execKfbBind_still (w : Word) (s : State) : Stays s (execKfbBind w s) := by simp [execKfbBind]

@[simp] theorem execKfbRelease_still (w : Word) (s : State) :
    Stays s (execKfbRelease w s) := by simp [execKfbRelease]

@[simp] theorem execKfbDonePop_still (s : State) : Stays s (execKfbDonePop s) := by simp [execKfbDonePop]

@[simp] theorem execKfbNextPop_still (s : State) : Stays s (execKfbNextPop s) := by simp [execKfbNextPop]

/-! ### Counter cells -/

@[simp] theorem execCntGrant_still (bank : Fin 16) (err : CellErr) (s : State) :
    Stays s (execCntGrant bank err s) := by simp [execCntGrant]

@[simp] theorem execCntConfigure_still (w : Word) (s : State) :
    Stays s (execCntConfigure w s) := by simp [execCntConfigure]

@[simp] theorem execCntRead_still (w : Word) (s : State) : Stays s (execCntRead w s) := by simp [execCntRead]

@[simp] theorem execCntAdvance_still (w : Word) (s : State) :
    Stays s (execCntAdvance w s) := by simp [execCntAdvance]

@[simp] theorem execCntRetire_still (w : Word) (s : State) : Stays s (execCntRetire w s) := by simp [execCntRetire]

@[simp] theorem execCntExhPop_still (s : State) : Stays s (execCntExhPop s) := by simp [execCntExhPop]

/-! ### Stream measurement -/

@[simp] theorem execSmeEventSend_still (s : State) : Stays s (execSmeEventSend s) := by
  simp only [execSmeEventSend, stays_ranIf]
  repeat' split
  all_goals simp

@[simp] theorem execTapBeat_still (tap : Fin 16) (data : BitVec 1024) (sid : StreamId) (first last : Bool)
    (nbm1 : BitVec 7) (err : MemErr) (s : State) :
    Stays s (execTapBeat tap data sid first last nbm1 err s) := by
  simp only [execTapBeat, stays_ran]
  repeat' split
  all_goals simp

@[simp] theorem execBeatIntake_still (tap : Fin 16) (s : State) : Stays s (execBeatIntake tap s) := by
  simp only [execBeatIntake, stays_ranIf]
  intro
  cases h : s.quiet.intakeTap tap.val with
  | none => rfl
  | some t => exact (State.intakeTap_still h : t.still = s.quiet.still)

@[simp] theorem execLeafDone_still (lane : Fin 192) (err : MemErr) (s : State) :
    Stays s (execLeafDone lane err s) := by simp [execLeafDone]

@[simp] theorem execCombineAbsorb_still (lane : Fin 4) (err : MemErr) (s : State) :
    Stays s (execCombineAbsorb lane err s) := by
  simp only [execCombineAbsorb, stays_ranIf]
  repeat' split
  all_goals simp

@[simp] theorem execStreamResult_still (sid : StreamId) (err : MemErr) (s : State) :
    Stays s (execStreamResult sid err s) := by simp [execStreamResult]

@[simp] theorem execSmeOpen_still (b : Blk) (w : Word) (s : State) :
    Stays s (execSmeOpen b w s) := by simp [execSmeOpen]

@[simp] theorem execSmeAbort_still (b : Blk) (w : Word) (s : State) :
    Stays s (execSmeAbort b w s) := by simp [execSmeAbort]

@[simp] theorem execSmeStatus_still (b : Blk) (w : Word) (err : MemErr) (s : State) :
    Stays s (execSmeStatus b w err s) := by simp [execSmeStatus]

@[simp] theorem execExpWrite_still (b : Blk) (w : Word) (err : MemErr) (s : State) :
    Stays s (execExpWrite b w err s) := by simp [execExpWrite]

@[simp] theorem execExpClear_still (b : Blk) (w : Word) (s : State) :
    Stays s (execExpClear b w s) := by simp [execExpClear]

@[simp] theorem execExpRead_still (b : Blk) (w : Word) (err : MemErr) (s : State) :
    Stays s (execExpRead b w err s) := by simp [execExpRead]

@[simp] theorem execMrExtend_still (b : Blk) (w : Word) (s : State) :
    Stays s (execMrExtend b w s) := by simp [execMrExtend]

@[simp] theorem execMrAssign_still (b : Blk) (w : Word) (s : State) :
    Stays s (execMrAssign b w s) := by simp [execMrAssign]

@[simp] theorem execMrRead_still (b : Blk) (w : Word) (err : MemErr) (s : State) :
    Stays s (execMrRead b w err s) := by simp [execMrRead]

@[simp] theorem execSmePurge_still (b : Blk) (w : Word) (s : State) :
    Stays s (execSmePurge b w s) := by simp [execSmePurge]

@[simp] theorem execSmeCommit_still (w : Word) (s : State) : Stays s (execSmeCommit w s) := by simp [execSmeCommit]

@[simp] theorem execResPop_still (b : Blk) (s : State) : Stays s (execResPop b s) := by simp [execResPop]

/-! ### Small digests and the comparator -/

@[simp] theorem execDgeAcquireReq_still (q : Req) (w : Word) (s : State) :
    Stays s (execDgeAcquireReq q w s) := by simp [execDgeAcquireReq]

@[simp] theorem execDgeAcquireWithdraw_still (q : Req) (w : Word) (s : State) :
    Stays s (execDgeAcquireWithdraw q w s) := by simp [execDgeAcquireWithdraw]

@[simp] theorem execDgeUpdate_still (q : Req) (c : Fin 4) (w : Word) (err : MemErr) (s : State) :
    Stays s (execDgeUpdate q c w err s) := stays_ran.2 (State.ctxCommand_still (fun _ => by simp) ..)

@[simp] theorem execDgeFinal_still (q : Req) (c : Fin 4) (w : Word) (err : MemErr) (s : State) :
    Stays s (execDgeFinal q c w err s) := stays_ran.2 (State.ctxCommand_still (fun _ => by simp) ..)

@[simp] theorem execCmpCompare_still (b : Blk) (w : Word) (s : State) :
    Stays s (execCmpCompare b w s) := by simp [execCmpCompare]

@[simp] theorem execCmpSliceGrant_still (s : State) : Stays s (execCmpSliceGrant s) := by
  simp only [execCmpSliceGrant, stays_ranIf]
  repeat' split
  all_goals simp

@[simp] theorem execComparisonDone_still (slice : Fin 5) (err : MemErr) (s : State) :
    Stays s (execComparisonDone slice err s) := by
  simp only [execComparisonDone, stays_ranIf]
  repeat' split
  all_goals simp

/-! ### The partition manager -/

@[simp] theorem execJobRecord_still (w : Word) (err : MemErr) (s : State) : Stays s (execJobRecord w err s) :=
  stays_ranOn.2 fun _ => State.prtCommand_still (by simp) ..

@[simp] theorem execJobForget_still (w : Word) (err : MemErr) (s : State) : Stays s (execJobForget w err s) := by
  refine stays_ranOn.2 fun _ => State.prtCommand_still ?_ ..
  split <;> simp

@[simp] theorem execGateEnter_still (w : Word) (err : MemErr) (s : State) : Stays s (execGateEnter w err s) := by
  refine stays_ranOn.2 fun _ => ?_
  split <;> [rfl; exact State.prtCommand_still (by simp) ..]

@[simp] theorem execGateExit_still (w : Word) (s : State) : Stays s (execGateExit w s) :=
  stays_ranOn.2 fun _ => State.prtCommand_still (by simp) ..

@[simp] theorem execGateYield_still (w : Word) (s : State) : Stays s (execGateYield w s) := by
  simp only [execGateYield, stays_ranOn]
  repeat' split
  all_goals simp

@[simp] theorem execGateBudgetExpire_still (s : State) :
    Stays s (execGateBudgetExpire s) := by simp [execGateBudgetExpire]

@[simp] theorem execPrtQuarantine_still (w : Word) (err : MemErr) (s : State) :
    Stays s (execPrtQuarantine w err s) :=
  stays_ranOn.2 fun _ => State.prtCommand_still (by simp) ..

/-! ### The public-key engine -/

@[simp] theorem execEcVerify_still (b : Blk) (w : Word) (s : State) :
    Stays s (execEcVerify b w s) := by simp [execEcVerify]

@[simp] theorem execMldsaVerify_still (b : Blk) (w : Word) (s : State) :
    Stays s (execMldsaVerify b w s) := by simp [execMldsaVerify]

@[simp] theorem execHybVerify_still (b : Blk) (w : Word) (s : State) :
    Stays s (execHybVerify b w s) := by simp [execHybVerify]

@[simp] theorem execEcdhKeygen_still (b : Blk) (w : Word) (s : State) :
    Stays s (execEcdhKeygen b w s) := by simp [execEcdhKeygen]

@[simp] theorem execEcdhDerive_still (b : Blk) (w : Word) (s : State) :
    Stays s (execEcdhDerive b w s) := by simp [execEcdhDerive]

@[simp] theorem execKemKeygen_still (b : Blk) (w : Word) (s : State) :
    Stays s (execKemKeygen b w s) := by simp [execKemKeygen]

@[simp] theorem execKemDecaps_still (b : Blk) (w : Word) (s : State) :
    Stays s (execKemDecaps b w s) := by simp [execKemDecaps]

@[simp] theorem execKemEncaps_still (b : Blk) (w : Word) (s : State) :
    Stays s (execKemEncaps b w s) := by simp [execKemEncaps]

@[simp] theorem execPkeGrant_still (s : State) : Stays s (execPkeGrant s) :=
  stays_ranIf.2 fun _ => still_elim rfl (by simp) _

/-! ### Attestation -/

@[simp] theorem execPlatformReport_still (b : Blk) (w : Word) (s : State) :
    Stays s (execPlatformReport b w s) := by simp [execPlatformReport]

@[simp] theorem execJobReport_still (b : Blk) (w : Word) (s : State) :
    Stays s (execJobReport b w s) := by simp [execJobReport]

@[simp] theorem execSignBind_still (b : Blk) (w : Word) (s : State) :
    Stays s (execSignBind b w s) := by simp [execSignBind]

@[simp] theorem execCertRead_still (b : Blk) (w : Word) (s : State) :
    Stays s (execCertRead b w s) := by simp [execCertRead]

@[simp] theorem execAttComposite_still (b : Blk) (w : Word) (s : State) :
    Stays s (execAttComposite b w s) := by simp [execAttComposite]

@[simp] theorem execReportSample_still (err : MemErr) (s : State) : Stays s (execReportSample err s) := by
  simp only [execReportSample, stays_ranIf]
  repeat' split
  all_goals simp

@[simp] theorem execDgeGrant_still (err : MemErr) (s : State) : Stays s (execDgeGrant err s) := by
  simp only [execDgeGrant, stays_ranIf]
  repeat' split
  all_goals simp

@[simp] theorem execDgeForceAbandon_still (w : Word) (s : State) :
    Stays s (execDgeForceAbandon w s) := by simp [execDgeForceAbandon]

@[simp] theorem execDgeAbandon_still (q : Req) (c : Fin 4) (w : Word) (s : State) :
    Stays s (execDgeAbandon q c w s) :=
  stays_ran.2 (State.ctxCommand_still (fun _ => by simp) ..)

@[simp] theorem execDgeBlockDone_still (c : Fin 4) (err : MemErr) (s : State) :
    Stays s (execDgeBlockDone c err s) := by simp [execDgeBlockDone]

@[simp] theorem execCertBuild_still (s : State) : Stays s (execCertBuild s) := by simp [execCertBuild]

@[simp] theorem execPkeOpDone_still (fault : PkeFault) (s : State) : Stays s (execPkeOpDone fault s) := by
  simp only [execPkeOpDone, stays_ranIf]
  repeat' split
  all_goals simp

@[simp] theorem execPkeExpand_still (slot : Fin 2) (s : State) : Stays s (execPkeExpand slot s) := by
  simp only [execPkeExpand, stays_ranIf]
  repeat' split
  all_goals simp

@[simp] theorem execPkeAbandon_still (w : Word) (s : State) :
    Stays s (execPkeAbandon w s) := by simp [execPkeAbandon]

@[simp] theorem execHybSign_still (b : PkeReq) (w : Word) (err : MemErr) (s : State) :
    Stays s (execHybSign b w err s) := by
  simp only [execHybSign]
  repeat' split
  all_goals simp

@[simp] theorem execPkePubkey_still (b : PkeReq) (w : Word) (err : MemErr) (s : State) :
    Stays s (execPkePubkey b w err s) := by
  simp only [execPkePubkey]
  repeat' split
  all_goals simp

@[simp] theorem execAttCommit_still (w : Word) (s : State) : Stays s (execAttCommit w s) := by simp [execAttCommit]

@[simp] theorem execHandoverSet_still (w : Word) (s : State) :
    Stays s (execHandoverSet w s) := by simp [execHandoverSet]

@[simp] theorem execHandoverClear_still (w : Word) (s : State) :
    Stays s (execHandoverClear w s) := by simp [execHandoverClear]

@[simp] theorem execMainReady_still (w : Word) (s : State) : Stays s (execMainReady w s) := by simp [execMainReady]

/-! ### Access faults -/

@[simp] theorem execAccessFault_still (core : Fin 8) (kind : AccKind) (space : AccSpace) (addr : BitVec 64)
    (machine uncorr : Bool) (s : State) : Stays s (execAccessFault core kind space addr machine uncorr s) := by
  simp [execAccessFault]

@[simp] theorem execSecAccessFault_still (kind : AccKind) (space : AccSpace) (size : Fin 3) (addr : BitVec 32)
    (uncorr : Bool) (s : State) : Stays s (execSecAccessFault kind space size addr uncorr s) := by
  simp [execSecAccessFault]

/-! ### Mailboxes -/

@[simp] theorem execMbxPop_still (q : Req) (m : Fin 4) (d : MbxDir) (s : State) :
    Stays s (execMbxPop q m d s) := by simp [execMbxPop]

@[simp] theorem execDbSet_still (q : Req) (m : Fin 4) (d : MbxDir) (w : Word) (s : State) :
    Stays s (execDbSet q m d w s) := by simp [execDbSet]

@[simp] theorem execMbxRingdb_still (w : Word) (s : State) : Stays s (execMbxRingdb w s) := by simp [execMbxRingdb]

/-! ### Interrupts and random numbers -/

@[simp] theorem execInterruptClaim_still (who : Claimer) (s : State) : Stays s (execInterruptClaim who s) := by
  simp only [execInterruptClaim]
  repeat' split
  all_goals simp

@[simp] theorem execTrngRead_still (q : Req) (s : State) : Stays s (execTrngRead q s) := by
  simp only [execTrngRead, stays_ran]
  repeat' split
  all_goals simp

@[simp] theorem execTrngRefill_still (s : State) : Stays s (execTrngRefill s) := by
  simp only [execTrngRefill, stays_ranIf]
  repeat' split
  all_goals simp

@[simp] theorem execTrngHealthFail_still (s : State) : Stays s (execTrngHealthFail s) := by simp [execTrngHealthFail]

@[simp] theorem execTrngResume_still (pass : Bool) (s : State) :
    Stays s (execTrngResume pass s) := by simp [execTrngResume]

/-! ### The SPDM responder -/

@[simp] theorem execGetVersion_still (ss : Option Word) (r : Bytes) (s : State) :
    Stays s (execGetVersion ss r s) := by
  refine stays_ran.2 (State.spdm_still (fun t m h => ?_) rfl ..)
  refine State.outside_still (fun t h => ?_) h ..
  simp [h]

@[simp] theorem execGetCapabilities_still (ss : Option Word) (r : Bytes) (s : State) :
    Stays s (execGetCapabilities ss r s) := by
  refine stays_ran.2 (State.spdm_still (fun t m h => ?_) rfl ..)
  refine State.outside_still (fun t h => ?_) h ..
  refine State.longEnough_still (fun t h => ?_) h ..
  simp [h]

@[simp] theorem execNegotiateAlgorithms_still (ss : Option Word) (r : Bytes) (s : State) :
    Stays s (execNegotiateAlgorithms ss r s) := by
  refine stays_ran.2 (State.spdm_still (fun t m h => ?_) rfl ..)
  refine State.outside_still (fun t h => ?_) h ..
  refine State.longEnough_still (fun t h => ?_) h ..
  split <;> simp [h]

@[simp] theorem execGetDigests_still (ss : Option Word) (r : Bytes) (s : State) :
    Stays s (execGetDigests ss r s) := by
  refine stays_ran.2 (State.spdm_still (fun t m h => ?_) rfl ..)
  refine State.anywhere_still (fun t h => ?_) h ..
  refine State.withChain_still (fun t c h => ?_) h rfl ..
  simp [h]

@[simp] theorem execGetCertificate_still (ss : Option Word) (r : Bytes) (s : State) :
    Stays s (execGetCertificate ss r s) := by
  refine stays_ran.2 (State.spdm_still (fun t m h => ?_) rfl ..)
  refine State.anywhere_still (fun t h => ?_) h ..
  refine State.longEnough_still (fun t h => ?_) h ..
  refine State.withChain_still (fun t c h => ?_) h rfl ..
  simp only
  split <;> simp [h]

@[simp] theorem execChallenge_still (ss : Option Word) (r : Bytes) (s : State) : Stays s (execChallenge ss r s) := by
  refine stays_ran.2 (State.spdm_still (fun t m h => ?_) rfl ..)
  refine State.outside_still (fun t h => ?_) h ..
  refine State.longEnough_still (fun t h => ?_) h ..
  split <;> [rfl; skip]
  refine State.withChain_still (fun t c h => ?_) h rfl ..
  split <;> [simp [h]; skip]
  split <;> [simp [h]; (split <;> [simp [h]; skip])]
  refine State.withRandom_still (fun t b h => ?_) h ..
  simp [h]

@[simp] theorem execGetMeasurements_still (ss : Option Word) (r : Bytes) (s : State) :
    Stays s (execGetMeasurements ss r s) := by
  refine stays_ran.2 (State.spdm_still (fun t m h => ?_) rfl ..)
  refine State.anywhere_still (fun t h => ?_) h ..
  refine State.longEnough_still (fun t h => ?_) h ..
  split <;> [rfl; skip]
  split <;> [simp [h]; (split <;> [simp [h]; skip])]
  refine State.withRandom_still (fun t b h => ?_) h ..
  simp only
  split <;> simp [h]

@[simp] theorem execKeyExchange_still (ss : Option Word) (r : Bytes) (s : State) :
    Stays s (execKeyExchange ss r s) := by
  refine stays_ran.2 (State.spdm_still (fun t m h => ?_) rfl ..)
  refine State.outside_still (fun t h => ?_) h ..
  refine State.longEnough_still (fun t h => ?_) h ..
  split <;> [rfl; skip]
  refine State.withChain_still (fun t c h => ?_) h rfl ..
  split <;> [skip; simp [h]]
  split <;> [simp [h]; (split <;> [simp [h]; (split <;> [simp [h]; skip])])]
  refine State.withRandom_still (fun t b h => ?_) h ..
  simp [h]

@[simp] theorem execFinish_still (ss : Option Word) (r : Bytes) (s : State) : Stays s (execFinish ss r s) := by
  refine stays_ran.2 (State.spdm_still (fun t m h => ?_) rfl ..)
  refine State.inSession_still (fun t x h => ?_) h ..
  refine State.longEnough_still (fun t h => ?_) h ..
  simp only
  split <;> [simp [h]; (split <;> [rfl; (split <;> simp [h])])]

@[simp] theorem execPqStart_still (ss : Option Word) (r : Bytes) (s : State) : Stays s (execPqStart ss r s) := by
  refine stays_ran.2 (State.spdm_still (fun t m h => ?_) rfl ..)
  refine State.inSession_still (fun t x h => ?_) h ..
  refine State.withArgs_still (fun t a h => ?_) h ..
  split <;> [simp [h]; (split <;> [rfl; simp [h]])]

@[simp] theorem execPqAccept_still (ss : Option Word) (r : Bytes) (s : State) : Stays s (execPqAccept ss r s) := by
  refine stays_ran.2 (State.spdm_still (fun t m h => ?_) rfl ..)
  refine State.inSession_still (fun t x h => ?_) h ..
  refine State.withArgs_still (fun t a h => ?_) h ..
  split <;> [skip; simp [h]]
  split <;> [simp [h]; (split <;> [rfl; simp [h]])]

@[simp] theorem execPqLegTimeout_still (s : State) : Stays s (execPqLegTimeout s) := by
  simp only [execPqLegTimeout, stays_ranIf]
  repeat' split
  all_goals simp

@[simp] theorem execEndSession_still (ss : Option Word) (r : Bytes) (s : State) :
    Stays s (execEndSession ss r s) := by
  refine stays_ran.2 (State.spdm_still (fun t m h => ?_) rfl ..)
  refine State.inSession_still (fun t x h => ?_) h ..
  simp [h]

@[simp] theorem execPqCert_still (ss : Option Word) (r : Bytes) (s : State) : Stays s (execPqCert ss r s) := by
  refine stays_ran.2 (State.spdm_still (fun t m h => ?_) rfl ..)
  refine State.anywhere_still (fun t h => ?_) h ..
  refine State.withArgs_still (fun t a h => ?_) h ..
  refine State.withChain_still (fun t c h => ?_) h rfl ..
  simp [h]

@[simp] theorem execGetPage_still (ss : Option Word) (r : Bytes) (s : State) : Stays s (execGetPage ss r s) := by
  refine stays_ran.2 (State.spdm_still (fun t m h => ?_) rfl ..)
  refine State.inSession_still (fun t x h => ?_) h ..
  refine State.withArgs_still (fun t a h => ?_) h ..
  simp [h]

@[simp] theorem execSupplyCheck_still (ss : Option Word) (r : Bytes) (s : State) :
    Stays s (execSupplyCheck ss r s) := by
  refine stays_ran.2 (State.spdm_still (fun t m h => ?_) rfl ..)
  refine State.anywhere_still (fun t h => ?_) h ..
  refine State.withArgs_still (fun t a h => ?_) h ..
  simp only
  split <;> [simp [h]; (split <;> [simp; simp [h]])]

/-! ### Rings of the host -/

@[simp] theorem execCapAccept_still (s : State) : Stays s (execCapAccept s) :=
  stays_ranIf.2 fun _ => State.serveType_still (fun _ => by simp) ..

@[simp] theorem execRingCreate_still (authorised : Bool) (s : State) : Stays s (execRingCreate authorised s) := by
  refine stays_ranIf.2 fun _ => State.serveType_still (fun _ => ?_) ..
  simp only
  split <;> simp

@[simp] theorem execRingDestroy_still (s : State) : Stays s (execRingDestroy s) := by
  refine stays_ranIf.2 fun _ => State.serveType_still (fun _ => ?_) ..
  simp only
  split <;> simp

@[simp] theorem execHostReport_still (s : State) : Stays s (execHostReport s) := by
  refine stays_ranIf.2 fun _ => State.serveType_still (fun _ => ?_) ..
  simp only
  split <;> simp

@[simp] theorem execRingNop_still (ring : BitVec 6) (s : State) : Stays s (execRingNop ring s) := by
  refine stays_ranIf.2 fun _ => State.submission_still (fun _ _ => ?_) ..
  simp

@[simp] theorem execJobStep_still (ring : BitVec 6) (workers : List (BitVec 12)) (s : State) :
    Stays s (execJobStep ring workers s) := by
  refine stays_ranIf.2 fun _ => State.submission_still (fun _ _ => ?_) ..
  simp

@[simp] theorem execRingStreamOpen_still (ring : BitVec 6) (s : State) : Stays s (execRingStreamOpen ring s) := by
  refine stays_ranIf.2 fun _ => State.submission_still (fun _ _ => ?_) ..
  simp only
  split <;> simp

@[simp] theorem execRingStreamResult_still (ring : BitVec 6) (s : State) :
    Stays s (execRingStreamResult ring s) := by
  refine stays_ranIf.2 fun _ => State.submission_still (fun _ _ => ?_) ..
  split <;> simp

@[simp] theorem execRingCopy_still (ring : BitVec 6) (s : State) : Stays s (execRingCopy ring s) := by
  refine stays_ranIf.2 fun _ => State.submission_still (fun _ _ => ?_) ..
  simp only
  split <;> simp

@[simp] theorem execDriverGone_still (why : GoneCause) (s : State) :
    Stays s (execDriverGone why s) := by simp [execDriverGone]

@[simp] theorem execMbxHostReset_still (w : Word) (s : State) :
    Stays s (execMbxHostReset w s) := by simp [execMbxHostReset]

/-! ### The worker channel -/

@[simp] theorem execWcpRxMessage_still (beats : List (BitVec 128)) (s : State) :
    Stays s (execWcpRxMessage beats s) := by simp [execWcpRxMessage]

@[simp] theorem execWcpCredit_still (s : State) : Stays s (execWcpCredit s) := by simp [execWcpCredit]

@[simp] theorem execWcpMessageSent_still (s : State) : Stays s (execWcpMessageSent s) := by simp [execWcpMessageSent]

@[simp] theorem execReportReq_still (s : State) : Stays s (execReportReq s) := by simp [execReportReq]

@[simp] theorem execVersionReq_still (s : State) : Stays s (execVersionReq s) := by
  simp only [execVersionReq, stays_ranIf]
  repeat' split
  all_goals simp

@[simp] theorem execReportPart_still (s : State) : Stays s (execReportPart s) := by
  simp only [execReportPart, stays_ranIf]
  repeat' split
  all_goals simp

@[simp] theorem execWcpCancel_still (s : State) : Stays s (execWcpCancel s) := by simp [execWcpCancel]

@[simp] theorem execVersionInfo_still (s : State) : Stays s (execVersionInfo s) := by simp [execVersionInfo]

@[simp] theorem execCollectionTimeout_still (s : State) :
    Stays s (execCollectionTimeout s) := by simp [execCollectionTimeout]

@[simp] theorem execVdmReport_still (ss : Option Word) (r : Bytes) (s : State) : Stays s (execVdmReport ss r s) := by
  refine stays_ran.2 (State.spdm_still (fun t m h => ?_) rfl ..)
  refine State.inSession_still (fun t x h => ?_) h ..
  refine State.withArgs_still (fun t a h => ?_) h ..
  split <;> [simp [h]; skip; skip]
  · split <;> [simp [h]; (split <;> [rfl; simp [h]])]
  · split <;> [simp [h]; (split <;> [rfl; simp [h]])]

/-! ### The reset sequencer, the watchdogs and DIM -/

@[simp] theorem execPllLock_still (s : State) : Stays s (execPllLock s) := by simp [execPllLock]

@[simp] theorem execPllLockTimeout_still (s : State) : Stays s (execPllLockTimeout s) := by simp [execPllLockTimeout]

@[simp] theorem execStrapLatch_still (readings : List (BitVec 4)) (s : State) :
    Stays s (execStrapLatch readings s) := by
  simp only [execStrapLatch, stays_ranIf]
  repeat' split
  all_goals simp

@[simp] theorem execHostDomainRelease_still (s : State) : Stays s (execHostDomainRelease s) := by
  simp only [execHostDomainRelease, stays_ranIf]
  repeat' split
  all_goals simp

@[simp] theorem execGo_still (w : Word) (s : State) : Stays s (execGo w s) := by simp [execGo]

@[simp] theorem execHoldRelease_still (w : Word) (s : State) :
    Stays s (execHoldRelease w s) := by simp [execHoldRelease]

@[simp] theorem execCrsCommit_still (w : Word) (s : State) : Stays s (execCrsCommit w s) := by simp [execCrsCommit]

@[simp] theorem execBlockCmd_still (w : Word) (s : State) : Stays s (execBlockCmd w s) := by simp [execBlockCmd]

@[simp] theorem execWdtSecKick_still (w : Word) (s : State) :
    Stays s (execWdtSecKick w s) := by simp [execWdtSecKick]

@[simp] theorem execWdtCtlKick_still (q : Req) (w : Word) (s : State) :
    Stays s (execWdtCtlKick q w s) := by simp [execWdtCtlKick]

@[simp] theorem execWdtCtlEnable_still (w : Word) (s : State) :
    Stays s (execWdtCtlEnable w s) := by simp [execWdtCtlEnable]

@[simp] theorem execDimEnter_still (w : Word) (coresWaiting : Bool) (s : State) :
    Stays s (execDimEnter w coresWaiting s) := by simp [execDimEnter]

@[simp] theorem execDimExit_still (w : Word) (s : State) : Stays s (execDimExit w s) := by simp [execDimExit]

@[simp] theorem execKlnTamperClear_still (w : Word) (active : BitVec 8) (s : State) :
    Stays s (execKlnTamperClear w active s) := by simp [execKlnTamperClear]

/-! ### The programming path and the life cycle -/

@[simp] theorem execOtpStartupDone_still (drift : List (Nat × Row3)) (s : State) :
    Stays s (execOtpStartupDone drift s) := by simp [execOtpStartupDone]

@[simp] theorem execOtpRead_still (w : Word) (s : State) : Stays s (execOtpRead w s) :=
  stays_ranOn.2 fun _ => State.otpCommand_still (by simp) ..

@[simp] theorem execOtpFinalise_still (w : Word) (s : State) : Stays s (execOtpFinalise w s) :=
  stays_ranOn.2 fun _ => State.otpCommand_still (by simp) ..

@[simp] theorem execEraseDone_still (w : Word) (s : State) : Stays s (execEraseDone w s) := by
  simp only [execEraseDone, stays_ranOn]
  repeat' split
  all_goals simp

@[simp] theorem execJtagInstruction_still (ir : BitVec 8) (s : State) :
    Stays s (execJtagInstruction ir s) := by simp [execJtagInstruction]

@[simp] theorem execTrstNAssert_still (s : State) : Stays s (execTrstNAssert s) := by simp [execTrstNAssert]

/-! ### The Tinder ROM -/

@[simp] theorem execTinderBoot_still (abort : Option (Fin 27)) (s : State) :
    Stays s (execTinderBoot abort s) := by simp [execTinderBoot]

@[simp] theorem execBootMainStart_still (w : Word) (s : State) :
    Stays s (execBootMainStart w s) := by simp [execBootMainStart]

@[simp] theorem execBootLockWrite_still (which : Fin 3) (w : Word) (s : State) :
    Stays s (execBootLockWrite which w s) := by simp [execBootLockWrite]

/-! ### The Causeway link -/

@[simp] theorem execLinkUp_still (s : State) : Stays s (execLinkUp s) := by simp [execLinkUp]

@[simp] theorem execLinkDown_still (s : State) : Stays s (execLinkDown s) := by simp [execLinkDown]

@[simp] theorem execFrameDrop_still (why : FrameFault) (s : State) :
    Stays s (execFrameDrop why s) := by simp [execFrameDrop]

@[simp] theorem execCausewayFrameSent_still (s : State) :
    Stays s (execCausewayFrameSent s) := by simp [execCausewayFrameSent]

@[simp] theorem execMbxSend_still (q : Req) (m : Fin 4) (d : MbxDir) (w : Word) (s : State) :
    Stays s (execMbxSend q m d w s) := by simp [execMbxSend]

@[simp] theorem execCwyCopy_still (w : Word) (s : State) : Stays s (execCwyCopy w s) := by simp [execCwyCopy]

@[simp] theorem execNvmErase_still (w : Word) (s : State) : Stays s (execNvmErase w s) := by simp [execNvmErase]

@[simp] theorem execNvmProgram_still (w : Word) (s : State) :
    Stays s (execNvmProgram w s) := by simp [execNvmProgram]

@[simp] theorem execNvmVerify_still (w : Word) (s : State) : Stays s (execNvmVerify w s) := by simp [execNvmVerify]

@[simp] theorem execCwyEngineDone_still (ok : Bool) (s : State) : Stays s (execCwyEngineDone ok s) := by
  refine stays_ranIf.2 fun _ => ?_
  split <;> [(split <;> [simp; exact still_elim rfl (by simp) _]); simp; rfl]

/-! ### Field update -/

@[simp] theorem execCwyHello_still (frame : Bytes) (s : State) : Stays s (execCwyHello frame s) :=
  stays_ranIf.2 fun _ => State.receive_still (fun _ h => by simp [h]) ..

@[simp] theorem execCwyManifest_still (frame : Bytes) (s : State) : Stays s (execCwyManifest frame s) :=
  stays_ranIf.2 fun _ => State.receive_still (fun _ h => by simp [h]) ..

@[simp] theorem execCwyChunk_still (frame : Bytes) (s : State) : Stays s (execCwyChunk frame s) :=
  stays_ranIf.2 fun _ => State.receive_still (fun _ h => by simp [h]) ..

@[simp] theorem execCwyActivate_still (frame : Bytes) (s : State) : Stays s (execCwyActivate frame s) :=
  stays_ranIf.2 fun _ => State.commit_still (fun _ h => by simp [h]) ..

@[simp] theorem execCwyNextBoot_still (frame : Bytes) (s : State) : Stays s (execCwyNextBoot frame s) :=
  stays_ranIf.2 fun _ => State.commit_still (fun _ h => by simp [h]) ..

@[simp] theorem execStatusQuery_still (frame : Bytes) (s : State) : Stays s (execStatusQuery frame s) :=
  stays_ranIf.2 fun _ =>
  State.receive_still (fun _ h => State.plainFrame_still (fun _ hu => by simp [hu]) h ..) ..

@[simp] theorem execAbortFrame_still (frame : Bytes) (s : State) : Stays s (execAbortFrame frame s) :=
  stays_ranIf.2 fun _ =>
  State.receive_still (fun _ h => State.plainFrame_still (fun _ hu => by simp [hu]) h ..) ..

@[simp] theorem execRepeatFrame_still (frame : Bytes) (s : State) : Stays s (execRepeatFrame frame s) :=
  stays_ranIf.2 fun _ => State.receive_still (fun _ h => by simp [h]) ..

@[simp] theorem execSessionIdleTimeout_still (s : State) :
    Stays s (execSessionIdleTimeout s) := by simp [execSessionIdleTimeout]

/-! ### The memory port -/

@[simp] theorem execAstResponse_still (array : BitVec 8) (result : BitVec 2) (s : State) :
    Stays s (execAstResponse array result s) := by
  simp only [execAstResponse, stays_ran]
  repeat' split
  all_goals simp

@[simp] theorem execAstTimeout_still (array : BitVec 8) (s : State) :
    Stays s (execAstTimeout array s) := by simp [execAstTimeout]

@[simp] theorem execIcpResponse_still (s : State) : Stays s (execIcpResponse s) := by
  simp only [execIcpResponse, stays_ranIf]
  repeat' split
  all_goals simp

/-! ### Windows and the control port -/

@[simp] theorem execArbiterWindow_still (arb : Arbiter) (s : State) :
    Stays s (execArbiterWindow arb s) := by simp [execArbiterWindow]

end Sys2Proof.Machine
end

section
/-!
PROOFS. What a reset, the programming path and the life cycle make of the debug gate and of the domains that are
released: no reset opens the gate, and it clears CONF_CLOSED only as it puts D1 into reset (R91 to R94, R112, R161 to R163).
-/
namespace Sys2Proof.Machine

/-! ### Changes that keep observation shut -/

/-- DEBUG_OPEN reads 0 while CONF_CLOSED reads 1. -/
def State.shut (s : State) : Prop := s.lcs.confClosed = true → s.lcs.debugOpen = false

/-- `t` follows `s` with observation shut where it was, CONF_CLOSED set where it was or D1 in reset, and D1 in reset
where it was. -/
structure State.Shuts (s t : State) : Prop where
  shut : s.shut → t.shut
  conf : s.lcs.confClosed = true → t.lcs.confClosed = true ∨ t.up .d1 = false
  down : s.up .d1 = false → t.up .d1 = false

theorem State.debugOpen_of_still {s t : State} (h : t.still = s.still) : t.lcs.debugOpen = s.lcs.debugOpen :=
  congrArg (·.1) h

theorem State.confClosed_of_still {s t : State} (h : t.still = s.still) : t.lcs.confClosed = s.lcs.confClosed :=
  congrArg (·.2.1) h

theorem State.released_of_still {s t : State} (h : t.still = s.still) : t.crs.released = s.crs.released :=
  congrArg (·.2.2.1) h

theorem State.ep_of_still {s t : State} (h : t.still = s.still) : t.crs.ep = s.crs.ep := congrArg (·.2.2.2) h

theorem State.up_of_released {s t : State} (h : t.crs.released = s.crs.released) (d : Dom) : t.up d = s.up d := by
  cases d <;> simp only [State.up, h]

theorem State.up_of_still {s t : State} (h : t.still = s.still) (d : Dom) : t.up d = s.up d :=
  State.up_of_released (State.released_of_still h) d

theorem State.Shuts.of_still {s t : State} (h : t.still = s.still) : s.Shuts t where
  shut hs := by
    unfold State.shut
    rw [State.debugOpen_of_still h, State.confClosed_of_still h]
    exact hs
  conf hs := .inl ((State.confClosed_of_still h).trans hs)
  down hs := (State.up_of_still h _).trans hs

theorem State.Shuts.trans {s t u : State} (h : s.Shuts t) (h' : t.Shuts u) : s.Shuts u where
  shut hs := h'.shut (h.shut hs)
  conf hs := (h.conf hs).elim h'.conf fun ht => .inr (h'.down ht)
  down hs := h'.down (h.down hs)

/-- A further change that leaves what stands. -/
theorem State.Shuts.still {s t u : State} (h : s.Shuts t) (hu : u.still = t.still) : s.Shuts u := h.trans (.of_still hu)

/-- A change before that leaves what stands. -/
theorem State.Shuts.after {s t u : State} (h : t.Shuts u) (ht : t.still = s.still) : s.Shuts u :=
  (State.Shuts.of_still ht).trans h

theorem State.Shuts.foldl {α : Type} {f : State → α → State} (h : ∀ (s : State) a, s.Shuts (f s a)) (s : State)
    (l : List α) : s.Shuts (l.foldl f s) := by
  induction l generalizing s with
  | nil => exact .of_still rfl
  | cons a l ih => exact (h s a).trans (ih _)

/-- The gate and the domains are left: the episode alone may change. -/
theorem State.Shuts.of_bits {s t : State} (hopen : t.lcs.debugOpen = s.lcs.debugOpen)
    (hconf : t.lcs.confClosed = s.lcs.confClosed) (hrel : t.crs.released = s.crs.released) : s.Shuts t where
  shut hs := by
    unfold State.shut
    rw [hopen, hconf]
    exact hs
  conf hs := .inl (hconf.trans hs)
  down hs := (State.up_of_released hrel _).trans hs

theorem State.closeDebug_shuts (s : State) : s.Shuts s.closeDebug := ⟨fun _ _ => rfl, .inl, id⟩

/-! ### Domains that enter reset -/

@[simp] theorem State.hold_still (s : State) (d : Dom) :
    (s.hold d).still =
      (s.lcs.debugOpen, s.lcs.confClosed, s.crs.released &&& ~~~ (1#6 <<< domIx d), s.crs.ep) := rfl

@[simp] theorem State.clearDom_hold_still (s : State) (d : Dom) :
    ((s.hold d).clearDom d).still = (s.hold d).still := rfl

theorem State.enterD1_still (s : State) :
    s.enterD1.still = (false, false, s.crs.released &&& ~~~ (1#6 <<< domIx .d1), s.crs.ep) := rfl

theorem State.hold_still_of_still {s t : State} (h : t.still = s.still) (d : Dom) :
    (t.hold d).still = (s.hold d).still := by
  simp only [State.hold_still, State.debugOpen_of_still h, State.confClosed_of_still h, State.released_of_still h,
    State.ep_of_still h]

theorem State.enterD2_still (s : State) : s.enterD2.still = (s.hold .d2).still := by
  simp only [State.enterD2]
  generalize hu : (s.dgeAbandonHolders _).sidesReset .d2 = u
  have hst : u.still = s.still := by simp [← hu]
  exact State.hold_still_of_still hst .d2

theorem State.enterD3_still (s : State) : s.enterD3.still = (s.hold .d3).still := rfl

theorem State.enterD5_still (s : State) : s.enterD5.still = (s.hold .d5).still := by
  simp only [State.enterD5]
  generalize hu : (s.dgeAbandonHolders _).sidesReset .d5 = u
  have hst : u.still = s.still := by simp [← hu]
  have hhold := (State.clearDom_hold_still u .d5).trans (State.hold_still_of_still hst .d5)
  have hdrop := (State.pkeDropC_still _).trans hhold
  generalize ((u.hold .d5).clearDom .d5).pkeDropC = v at hdrop
  simp [hdrop]

theorem State.enterD6_still (s : State) : s.enterD6.still = (s.hold .d6).still := by
  simp only [State.enterD6]
  generalize hu : s.updDrop.tearNvm.sidesReset .d6 = u
  have hst : u.still = s.still := by simp [← hu]
  exact State.hold_still_of_still hst .d6

theorem State.enterD4_still (s : State) :
    s.enterD4.still = (s.lcs.debugOpen, s.lcs.confClosed, s.crs.released &&& ~~~ (1#6 <<< domIx .d4),
      s.crs.ep.map fun e => { e with retire := false }) := by
  simp only [State.enterD4]
  exact still_foldl State.mpLost_still ..

/-- Domain `d` in reset, and every other as it was. -/
theorem State.enter_released (s : State) {d : Dom} (hd : d ∈ releaseOrder) :
    (s.enter d).crs.released = s.crs.released &&& ~~~ (1#6 <<< domIx d) := by
  cases d with
  | d1 => rfl
  | d2 => exact State.released_of_still (t := s.enterD2) (s := s.hold .d2) s.enterD2_still
  | d3 => rfl
  | d4 => exact congrArg (·.2.2.1) s.enterD4_still
  | d5 => exact State.released_of_still (t := s.enterD5) (s := s.hold .d5) s.enterD5_still
  | d6 => exact State.released_of_still (t := s.enterD6) (s := s.hold .d6) s.enterD6_still
  | d0 | core => simp [releaseOrder] at hd

theorem State.enter_up_self (s : State) {d : Dom} (hd : d ∈ releaseOrder) : (s.enter d).up d = false := by
  cases d with
  | d0 | core => simp [releaseOrder] at hd
  | _ => simp [State.up, s.enter_released hd, domIx]

theorem State.enter_down {s : State} {d c : Dom} (h : s.up c = false) : (s.enter d).up c = false := by
  by_cases hd : d ∈ releaseOrder
  · cases c <;> simp_all [State.up, s.enter_released hd]
  · cases d <;> simp_all [releaseOrder, State.enter]

/-- A change that leaves the gate and holds domains. -/
theorem State.Shuts.of_hold {s t : State} {d : Dom} (h : t.still = (s.hold d).still) (hd : d ∈ releaseOrder) :
    s.Shuts t := by
  have hhold : s.Shuts (s.hold d) := by
    refine ⟨id, .inl, fun hs => ?_⟩
    cases d <;> simp_all [State.up, State.hold, State.onCrs]
  exact hhold.still h

theorem State.enter_shuts (s : State) (d : Dom) : s.Shuts (s.enter d) := by
  cases d with
  | d1 =>
    have hclosed : s.enterD1.lcs.confClosed = false := rfl
    exact ⟨fun _ h => absurd (hclosed.symm.trans h) (by decide), fun _ => .inr (s.enter_up_self (d := .d1) (by decide)),
      State.enter_down (d := .d1)⟩
  | d2 => exact .of_hold s.enterD2_still (by decide)
  | d3 => exact .of_hold s.enterD3_still (by decide)
  | d4 =>
    have hst := s.enterD4_still
    have hhold : s.Shuts (s.hold .d4) := .of_hold rfl (by decide)
    exact hhold.trans (.of_bits (congrArg (·.1) hst) (congrArg (·.2.1) hst) (congrArg (·.2.2.1) hst))
  | d5 => exact .of_hold s.enterD5_still (by decide)
  | d6 => exact .of_hold s.enterD6_still (by decide)
  | d0 | core => exact .of_still rfl

theorem State.act_shuts (s : State) (x : Source) (rank : Nat) (doms : List Dom) : s.Shuts (s.act x rank doms) := by
  unfold State.act
  extract_lets e s₁ s₂ s₃ s₄ s₅ entersD2 now waits s₆ s₇ s₈ s₉ s₁₀ s₁₁ s₁₂
  have h₂ : s₂.still = s.still := by simp [s₂, s₁]
  have h₃ : s₂.Shuts s₃ := by
    simp only [s₃]
    split <;> [exact s₂.closeDebug_shuts.trans (.of_bits rfl rfl rfl); exact .of_still rfl]
  have h₅ : s₃.Shuts s₅ := by
    simp only [s₅, s₄]
    split <;> exact .of_bits rfl rfl rfl
  have h₆ : s₅.Shuts s₆ := by
    simp only [s₆]
    split <;>
      [exact (State.Shuts.of_still (State.raiseEmber_still ..)).trans (.of_bits rfl rfl rfl); exact .of_still rfl]
  have h₇ : s₇.still = s₆.still := by simp [s₇]
  have h₈ : s₇.Shuts s₈ :=
    State.Shuts.foldl (fun t d => by split <;> [exact t.enter_shuts d; exact .of_still rfl]) _ _
  have h₁₂ : (if rank = 5 then s₁₂.enterCore else s₁₂).still = s₈.still := by
    have hcore (t : State) : t.enterCore.still = t.still := rfl
    have hzero (t : State) : t.zeroD4.still = t.still := rfl
    simp [s₁₂, s₁₁, s₁₀, s₉, hcore, hzero]
  exact ((((h₃.after h₂).trans h₅).trans h₆).still h₇).trans (h₈.still h₁₂)

end Sys2Proof.Machine
end

section
/-!
PROOFS. No step opens observation over confidential work: the programming path, the life cycle, the partitions and every
command (R78, R161 to R163, R431).
-/
namespace Sys2Proof.Machine

/-! ### Resets, and the life cycle -/

theorem State.powerOn_shuts (s : State) : s.Shuts s.powerOn := (State.act_shuts ..).still rfl

theorem State.swReset_shuts (s : State) (w : Word) : s.Shuts (s.swReset w) := by
  unfold State.swReset
  split
  · exact .of_still rfl
  · split <;> [exact State.act_shuts ..; (split <;> exact State.act_shuts ..)]

theorem State.lcEnd_shuts (s : State) (c : Code) (burned : Nat) : s.Shuts (s.lcEnd c burned) := by
  simp only [State.lcEnd]
  exact (State.act_shuts ..).after rfl

theorem State.pathTo_shuts (s : State) (r : Otp × Option PathEnd) : s.Shuts (s.pathTo r) := by
  unfold State.pathTo
  split
  · exact .of_still rfl
  · split <;> [(simp only; split); skip]
    · exact .of_still rfl
    · exact (State.lcEnd_shuts ..).after rfl
    · exact .of_still rfl

theorem State.burn_shuts (s : State) (job : OtpJob) (todo : List Burn) (vqps : Nat) : s.Shuts (s.burn job todo vqps) :=
  State.pathTo_shuts ..

theorem State.advanceGoOn_shuts (vqps : Nat) (l : List (Nat × Nat)) (s : State) :
    s.Shuts (State.advanceGoOn vqps l s) := by
  induction l generalizing s with
  | nil => exact .of_still (by simp [State.advanceGoOn])
  | cons e l ih =>
    obtain ⟨c, target⟩ := e
    have hburn : s.Shuts
        (State.burn { s with fw := { s.fw with advance := l } } .advance (s.otp.advanceBurns c target) vqps) :=
      (State.burn_shuts ..).after rfl
    simp only [State.advanceGoOn]
    generalize State.burn _ _ _ _ = b at *
    split <;> [skip; exact ih s]
    split <;> [exact hburn; skip]
    split <;> [exact hburn.trans (ih b); exact hburn.still (by simp)]

theorem State.afterPath_shuts (s : State) (vqps : Nat) (job : OtpJob) : s.Shuts (s.afterPath vqps job) := by
  unfold State.afterPath
  split <;> [exact .of_still rfl; (split <;> exact State.advanceGoOn_shuts ..)]

theorem State.lcsPhase_shuts (s : State) (vqps : Nat) : s.Shuts (s.lcsPhase vqps) := by
  simp only [State.lcsPhase]
  split
  · split <;> exact .of_still (by simp)
  · split
    · exact State.lcEnd_shuts ..
    · have hroot : s.rootAction.still = s.still := by simp
      generalize s.rootAction = u at hroot
      split <;> exact .of_still (by simp [hroot])
  · exact .of_still (by simp)
  · exact (State.pathTo_shuts ..).after rfl
  · exact State.lcEnd_shuts ..
  · exact .of_still rfl

/-! ### Field update -/

theorem State.rewriteOver_shuts (s : State) : s.Shuts s.rewriteOver := by
  simp only [State.rewriteOver]
  split <;> [exact (State.act_shuts ..).after rfl; exact .of_still (by simp)]

theorem State.updSector_shuts (s : State) (u : UpdWork) (todo : List Nat) (st : SectorStep) (again : Bool) :
    s.Shuts (s.updSector u todo st again) := by
  unfold State.updSector
  split <;> [exact State.rewriteOver_shuts _; exact .of_still (by simp)]

theorem State.updGoOn_shuts (s : State) : s.Shuts s.updGoOn := by
  unfold State.updGoOn
  split
  · exact .of_still rfl
  · split
    case h_12 => exact State.updSector_shuts ..
    all_goals exact .of_still (by simp)

theorem State.commitAdvance_shuts (s : State) (f : Bytes) (vqps : Nat) : s.Shuts (s.commitAdvance f vqps) := by
  simp only [State.commitAdvance]
  split
  · exact .of_still (by simp)
  · split
    · exact .of_still (by simp)
    · split <;> [exact (State.advanceGoOn_shuts ..).after (by simp); exact .of_still (by simp)]

theorem State.tick_shuts (s : State) : s.Shuts s.tick := by
  have hcounted : (State.counted { s with outs := [] }).still = s.still := by simp
  generalize hu : State.counted { s with outs := [] } = u at hcounted
  exact (State.updGoOn_shuts _).after (by simp [hu, hcounted])

/-! ### Partitions -/

/-- A confidential partition sets CONF_CLOSED and closes the gate in one (R163, R431). -/
theorem State.define_shuts (s : State) : s.Shuts s.define := by
  simp only [State.define]
  generalize hu : State.onPrt _ _ = u
  have hst : u.still = s.still := by
    rw [← hu, State.onPrt_still, still_foldl (by intros; rfl)]
    rfl
  have hclose : u.Shuts ((u.onLcs fun l => { l with confClosed := true }).closeDebug).boostOff :=
    ⟨fun _ _ => rfl, fun _ => .inl rfl, id⟩
  split <;> [exact hclose.after hst; exact .of_still hst]

theorem State.prtCommit_shuts (s : State) (err : MemErr) : s.Shuts (s.prtCommit err) := by
  unfold State.prtCommit
  split <;> [exact .of_still (by simp); exact s.define_shuts.still rfl]

/-! ### What an outcome may do to the gate -/

/-- The outcome, where it is a state, leaves observation shut, and CONF_CLOSED set unless D1 is in reset. -/
structure Guards (s : State) (r : Res) : Prop where
  of_next : ∀ t, r = .next t →
    (s.shut → t.shut) ∧ (s.lcs.confClosed = true → t.lcs.confClosed = true ∨ t.up .d1 = false)

theorem Stays.guards {s : State} {r : Res} (h : Stays s r) : Guards s r :=
  ⟨fun t ht => have hs := State.Shuts.of_still (h.of_next t ht); ⟨hs.shut, hs.conf⟩⟩

theorem guards_ran {f : State → State} {s : State} (h : s.quiet.Shuts (f s.quiet)) : Guards s (ran f s) := by
  refine ⟨fun t ht => ?_⟩
  rw [ran_next ht]
  exact ⟨h.shut, h.conf⟩

theorem guards_ranIf {b : Bool} {f : State → State} {s : State} (h : b = true → s.quiet.Shuts (f s.quiet)) :
    Guards s (ranIf b f s) := by
  cases b with
  | true => exact guards_ran (h rfl)
  | false => exact guards_ran (.of_still rfl)

theorem guards_ranOn {d : Dom} {f : State → State} {s : State} (h : s.serves d = true → s.quiet.Shuts (f s.quiet)) :
    Guards s (ranOn d f s) := by
  cases hd : s.serves d with
  | true =>
    rw [ranOn_up hd]
    exact ⟨fun _ ht => by cases ht; exact ⟨(h hd).shut, (h hd).conf⟩⟩
  | false =>
    rw [ranOn_down hd]
    exact ⟨fun _ ht => by cases ht; exact ⟨id, .inl⟩⟩

/-! #### The partition table -/

@[simp] theorem execPrtRelease_still (w : Word) (err : MemErr) (s : State) : Stays s (execPrtRelease w err s) :=
  stays_ranOn.2 fun _ => State.prtCommand_still (by simp) ..

@[simp] theorem execScrubRegion_still (w : Word) (err : MemErr) (s : State) : Stays s (execScrubRegion w err s) :=
  stays_ranOn.2 fun _ => State.prtCommand_still (by simp) ..

@[simp] theorem execScrubOrphans_still (w : Word) (err : MemErr) (s : State) : Stays s (execScrubOrphans w err s) :=
  stays_ranOn.2 fun _ => State.prtCommand_still (by simp) ..

@[simp] theorem execScrubDone_still (w : Word) (err : MemErr) (s : State) : Stays s (execScrubDone w err s) :=
  stays_ranOn.2 fun _ => State.prtCommand_still (by simp) ..

@[simp] theorem execDrainToken_still (array : BitVec 8) (part : PartId) (gen : Gen) (s : State) :
    Stays s (execDrainToken array part gen s) := by
  simp only [execDrainToken, stays_ran]
  repeat' split
  all_goals simp

@[simp] theorem execEack_still (port : Fin 8) (age : Nat) (s : State) : Stays s (execEack port age s) := by
  simp only [execEack, stays_ran]
  split <;> simp

@[simp] theorem execKfBeatSend_still (port : Fin 8) (s : State) : Stays s (execKfBeatSend port s) := by
  simp [execKfBeatSend]

@[simp] theorem execExtensionApply_still (err : MemErr) (s : State) : Stays s (execExtensionApply err s) := by
  simp [execExtensionApply]

@[simp] theorem execPurgeResume_still (s : State) : Stays s (execPurgeResume s) := by simp [execPurgeResume]

theorem execPrtCommit_guards (w : Word) (err : MemErr) (s : State) : Guards s (execPrtCommit w err s) := by
  refine guards_ranOn fun _ => ?_
  split <;> [exact State.prtCommit_shuts ..; exact .of_still rfl]

/-! #### Resets -/

theorem execWarmNAct_guards (s : State) : Guards s (execWarmNAct s) := guards_ranIf fun _ => State.act_shuts ..

theorem execColdNAct_guards (s : State) : Guards s (execColdNAct s) := guards_ranIf fun _ => State.act_shuts ..

theorem execPorNFall_guards (s : State) : Guards s (execPorNFall s) :=
  guards_ranIf fun _ => (State.powerOn_shuts _).still rfl

theorem execPorNRise_guards (s : State) : Guards s (execPorNRise s) := by
  refine guards_ranIf fun _ => ?_
  simp only
  split <;> exact .of_bits rfl rfl rfl

theorem execD0Reset_guards (s : State) : Guards s (execD0Reset s) := by
  refine guards_ran ?_
  simp only
  generalize hu : ({ s.quiet with peat := {} } : State) = u
  have hst : u.still = s.quiet.still := by simp [← hu]
  exact (State.powerOn_shuts u).after hst |>.still rfl

theorem execSourceDeassert_guards (src : Source) (s : State) : Guards s (execSourceDeassert src s) := by
  refine guards_ranIf fun _ => ?_
  simp only
  split <;> exact .of_bits rfl rfl rfl

theorem execD4ResetEntry_guards (s : State) : Guards s (execD4ResetEntry s) := by
  refine guards_ranIf fun _ => ?_
  simp only
  split <;> [exact (State.enter_shuts _ .d4).still rfl; exact State.enter_shuts _ .d4]

theorem State.episodeOver_bits (s : State) : s.episodeOver.lcs = s.lcs := by
  unfold State.episodeOver
  split <;> [rfl; (split <;> rfl)]

theorem execDomainRelease_guards (s : State) : Guards s (execDomainRelease s) := by
  refine ⟨fun t ht => ?_⟩
  rcases ranIf_next ht with ⟨-, rfl⟩ | ⟨-, rfl⟩ <;> [skip; exact ⟨id, .inl⟩]
  split <;> [exact ⟨id, .inl⟩; skip]
  rename_i d _
  simp only
  generalize hu : (s.quiet.unhold d).onCrs _ = u
  have hlcs : u.lcs = s.lcs := by simp [← hu, State.unhold, State.onCrs, State.quiet]
  have hst : ((u.leave d).blockOver d).still = u.still := by simp
  have hopen := State.debugOpen_of_still hst
  have hconf := State.confClosed_of_still hst
  rw [hlcs] at hopen hconf
  simp only [State.shut, State.episodeOver_bits, hopen, hconf]
  exact ⟨id, .inl⟩

theorem execSwWarm_guards (w : Word) (s : State) : Guards s (execSwWarm w s) :=
  guards_ranOn fun _ => State.swReset_shuts _ w

theorem execSwCold_guards (w : Word) (s : State) : Guards s (execSwCold w s) :=
  guards_ranOn fun _ => State.swReset_shuts _ w

theorem execBlockSample_guards (coresWaiting : Bool) (s : State) : Guards s (execBlockSample coresWaiting s) := by
  refine guards_ranIf fun _ => ?_
  split <;> [exact .of_still rfl; skip]
  split <;> [exact (State.act_shuts ..).after rfl; exact .of_still rfl]

theorem execWdtSec_guards (s : State) : Guards s (execWdtSec s) := guards_ranIf fun _ => (State.act_shuts ..).after rfl

theorem execWdtCtl_guards (s : State) : Guards s (execWdtCtl s) := guards_ranIf fun _ => (State.act_shuts ..).after rfl

theorem execWritebackUncorr_guards (s : State) : Guards s (execWritebackUncorr s) :=
  guards_ranIf fun _ => (State.act_shuts ..).after (by simp)

theorem execTamperInput_guards (i : Fin 8) (s : State) : Guards s (execTamperInput i s) :=
  guards_ran ((State.act_shuts ..).after (by simp))

theorem execScanComplete_guards (s : State) : Guards s (execScanComplete s) := by
  refine guards_ranIf fun _ => ?_
  simp only
  split <;> [exact .of_still (by simp); exact (State.act_shuts ..).after (by simp)]

theorem execFenceTripHoldEnd_guards (s : State) : Guards s (execFenceTripHoldEnd s) :=
  guards_ranIf fun _ => .of_bits rfl rfl rfl

/-! #### The programming path and the life cycle -/

theorem execOtpPulseEnd_guards (m0 nrm m1 : Bool) (vqps : Nat) (s : State) :
    Guards s (execOtpPulseEnd m0 nrm m1 vqps s) := by
  refine guards_ranIf fun _ => ?_
  split <;> [exact .of_still rfl; skip]
  split <;> [exact (State.pathTo_shuts ..).trans (State.afterPath_shuts ..); exact .of_still rfl]

theorem execOtpCheckDone_guards (vqps later : Nat) (s : State) : Guards s (execOtpCheckDone vqps later s) := by
  refine guards_ranIf fun _ => ?_
  split <;> [exact .of_still rfl; skip]
  split
  · split <;> [exact .of_still rfl; exact State.pathTo_shuts ..]
  · exact (State.pathTo_shuts ..).trans (State.afterPath_shuts ..)

theorem execOtpProgram_guards (w : Word) (vqps : Nat) (s : State) : Guards s (execOtpProgram w vqps s) :=
  guards_ranOn fun _ => State.otpCommand_stills (fun _ h => .of_still h) (State.burn_shuts ..) ..

theorem execOtpAdvance_guards (w : Word) (vqps : Nat) (s : State) : Guards s (execOtpAdvance w vqps s) :=
  guards_ranOn fun _ => State.otpCommand_stills (fun _ h => .of_still h) (State.burn_shuts ..) ..

theorem execOtpRedirect_guards (w : Word) (vqps : Nat) (s : State) : Guards s (execOtpRedirect w vqps s) :=
  guards_ranOn fun _ => State.otpCommand_stills (fun _ h => .of_still h) (State.burn_shuts ..) ..

theorem execGenRootHalf_guards (w : Word) (vqps : Nat) (s : State) : Guards s (execGenRootHalf w vqps s) :=
  guards_ranOn fun _ =>
    State.otpCommand_stills (fun _ h => .of_still h) ((State.burn_shuts ..).after (by simp)) ..

@[simp] theorem execLcTransition_still (w : Word) (vqps : Nat) (s : State) : Stays s (execLcTransition w vqps s) := by
  refine stays_ranOn.2 fun _ => ?_
  split <;> [simp; (split <;> simp)]

theorem execLcsPhaseDone_guards (vqps : Nat) (s : State) : Guards s (execLcsPhaseDone vqps s) :=
  guards_ranIf fun _ => State.lcsPhase_shuts ..

@[simp] theorem execOpenDebug_still (w : Word) (s : State) : Stays s (execOpenDebug w s) := by
  refine stays_ranOn.2 fun _ => ?_
  split <;> simp

/-- The gate opens only while CONF_CLOSED reads 0 (R161, R163). -/
theorem execDebugGateOpen_guards (s : State) : Guards s (execDebugGateOpen s) := by
  refine guards_ranIf fun _ => ?_
  cases hc : s.lcs.confClosed with
  | true => exact .of_bits (by simp [State.onLcs, State.quiet, hc]) (by simp [State.onLcs, State.quiet, hc]) rfl
  | false =>
    have hopen : (s.quiet.onLcs fun l =>
        let l := { l with phase := .idle, opening := false }
        if l.confClosed then { l with resCode := .deniedAttr }
        else { l with resCode := .done, debugOpen := true }).lcs.confClosed = false := by simp [State.onLcs, State.quiet, hc]
    exact ⟨fun _ h => absurd (hopen.symm.trans h) (by decide), fun h => absurd (hc.symm.trans h) (by decide), id⟩

/-! #### Memory, Causeway and the Kiln -/

theorem execCommitAdvance_guards (frame : Bytes) (vqps : Nat) (s : State) :
    Guards s (execCommitAdvance frame vqps s) :=
  guards_ranIf fun _ =>
    State.commit_stills (fun _ h => .of_still h) (fun _ h => (State.commitAdvance_shuts ..).after h) ..

@[simp] theorem execMpReadData_still (tag : BitVec 8) (last err : Bool) (data : BitVec 512) (s : State) :
    Stays s (execMpReadData tag last err data s) := by
  simp only [execMpReadData, stays_ran]
  repeat' split
  all_goals simp

@[simp] theorem execMpWriteAck_still (tag : BitVec 8) (err : Bool) (s : State) :
    Stays s (execMpWriteAck tag err s) := by
  simp only [execMpWriteAck, stays_ran]
  repeat' split
  all_goals simp

@[simp] theorem ranKln_still (n : Nat) (w : Word) (e : MemErr) (s : State) : Stays s (ranKln n w e s) := by
  simp [ranKln]

@[simp] theorem execKlnEventApply_still (s : State) : Stays s (execKlnEventApply s) := by simp [execKlnEventApply]

@[simp] theorem execKeyMsg_still (ss : Option Word) (r : Bytes) (out : Option Bytes) (s : State) :
    Stays s (execKeyMsg ss r out s) := by
  refine stays_ran.2 (State.spdm_still (fun t m h => ?_) rfl ..)
  refine State.inSession_still (fun u x hu => ?_) h ..
  simp only
  repeat' split
  all_goals simp [hu]

end Sys2Proof.Machine
end

section
/-!
PROOFS. No step opens observation over confidential work: the registers, and the statement.
-/
namespace Sys2Proof.Machine

/-! ### Registers -/

theorem guards_looked {s : State} {r : Res} (h : Guards s.looked r) : Guards s r := ⟨h.of_next⟩

theorem otpCmdWrite_guards (w : Word) (s : State) : Guards s (otpCmdWrite w s) := by
  unfold otpCmdWrite
  split
  · exact (execOtpRead_still w s).guards
  · exact guards_looked (execOtpProgram_guards ..)
  · exact (execOtpFinalise_still w s).guards
  · exact guards_looked (execOtpAdvance_guards ..)
  · exact guards_looked (execOtpRedirect_guards ..)
  · exact guards_looked (execGenRootHalf_guards ..)
  · exact Stays.guards (stays_ran.2 (State.otpCommand_still rfl ..))

@[simp] theorem lcsCmdWrite_still (w : Word) (s : State) : Stays s (lcsCmdWrite w s) := by
  unfold lcsCmdWrite
  split
  · exact ⟨(execLcTransition_still ..).of_next⟩
  · exact execEraseDone_still w s
  · exact execOpenDebug_still w s
  · exact stays_ran.2 (State.lcsRefuse_still ..)

@[simp] theorem ctxCmdWrite_still (q : Req) (c : Fin 4) (w : Word) (s : State) : Stays s (ctxCmdWrite q c w s) := by
  unfold ctxCmdWrite
  split
  · exact execDgeUpdate_still ..
  · exact execDgeFinal_still ..
  · exact execDgeAbandon_still ..
  · exact stays_ran.2 (State.ctxCommand_still (fun _ => by simp) ..)

@[simp] theorem kfbCmdWrite_still (w : Word) (s : State) : Stays s (kfbCmdWrite w s) := by
  unfold kfbCmdWrite
  split
  · exact execKfbLoad_still ..
  · exact execKfbRotate_still ..
  · exact execKfbZeroise_still ..
  · exact execKfbRevoke_still ..
  · exact execKfbBind_still ..
  · exact execKfbRelease_still ..
  · exact stays_ran.2 (State.kfbCommand_still _ (fun _ => rfl) ..)

@[simp] theorem cntCmdWrite_still (w : Word) (s : State) : Stays s (cntCmdWrite w s) := by
  unfold cntCmdWrite
  split
  · exact execCntConfigure_still ..
  · exact execCntRead_still ..
  · exact execCntAdvance_still ..
  · exact execCntRetire_still ..
  · exact stays_ran.2 rfl

@[simp] theorem attCmdWrite_still (b : Blk) (w : Word) (s : State) : Stays s (attCmdWrite b w s) := by
  unfold attCmdWrite
  split
  · exact execPlatformReport_still ..
  · exact execJobReport_still ..
  · exact execSignBind_still ..
  · exact execCertRead_still ..
  · exact execAttComposite_still ..
  · exact stays_ran.2 (by simp)

@[simp] theorem attCtrlWrite_still (q : Req) (w : Word) (s : State) : Stays s (attCtrlWrite q w s) := by
  unfold attCtrlWrite
  split <;>
    [(split <;> [exact execHandoverSet_still ..; exact execHandoverClear_still ..]); exact execMainReady_still ..]

@[simp] theorem prtCmdWrite_still (w : Word) (s : State) : Stays s (prtCmdWrite w s) := by
  unfold prtCmdWrite
  split
  · exact execPrtRelease_still ..
  · exact execPrtQuarantine_still ..
  · exact execScrubRegion_still ..
  · exact execScrubDone_still ..
  · exact execJobRecord_still ..
  · exact execJobForget_still ..
  · exact execGateEnter_still ..
  · exact execGateExit_still ..
  · exact execScrubOrphans_still ..
  · exact stays_ran.2 (State.prtCommand_still rfl ..)

theorem regWrite_guards (q : Req) (p : RegAt) (w : Word) (s : State) : Guards s (regWrite q p w s) := by
  obtain ⟨reg, b, k⟩ := p
  cases reg with
  | crsSwReset =>
    change Guards s (if bit w 0 then execSwCold w s else execSwWarm w s)
    split <;> [exact execSwCold_guards w s; exact execSwWarm_guards w s]
  | otpCmd => exact otpCmdWrite_guards w s
  | klnCmd => exact (ranKln_still (cmdCode w) w .none s).guards
  | prtCommit => exact execPrtCommit_guards w .none s
  | dgeAcquire =>
    change Guards s (if bit w 0 then execDgeAcquireReq q w s else execDgeAcquireWithdraw q w s)
    split <;> [exact (execDgeAcquireReq_still q w s).guards; exact (execDgeAcquireWithdraw_still q w s).guards]
  | _ => exact Stays.guards (by simp [regWrite])

theorem regTake_still (q : Req) (p : RegAt) (s : State) : Stays s (regTake q p s) := by
  unfold regTake
  split <;> simp

theorem regAccess_guards (q : Req) (write : Bool) (a : Nat) (v : Word) (s : State) :
    Guards s (regAccess q write a v s) := by
  unfold regAccess
  split
  · refine Stays.guards ?_
    simp only
    split <;> [simp; (split <;> [simp; (cases write <;> simp)])]
  · split <;> [exact Stays.guards (by simp); skip]
    split <;> [exact Stays.guards (by simp); skip]
    split <;> [exact regWrite_guards ..; exact (regTake_still ..).guards]

theorem plicAccess_still {f : State → State} (hf : ∀ s, (f s).still = s.still) (k : Fin 8) (kind : AccKind) (n : Nat)
    (s : State) : Stays s (plicAccess k kind n f s) := by
  refine stays_ran.2 ?_
  split <;> [simp; exact hf _]

theorem execRegisterWrite_guards (q : Req) (a : RegAddr) (size : Fin 3) (v : Word) (s : State) :
    Guards s (execRegisterWrite q a size v s) := by
  simp only [execRegisterWrite]
  split
  · split <;> [exact Stays.guards (by simp); exact regAccess_guards ..]
  · split <;> [exact (plicAccess_still (fun _ => by simp) ..).guards; skip]
    split <;> [exact Stays.guards (by simp); exact regAccess_guards ..]
  · split <;> [exact Stays.guards (by simp); exact regAccess_guards ..]
  · exact regAccess_guards ..

theorem execIcpRequest_guards (write : Bool) (a : IcpAddr) (v : Word) (src : BitVec 2) (tag : BitVec 4) (s : State) :
    Guards s (execIcpRequest write a v src tag s) := by
  have hacc : Guards s (icpAccess write a v src s) := by
    unfold icpAccess
    split <;> [exact Stays.guards (by simp); exact regAccess_guards ..]
  unfold execIcpRequest
  split <;> [exact Stays.guards (by simp); skip]
  split
  · rename_i t ht
    exact ⟨fun u hu => by cases hu; exact hacc.of_next t ht⟩
  · exact hacc

/-- No command and no event opens observation over confidential work, or clears CONF_CLOSED while D1 runs. -/
theorem exec_guards (i : Instr) (s : State) : Guards s (exec i s) := by
  cases i with
  | registerWrite q a size v => exact execRegisterWrite_guards q a size v s
  | icpRequest write a v src tag => exact execIcpRequest_guards write a v src tag s
  | porNFall => exact execPorNFall_guards s
  | porNRise => exact execPorNRise_guards s
  | d0Reset => exact execD0Reset_guards s
  | coldNAct => exact execColdNAct_guards s
  | warmNAct => exact execWarmNAct_guards s
  | sourceDeassert src => exact execSourceDeassert_guards src s
  | d4ResetEntry => exact execD4ResetEntry_guards s
  | domainRelease => exact execDomainRelease_guards s
  | swWarm w => exact execSwWarm_guards w s
  | swCold w => exact execSwCold_guards w s
  | blockSample coresWaiting => exact execBlockSample_guards coresWaiting s
  | wdtSec => exact execWdtSec_guards s
  | wdtCtl => exact execWdtCtl_guards s
  | writebackUncorr => exact execWritebackUncorr_guards s
  | tamperInput pin => exact execTamperInput_guards pin s
  | scanComplete => exact execScanComplete_guards s
  | fenceTripHoldEnd => exact execFenceTripHoldEnd_guards s
  | otpProgram w vqps => exact execOtpProgram_guards w vqps s
  | otpAdvance w vqps => exact execOtpAdvance_guards w vqps s
  | otpRedirect w vqps => exact execOtpRedirect_guards w vqps s
  | genRootHalf w vqps => exact execGenRootHalf_guards w vqps s
  | otpPulseEnd m0 nrm m1 vqps => exact execOtpPulseEnd_guards m0 nrm m1 vqps s
  | otpCheckDone vqps later => exact execOtpCheckDone_guards vqps later s
  | lcsPhaseDone vqps => exact execLcsPhaseDone_guards vqps s
  | debugGateOpen => exact execDebugGateOpen_guards s
  | prtCommit w err => exact execPrtCommit_guards w err s
  | commitAdvance frame vqps => exact execCommitAdvance_guards frame vqps s
  | formRoot | sessionOpen | destroyPartition | jobCreate | jobDestroy | saltLoad | klnDerive | klnUnwrap | klnUnseal
  | klnSeal | klnDestroy =>
    exact (ranKln_still ..).guards
  | _ => exact Stays.guards (by simp [exec])

/-- No debug register behind the gate is selected while it is shut, in every state (R78). -/
theorem State.debugShut_holds (s : State) : s.debugShut := by
  unfold State.debugShut State.tapReg
  split <;> [rename_i h; trivial]
  split at h <;> [cases h; skip]
  split at h <;> [(rename_i hopen; exact hopen.2); cases h]

/-- Settles O60: only D1 entering reset clears CONF_CLOSED, a confidential partition shuts the gate as it sets it, and
DEBUG_GATE_OPEN, which alone opens the gate, looks at it. -/
theorem observationStaysShutOverConfidentialWork : Obligations.ObservationStaysShutOverConfidentialWork := by
  unfold Obligations.ObservationStaysShutOverConfidentialWork
  rintro s t ⟨-, hshut⟩ hstep
  suffices h : (s.shut → t.shut) ∧ (s.lcs.confClosed = true → t.lcs.confClosed = true ∨ t.up .d1 = false) from
    ⟨⟨t.debugShut_holds, h.1 hshut⟩, h.2⟩
  unfold step at hstep
  split at hstep
  · cases hstep
    exact ⟨s.tick_shuts.shut, s.tick_shuts.conf⟩
  · rename_i i rest _
    exact (exec_guards i { s with pending := rest }).of_next t hstep

end Sys2Proof.Machine
end

section
/-!
PROOFS. A command to a unit whose domain does not serve (R43, R102, R104, R105).
-/
namespace Sys2Proof.Machine

/-- A command that looks at its domain itself, and finds it held. -/
theorem ran_of_held {f g : State → State} {s : State} {d : Dom} (hs : s.serves d = false)
    (hf : ∀ u : State, u.serves d = false → f u = g u) : ran f s = .next (g s.quiet) :=
  congrArg _ (hf _ ((s.quiet_serves d).trans hs))

theorem look_of_held {s : State} {d : Dom} (h : s.serves d = false) (f : State → State) :
    ran (fun u => if !u.serves d then u.emit (.code .busy) else f u) s = .next (s.quiet.emit (.code .busy)) :=
  ran_of_held (f := fun u => if !u.serves d then u.emit (.code .busy) else f u)
    (g := fun u => u.emit (.code .busy)) h fun u hu => if_pos (by simp [hu])

/-! ### D3: what it refuses ends DIM -/

theorem smeCommand_of_held {s : State} (h : s.serves .d3 = false) (b : Blk) (n : Nat) (w : Word) (e : MemErr) :
    s.smeCommand b n w e = s.refuseD3 := by
  unfold State.smeCommand
  rw [if_pos (by simp [State.d3Serves, h])]

theorem d3Look_of_held {s : State} (h : s.serves .d3 = false) (t : State) :
    (if !s.d3Serves then s.refuseD3 else t) = s.refuseD3 := if_pos (by simp [State.d3Serves, h])

theorem cmpCommand_of_held {s : State} (h : s.serves .d3 = false) (b : Blk) (w : Word) :
    s.cmpCommand b w = s.refuseD3 := by
  unfold State.cmpCommand
  exact if_pos (by simp [State.d3Serves, h])

theorem dgeAcquire_of_held {s : State} {q : Req} (h : s.serves .d3 = false) (hq : isIcp q = false) (w : Word) :
    s.dgeAcquire q w = s.refuseD3 := by
  unfold State.dgeAcquire
  rw [hq, if_neg Bool.false_ne_true, if_pos (by simp [State.d3Serves, h])]

theorem ctxCommand_of_held {s : State} {q : Req} (h : s.serves .d3 = false) (hq : isIcp q = false) (c : Nat)
    (f : State → State) : s.ctxCommand q c f = s.refuseD3 := by
  unfold State.ctxCommand
  rw [hq, if_neg Bool.false_ne_true, if_pos (by simp [State.d3Serves, h])]

/-- The watchdog kick of a requester that may kick. -/
theorem execWdtCtlKick_of_held {s : State} {q : Req} (h : s.serves .d5 = false) (hg : s.gateCore q = false)
    (hq : (q == .sec || s.cluster q) = true) (w : Word) :
    execWdtCtlKick q w s = .next ((s.quiet.dimEnd 4).emit (.code .busy)) := by
  have hg' : s.quiet.gateCore q = false := hg
  have hq' : (q == .sec || s.quiet.cluster q) = true := hq
  rw [execWdtCtlKick, ran_eq, hg', hq', s.quiet_serves, h]
  rfl

/-- Settles O4: the commands of D1, D2, D4 and D6 by the shape that they share, those of D3 and D5 by where each looks
at its domain. -/
theorem heldUnitsAnswerBusy : Obligations.HeldUnitsAnswerBusy := by
  unfold Obligations.HeldUnitsAnswerBusy
  intro w v k cw a b e c s
  simp only [List.forall_mem_cons, List.not_mem_nil, IsEmpty.forall_iff, implies_true, and_true]
  refine ⟨fun h => ?_, fun h => ?_, fun h => ?_, fun h => ?_, fun h q hq => ?_, fun h q hg hq => ?_, fun h => ?_,
    fun h => ?_⟩
  case refine_5 =>
    have hsme (n : Nat) (x : MemErr) := ran_of_held h fun u hu => smeCommand_of_held hu b n w x
    have hctx (f : State → State) := ran_of_held h fun u hu => ctxCommand_of_held hu hq c.val f
    have hacq := ran_of_held h fun u hu => dgeAcquire_of_held hu hq w
    have hcmp := ran_of_held h fun u hu => cmpCommand_of_held hu b w
    have hlook (f : State → State) := ran_of_held h fun u hu => d3Look_of_held hu (f u)
    exact ⟨hsme .., hsme .., hsme .., hsme .., hsme .., hsme .., hsme .., hsme .., hsme .., hsme ..,
      hlook fun s => if bit w 0 then s.smeCommit else s,
      hlook fun s => (s.onSmeBlk b fun x => { x with resQ := x.resQ.drop 1 }).emit (.read (s.resPopWord b)), hcmp,
      hlook fun s => (s.arbWrite w).attHashed, hacq, hacq, hctx fun s => s.dgeUpdate c.val w e,
      hctx fun s => s.dgeFinal c.val w e, hctx fun s => (s.dgeAbandon c.val w).attHashed⟩
  case refine_6 =>
    exact ⟨execWdtCtlKick_of_held h hg hq w, ran_of_held (f := fun u =>
      if !u.serves .d5 then (u.dimEnd 4).emit (.code .busy) else u.ctlCtrl w)
      (g := fun u => (u.dimEnd 4).emit (.code .busy)) h fun u hu => if_pos (by simp [hu])⟩
  case refine_7 => exact dimEnd_of_not_dim (s := s.quiet) h 4
  case refine_8 =>
    obtain ⟨hdim, hexit, -⟩ := dimEnd_of_dim (s := s.quiet) h 4
    exact ⟨hdim, hexit⟩
  case refine_4 =>
    simp only [exec]
    exact ⟨ranOn_down h, ranOn_down h, ranOn_down h, ranOn_down h, look_of_held h fun u => u.ringBell w,
      look_of_held h fun u => if fld w 24 8 = 0xC4#8
        then (u.sideReset 0 false).onFw fun f => { f with hostReset := true, page := none } else u⟩
  case refine_2 =>
    have hkln (n : Nat) (x : MemErr) : ranKln n w x s = .next (s.quiet.emit (.code .busy)) := ranOn_down h
    refine ⟨hkln .., hkln .., hkln .., hkln .., hkln .., hkln .., hkln .., hkln .., hkln .., hkln .., hkln ..,
      ?_⟩
    repeat' apply And.intro
    all_goals
      rw [exec]
      exact ranOn_down h
  all_goals
    repeat' apply And.intro
    all_goals
      rw [exec]
      exact ranOn_down h

end Sys2Proof.Machine
end

section
/-!
PROOFS. What leaves the peat store, the fence's part of the CRS core, the root and, once a tamper event has halted the
Kiln, the key slots as they are: one equation for each operation of the model that a reset runs, for `simp` (R65, R268,
R269, R308, R537).
-/
namespace Sys2Proof.Machine

/-- The peat store and the fence's part of the CRS core, the root with what FORM_ROOT keeps beside it, and the key slots
of a halted Kiln. -/
def State.vault (s : State) : (Peat × FncCore) × RootKind × Bytes × Bytes × Bytes × Option (Sparse Slot) :=
  ((s.peat, s.fncCore), s.kln.root, s.kln.rootKey, s.kln.nonce, s.kln.devid,
    if s.kln.halted then some s.kst.slots else none)

@[simp] theorem vault_eta (s : State) :
    ((s.peat, s.fncCore), s.kln.root, s.kln.rootKey, s.kln.nonce, s.kln.devid,
    if s.kln.halted then some s.kst.slots else none) =
      s.vault := rfl

@[simp] theorem vault_mk (kst : Kst) (kln : Kln) (peat : Peat) (fncCore : FncCore) (crs otp lcs kfb cnt prt fnc sme mrs
    dge cmp pke att boot mbx wcp cwy trng top plic fw upd mp icp tap ast cntAstdrop regs psram csram nvm outs trngDrawn
    nvmTears pending) :
    State.vault ⟨crs, otp, lcs, kfb, cnt, kst, kln, peat, prt, fnc, fncCore, sme, mrs, dge, cmp, pke, att, boot, mbx,
      wcp, cwy, trng, top, plic, fw, upd, mp, icp, tap, ast, cntAstdrop, regs, psram, csram, nvm, outs, trngDrawn,
      nvmTears, pending⟩ =
      ((peat, fncCore), kln.root, kln.rootKey, kln.nonce, kln.devid, if kln.halted then some kst.slots else none) := rfl

@[simp] theorem vault_ite (c : Prop) [Decidable c] (s t : State) :
    (if c then s else t).vault = if c then s.vault else t.vault := apply_ite State.vault c s t

@[simp] theorem vault_foldl {α : Type} {f : State → α → State} (h : ∀ s a, (f s a).vault = s.vault)
    (s : State) (l : List α) : (l.foldl f s).vault = s.vault := by
  induction l generalizing s with
  | nil => rfl
  | cons a l ih => exact (ih _).trans (h s a)

/-- Either branch of an optional value. -/
theorem vault_elim {α : Type} {s t : State} {f : α → State} (hs : s.vault = t.vault)
    (hf : ∀ a, (f a).vault = t.vault) (o : Option α) : (o.elim s f).vault = t.vault := by
  cases o <;> [exact hs; exact hf _]

/-! ### The operations that every unit shares -/

@[simp] theorem State.emit_vault (s : State) (o : Out) : (s.emit o).vault = s.vault := rfl

@[simp] theorem State.onCrs_vault (s : State) (f : Crs → Crs) : (s.onCrs f).vault = s.vault := rfl

@[simp] theorem State.onLcs_vault (s : State) (f : Lcs → Lcs) : (s.onLcs f).vault = s.vault := rfl

@[simp] theorem State.onKfb_vault (s : State) (f : Kfb → Kfb) : (s.onKfb f).vault = s.vault := rfl

@[simp] theorem State.onCnt_vault (s : State) (f : Cnt → Cnt) : (s.onCnt f).vault = s.vault := rfl

@[simp] theorem State.onKln_vault (s : State) (f : Kln → Kln) : (s.onKln f).vault =
    ((s.peat, s.fncCore), (f s.kln).root, (f s.kln).rootKey, (f s.kln).nonce, (f s.kln).devid,
      if (f s.kln).halted then some s.kst.slots else none) := rfl

@[simp] theorem State.onKst_vault (s : State) (f : Kst → Kst) : (s.onKst f).vault =
    ((s.peat, s.fncCore), s.kln.root, s.kln.rootKey, s.kln.nonce, s.kln.devid,
      if s.kln.halted then some (f s.kst).slots else none) := rfl

@[simp] theorem State.onFw_vault (s : State) (f : Fw → Fw) : (s.onFw f).vault = s.vault := rfl

@[simp] theorem State.onPeat_vault (s : State) (f : Peat → Peat) : (s.onPeat f).vault =
    ((f s.peat, s.fncCore), s.kln.root, s.kln.rootKey, s.kln.nonce, s.kln.devid,
      if s.kln.halted then some s.kst.slots else none) := rfl

@[simp] theorem State.clearReg_vault (s : State) (r : Reg) (b : Nat) :
    (s.clearReg r b).vault = s.vault := rfl

@[simp] theorem State.health_vault (s : State) (unit : Nat) (code : Code) (part : Option PartId) :
    (s.health unit code part).vault = s.vault := rfl

@[simp] theorem State.drew_vault (s : State) (n : Nat) : (s.drew n).vault = s.vault := rfl

@[simp] theorem State.psramPut_vault (s : State) (a : Nat) (bs : Bytes) :
    (s.psramPut a bs).vault = s.vault := rfl

@[simp] theorem State.csramPut_vault (s : State) (a : Nat) (bs : Bytes) :
    (s.csramPut a bs).vault = s.vault := rfl

@[simp] theorem State.mpIssue_vault (s : State) (write : Bool) (addr beats : Nat) (part : PartId) (ctx : EndpointId)
    (data : Bytes) (owner : MpOwner) :
    (s.mpIssue write addr beats part ctx data owner).vault = s.vault := rfl

/-! ### The fence -/

@[simp] theorem State.onFnc_vault (s : State) (f : Fnc → Fnc) : (s.onFnc f).vault = s.vault := rfl

@[simp] theorem State.avsSend_vault (s : State) (op : AvsOp) : (s.avsSend op).vault = s.vault := by simp [State.avsSend]

@[simp] theorem State.movePoint_vault (s : State) (v d : Nat) :
    (s.movePoint v d).vault = s.vault := by simp [State.movePoint]

@[simp] theorem State.takePoint_vault (s : State) : s.takePoint.vault = s.vault := by simp [State.takePoint]

@[simp] theorem State.dimEnd_vault (s : State) (why : Nat) : (s.dimEnd why).vault = s.vault := by
  simp only [State.dimEnd]
  split <;> simp

/-! ### Key slots -/

/-- While the Kiln is not halted its slots do not count. -/
theorem State.zeroSlot_vault {s : State} (h : s.kln.halted = false) (i : SlotIx) (g : Gen) :
    (s.zeroSlot i g).vault = s.vault := by simp [State.zeroSlot, State.setSlot, State.vault, h]

/-! ### The key fabric -/

@[simp] theorem State.setEndpoint_vault (s : State) (e : EndpointId) (v : Endpoint) :
    (s.setEndpoint e v).vault = s.vault := rfl

@[simp] theorem State.onPort_vault (s : State) (p : Nat) (f : KfPort → KfPort) :
    (s.onPort p f).vault = s.vault := rfl

@[simp] theorem State.endTicket_vault (s : State) (t : Nat) (c : Code) :
    (s.endTicket t c).vault = s.vault := rfl

@[simp] theorem State.settle_vault (s : State) (t n : Nat) (c : Code) :
    (s.settle t n c).vault = s.vault := by
  simp only [State.settle]
  split <;> simp

@[simp] theorem State.abortCovered_vault (s : State) (r : EmberReq) (p : Nat) :
    (s.abortCovered r p).vault = s.vault := by
  refine vault_foldl (fun s m => ?_) s _
  split <;> simp

@[simp] theorem State.commitEmber_vault (s : State) (r : EmberReq) :
    (s.commitEmber r).vault = s.vault := by
  simp only [State.commitEmber]
  repeat' split
  all_goals simp

@[simp] theorem State.klnComplete_vault (s : State) (c : Code) : (s.klnComplete c).vault = s.vault := by
  simp [State.klnComplete]

@[simp] theorem State.klnSettle_vault (s : State) : s.klnSettle.vault = s.vault := by
  simp only [State.klnSettle]
  split <;> simp

@[simp] theorem State.drainEmber_vault (s : State) : s.drainEmber.vault = s.vault := by simp [State.drainEmber]

@[simp] theorem State.raiseEmber_vault (s : State) (r : EmberReq) :
    (s.raiseEmber r).vault = s.vault := by simp [State.raiseEmber]

@[simp] theorem State.abandonOwed_vault (s : State) (e : EndpointId) :
    (s.abandonOwed e).vault = s.vault := by simp [State.abandonOwed]

@[simp] theorem State.unbind_vault (s : State) (e : EndpointId) : (s.unbind e).vault = s.vault := by simp [State.unbind]

/-! ### The Kiln -/

@[simp] theorem State.klnDone_vault (s : State) (c : Code) : (s.klnDone c).vault = s.vault := by
  simp [State.klnDone]

@[simp] theorem State.formFails_vault (s : State) (c : Code) : (s.formFails c).vault = s.vault := by
  simp only [State.formFails]
  split <;> simp

/-! ### Stream measurement -/

@[simp] theorem State.onSme_vault (s : State) (f : Sme → Sme) : (s.onSme f).vault = s.vault := rfl

@[simp] theorem State.setStream_vault (s : State) (sid : StreamId) (v : Stream) :
    (s.setStream sid v).vault = s.vault := rfl

@[simp] theorem State.onStream_vault (s : State) (sid : StreamId) (f : Stream → Stream) :
    (s.onStream sid f).vault = s.vault := rfl

@[simp] theorem State.setExp_vault (s : State) (i : Nat) (v : ExpEntry) :
    (s.setExp i v).vault = s.vault := rfl

@[simp] theorem State.setMreg_vault (s : State) (i : Nat) (v : MReg) :
    (s.setMreg i v).vault = s.vault := rfl

@[simp] theorem State.onSmeBlk_vault (s : State) (b : Blk) (f : SmeBlk → SmeBlk) :
    (s.onSmeBlk b f).vault = s.vault := by
  simp only [State.onSmeBlk]
  split <;> simp

@[simp] theorem State.smeErr_vault (s : State) (e : MemErr) (part : Option PartId) :
    (s.smeErr e part).vault = s.vault := by
  simp only [State.smeErr]
  split <;> simp

@[simp] theorem State.spoilStream_vault (s : State) (sid : StreamId) :
    (s.spoilStream sid).vault = s.vault := by
  simp only [State.spoilStream]
  split <;> simp

@[simp] theorem State.ctxErr_vault (s : State) (e : MemErr) (sid : StreamId) :
    (s.ctxErr e sid).vault = s.vault := by simp [State.ctxErr]

@[simp] theorem State.sendEvent_vault (s : State) (e : SmeEvent) :
    (s.sendEvent e).vault = s.vault := by simp [State.sendEvent]

@[simp] theorem State.queueExt_vault (s : State) (r : ExtReq) : (s.queueExt r).vault = s.vault := rfl

@[simp] theorem State.smeDone_vault (s : State) (b : Blk) (c : Code) :
    (s.smeDone b c).vault = s.vault := by simp [State.smeDone]

@[simp] theorem State.purgeTokens_vault (s : State) (p : PartId) :
    (s.purgeTokens p).vault = s.vault := by simp [State.purgeTokens]

@[simp] theorem State.loadStream_vault (s : State) (b : Blk) (sid : StreamId) (digest : Option Bytes) :
    (s.loadStream b sid digest).vault = s.vault := by simp [State.loadStream]

@[simp] theorem State.openStream_vault (s : State) (b : Blk) :
    (s.openStream b).vault = s.vault := by simp [State.openStream]

@[simp] theorem State.endCtx_vault (s : State) (c : Nat) (code : Code) (digest : Bytes) (aux : Word) :
    (s.endCtx c code digest aux).vault = s.vault := rfl

@[simp] theorem State.zeroMreg_vault (s : State) (i : Nat) (owner : Option PartId) :
    (s.zeroMreg i owner).vault = s.vault := by
  refine (vault_foldl (fun s r => ?_) _ _).trans (by simp)
  split <;> simp

@[simp] theorem State.mrAssign_vault (s : State) (b : Blk) (rsv : Bool) :
    (s.mrAssign b rsv).vault = s.vault := by
  simp only [State.mrAssign]
  split <;> simp

@[simp] theorem State.mrRead_vault (s : State) (b : Blk) (rsv : Bool) (e : MemErr) :
    (s.mrRead b rsv e).vault = s.vault := by simp [State.mrRead]

@[simp] theorem State.mrExtend_vault (s : State) (b : Blk) (rsv : Bool) :
    (s.mrExtend b rsv).vault = s.vault := by simp [State.mrExtend]

@[simp] theorem State.smeStatus_vault (s : State) (b : Blk) (rsv : Bool) (e : MemErr) :
    (s.smeStatus b rsv e).vault = s.vault := by simp [State.smeStatus]

@[simp] theorem State.expErr_vault (s : State) (e : MemErr) (i : Nat) :
    (s.expErr e i).vault = s.vault := by
  simp only [State.expErr]
  split <;> simp

@[simp] theorem State.expWrite_vault (s : State) (b : Blk) (rsv : Bool) (e : MemErr) :
    (s.expWrite b rsv e).vault = s.vault := by
  simp only [State.expWrite]
  split <;> simp

@[simp] theorem State.expClear_vault (s : State) (b : Blk) (rsv : Bool) :
    (s.expClear b rsv).vault = s.vault := by
  simp only [State.expClear]
  split <;> simp

@[simp] theorem State.expRead_vault (s : State) (b : Blk) (rsv : Bool) (e : MemErr) :
    (s.expRead b rsv e).vault = s.vault := by simp [State.expRead]

@[simp] theorem State.smeAbort_vault (s : State) (b : Blk) (rsv : Bool) :
    (s.smeAbort b rsv).vault = s.vault := by
  simp only [State.smeAbort]
  split <;> simp

@[simp] theorem State.purgeStart_vault (s : State) (p : PartId) (run : SmeRun) :
    (s.purgeStart p run).vault = s.vault := by simp [State.purgeStart]

@[simp] theorem State.purgeEnd_vault (s : State) (p : PartId) : (s.purgeEnd p).vault = s.vault := by
  simp [State.purgeEnd]

@[simp] theorem State.smeOpen_vault (s : State) (b : Blk) (rsv : Bool) :
    (s.smeOpen b rsv).vault = s.vault := by
  simp only [State.smeOpen]
  split <;> simp

@[simp] theorem State.smePurge_vault (s : State) (b : Blk) (rsv : Bool) :
    (s.smePurge b rsv).vault = s.vault := by simp [State.smePurge]

@[simp] theorem State.smeRun_vault (s : State) (b : Blk) (code : Nat) (w : Word) (e : MemErr) :
    (s.smeRun b code w e).vault = s.vault := by
  simp only [State.smeRun]
  split <;> simp

@[simp] theorem State.smeNext_vault (s : State) : s.smeNext.vault = s.vault := by
  simp only [State.smeNext]
  repeat' split
  all_goals simp

/-! ### Small digests and the comparator -/

@[simp] theorem State.onDge_vault (s : State) (f : Dge → Dge) : (s.onDge f).vault = s.vault := rfl

@[simp] theorem State.onCmp_vault (s : State) (f : Cmp → Cmp) : (s.onCmp f).vault = s.vault := rfl

@[simp] theorem State.setCtx_vault (s : State) (c : Nat) (x : DgeCtx) :
    (s.setCtx c x).vault = s.vault := rfl

@[simp] theorem State.feedCores_vault (s : State) : s.feedCores.vault = s.vault := by simp [State.feedCores]

@[simp] theorem State.readNext_vault (s : State) (c : Nat) : (s.readNext c).vault = s.vault := by
  simp only [State.readNext]
  split <;> simp

@[simp] theorem State.askSlice_vault (s : State) (r : CmpReq) : (s.askSlice r).vault = s.vault := rfl

@[simp] theorem State.deliver_vault (s : State) (c : Nat) (dest : DgeDest) :
    (s.deliver c dest).vault = s.vault := by
  simp only [State.deliver]
  split <;> simp

@[simp] theorem State.dgeProgress_vault (s : State) (c : Nat) : (s.dgeProgress c).vault = s.vault := by
  simp only [State.dgeProgress]
  repeat' split
  all_goals simp

@[simp] theorem State.abandonNow_vault (s : State) (c : Nat) :
    (s.abandonNow c).vault = s.vault := by simp [State.abandonNow]

@[simp] theorem State.abandonCtx_vault (s : State) (c : Nat) (code : Code) :
    (s.abandonCtx c code).vault = s.vault := by simp [State.abandonCtx]

@[simp] theorem State.forceAbandon_vault (s : State) (c : Nat) :
    (s.forceAbandon c).vault = s.vault := by simp [State.forceAbandon]

@[simp] theorem State.faultCtx_vault (s : State) (c : Nat) : (s.faultCtx c).vault = s.vault := rfl

@[simp] theorem State.dgeReadDone_vault (s : State) (c : Nat) (gen : Gen) (data : Bytes) (err : Bool) :
    (s.dgeReadDone c gen data err).vault = s.vault := by
  simp only [State.dgeReadDone]
  repeat' split
  all_goals simp

@[simp] theorem State.dgeAbandonHolders_vault (s : State) (p : BitVec 4 → Bool) :
    (s.dgeAbandonHolders p).vault = s.vault := by simp [State.dgeAbandonHolders]

/-! ### The partition manager -/

@[simp] theorem State.onPrt_vault (s : State) (f : Prt → Prt) : (s.onPrt f).vault = s.vault := rfl

@[simp] theorem State.setPart_vault (s : State) (p : PartId) (v : PartEntry) :
    (s.setPart p v).vault = s.vault := rfl

@[simp] theorem State.setRegion_vault (s : State) (i : Nat) (v : Region) :
    (s.setRegion i v).vault = s.vault := rfl

@[simp] theorem State.prtDone_vault (s : State) (c : Code) : (s.prtDone c).vault = s.vault := rfl

@[simp] theorem State.zeroScratch_vault (s : State) : s.zeroScratch.vault = s.vault := rfl

@[simp] theorem State.sendScrub_vault (s : State) (i : Nat) : (s.sendScrub i).vault = s.vault := rfl

@[simp] theorem State.relTo_vault (s : State) (st : RelStage) : (s.relTo st).vault = s.vault := rfl

@[simp] theorem State.relUnbind_vault (s : State) (p : PartId) :
    (s.relUnbind p).vault = s.vault := by simp [State.relUnbind]

@[simp] theorem State.relJobs_vault (s : State) (p : PartId) : (s.relJobs p).vault = s.vault := rfl

@[simp] theorem State.relPurged_vault (s : State) (p : PartId) :
    (s.relPurged p).vault = s.vault := by simp [State.relPurged]

@[simp] theorem State.relEnd_vault (s : State) (p : PartId) : (s.relEnd p).vault = s.vault := by
  simp only [State.relEnd, State.onPrt_vault, State.setPart_vault]
  exact vault_foldl (by intros; rfl) _ _

@[simp] theorem State.fillStep_vault (s : State) : s.fillStep.vault = s.vault := by
  unfold State.fillStep
  split
  · rfl
  · split <;> rfl

@[simp] theorem State.orphanStep_vault (s : State) : s.orphanStep.vault = s.vault := by
  simp only [State.orphanStep]
  split <;> simp

@[simp] theorem State.orphanDone_vault (s : State) (i : Nat) (ok : Bool) :
    (s.orphanDone i ok).vault = s.vault := by simp [State.orphanDone]

@[simp] theorem State.relFail_vault (s : State) : s.relFail.vault = s.vault := rfl

/-! ### The public-key engine -/

@[simp] theorem State.onPke_vault (s : State) (f : Pke → Pke) : (s.onPke f).vault = s.vault := rfl

@[simp] theorem State.pkeCode_vault (s : State) (b : Blk) (k : Code) :
    (s.pkeCode b k).vault = s.vault := by
  simp only [State.pkeCode]
  split <;> simp

@[simp] theorem State.pkeEnd_vault (s : State) (c : PkeCmd) (k : Code) :
    (s.pkeEnd c k).vault = s.vault := by
  simp only [State.pkeEnd]
  split <;> simp

/-! ### Attestation -/

@[simp] theorem State.onAtt_vault (s : State) (f : Att → Att) : (s.onAtt f).vault = s.vault := rfl

@[simp] theorem State.attEdge_vault (s : State) (b : Blk) : (s.attEdge b).vault = s.vault := rfl

@[simp] theorem State.attDone_vault (s : State) (b : Blk) (c : Code) (len : Nat) :
    (s.attDone b c len).vault = s.vault := rfl

@[simp] theorem State.attEnd_vault (s : State) (c : AttCmd) (k : Code) (len : Nat) :
    (s.attEnd c k len).vault = s.vault := by simp [State.attEnd]

@[simp] theorem State.attRefused_vault (s : State) : s.attRefused.vault = s.vault := rfl

@[simp] theorem State.attWrite_vault (s : State) (b : Blk) (a : Nat) (bs : Bytes) :
    (s.attWrite b a bs).vault = s.vault := by
  simp only [State.attWrite]
  split <;> simp

@[simp] theorem State.attOutput_vault (s : State) (c : AttCmd) (bs : Bytes) (k : Code) :
    (s.attOutput c bs k).vault = s.vault := by simp [State.attOutput]

@[simp] theorem State.attAsk_vault (s : State) : s.attAsk.vault = s.vault := by simp [State.attAsk]

@[simp] theorem State.attRunTo_vault (s : State) (r : AttRun) : (s.attRunTo r).vault = s.vault := rfl

@[simp] theorem State.attDefer_vault (s : State) (r : AttRun) (c : AttCmd) :
    (s.attDefer r c).vault = s.vault := rfl

@[simp] theorem State.attBegin_vault (s : State) (c : AttCmd) : (s.attBegin c).vault = s.vault := by
  simp only [State.attBegin]
  split <;> simp

@[simp] theorem State.attNext_vault (s : State) : s.attNext.vault = s.vault := by
  simp only [State.attNext]
  repeat' split
  all_goals simp

@[simp] theorem State.attGoOn_vault (s : State) : s.attGoOn.vault = s.vault := by simp [State.attGoOn]

@[simp] theorem State.certKeys_vault (s : State) (r : AttRun) (keys : Bytes) :
    (s.certKeys r keys).vault = s.vault := rfl

@[simp] theorem State.attSigned_vault (s : State) (r : AttRun) (sig : Bytes) :
    (s.attSigned r sig).vault = s.vault := by
  simp only [State.attSigned]
  repeat' split
  all_goals simp

@[simp] theorem State.attAnswer_vault (s : State) (k : Code) (out : Bytes) :
    (s.attAnswer k out).vault = s.vault := by
  simp only [State.attAnswer]
  repeat' split
  all_goals simp

/-- Only an answer with DONE forms the root. -/
theorem State.pkeAnswer_vault {k : Code} (h : k ≠ .done) (s : State) (c : PkeCmd) (out : Bytes) :
    (s.pkeAnswer c k out).vault = s.vault := by
  simp only [State.pkeAnswer, if_neg h]
  split <;> simp

@[simp] theorem State.pkeAbandon_vault (s : State) : s.pkeAbandon.vault = s.vault := by
  simp only [State.pkeAbandon]
  split <;> [rfl; exact State.pkeAnswer_vault (by decide) ..]

/-! ### Mailboxes -/

@[simp] theorem State.onMslot_vault (s : State) (i : Nat) (f : MbxSlot → MbxSlot) :
    (s.onMslot i f).vault = s.vault := rfl

@[simp] theorem State.post_vault (s : State) (i n : Nat) : (s.post i n).vault = s.vault := rfl

@[simp] theorem State.take_vault (s : State) (i : Nat) : (s.take i).vault = s.vault := rfl

@[simp] theorem State.ring_vault (s : State) (i : Nat) (w : Word) : (s.ring i w).vault = s.vault := by simp [State.ring]

@[simp] theorem State.sideReset_vault (s : State) (m : Nat) (b : Bool) :
    (s.sideReset m b).vault = s.vault := rfl

@[simp] theorem State.sidesReset_vault (s : State) (d : Dom) :
    (s.sidesReset d).vault = s.vault := by simp [State.sidesReset]

/-! ### The resident firmware -/

@[simp] theorem State.fwPost_vault (s : State) (i : Nat) (ws : List Word) :
    (s.fwPost i ws).vault = s.vault := rfl

@[simp] theorem State.ioHead_vault (s : State) (g : FwIo) : (s.ioHead g).vault = s.vault := rfl

@[simp] theorem State.ioFail_vault (s : State) (c : Code) : (s.ioFail c).vault = s.vault := by
  simp only [State.ioFail]
  split <;> simp

@[simp] theorem State.coreIssue_vault (s : State) (write : Bool) (addr beats : Nat) (data : Bytes) :
    (s.coreIssue write addr beats data).vault = s.vault := rfl

@[simp] theorem State.ioWrite_vault (s : State) (a : Nat) (data : Bytes) :
    (s.ioWrite a data).vault = s.vault := by simp [State.ioWrite]

@[simp] theorem State.ioStep_vault (s : State) : s.ioStep.vault = s.vault := by
  simp only [State.ioStep]
  repeat' split
  all_goals simp

@[simp] theorem State.ioGo_vault (s : State) : s.ioGo.vault = s.vault := by simp [State.ioGo]

@[simp] theorem State.ioLost_vault (s : State) : s.ioLost.vault = s.vault := rfl

/-! ### Rings of the host -/

@[simp] theorem State.setRing_vault (s : State) (r : Nat) (v : Ring) :
    (s.setRing r v).vault = s.vault := rfl

@[simp] theorem State.lookAt_vault (s : State) (x : FwRead) (addr beats : Nat) :
    (s.lookAt x addr beats).vault = s.vault := rfl

@[simp] theorem State.lookDescriptor_vault (s : State) (r : Nat) (gen : Gen) (addr left : Nat) :
    (s.lookDescriptor r gen addr left).vault = s.vault := rfl

@[simp] theorem State.entryRead_vault (s : State) (r : Nat) (gen : Gen) (e : Bytes) :
    (s.entryRead r gen e).vault = s.vault := by simp [State.entryRead]

@[simp] theorem State.blockRead_vault (s : State) (r : Nat) (gen : Gen) (b : Bytes) :
    (s.blockRead r gen b).vault = s.vault := by simp [State.blockRead]

@[simp] theorem State.lookDone_vault (s : State) (data : Bytes) (err : Bool) :
    (s.lookDone data err).vault = s.vault := by
  simp only [State.lookDone]
  repeat' split
  all_goals simp

/-! ### The worker channel -/

@[simp] theorem State.onWcp_vault (s : State) (f : Wcp → Wcp) : (s.onWcp f).vault = s.vault := rfl

/-! ### What a reset clears -/

@[simp] theorem State.clearDom_vault (s : State) (d : Dom) : (s.clearDom d).vault = s.vault := rfl

@[simp] theorem State.chunkAcked_vault (s : State) (sid : StreamId) (gen : Gen) (err : Bool) :
    (s.chunkAcked sid gen err).vault = s.vault := by simp [State.chunkAcked]

@[simp] theorem State.pkeDropC_vault (s : State) : s.pkeDropC.vault = s.vault := by simp [State.pkeDropC]

@[simp] theorem State.tearNvm_vault (s : State) : s.tearNvm.vault = s.vault := by
  unfold State.tearNvm
  split <;> [rfl; (split <;> [rfl; exact vault_mk ..])]

@[simp] theorem State.letCtx_vault (s : State) (c : Nat) (g : Gen) :
    (s.letCtx c g).vault = s.vault := by simp [State.letCtx]

@[simp] theorem State.updDrop_vault (s : State) : s.updDrop.vault = s.vault := by
  simp only [State.updDrop]
  repeat' split
  all_goals simp

/-! ### The reset sequencer, the watchdogs and DIM -/

@[simp] theorem State.lcsStopped_vault (s : State) : s.lcsStopped.vault = s.vault := by simp [State.lcsStopped]

@[simp] theorem State.dimReset_vault (s : State) (doms : List Dom) :
    (s.dimReset doms).vault = s.vault := by simp [State.dimReset]

@[simp] theorem State.pkeClear_vault (s : State) : s.pkeClear.vault = s.vault := by simp [State.pkeClear]

/-! ### The checks of an SPDM request -/

section
variable {k : Bool × Bool × BitVec 6 × Option Episode} {s : State}

end

/-! ### Confluence records and commands of the Kiln -/

/-- DESTROY of a partition, while the Kiln is not halted. -/
theorem State.destroyPart_vault {s : State} (h : s.kln.halted = false) (p : PartId) (owner : EmberOwner)
    (src : EmberSrc) : (s.destroyPart p owner src).vault = s.vault := by
  have hzero (l : List SlotIx) : ∀ t : State, t.kln.halted = false →
      (l.foldl (fun s i => s.zeroSlot i (s.slot i).gen) t).vault = t.vault := by
    induction l with
    | nil => exact fun _ _ => rfl
    | cons i l ih => exact fun t ht => (ih (t.zeroSlot i (t.slot i).gen) ht).trans (State.zeroSlot_vault ht i _)
  simp only [State.destroyPart, State.raiseEmber_vault, State.onKln_vault]
  exact hzero _ s h

/-! ### A RELEASE, and what waits for the memory port -/

theorem State.relStep_vault {s t : State} (h : s.relStep = some t) : t.vault = s.vault := by
  unfold State.relStep at h
  split at h <;> [cases h; skip]
  simp only at h
  split at h
  case h_7 =>
    split at h
    · split at h <;> cases h
      simp
    · split at h
      · cases h
      · split at h <;> cases h <;> simp
  case h_3 =>
    split at h <;> cases h
    next hfree =>
    have hkln : s.kln.halted = false := by simp_all
    exact (State.destroyPart_vault (s := s.relTo .destroying) hkln ..).trans (State.onPrt_vault ..)
  case h_1 | h_2 | h_4 | h_5 =>
    split at h <;> cases h
    simp
  case h_6 | h_8 => cases h

@[simp] theorem State.relRun_vault (n : Nat) (s : State) : (State.relRun n s).vault = s.vault := by
  induction n generalizing s with
  | zero => rfl
  | succ n ih =>
    unfold State.relRun
    split <;> [rfl; exact (ih _).trans (State.relStep_vault ‹_›)]

@[simp] theorem State.prtGoOn_vault (s : State) : s.prtGoOn.vault = s.vault := by simp [State.prtGoOn]

@[simp] theorem State.scrubAcked_vault (s : State) (i : Nat) (err : Bool) :
    (s.scrubAcked i err).vault = s.vault := by simp [State.scrubAcked]

@[simp] theorem State.fillAcked_vault (s : State) (i : Nat) (err : Bool) :
    (s.fillAcked i err).vault = s.vault := by
  simp only [State.fillAcked]
  split <;> simp

@[simp] theorem State.mpLost_vault (s : State) (r : MpReq) : (s.mpLost r).vault = s.vault := by
  simp only [State.mpLost]
  split <;> simp

/-! ### A transition's keys -/



end Sys2Proof.Machine
end

section
/-!
PROOFS. What a reset source leaves (R91 to R93, R98 to R100): the stages of `State.act`, and what stands of the peat
store, the root, the key slots, the domains and the episode after them.
-/
namespace Sys2Proof.Machine

/-- The vault once a tamper event has cleared it: the peat store and the fence's core part as `p`, no root, no key
slot, and the Kiln halted. -/
def clearedVault (p : Peat × FncCore) : (Peat × FncCore) × RootKind × Bytes × Bytes × Bytes × Option (Sparse Slot) :=
  (p, .none, [], [], [], some [])

/-- What no reset of a class below POWER touches: the peat store and the fence's part of the CRS core. -/
def State.core (s : State) : Peat × FncCore := (s.peat, s.fncCore)

theorem State.core_of_vault {s t : State} (h : t.vault = s.vault) : t.core = s.core := congrArg Prod.fst h

theorem State.peat_of_core {s t : State} (h : t.core = s.core) : t.peat = s.peat := congrArg Prod.fst h

theorem State.fncCore_of_core {s t : State} (h : t.core = s.core) : t.fncCore = s.fncCore := congrArg Prod.snd h

theorem State.core_of_fst {s : State} {p : Peat × FncCore}
    {q : RootKind × Bytes × Bytes × Bytes × Option (Sparse Slot)} (h : s.vault = (p, q)) :
    s.core = p := congrArg Prod.fst h

/-! ### Domains that enter reset -/

@[simp] theorem State.hold_vault (s : State) (d : Dom) : (s.hold d).vault = s.vault := rfl

@[simp] theorem State.closeDebug_vault (s : State) : s.closeDebug.vault = s.vault := rfl

@[simp] theorem State.zeroD4_vault (s : State) : s.zeroD4.vault = s.vault := rfl

/-- D2 loses the root; the slots and the halt stand. -/
theorem State.enterD2_vault (s : State) :
    s.enterD2.vault = (s.core, .none, [], [], [], if s.kln.halted then some s.kst.slots else none) := by
  simp only [State.enterD2]
  generalize hu : (s.dgeAbandonHolders _).sidesReset .d2 = u
  have hv : u.vault = s.vault := by simp [← hu]
  have hcore := State.core_of_vault hv
  have hslots : (if u.kln.halted then some u.kst.slots else none) = if s.kln.halted then some s.kst.slots else none :=
    congrArg (·.2.2.2.2.2) hv
  rw [vault_mk]
  exact congrArg₂ (·, RootKind.none, [], [], [], ·) hcore hslots

theorem State.enterD5_vault (s : State) : s.enterD5.vault = s.vault := by simp [State.enterD5]

theorem State.enter_vault (s : State) {d : Dom} (h : d ≠ .d2) : (s.enter d).vault = s.vault := by
  cases d with
  | d2 => exact absurd rfl h
  | d5 => exact s.enterD5_vault
  | _ => simp [State.enter, State.enterD1, State.enterD3, State.enterD4, State.enterD6]

theorem State.enter_core (s : State) (d : Dom) : (s.enter d).core = s.core := by
  by_cases h : d = .d2
  · subst h
    exact State.core_of_fst (s := s.enterD2) s.enterD2_vault
  · exact State.core_of_vault (s.enter_vault h)

theorem State.enter_cleared {s : State} {p : Peat × FncCore} (h : s.vault = clearedVault p) (d : Dom) :
    (s.enter d).vault = clearedVault p := by
  by_cases hd : d = .d2
  · subst hd
    have hslots : (if s.kln.halted then some s.kst.slots else none) = some [] := congrArg (·.2.2.2.2.2) h
    exact s.enterD2_vault.trans (congrArg₂ (·, RootKind.none, [], [], [], ·) (State.core_of_fst h) hslots)
  · exact (s.enter_vault hd).trans h

/-- The episode with D4's wait set or cleared. -/
def Episode.withRetire (e : Episode) (r : Bool) : Episode := { e with retire := r }

theorem State.enter_ep (s : State) {d : Dom} (hd : d ∈ releaseOrder) :
    (s.enter d).crs.ep = s.crs.ep ∨ (s.enter d).crs.ep = s.crs.ep.map (Episode.withRetire · false) := by
  cases d with
  | d1 | d3 => exact .inl rfl
  | d2 => exact .inl (State.ep_of_still (t := s.enterD2) (s := s.hold .d2) s.enterD2_still)
  | d4 => exact .inr (congrArg (·.2.2.2) s.enterD4_still)
  | d5 => exact .inl (State.ep_of_still (t := s.enterD5) (s := s.hold .d5) s.enterD5_still)
  | d6 => exact .inl (State.ep_of_still (t := s.enterD6) (s := s.hold .d6) s.enterD6_still)
  | d0 | core => simp [releaseOrder] at hd

/-! ### The key store's pass -/

theorem State.passSlot_core (s : State) (i : SlotIx) : (s.passSlot i).core = s.core := by
  have hraise (t : State) (r : EmberReq) : (t.raiseEmber r).core = t.core := State.core_of_vault (t.raiseEmber_vault r)
  have hzero (t : State) (g : Gen) : (t.zeroSlot i g).core = t.core := rfl
  have hhealth (t : State) (c : Code) (p : Option PartId) : (t.health 2 c p).core = t.core := rfl
  have hkst (t : State) (f : Kst → Kst) : (t.onKst f).core = t.core := rfl
  simp only [State.passSlot]
  repeat' split
  all_goals simp only [hraise, hzero, hhealth, hkst]

theorem State.keyPass_core (s : State) (rank : Nat) (fresh : Bool) : (s.keyPass rank fresh).core = s.core := by
  have hpass (l : List SlotIx) (t : State) : (l.foldl State.passSlot t).core = t.core := by
    induction l generalizing t with
    | nil => rfl
    | cons i l ih => exact (ih _).trans (t.passSlot_core i)
  have hraise (l : List SlotIx) (t : State) : (l.foldl
      (fun s i => s.raiseEmber (revokeSlot i (s.slot i).gen .store)) t).core = t.core :=
    State.core_of_vault (vault_foldl (fun _ _ => State.raiseEmber_vault ..) t l)
  have hkst (t : State) (f : Kst → Kst) : (t.onKst f).core = t.core := rfl
  simp only [State.keyPass]
  repeat' split
  all_goals simp only [hpass, hraise, hkst]

/-- A pass of a COLD or a POWER episode keeps no slot. -/
theorem State.keyPass_cleared {s : State} {rank : Nat} {p : Peat × FncCore} {l : Sparse Slot} (hrank : rank ≠ 3)
    (h : s.vault = (p, .none, [], [], [], some l)) (fresh : Bool) : (s.keyPass rank fresh).vault = clearedVault p := by
  have hraise (l : List SlotIx) (t : State) : (l.foldl
      (fun s i => s.raiseEmber (revokeSlot i (s.slot i).gen .store)) t).vault = t.vault :=
    vault_foldl (fun _ _ => State.raiseEmber_vault ..) t l
  have hslots (t : State) (ht : t.vault = (p, .none, [], [], [], some l)) :
      ((t.onKst fun k => { k with slots := [] }).onKst fun k => { k with ready := true }).vault = clearedVault p := by
    simp only [State.vault, Prod.mk.injEq] at ht
    obtain ⟨hp, hr, hk, hn, hd, hl⟩ := ht
    have hhalt : t.kln.halted = true := by
      cases hh : t.kln.halted <;> simp_all
    simp [clearedVault, hp, hr, hk, hn, hd, hhalt]
  simp only [State.keyPass, if_neg hrank]
  refine hslots _ ?_
  repeat' split
  all_goals simp [hraise, h]

end Sys2Proof.Machine
end

section
/-!
PROOFS. The stages of a reset source, and the power-on and tamper events that use them (R62, R65, R90 to R93, R268).
-/
namespace Sys2Proof.Machine

/-- Step 8 of a reset: domain `d` enters reset where the episode reaches it and nothing makes D4 wait. -/
def State.stepIn (e : Episode) (waits : Bool) (s : State) (d : Dom) : State :=
  if e.doms.contains d && s.up d && !(d == .d4 && waits) then s.enter d else s

/-- What a reset source does: `u` has the episode and the vault of before; the key store's pass follows where D2 is
reached, and then the domains enter reset, which leaves `v`. -/
theorem State.act_stages (s : State) (x : Source) (rank : Nat) (doms : List Dom) :
    ∃ (u v : State) (fresh waits r : Bool), let e := Episode.after s.crs.ep x rank doms
      u.vault = s.vault ∧ u.crs.ep = some (e.withRetire r) ∧
      v = releaseOrder.foldl (State.stepIn e waits) (if e.doms.contains .d2 then u.keyPass e.rank fresh else u) ∧
      (s.act x rank doms).still = v.still ∧
      (s.act x rank doms).vault = (if rank = 5 then v.enterCore else v).vault := by
  unfold State.act
  extract_lets e s₁ s₂ s₃ s₄ s₅ entersD2 now waits s₆ s₇ s₈ s₉ s₁₀ s₁₁ s₁₂
  have hv₅ : s₅.vault = s.vault := by simp [s₅, s₄, s₃, s₂, s₁]
  have hep : ∃ r, s₆.crs.ep = some (e.withRetire r) := by
    simp only [s₆]
    split <;> [exact ⟨true, rfl⟩; exact ⟨e.retire, rfl⟩]
  obtain ⟨r, hr⟩ := hep
  refine ⟨s₆, s₈, entersD2, waits, r, ?_, hr, rfl, ?_, ?_⟩
  · simp only [s₆]
    split <;> [exact (State.raiseEmber_vault ..).trans hv₅; exact hv₅]
  · have hcore (t : State) : t.enterCore.still = t.still := rfl
    have hzero (t : State) : t.zeroD4.still = t.still := rfl
    simp [s₁₂, s₁₁, s₁₀, s₉, hcore, hzero]
  · have hcore {t u : State} (h : t.vault = u.vault) : t.enterCore.vault = u.enterCore.vault := by
      have hlast (k : RootKind × Bytes × Bytes × Bytes × Option (Sparse Slot)) (hk : t.vault.2 = k) :
          t.enterCore.vault = ((t.peat, {}), k) := hk ▸ rfl
      rw [hlast u.vault.2 (congrArg Prod.snd h), State.peat_of_core (State.core_of_vault h)]
      rfl
    have h₁₂ : s₁₂.vault = s₈.vault := by simp [s₁₂, s₁₁, s₁₀, s₉]
    split <;> [exact hcore h₁₂; exact h₁₂]

theorem State.stepIn_eq (e : Episode) (waits : Bool) (s : State) (d : Dom) :
    s.stepIn e waits d = s.enter d ∨ s.stepIn e waits d = s := ite_eq_or_eq ..

/-- What every domain's entry keeps, the entries of an episode keep. -/
theorem State.foldl_stepIn_keeps {P : State → Prop} (h : ∀ s, ∀ d ∈ releaseOrder, P s → P (s.enter d)) (e : Episode)
    (waits : Bool) {l : List Dom} (hl : ∀ d ∈ l, d ∈ releaseOrder) {s : State} (hs : P s) :
    P (l.foldl (State.stepIn e waits) s) := by
  induction l generalizing s with
  | nil => exact hs
  | cons d l ih =>
    refine ih (fun c hc => hl c (List.mem_cons_of_mem _ hc)) ?_
    rcases State.stepIn_eq e waits s d with hd | hd <;> rw [hd]
    · exact h s d (hl d List.mem_cons_self) hs
    · exact hs

/-- A domain that an episode reaches, other than D4, is in reset after the entries. -/
theorem State.foldl_stepIn_down {e : Episode} {d : Dom} (hd : d ∈ e.doms) (h4 : d ≠ .d4) (waits : Bool) {l : List Dom}
    (hl : ∀ d ∈ l, d ∈ releaseOrder) (hmem : d ∈ l) (s : State) : (l.foldl (State.stepIn e waits) s).up d = false := by
  have hdown (s : State) (c : Dom) (_ : c ∈ releaseOrder) (h : s.up d = false) : (s.enter c).up d = false :=
    State.enter_down h
  induction l generalizing s with
  | nil => cases hmem
  | cons c l ih =>
    have hl' := fun b hb => hl b (List.mem_cons_of_mem c hb)
    rcases List.mem_cons.1 hmem with rfl | hmem
    · refine State.foldl_stepIn_keeps (P := fun s => s.up d = false) hdown e waits hl' ?_
      unfold State.stepIn
      split
      · exact s.enter_up_self (hl d List.mem_cons_self)
      · next h => simpa [hd, h4] using h
    · exact ih hl' hmem _

theorem State.act_core_or (s : State) (x : Source) (rank : Nat) (doms : List Dom) :
    ∃ v : State, v.core = s.core ∧ (s.act x rank doms).core = (if rank = 5 then v.enterCore else v).core := by
  obtain ⟨u, v, fresh, waits, r, hu, -, hv, -, hact⟩ := s.act_stages x rank doms
  refine ⟨v, ?_, State.core_of_vault hact⟩
  rw [hv]
  refine State.foldl_stepIn_keeps (P := fun t => t.core = s.core) (fun t d _ ht => (t.enter_core d).trans ht) _ _
    (fun _ => id) ?_
  split <;> [exact (u.keyPass_core ..).trans (State.core_of_vault hu); exact State.core_of_vault hu]

theorem State.act_peat (s : State) (x : Source) (rank : Nat) (doms : List Dom) : (s.act x rank doms).peat = s.peat := by
  obtain ⟨v, hv, hact⟩ := s.act_core_or x rank doms
  have hcore : v.enterCore.peat = v.peat := rfl
  refine (State.peat_of_core hact).trans ?_
  split <;> [exact hcore.trans (State.peat_of_core hv); exact State.peat_of_core hv]

theorem State.act_fncCore (s : State) (x : Source) {rank : Nat} (h : rank ≠ 5) (doms : List Dom) :
    (s.act x rank doms).fncCore = s.fncCore := by
  obtain ⟨v, hv, hact⟩ := s.act_core_or x rank doms
  rw [if_neg h] at hact
  exact State.fncCore_of_core (hact.trans hv)

/-- An episode runs, of the class that the source brings it to. -/
theorem State.act_ep (s : State) (x : Source) (rank : Nat) (doms : List Dom) :
    ∃ r, (s.act x rank doms).crs.ep = some ((Episode.after s.crs.ep x rank doms).withRetire r) := by
  obtain ⟨u, v, fresh, waits, r, -, hu, hv, hact, -⟩ := s.act_stages x rank doms
  rw [State.ep_of_still hact, hv]
  refine State.foldl_stepIn_keeps (P := fun t => ∃ r, t.crs.ep = some (Episode.withRetire _ r)) ?_ _ _ (fun _ => id) ?_
  · rintro t d hd ⟨r, ht⟩
    rcases t.enter_ep hd with h | h <;> rw [h, ht]
    · exact ⟨r, rfl⟩
    · exact ⟨false, rfl⟩
  · have hst : (if (Episode.after s.crs.ep x rank doms).doms.contains .d2 then
        u.keyPass (Episode.after s.crs.ep x rank doms).rank fresh else u).still = u.still := by simp
    exact ⟨r, (State.ep_of_still hst).trans hu⟩

theorem Episode.mem_after {old : Option Episode} {x : Source} {rank : Nat} {doms : List Dom} {d : Dom} (h : d ∈ doms) :
    d ∈ (Episode.after old x rank doms).doms := by
  unfold Episode.after
  split
  · exact h
  · next e _ =>
    by_cases hd : d ∈ e.doms <;> simp [hd, h]

theorem Episode.le_rank_after (old : Option Episode) (x : Source) (rank : Nat) (doms : List Dom) :
    rank ≤ (Episode.after old x rank doms).rank := by
  unfold Episode.after
  split <;> [exact le_rfl; exact le_max_right ..]

theorem State.act_down (s : State) (x : Source) (rank : Nat) {doms : List Dom} {d : Dom} (hd : d ∈ doms)
    (h : d ∈ releaseOrder) (h4 : d ≠ .d4) : (s.act x rank doms).up d = false := by
  obtain ⟨u, v, fresh, waits, r, -, -, hv, hact, -⟩ := s.act_stages x rank doms
  rw [State.up_of_still hact, hv]
  exact State.foldl_stepIn_down (Episode.mem_after hd) h4 waits (fun _ => id) h _

/-- A COLD source that reaches D2, once the root is gone and the Kiln is halted, leaves no key slot. -/
theorem State.act_cleared {s : State} {p : Peat × FncCore} {l : Sparse Slot}
    (h : s.vault = (p, .none, [], [], [], some l)) (x : Source) {doms : List Dom} (hd : .d2 ∈ doms) :
    (s.act x 4 doms).vault = clearedVault p := by
  obtain ⟨u, v, fresh, waits, r, hu, -, hv, -, hact⟩ := s.act_stages x 4 doms
  have hrank := Episode.le_rank_after s.crs.ep x 4 doms
  rw [hact, if_neg (by decide), hv, if_pos (List.contains_iff_mem.2 (Episode.mem_after hd))]
  exact State.foldl_stepIn_keeps (P := fun t => t.vault = clearedVault p) (fun t d _ ht => State.enter_cleared ht d) _ _
    (fun _ => id) (State.keyPass_cleared (by omega) (hu.trans h) _)

/-! ### Tamper (R65, R268, R269) -/

/-- The peat store as a tamper input leaves it. -/
def Peat.tampered (p : Peat) (i : Fin 8) : Peat :=
  { p with
    secret := 0
    secretN := 0
    events := satInc 0xFFFF p.events
    inputs := p.inputs ||| (1#8 <<< i.val)
    latch := true
    active := p.active ||| (1#8 <<< i.val) }

/-- What acts in a tamper event: the secret and the root are gone and the Kiln is halted before the COLD episode. -/
theorem execTamperInput_act (i : Fin 8) (s : State) :
    ∃ u : State, execTamperInput i s = .next (u.act .tamper 4 (classDoms 4)) ∧
    ∃ l, u.vault = ((s.peat.tampered i, s.fncCore), .none, [], [], [], some l) := by
  refine ⟨_, rfl, ?_⟩
  rw [State.raiseEmber_vault, State.pkeClear_vault, State.onKst_vault]
  split <;> exact ⟨_, rfl⟩

/-- Settles O23: the tamper input empties the vault before the COLD episode that it begins, and no step of the episode
fills it again. -/
theorem tamperClearsTheSecretAndHaltsTheKiln : Obligations.TamperClearsTheSecretAndHaltsTheKiln := by
  unfold Obligations.TamperClearsTheSecretAndHaltsTheKiln
  refine ⟨fun i s => ?_, fun w active s h => ?_⟩
  · obtain ⟨u, hexec, l, hu⟩ := execTamperInput_act i s
    have hclear := State.act_cleared hu .tamper (doms := classDoms 4) (by decide)
    obtain ⟨r, hep⟩ := u.act_ep .tamper 4 (classDoms 4)
    have hdown : ∀ d ∈ [Dom.d1, .d2, .d3, .d5, .d6], (u.act .tamper 4 (classDoms 4)).up d = false := fun d hd =>
      u.act_down _ _ (doms := classDoms 4) (by revert d; decide) (by revert d; decide) (by revert d; decide)
    generalize u.act .tamper 4 (classDoms 4) = t at hexec hclear hep hdown
    have hcold : t.coldReach = true := by
      simp [State.coldReach, hep, Episode.withRetire, Episode.le_rank_after]
    simp only [State.vault, clearedVault, Prod.mk.injEq] at hclear
    obtain ⟨⟨hp, -⟩, hroot, hkey, hnonce, hdevid, hslots⟩ := hclear
    have hnone : t.kst.slots = [] := by
      split at hslots <;> [exact Option.some.inj hslots; cases hslots]
    rw [exec, hexec]
    refine ⟨t, rfl, ?_⟩
    rw [hp]
    exact ⟨rfl, rfl, rfl, rfl, rfl, hcold, hroot, hkey, hnonce, hdevid, hnone, hdown⟩
  · rw [exec, execKlnTamperClear, ranOn_up h]
    by_cases hkey : w.extractLsb' 24 8 = 0xC4#8
    · simp [keyed, fld, hkey]
    · simp [keyed, fld, hkey]

end Sys2Proof.Machine
end

section
/-!
PROOFS. The power-on, and the reset sources with what follows them (R62, R90 to R93, R96, R99, R103, R107, R108, R537).
-/
namespace Sys2Proof.Machine

/-! ### Power-on -/

theorem State.act_por_cause (s : State) (doms : List Dom) : (s.act .por 5 doms).crs.cause = .por := by
  unfold State.act
  extract_lets
  rw [if_pos rfl]
  rfl

theorem State.powerOn_cause (s : State) : s.powerOn.crs.cause = .por := s.act_por_cause (classDoms 5)

theorem State.deassert_asserts (s : State) (x : Source) : (s.deassert x).asserts x = false := by
  cases h : s.crs.ep <;> simp [State.deassert, State.asserts, h]

theorem execPorNRise_of_low {s : State} (h : s.crs.porLow = true) : ∃ t, execPorNRise s = .next t ∧
    t.crs.porLow = false ∧ t.crs.locking = true ∧ t.crs.pllTries = 0 ∧
      (s.crs.d0Por = false → t.asserts .por = false) := by
  refine ⟨_, ranIf_due h, ?_⟩
  simp only
  split
  · next hd => exact ⟨rfl, rfl, rfl, fun hn => absurd (hd.symm.trans hn) (by decide)⟩
  · exact ⟨rfl, rfl, rfl, fun _ => State.deassert_asserts ..⟩

theorem execStrapLatch_of_equal {s : State} (hl : s.crs.pllLock = true) (hs : s.crs.strapped = false) (k : BitVec 4) :
    execStrapLatch (List.replicate 8 k) s =
      .next (s.quiet.onCrs fun c => { c with strap := strapOf k, strapped := true }) := by
  rw [execStrapLatch, ranIf_due (by simp [hl, hs])]
  simp

theorem execStrapLatch_of_differ {s : State} {l : List (BitVec 4)} (hl : s.crs.pllLock = true)
    (hs : s.crs.strapped = false) (hlen : l.length = 8) (hne : ∃ k ∈ l, k ≠ l.headD 0) :
    ∃ t, execStrapLatch l s = .next t ∧
      (s.crs.strapSets < 3 → t = s.quiet.onCrs fun c => { c with strapSets := c.strapSets + 1 }) ∧
      (3 ≤ s.crs.strapSets → t.crs.strapped = true ∧ t.crs.strap.fault = true ∧ t.crs.strap.role = 3) := by
  have hall : ¬ (l.all fun r => r == l.headD 0) = true := by simpa using hne
  have hsets : s.quiet.crs.strapSets = s.crs.strapSets := rfl
  refine ⟨_, ranIf_due (by simp [hl, hs, hlen]), fun h3 => ?_, fun h3 => ?_⟩
  · simp only [if_neg hall]
    rw [if_pos (by omega)]
  · simp only [if_neg hall]
    rw [if_neg (by omega)]
    exact ⟨rfl, rfl, rfl⟩

/-- Settles O7: the cause is what the core's reset leaves, and the peat store is no part of an episode. -/
theorem powerOnResetRunsToTheStrapLatch : Obligations.PowerOnResetRunsToTheStrapLatch := by
  unfold Obligations.PowerOnResetRunsToTheStrapLatch
  simp only [exec]
  refine ⟨fun s h => ?_, fun s h => execPorNRise_of_low h, fun s => ?_, fun s h => ranIf_due h,
    fun s h => ?_, fun s k hl hs => execStrapLatch_of_equal hl hs k, fun s l => execStrapLatch_of_differ⟩
  · exact ⟨_, ranIf_due (by rw [h]; rfl), rfl, rfl, rfl, s.quiet.powerOn_cause⟩
  · exact ⟨_, rfl, State.act_peat .., rfl, rfl, State.powerOn_cause { s.quiet with peat := {} }⟩
  · have hfour (n : Nat) : decide (n + 1 < 4) = decide (n < 3) := decide_eq_decide.2 (by omega)
    rw [execPllLockTimeout, ranIf_due h]
    simp only [hfour]

/-! ### Sources -/

theorem State.nextHost_of_least {s : State} {n : Nat} (hgo : s.crs.go = true) (hfault : s.crs.strap.fault = false)
    (hep : (s.crs.ep.any fun e => e.sdFrom.isSome) = false) (hn : n < 24) (hen : s.crs.enable.getLsbD n = true)
    (hsd : s.crs.sd.getLsbD n = false) (hlow : ∀ m < n, s.crs.enable.getLsbD m = true → s.crs.sd.getLsbD m = true) :
    s.nextHost = some n := by
  simp only [State.nextHost, hgo, hfault, hep]
  rw [if_neg (by simp), if_neg (by simp), List.find?_range_eq_some]
  refine ⟨by simp [hen, hsd], List.mem_range.2 hn, fun m hm => ?_⟩
  by_cases he : s.crs.enable.getLsbD m = true <;> simp [he, hlow m hm]

theorem execD4ResetEntry_of_retire {s : State} (h : (s.crs.ep.any fun e => e.retire) = true) :
    ∃ t, execD4ResetEntry s = .next t ∧ t.up .d4 = false ∧ (t.crs.ep.any fun e => e.retire) = false := by
  have hup : s.quiet.enterD4.up .d4 = false := s.quiet.enter_up_self (d := .d4) (by decide)
  have hep : (s.quiet.enterD4.crs.ep.any fun e => e.retire) = false := by
    rw [show s.quiet.enterD4.crs.ep = _ from congrArg (·.2.2.2) s.quiet.enterD4_still]
    cases s.quiet.crs.ep <;> rfl
  refine ⟨_, ranIf_due h, ?_⟩
  simp only
  split <;> exact ⟨hup, hep⟩

/-- Settles O5: each source is due under its condition, and the entry of D4 holds D4 and ends its wait. -/
theorem resetSourcesActAndDeassert : Obligations.ResetSourcesActAndDeassert := by
  unfold Obligations.ResetSourcesActAndDeassert
  simp only [exec]
  refine ⟨⟨fun s hl hw => ranIf_due (by simp [hl, hw]), fun s hl hc => ranIf_due (by simp [hl, hc]),
    fun s h => ranIf_due h, fun s h5 hb hdim => ranIf_due (by simp [h5, hb, hdim]), fun s h => ranIf_due h⟩,
    fun s x hx hf hp => ?_, fun s h => execD4ResetEntry_of_retire h,
    fun s n hgo hfault hep hn hen hsd hlow => ?_, fun s h => ranIf_due h⟩
  · rw [execSourceDeassert, ranIf_due (by simp [hx, hf, hp])]
    simp only [if_neg hp]
    rfl
  · have hnext := State.nextHost_of_least hgo hfault hep hn hen hsd hlow
    rw [execHostDomainRelease, ranIf_due (by rw [hnext]; rfl)]
    have hq : s.quiet.nextHost = some n := hnext
    simp only [hq]

end Sys2Proof.Machine
end

section
/-!
PROOFS. The debug gate and the test access port (R76, R78, R161 to R163).
-/
namespace Sys2Proof.Machine

/-! ### OPEN_DEBUG -/

/-- Outside TEST and RETURN, OPEN_DEBUG is refused with a code that is not DONE. -/
theorem execOpenDebug_refused {s : State} (hd1 : s.serves .d1 = true) (ht : s.lcs.state ≠ .test)
    (hr : s.lcs.state ≠ .ret) (w : Word) :
    ∃ c, c ≠ .done ∧ execOpenDebug w s = .next (s.quiet.lcsRefuse c) := by
  have hden : ((s.quiet.lcs.state != .test && s.quiet.lcs.state != .ret), Code.deniedLc) = (true, .deniedLc) := by
    simp [ht, hr]
  obtain ⟨c, hc⟩ := lowest_isSome (l :=
      [(s.quiet.lcsBusy || s.quiet.otp.run.isSome || !s.quiet.otp.startupDone, .busy),
       (s.quiet.lcs.state != .test && s.quiet.lcs.state != .ret, .deniedLc),
       (rsvSet .lcsCmd w || s.quiet.lcs.confClosed, .deniedAttr)]) (c := .deniedLc) (by simp [← hden])
  refine ⟨c, ?_, ?_⟩
  · have hmem := (lowest_least hc).1
    rintro rfl
    simp at hmem
  · rw [execOpenDebug, ranOn_up hd1]
    simp only [hc]

theorem execOpenDebug_taken {s : State} (hd1 : s.serves .d1 = true) (hst : s.lcs.state = .test ∨ s.lcs.state = .ret)
    (hconf : s.lcs.confClosed = false) (hbusy : s.lcsBusy = false) (hrun : s.otp.run = none)
    (hup : s.otp.startupDone = true) {w : Word} (hw : rsvSet .lcsCmd w = false) : execOpenDebug w s =
      .next (s.quiet.onLcs fun l => { l with phase := .destroying, opening := true }).destroyWorking := by
  have hnone : lowest
      [(s.quiet.lcsBusy || s.quiet.otp.run.isSome || !s.quiet.otp.startupDone, .busy),
       (s.quiet.lcs.state != .test && s.quiet.lcs.state != .ret, .deniedLc),
       (rsvSet .lcsCmd w || s.quiet.lcs.confClosed, .deniedAttr)] = none := by
    have hbusy' : s.quiet.lcsBusy = false := hbusy
    rw [lowest_eq_none]
    rcases hst with h | h <;> simp [hbusy', h, hrun, hup, hw, hconf]
  rw [execOpenDebug, ranOn_up hd1]
  simp only [hnone]

/-! ### The test access port -/

/-- Eight cycles in Shift-IR leave the instruction in the stage, whatever it held. -/
theorem irScan_stage (ir : BitVec 8) : (List.range 8).foldl
    (fun (v : BitVec 8) i => (v >>> 1) ||| (if ir.getLsbD i then 0x80#8 else 0)) 0x01#8 = ir := by
  revert ir
  decide

/-- The scan of an instruction, from where it may begin. -/
theorem foldl_irScan {t : Tap} (h : t.ctl = .testLogicReset ∨ t.ctl = .runTestIdle) (ir : BitVec 8) :
    (irScan ir).foldl (fun t e => tapCycle t e.1 e.2) t = ⟨.runTestIdle, ir, ir⟩ := by
  obtain ⟨ctl, i, g⟩ := t
  have hend (v : BitVec 8) (hv : v = ir) : (⟨.runTestIdle, v, v⟩ : Tap) = ⟨.runTestIdle, ir, ir⟩ := by rw [hv]
  rcases h with h | h <;> cases h <;> exact hend _ (irScan_stage ir)

theorem fld_high_eq_one (ir : BitVec 8) : fld ir 4 4 = 1#4 ↔ 0x10 ≤ ir.toNat ∧ ir.toNat ≤ 0x1F := by
  revert ir
  decide

theorem State.tapReg_eq {s : State} {ir : BitVec 8} (h : s.tap.ir = ir) : s.tapReg = if ir = 1#8 then .idcode
    else if 0x10 ≤ ir.toNat ∧ ir.toNat ≤ 0x1F ∧ s.lcs.debugOpen = true then .debug ir else .bypass := by
  simp only [State.tapReg, h, fld_high_eq_one, and_assoc]

/-- Settles O16: the refusal code of OPEN_DEBUG is never DONE, and eight cycles in Shift-IR carry any instruction in. -/
theorem debugGateOpensInTestAndReturnOnly : Obligations.DebugGateOpensInTestAndReturnOnly := by
  unfold Obligations.DebugGateOpensInTestAndReturnOnly
  simp only [exec]
  refine ⟨fun w s hd1 hst hconf hbusy hrun hup hw => execOpenDebug_taken hd1 hst hconf hbusy hrun hup hw,
    fun w s hd1 ht hr => ?_, fun s h => ?_, fun ir s => ⟨fun h => ?_, fun h hctl => ?_⟩, fun s => ⟨_, rfl, rfl, rfl⟩⟩
  · obtain ⟨c, hc, hexec⟩ := execOpenDebug_refused hd1 ht hr w
    exact ⟨_, hexec, hc, rfl, rfl⟩
  · refine ⟨_, ranIf_due h, ?_⟩
    cases hc : s.lcs.confClosed <;> simp [State.quiet, State.onLcs, hc]
  · rw [execJtagInstruction, ran_eq, if_pos (by simpa using h)]
  · have htap := foldl_irScan (t := s.quiet.tap) hctl ir
    have hup : s.quiet.up .d1 = true := h
    rw [execJtagInstruction, ran_eq, if_neg (by simp [hup])]
    simp only [htap]
    exact ⟨_, rfl, rfl, rfl, rfl, State.tapReg_eq rfl⟩

end Sys2Proof.Machine
end

section
/-!
PROOFS. The banks of the TRNG (R43, R449, R490).
-/
namespace Sys2Proof.Machine

/-- A read of the bank that a requester has, outside gate mode. -/
theorem execTrngRead_of_bank {q : Req} {b : Nat} {s : State} (hb : trngBank q = some b) (hg : s.gateCore q = false)
    (h : s.serves .d1 = true) : execTrngRead q s = .next (s.quiet.trngPop b) := by
  have hg' : s.quiet.gateCore q = false := hg
  rw [execTrngRead, ran_eq, if_neg (by simp [hg'])]
  simp only [hb]
  rw [if_pos (by rw [State.quiet_serves, h])]

/-- A requester without a bank is no core, so that gate mode does not meet it. -/
theorem gateCore_of_no_bank {q : Req} (h : trngBank q = none) (s : State) : s.gateCore q = false := by
  cases q <;> simp_all [trngBank, State.gateCore]

/-- What a refill leaves: the next bank in turn, and its word where it has room. -/
theorem execTrngRefill_due {s : State} (h : s.up .d1 = true) (hf : s.trng.fail = false)
    (hlen : s.trng.next < s.trng.banks.length) : ∃ t w, execTrngRefill s = .next t ∧
      t.trng.next = (s.trng.next + 1) % 9 ∧ t.trng.fail = false ∧
      t.trng.banks = if (s.trng.banks.getD s.trng.next []).length < 16 then
        s.trng.banks.set s.trng.next (s.trng.banks.getD s.trng.next [] ++ [w]) else s.trng.banks := by
  refine ⟨_, s.quiet.trngWord, ranIf_due (by simp [h, hf]), ?_⟩
  have hq : s.quiet.trng = s.trng := rfl
  have hmod (w : Word) : modAt s.trng.banks s.trng.next (fun l => l ++ [w]) =
      s.trng.banks.set s.trng.next (s.trng.banks.getD s.trng.next [] ++ [w]) := by
    rw [modAt, List.modify_eq_set]
    simp [hlen]
  simp only [hq]
  split
  · exact ⟨rfl, hf, hmod _⟩
  · exact ⟨rfl, hf, rfl⟩

/-- Settles O55: a read takes the front of its bank alone, and a refill appends to the next bank alone. -/
theorem randomWordsAreGivenOnceEach : Obligations.RandomWordsAreGivenOnceEach := by
  unfold Obligations.RandomWordsAreGivenOnceEach
  simp only [exec]
  refine ⟨fun q b s hb hg h => ⟨fun w l hl => ?_, fun hl => ?_⟩, fun q s hb => ?_,
    fun s h hf hlen hn => execTrngRefill_due h hf (by omega), fun s hf => ranIf_not (by simp [hf]),
    fun s h => ⟨ranIf_due h, fun hf => ⟨ranIf_due (by simp [h, hf]), ranIf_due (by simp [h, hf])⟩⟩⟩
  · have hbank : s.quiet.trng.banks.getD b [] = w :: l := by simp [State.quiet, List.getD, hl]
    rw [execTrngRead_of_bank hb hg h, State.trngPop, hbank]
    rfl
  · have hbank : s.quiet.trng.banks.getD b [] = [] := hl
    rw [execTrngRead_of_bank hb hg h, State.trngPop, hbank]
  · have hg := gateCore_of_no_bank hb s.quiet
    rw [execTrngRead, ran_eq, if_neg (by simp [hg]), hb]

end Sys2Proof.Machine
end

section
/-!
PROOFS. What the control port refuses (R7, R14, R42, R43).
-/
namespace Sys2Proof.Machine

/-- A completion without data becomes the response owed, and nothing else of the access stands. -/
theorem icpOwe_code (s : State) (c : Code) (tag : BitVec 4) :
    (s.quiet.emit (.code c)).icpOwe tag = { s.quiet with icp := s.icp ++ [⟨tag, c, 0⟩] } := by
  have hdata : (if c = .done then outWord [Out.code c] else 0) = 0 := by split <;> rfl
  exact congrArg (fun v : Word => { s.quiet with icp := s.icp ++ [(⟨tag, c, v⟩ : IcpRsp)] }) hdata

/-- An accepted request owes what its access answers. -/
theorem execIcpRequest_accepted {wr : Bool} {a : IcpAddr} {v : Word} {src : BitVec 2} {s t : State}
    (hup : s.up .d1 = true) (hroom : s.icp.length < 16) (h : icpAccess wr a v src s = .next t) (tag : BitVec 4) :
    execIcpRequest wr a v src tag s = .next (t.icpOwe tag) := by
  rw [execIcpRequest, if_neg (by simp [hup]; omega), h]

theorem execIcpRequest_code {wr : Bool} {a : IcpAddr} {v : Word} {src : BitVec 2} {s : State} {c : Code}
    (hup : s.up .d1 = true) (hroom : s.icp.length < 16)
    (h : icpAccess wr a v src s = .next (s.quiet.emit (.code c))) (tag : BitVec 4) :
    execIcpRequest wr a v src tag s = .next { s.quiet with icp := s.icp ++ [⟨tag, c, 0⟩] } := by
  rw [execIcpRequest_accepted hup hroom h, icpOwe_code]

theorem deniedDown_icp (src : BitVec 2) (u : Unt) : deniedDown (.icp src) u = true := rfl

/-- A well-formed request reaches the registers. -/
theorem icpAccess_inside {a : IcpAddr} {src : BitVec 2} (ha : a.toNat % 4 = 0) (hsrc : src.toNat < 2)
    (hwin : a.toNat < 0x800000) (wr : Bool) (v : Word) (s : State) :
    icpAccess wr a v src s = regAccess (.icp src) wr a.toNat v s := by
  rw [icpAccess, if_neg (by omega)]

/-- The cases of R42 in which a request is refused. -/
theorem icpAccess_denied {wr : Bool} {a : IcpAddr} {src : BitVec 2} {s : State}
    (h : a.toNat % 4 ≠ 0 ∨ 2 ≤ src.toNat ∨ 0x800000 ≤ a.toNat ∨
      (∃ p, decodeReg a.toNat = some p ∧ s.grant (.icp src) wr p = false) ∨
      (decodeReg a.toNat = none ∧ unitGrant (.icp src) (decodeUnit a.toNat) = false)) (v : Word) :
    icpAccess wr a v src s = .next (s.quiet.emit (.code .deniedAttr)) := by
  unfold icpAccess
  split
  · rfl
  · next hin =>
    have hdec : (∃ p, decodeReg a.toNat = some p ∧ s.grant (.icp src) wr p = false) ∨
        (decodeReg a.toNat = none ∧ unitGrant (.icp src) (decodeUnit a.toNat) = false) := by
      rcases h with h | h | h | h <;> [exact absurd (.inl h) hin; exact absurd (.inr (.inl h)) hin;
        exact absurd (.inr (.inr h)) hin; exact h]
    unfold regAccess
    rcases hdec with ⟨p, hp, hg⟩ | ⟨hp, hg⟩
    · simp only [hp, hg, deniedDown_icp]
      rfl
    · simp only [hp, hg, deniedDown_icp]
      rfl

/-- An unoccupied offset of a unit that serves and grants the class some register. -/
theorem icpAccess_unoccupied {a : IcpAddr} {src : BitVec 2} {s : State} (ha : a.toNat % 4 = 0) (hsrc : src.toNat < 2)
    (hwin : a.toNat < 0x800000) (hp : decodeReg a.toNat = none)
    (hg : unitGrant (.icp src) (decodeUnit a.toNat) = true) (hs : s.serves (decodeUnit a.toNat).dom = true)
    (wr : Bool) (v : Word) :
    icpAccess wr a v src s = .next (if wr then s.quiet else s.quiet.emit (.read 0)) := by
  rw [icpAccess_inside ha hsrc hwin, regAccess]
  simp only [hp, hg, hs]
  rfl

/-- Settles O33: each refused case is decided before the access is made, and leaves the response alone. -/
theorem controlPortRefusesWithoutEffect : Obligations.ControlPortRefusesWithoutEffect := by
  unfold Obligations.ControlPortRefusesWithoutEffect
  simp only [exec]
  refine ⟨fun wr a v src tag s hup hroom h => execIcpRequest_code hup hroom (icpAccess_denied h v) tag,
    fun wr a v src tag s hup hroom ha hsrc hwin hp hg hs => ?_⟩
  rw [execIcpRequest_accepted hup hroom (icpAccess_unoccupied ha hsrc hwin hp hg hs wr v)]
  cases wr <;> rfl

end Sys2Proof.Machine
end

section
/-!
PROOFS. The control port, the memory port and the self-test port (R41, R43, R47 to R49, R80).
-/
namespace Sys2Proof.Machine

/-! ### What leaves the responses that the control port owes -/

@[simp] theorem State.onMslot_icp (s : State) (i : Nat) (f : MbxSlot → MbxSlot) : (s.onMslot i f).icp = s.icp := rfl

theorem icp_ite (c : Prop) [Decidable c] (s t : State) : (if c then s else t).icp = if c then s.icp else t.icp :=
  apply_ite State.icp c s t

@[simp] theorem State.avsSend_icp (s : State) (op : AvsOp) : (s.avsSend op).icp = s.icp := by
  simp [State.avsSend, icp_ite]

@[simp] theorem State.movePoint_icp (s : State) (v d : Nat) : (s.movePoint v d).icp = s.icp := by
  simp [State.movePoint, icp_ite]

@[simp] theorem State.takePoint_icp (s : State) : s.takePoint.icp = s.icp := by simp [State.takePoint, icp_ite]

@[simp] theorem State.dimEnd_icp (s : State) (why : Nat) : (s.dimEnd why).icp = s.icp := by
  simp [State.dimEnd, icp_ite]

@[simp] theorem State.refuseD3_icp (s : State) : s.refuseD3.icp = s.icp := by simp [State.refuseD3]

@[simp] theorem State.refuseDown_icp (s : State) (d : Dom) : (s.refuseDown d).icp = s.icp := by
  simp [State.refuseDown, icp_ite]

@[simp] theorem State.ring_icp (s : State) (i : Nat) (w : Word) : (s.ring i w).icp = s.icp := by
  simp [State.ring, icp_ite]

@[simp] theorem State.ringBell_icp (s : State) (w : Word) : (s.ringBell w).icp = s.icp := by simp [State.ringBell]

@[simp] theorem State.store_icp (s : State) (r : Reg) (b k : Nat) (w : Word) : (s.store r b k w).icp = s.icp := by
  simp [State.store, icp_ite, State.setReg]

@[simp] theorem State.sendSlot_icp (s : State) (i n : Nat) (ok : Bool) : (s.sendSlot i n ok).1.icp = s.icp := by
  simp only [State.sendSlot]
  repeat' split
  all_goals rfl

@[simp] theorem State.trngPop_icp (s : State) (b : Nat) : (s.trngPop b).icp = s.icp := by
  simp only [State.trngPop]
  split <;> rfl

/-! ### Every access of the control port leaves them -/

/-- The access completes, and leaves the responses that are owed. -/
def KeepsOwed (s : State) (r : Res) : Prop := ∃ t, r = .next t ∧ t.icp = s.icp

theorem keepsOwed_ran {f : State → State} {s : State} (h : (f s.quiet).icp = s.quiet.icp) : KeepsOwed s (ran f s) :=
  ⟨_, rfl, h⟩

theorem keepsOwed_ranOn {d : Dom} {f : State → State} {s : State} (h : (f s.quiet).icp = s.quiet.icp) :
    KeepsOwed s (ranOn d f s) := by
  cases hs : s.serves d with
  | true => exact ⟨_, ranOn_up hs, h⟩
  | false => exact ⟨_, ranOn_down hs, rfl⟩

theorem gateCore_icp (s : State) (src : BitVec 2) : s.gateCore (.icp src) = false := by simp [State.gateCore]

/-- The host sends in MBX0 alone (R471). -/
theorem mbxSender_icp {s : State} {src : BitVec 2} {m : Nat} {d : MbxDir} (h : s.mbxSender (.icp src) m d = true) :
    m = 0 ∧ d = .ab := by
  unfold State.mbxSender State.ownsSide at h
  split at h
  · next hd =>
    refine ⟨rfl, ?_⟩
    cases d <;> simp_all
  all_goals simp [State.cluster] at h

theorem execMbxSend_keepsOwed (src : BitVec 2) (m : Fin 4) (d : MbxDir) (w : Word) (s : State) :
    KeepsOwed s (execMbxSend (.icp src) m d w s) := by
  refine keepsOwed_ran ?_
  rw [gateCore_icp, if_neg Bool.false_ne_true]
  repeat' split
  case isFalse.isFalse hsend _ =>
    have h := mbxSender_icp (s := s.quiet) (src := src) (m := m) (d := d) (by simpa [isIcp] using hsend)
    rw [h.1, h.2]
    exact (State.sendSlot_icp s.quiet 0 _ true)
  all_goals rfl

theorem execMbxPop_keepsOwed (src : BitVec 2) (m : Fin 4) (d : MbxDir) (s : State) :
    KeepsOwed s (execMbxPop (.icp src) m d s) := by
  refine keepsOwed_ran ?_
  simp only [gateCore_icp]
  simp [icp_ite, State.take]

theorem execDbSet_keepsOwed (src : BitVec 2) (m : Fin 4) (d : MbxDir) (w : Word) (s : State) :
    KeepsOwed s (execDbSet (.icp src) m d w s) := by
  refine keepsOwed_ran ?_
  simp only [gateCore_icp]
  simp [icp_ite]

theorem execMbxHostReset_keepsOwed (w : Word) (s : State) : KeepsOwed s (execMbxHostReset w s) := by
  have hside (t : State) : (t.sideReset 0 false).icp = t.icp := rfl
  refine keepsOwed_ran ?_
  simp [icp_ite, hside]

theorem execMbxRingdb_keepsOwed (w : Word) (s : State) : KeepsOwed s (execMbxRingdb w s) := by
  refine keepsOwed_ran ?_
  split <;> [rfl; exact State.ringBell_icp ..]

theorem regTake_keepsOwed (src : BitVec 2) (p : RegAt) (s : State) : KeepsOwed s (regTake (.icp src) p s) := by
  unfold regTake
  split
  · have hpop (t : State) (f : SmeBlk → SmeBlk) : (t.onSmeBlk (blkOf p.blk) f).icp = t.icp := by
      cases blkOf p.blk <;> rfl
    refine keepsOwed_ran ?_
    simp [icp_ite, hpop]
  iterate 3 exact keepsOwed_ranOn rfl
  · exact execMbxPop_keepsOwed ..
  · refine keepsOwed_ran ?_
    simp [gateCore_icp, trngBank]
  · exact keepsOwed_ranOn rfl
  all_goals exact keepsOwed_ran rfl

/-- A register that the control port may write. -/
theorem regWrite_keepsOwed {src : BitVec 2} {p : RegAt} {s : State} (h : s.grant (.icp src) true p = true) (w : Word) :
    KeepsOwed s (regWrite (.icp src) p w s) := by
  have hm : s.mbxGrant (.icp src) true p.blk p.reg = true := by
    simp only [State.grant] at h
    split at h <;> [exact h; cases h]
  cases p with | mk r b k =>
  unfold State.mbxGrant at hm
  simp only at hm
  split at hm
  case h_2 => exact execMbxSend_keepsOwed ..
  case h_3 => exact execDbSet_keepsOwed ..
  case h_5 | h_13 =>
    unfold regWrite
    refine keepsOwed_ran ?_
    exact State.store_icp ..
  case h_9 => exact execMbxHostReset_keepsOwed ..
  case h_10 => exact execMbxRingdb_keepsOwed ..
  case h_14 => cases hm
  all_goals
    unfold regWrite
    refine keepsOwed_ran ?_
    rfl

theorem regAccess_keepsOwed (src : BitVec 2) (wr : Bool) (a : Nat) (v : Word) (s : State) :
    KeepsOwed s (regAccess (.icp src) wr a v s) := by
  unfold regAccess
  split
  · simp only
    repeat' split
    all_goals refine keepsOwed_ran ?_
    all_goals simp
  · next p _ =>
    simp only [deniedDown_icp, Bool.true_or, Bool.and_true]
    split
    · exact keepsOwed_ran rfl
    · next hg =>
      split
      · exact keepsOwed_ran (State.refuseDown_icp ..)
      · split
        · next hw =>
          subst hw
          exact regWrite_keepsOwed (by simpa using hg) v
        · exact regTake_keepsOwed src p s

theorem icpAccess_keepsOwed (wr : Bool) (a : IcpAddr) (v : Word) (src : BitVec 2) (s : State) :
    KeepsOwed s (icpAccess wr a v src s) := by
  unfold icpAccess
  split <;> [exact keepsOwed_ran rfl; exact regAccess_keepsOwed ..]

/-- A granted request to a register of a domain that does not serve. -/
theorem icpAccess_down {wr : Bool} {a : IcpAddr} {src : BitVec 2} {s : State} {p : RegAt} (ha : a.toNat % 4 = 0)
    (hsrc : src.toNat < 2) (hwin : a.toNat < 0x800000) (hp : decodeReg a.toNat = some p)
    (hg : s.grant (.icp src) wr p = true) (hs : s.serves p.reg.row.dom = false) (h3 : p.reg.row.dom ≠ .d3)
    (h5 : p.reg.row.dom ≠ .d5) (v : Word) : icpAccess wr a v src s = .next (s.quiet.emit (.code .busy)) := by
  rw [icpAccess_inside ha hsrc hwin, regAccess]
  simp only [hp, hg, hs]
  have hbusy : s.quiet.refuseDown p.reg.row.dom = s.quiet.emit (.code .busy) := if_neg (not_or.2 ⟨h3, h5⟩)
  exact congrArg Host.Outcome.next hbusy

/-! ### The memory port -/

theorem find?_tag_eq_none {l : List MpReq} {tag : BitVec 8} (h : ∀ x ∈ l, x.tag ≠ tag) (f : MpReq → Bool) :
    (l.find? fun x => x.tag == tag && f x) = none := by
  rw [List.find?_eq_none]
  intro x hx
  simp [h x hx]

/-- No other read has taken a beat yet. -/
theorem no_other_read {l : List MpReq} {tag : BitVec 8} (h : ∀ x ∈ l, x.write = false → x.tag ≠ tag → x.data = []) :
    (l.any fun x => !x.write && x.tag != tag && x.data != []) = false := by
  rw [List.any_eq_false]
  intro x hx
  cases hw : x.write <;> by_cases ht : x.tag = tag <;> simp_all

theorem execMpReadData_taken {tag : BitVec 8} {last err : Bool} {d : BitVec 512} {s : State} {r : MpReq}
    (h4 : s.up .d4 = true) (hr : (s.mp.find? fun x => x.tag == tag && !x.write) = some r)
    (hlast : last = (r.left == 1)) (hother : ∀ x ∈ s.mp, x.write = false → x.tag ≠ tag → x.data = []) :
    execMpReadData tag last err d s = .next (s.quiet.mpBeat r err d) := by
  have hr' : (s.quiet.mp.find? fun x => x.tag == tag && !x.write) = some r := hr
  have hother' := no_other_read (l := s.quiet.mp) hother
  have h4' : s.quiet.up .d4 = true := h4
  rw [execMpReadData, ran_eq]
  simp only [hr', hother', h4', hlast, bne_self_eq_false]
  rfl

theorem execMpReadData_void {tag : BitVec 8} {last : Bool} {s : State}
    (h : s.up .d4 = false ∨ (∀ x ∈ s.mp, x.tag ≠ tag) ∨
      ∃ r, (s.mp.find? fun x => x.tag == tag && !x.write) = some r ∧ (last ≠ decide (r.left = 1) ∨
        ∃ x ∈ s.mp, x.write = false ∧ x.tag ≠ tag ∧ x.data ≠ [])) (err : Bool) (d : BitVec 512) :
    execMpReadData tag last err d s = .next s.quiet := by
  rw [execMpReadData, ran_eq]
  split
  · rfl
  · next r hr =>
    refine congrArg _ (if_pos ?_)
    rcases h with h | h | ⟨x, hx, h | ⟨y, hy, hw, ht, hd⟩⟩
    · have h4 : s.quiet.up .d4 = false := h
      simp [h4]
    · cases (find?_tag_eq_none (l := s.quiet.mp) h _).symm.trans hr
    · cases Option.some.inj (Eq.trans (Eq.symm hx) hr)
      have hlast : (last != (r.left == 1)) = true := by
        rw [bne_iff_ne]
        exact h
      rw [hlast, Bool.or_true]
    · have hany : (s.quiet.mp.any fun x => !x.write && x.tag != tag && x.data != []) = true :=
        List.any_eq_true.2 ⟨y, hy, by simp [hw, ht, hd]⟩
      rw [hany, Bool.or_true, Bool.true_or]

/-- Settles O35: what the control port may access leaves the responses it owes, and a beat or an acknowledgement is
taken only by the request that holds its tag. -/
theorem portsFollowTheirProtocols : Obligations.PortsFollowTheirProtocols := by
  unfold Obligations.PortsFollowTheirProtocols
  simp only [exec]
  refine ⟨⟨fun wr a v src tag s h => ?_, fun wr a v src tag s p hup hroom ha hsrc hwin hp hg hs h3 h5 =>
      execIcpRequest_code hup hroom (icpAccess_down ha hsrc hwin hp hg hs h3 h5 v) tag,
      fun wr a v src tag s hup hroom => ?_, fun s r rest h => ?_⟩,
    fun tag err d s r h4 hr hleft hother => ?_, fun tag err d s r h4 hr hleft hother => ?_,
    fun tag last err d s h => execMpReadData_void h err d, fun tag err s h => ?_, fun tag err s r h4 hr => ?_,
    fun a res s h4 => ?_, fun a s h => ranIf_due (by simp [h])⟩
  · rw [execIcpRequest, if_pos (by simpa using h)]
    rfl
  · obtain ⟨t, ht, hicp⟩ := icpAccess_keepsOwed wr a v src s
    exact ⟨_, _, execIcpRequest_accepted hup hroom ht tag, rfl, congrArg (· ++ _) hicp⟩
  · have h' : s.quiet.icp = r :: rest := h
    rw [execIcpResponse, ranIf_due (by simp [h])]
    simp only [h']
  · rw [execMpReadData_taken h4 hr (by simp; omega) hother, State.mpBeat, if_neg (by simp; omega)]
    rfl
  · rw [execMpReadData_taken h4 hr (by simp [hleft]) hother, State.mpBeat, if_pos (by simp [hleft])]
    simp only [hleft]
    rfl
  · rw [execMpWriteAck, ran_eq]
    split
    · rfl
    · next r hr =>
      rcases h with h | h
      · have h4 : s.quiet.up .d4 = false := h
        simp [h4]
      · cases (find?_tag_eq_none (l := s.quiet.mp) h _).symm.trans hr
  · have hr' : (s.quiet.mp.find? fun x => x.tag == tag && x.write) = some r := hr
    have h4' : s.quiet.up .d4 = true := h4
    rw [execMpWriteAck, ran_eq]
    simp only [hr']
    simp [h4']
  · have h4' : s.quiet.up .d4 = true := h4
    have hres : (match res.toNat with | 0 => AstState.pass | 2 => .absent | _ => .fail) =
        if res = 0 then .pass else if res = 2 then .absent else .fail := by
      revert res
      decide
    rw [execAstResponse, ran_eq, if_neg (by simp [h4'])]
    simp only [← hres]
    rfl

end Sys2Proof.Machine
end

section
/-!
PROOFS. The fence: its commit, its scan, the AVSBus and its health report (R68 to R72, R527 to R537, R543).
-/
namespace Sys2Proof.Machine

/-! ### Commit and health pop -/

theorem State.fenceCommit_denied {s : State} (h : s.confAny = true ∨ s.stagedPlan.loosens s.fnc.plan = true ∨
    s.stagedPlan.wear < s.fnc.plan.wear ∨ Fnc.planBad { s.fnc with plan := s.stagedPlan } = true) :
    s.fenceCommit = s.onFnc fun f => { f with commitCode := .deniedAttr } := by
  refine if_pos ?_
  rcases h with h | h | h | h <;> simp [h]

theorem State.fenceCommit_taken {s : State} (hconf : s.confAny = false)
    (hloose : s.stagedPlan.loosens s.fnc.plan = false) (hwear : s.fnc.plan.wear ≤ s.stagedPlan.wear)
    (hbad : Fnc.planBad { s.fnc with plan := s.stagedPlan } = false) :
    s.fenceCommit = (s.onFnc fun f => { f with plan := s.stagedPlan, commitCode := .done }).takePoint := by
  refine if_neg ?_
  simp [hconf, hloose, hwear, hbad]

/-! ### The sensor bus -/

/-- What a subframe leaves of the fence: only what waits for the bus. -/
theorem State.avsSend_fnc (s : State) (op : AvsOp) : (s.avsSend op).fnc = { s.fnc with avs := s.fnc.avs ++ [op] } := by
  unfold State.avsSend
  simp only
  split <;> rfl

/-- A sensor is asked for, whatever the AVSBus is asked beside it. -/
theorem execSnsRequest_asks {s : State} (h1 : s.up .d1 = true) (hn : s.fnc.next < 192) :
    ∃ t, execSnsRequest s = .next t ∧ t.fnc.next = s.fnc.next + 1 ∧
      t.fnc.owed = s.fnc.owed ++ [BitVec.ofNat 8 s.fnc.next] ∧ .sensor (BitVec.ofNat 8 s.fnc.next) ∈ t.outs ∧
      (s.fnc.next ≠ 0 → t.outs = [.sensor (BitVec.ofNat 8 s.fnc.next)] ∧ t.fnc.avs = s.fnc.avs) := by
  refine ⟨_, ranIf_due (by simp [h1, hn]), ?_⟩
  have hq : s.quiet.fnc = s.fnc := rfl
  simp only [hq]
  split
  · next h0 =>
    have hmem (t : State) (f : Fnc → Fnc) (o : Out) : o ∈ ((t.onFnc f).emit o).outs :=
      List.mem_append_right _ List.mem_cons_self
    have hfnc (t : State) (f : Fnc → Fnc) (o : Out) : ((t.onFnc f).emit o).fnc = f t.fnc := rfl
    refine ⟨?_, ?_, hmem .., fun h => absurd h0.1 h⟩
    all_goals
      rw [hfnc]
      repeat' split
      all_goals simp [State.avsSend_fnc]
  · exact ⟨rfl, rfl, List.mem_cons_self, fun _ => ⟨rfl, rfl⟩⟩

theorem ne_zero_of_readingPresent {v : BitVec 16} (h : readingPresent v = true) : v ≠ 0 := by
  rintro rfl
  revert h
  decide

/-- A reading that is present is kept, and counts in the scan's maximum where a thermal sensor gave it. -/
theorem State.sensorReads_some (s : State) (a : BitVec 8) {v : BitVec 16} (hv : v ≠ 0) :
    let t := s.sensorReads a (some v)
    Sparse.get 0 t.fnc.sensors a.toNat = v ∧ t.fnc.owed = s.fnc.owed.erase a ∧
      (a.toNat < 128 → ∃ m, t.fnc.scanMax = some m ∧ (fld v 0 12).toInt + s.fnc.limits.tOffset.toInt ≤ m ∧
        ∀ x, s.fnc.scanMax = some x → x ≤ m) ∧ (128 ≤ a.toNat → t.fnc.scanMax = s.fnc.scanMax) := by
  have hget (m : Sparse (BitVec 16)) : Sparse.get 0 (Sparse.put 0 m a.toNat v) a.toNat = v := by
    rw [Sparse.get_put_of_ne hv, if_pos rfl]
  by_cases ha : a.toNat < 0x80
  · simp only [State.sensorReads, State.onFnc, Option.getD_some, if_pos ha]
    refine ⟨hget _, trivial, fun _ => ⟨_, rfl, ?_⟩, fun h => absurd ha (by omega)⟩
    cases s.fnc.scanMax with
    | none => exact ⟨le_rfl, fun x h => nomatch h⟩
    | some m => exact ⟨le_max_right .., fun x h => Option.some.inj h ▸ le_max_left ..⟩
  · simp only [State.sensorReads, State.onFnc, Option.getD_some, if_neg ha]
    exact ⟨hget _, trivial, fun h => absurd h ha, fun _ => trivial⟩

theorem State.sensorReads_none (s : State) (a : BitVec 8) :
    let t := s.sensorReads a none
    t.fnc.owed = s.fnc.owed.erase a ∧ t.fnc.scanMax = s.fnc.scanMax ∧
      t.fnc.scanAbsent = (if a.toNat < 128 then s.fnc.scanAbsent + 1 else s.fnc.scanAbsent) ∧
      t.fnc.cntAbsent = if a.toNat < 128 then s.fnc.cntAbsent else tally s.fnc.cntAbsent := by
  by_cases ha : a.toNat < 0x80 <;> simp [State.sensorReads, ha]

theorem execSnsResponse_owed {a : BitVec 8} {s : State} (h : s.fnc.owed.contains a = true) (v : BitVec 16) :
    execSnsResponse a v s = .next (s.quiet.sensorReads a (if readingPresent v then some v else none)) :=
  congrArg Host.Outcome.next (if_pos h)

/-! ### The end of a scan -/

theorem State.scanEnd_spec (s : State) : s.scanEnd.fnc.next = 0 ∧ s.scanEnd.fnc.scanMax = none ∧
    s.scanEnd.fnc.scanAbsent = 0 ∧ s.scanEnd.crs = s.crs ∧
    s.scanEnd.fnc.tmax = (s.fnc.scanMax.elim s.fnc.tmax fun m => BitVec.ofInt 12 m) ∧
    s.scanEnd.fncCore = s.fncCore := by
  have hhealth (t : State) : (t.health 9 .integrity).fnc.next = t.fnc.next ∧
      (t.health 9 .integrity).fnc.scanMax = t.fnc.scanMax ∧
      (t.health 9 .integrity).fnc.scanAbsent = t.fnc.scanAbsent ∧ (t.health 9 .integrity).fnc.tmax = t.fnc.tmax := by
    simp only [State.health]
    split <;> exact ⟨rfl, rfl, rfl, rfl⟩
  simp only [State.scanEnd]
  split
  · obtain ⟨h1, h2, h3, h4⟩ := hhealth (s.onFnc fun f => _)
    exact ⟨h1, h2, h3, rfl, h4, rfl⟩
  · exact ⟨rfl, rfl, rfl, rfl, rfl, rfl⟩

theorem Fnc.trips_hot {f : Fnc} {m : Int} (hm : f.scanMax = some m) (ht : f.tripT ≤ m) : f.trips = some 1 :=
  if_pos (by simp [hm, ht])

/-- A source that acts is asserted. -/
theorem State.act_asserts (s : State) (x : Source) (rank : Nat) (doms : List Dom) :
    (s.act x rank doms).asserts x = true := by
  obtain ⟨r, hep⟩ := s.act_ep x rank doms
  have hmem : x ∈ (Episode.after s.crs.ep x rank doms).asserted := by
    unfold Episode.after
    split
    · exact List.mem_cons_self
    · simp only
      split <;> simp_all
  simp [State.asserts, hep, Episode.withRetire, hmem]

theorem execScanComplete_due {s : State} (h1 : s.up .d1 = true) (hn : s.fnc.next = 192)
    (ho : ∀ a ∈ s.fnc.owed, 128 ≤ a.toNat) : (s.up .d1 && s.fnc.next == 192 && s.fnc.owed.all fun a => 0x80 ≤ a.toNat) =
      true := by
  simpa [h1, hn] using ho

theorem execScanComplete_quiet {s : State} (h1 : s.up .d1 = true) (hn : s.fnc.next = 192)
    (ho : ∀ a ∈ s.fnc.owed, 128 ≤ a.toNat) (ht : s.fnc.trips = none) :
    execScanComplete s = .next s.quiet.scanEnd := by
  have ht' : s.quiet.fnc.trips = none := ht
  rw [execScanComplete, ranIf_due (execScanComplete_due h1 hn ho)]
  simp only [ht']

theorem execScanComplete_trip {s : State} (h1 : s.up .d1 = true) (hn : s.fnc.next = 192)
    (ho : ∀ a ∈ s.fnc.owed, 128 ≤ a.toNat) {c : Nat} (ht : s.fnc.trips = some c) :
    ∃ t, execScanComplete s = .next t ∧ t.fncCore.cause = c ∧ t.fncCore.holding = true ∧
      t.fncCore.count = satInc 0xFFFF s.fncCore.count ∧ t.asserts .fenceTrip = true := by
  have ht' : s.quiet.fnc.trips = some c := ht
  have hcore : s.quiet.scanEnd.fncCore = s.fncCore := s.quiet.scanEnd_spec.2.2.2.2.2
  rw [execScanComplete, ranIf_due (execScanComplete_due h1 hn ho)]
  simp only [ht']
  refine ⟨_, rfl, ?_⟩
  rw [State.act_fncCore _ _ (by decide), hcore]
  exact ⟨rfl, rfl, rfl, State.act_asserts ..⟩

/-! ### The AVSBus -/

theorem State.movePoint_avsFault (s : State) (v d : Nat) : (s.movePoint v d).fnc.avsFault = s.fnc.avsFault ∧
    (s.movePoint v d).fnc.readRetried = s.fnc.readRetried := by
  unfold State.movePoint
  simp only
  split <;> simp [State.avsSend_fnc]

/-- The AVSBus fault stands after the point has moved. -/
theorem State.avsFails_spec (s : State) : s.avsFails.fnc.avsFault = true ∧
    s.avsFails.fnc.readRetried = s.fnc.readRetried := by
  have hcount (t : State) (d : Nat) : (t.countFall d).fnc.avsFault = t.fnc.avsFault ∧
      (t.countFall d).fnc.readRetried = t.fnc.readRetried := by
    simp only [State.countFall, State.onFnc]
    split <;> exact ⟨rfl, rfl⟩
  have htake (t : State) : t.takePoint.fnc.avsFault = t.fnc.avsFault ∧
      t.takePoint.fnc.readRetried = t.fnc.readRetried := by
    unfold State.takePoint
    split <;> exact State.movePoint_avsFault ..
  have hhealth (t : State) : (t.health 8 .integrity).fnc.avsFault = t.fnc.avsFault ∧
      (t.health 8 .integrity).fnc.readRetried = t.fnc.readRetried := by
    simp only [State.health]
    split <;> exact ⟨rfl, rfl⟩
  unfold State.avsFails
  rw [(hcount ..).1, (hcount ..).2, (htake _).1, (htake _).2, (hhealth _).1, (hhealth _).2]
  exact ⟨rfl, rfl⟩

theorem State.avsNext_spec (s : State) : s.avsNext.fnc = { s.fnc with avs := s.fnc.avs.drop 1, avsRetried := false } ∧
    s.avsNext.outs = s.outs ++ ((s.fnc.avs.drop 1).take 1).map Out.avs := by
  unfold State.avsNext
  simp only
  split
  · next h =>
    have h' : s.fnc.avs.drop 1 = [] := h
    rw [h']
    exact ⟨by rw [← h']; rfl, (List.append_nil _).symm⟩
  · next op l h =>
    have h' : s.fnc.avs.drop 1 = op :: l := h
    rw [h']
    exact ⟨by rw [← h']; rfl, rfl⟩

/-- The fence as a good answer to `op` leaves its readings. -/
def Fnc.answered (f : Fnc) (op : AvsOp) (v : BitVec 16) : Fnc :=
  match op with
  | .readV => f.readsV v
  | .readI => { f with cread := v }
  | _ => f

theorem Fnc.answered_spec (f : Fnc) (op : AvsOp) (v : BitVec 16) : (f.answered op v).avs = f.avs ∧
    (f.answered op v).vread = (if op = .readV then v else f.vread) ∧
    (f.answered op v).cread = if op = .readI then v else f.cread := by
  cases op <;> exact ⟨rfl, rfl, rfl⟩

/-- A good answer: the next subframe starts, and an alert queues one read of Status. -/
theorem execAvsResponse_good {s : State} {op : AvsOp} {l : List AvsOp} (h : s.fnc.avs = op :: l) (al : Bool)
    (v : BitVec 16) :
    let q := if al = true ∧ l.contains .readStatus = false then l ++ [.readStatus] else l
    ∃ t, execAvsResponse true al v s = .next t ∧ t.fnc.avs = q ∧ t.outs = (q.take 1).map Out.avs ∧
      t.fnc.vread = (if op = .readV then v else s.fnc.vread) ∧
      t.fnc.cread = if op = .readI then v else s.fnc.cread := by
  have h' : s.quiet.fnc.avs = op :: l := h
  obtain ⟨havs, hv, hc⟩ := s.fnc.answered_spec op v
  have hexec : execAvsResponse true al v s =
      .next ((s.quiet.onFnc fun f => f.answered op v).avsNext.avsAlerted al) := by
    rw [execAvsResponse, ranIf_due (by simp [h])]
    simp only [h']
    rfl
  obtain ⟨hfnc, houts⟩ := (s.quiet.onFnc fun f => f.answered op v).avsNext_spec
  have hl : (s.fnc.answered op v).avs.drop 1 = l := by rw [havs, h]; rfl
  replace hfnc : ((s.quiet.onFnc fun f => f.answered op v).avsNext).fnc =
      { s.fnc.answered op v with avs := l, avsRetried := false } := hl ▸ hfnc
  replace houts : ((s.quiet.onFnc fun f => f.answered op v).avsNext).outs = (l.take 1).map Out.avs := hl ▸ houts
  refine ⟨_, hexec, ?_⟩
  generalize (s.quiet.onFnc fun f => f.answered op v).avsNext = t at hfnc houts
  unfold State.avsAlerted
  simp only [hfnc]
  by_cases hq : al = true ∧ l.contains .readStatus = false
  · rw [if_pos hq, if_pos (by simp_all), State.avsSend_fnc, hfnc]
    refine ⟨rfl, ?_, hv, hc⟩
    cases l <;> simp_all [State.avsSend]
  · rw [if_neg hq, if_neg (by simp_all), hfnc]
    exact ⟨rfl, houts, hv, hc⟩

theorem execAvsResponse_bad {s : State} {op : AvsOp} {l : List AvsOp} (h : s.fnc.avs = op :: l) (al : Bool)
    (v : BitVec 16) :
    (s.fnc.avsRetried = false → execAvsResponse false al v s = .next (State.emit (s.quiet.onFnc fun f =>
      { f with avsRetried := true, cntAvsretry := tally f.cntAvsretry }) (.avs op))) ∧
    (s.fnc.avsRetried = true → ∃ t, execAvsResponse false al v s = .next t ∧ t.fnc.avsFault = true) := by
  have h' : s.quiet.fnc.avs = op :: l := h
  rw [execAvsResponse, ranIf_due (by simp [h])]
  simp only [h']
  refine ⟨fun hr => ?_, fun hr => ?_⟩
  · have hr' : s.quiet.fnc.avsRetried = false := hr
    rw [hr']
    rfl
  · have hr' : s.quiet.fnc.avsRetried = true := hr
    rw [hr']
    exact ⟨_, rfl, (State.avsFails_spec _).1⟩

/-- The readback that a written raise waits for. -/
theorem execAvsReadback_good {s : State} {v : Nat} (hw : s.fnc.raiseWritten = true) (hs : s.fnc.settling = some v)
    (mv : BitVec 16) :
    (v ≤ mv.toNat + 10 → mv.toNat ≤ v + 10 → ∃ t, execAvsReadback true mv s = .next t ∧ t.fnc.settling = none ∧
      t.fnc.vread = mv ∧ t.fnc.d = s.settledDuty ∧ t.outs = [.avs .readV]) ∧
    ((mv.toNat + 10 < v ∨ v + 10 < mv.toNat) → ∃ t, execAvsReadback true mv s = .next t ∧ t.fnc.settling = some v ∧
      t.fnc.vread = mv ∧ t.fnc.d = s.fnc.d ∧ t.outs = [.avs .readV]) := by
  have hset : ((s.quiet.emit (.avs .readV)).onFnc fun f => { f.readsV mv with readRetried := false }).fnc.settling =
      some v := hs
  rw [execAvsReadback, ranIf_due hw]
  simp only [if_true, hset]
  refine ⟨fun h1 h2 => ?_, fun h => ?_⟩
  · rw [if_pos ⟨h1, h2⟩]
    exact ⟨_, rfl, rfl, rfl, rfl, rfl⟩
  · rw [if_neg (by omega)]
    exact ⟨_, rfl, hset, rfl, rfl, rfl⟩

theorem execAvsReadback_bad {s : State} (hw : s.fnc.raiseWritten = true) (mv : BitVec 16) :
    (s.fnc.readRetried = false → execAvsReadback false mv s = .next ((s.quiet.emit (.avs .readV)).onFnc fun f =>
      { f with readRetried := true, cntAvsretry := tally f.cntAvsretry })) ∧
    (s.fnc.readRetried = true → ∃ t, execAvsReadback false mv s = .next t ∧ t.fnc.avsFault = true ∧
      t.fnc.readRetried = false) := by
  rw [execAvsReadback, ranIf_due hw]
  refine ⟨fun hr => ?_, fun hr => ?_⟩
  · have hr' : (s.quiet.emit (.avs .readV)).fnc.readRetried = false := hr
    simp only [hr']
    rfl
  · have hr' : (s.quiet.emit (.avs .readV)).fnc.readRetried = true := hr
    simp only [hr']
    exact ⟨_, rfl, State.avsFails_spec _⟩

/-- Settles O54: a commit is one test, a scan's end one decision, and each answer of the AVSBus one of four cases. -/
theorem fenceCommitsAndScans : Obligations.FenceCommitsAndScans := by
  unfold Obligations.FenceCommitsAndScans
  simp only [exec]
  refine ⟨fun w s h1 hw => ⟨fun h => ?_, fun hconf hloose hwear hbad => ?_⟩, fun w s h1 hw => ?_, fun s h1 => ?_,
    fun s => execSnsRequest_asks, fun a v s => ⟨fun h => ?_, fun h hv => ?_, fun h hv => ?_, fun h => ?_⟩,
    fun s h1 hn ho => ⟨fun ht => ?_, fun m hm ht => execScanComplete_trip h1 hn ho (Fnc.trips_hot hm ht)⟩,
    fun v al s op l h => ⟨execAvsResponse_good h al v, execAvsResponse_bad h al v⟩,
    fun mv s v hw hs => ?_⟩
  · rw [execFncCommit, ranOn_up h1, if_pos hw]
    exact congrArg _ (State.fenceCommit_denied (s := s.quiet) h)
  · rw [execFncCommit, ranOn_up h1, if_pos hw]
    exact congrArg _ (State.fenceCommit_taken (s := s.quiet) hconf hloose hwear hbad)
  · rw [execFncCommit, ranOn_up h1, if_neg (by simp [hw])]
  · exact ⟨_, ranOn_up h1, rfl⟩
  · exact congrArg Host.Outcome.next (if_neg (ne_true_of_eq_false h))
  · rw [execSnsResponse_owed h, if_pos hv]
    exact ⟨_, rfl, State.sensorReads_some s.quiet a (ne_zero_of_readingPresent hv)⟩
  · rw [execSnsResponse_owed h, if_neg (by simp [hv]), execSnsTimeout, ranIf_due h]
  · exact ⟨_, ranIf_due h, State.sensorReads_none s.quiet a⟩
  · obtain ⟨hnext, hmax, habsent, hcrs, htmax, -⟩ := s.quiet.scanEnd_spec
    exact ⟨_, execScanComplete_quiet h1 hn ho ht, hnext, hmax, habsent, hcrs, htmax⟩
  · obtain ⟨h1, h2⟩ := execAvsReadback_good hw hs mv
    obtain ⟨h3, h4⟩ := execAvsReadback_bad hw mv
    exact ⟨h1, h2, h3, h4, _, ranIf_due hw, (State.avsFails_spec _).1⟩

end Sys2Proof.Machine
end

section
/-!
PROOFS. The mailboxes: their messages, doorbells and resets (R43, R105, R449, R471 to R477, R483, R504).
-/
namespace Sys2Proof.Machine

/-! ### Slots -/

theorem State.mslot_onMslot_same {s : State} {i : Nat} (h : i < s.mbx.slots.length) (f : MbxSlot → MbxSlot) :
    (s.onMslot i f).mslot i = f (s.mslot i) := by
  simp [State.mslot, State.onMslot, State.setMslot, State.onMbx, setAt, h]

theorem State.mslot_onMslot_ne {s : State} {i j : Nat} (h : i ≠ j) (f : MbxSlot → MbxSlot) :
    (s.onMslot i f).mslot j = s.mslot j := by
  simp [State.mslot, State.onMslot, State.setMslot, State.onMbx, setAt, List.getElem?_set_ne h]

theorem State.onMslot_length (s : State) (i : Nat) (f : MbxSlot → MbxSlot) :
    (s.onMslot i f).mbx.slots.length = s.mbx.slots.length := List.length_set

/-- What the end of DIM can change: the CRS, the SME, the fence and what the block drives. -/
theorem State.dimEnd_only (s : State) (why : Nat) :
    ∃ c m f o, s.dimEnd why = { s with crs := c, sme := m, fnc := f, outs := o } := by
  have hsend (t : State) (op : AvsOp) : ∃ f o, t.avsSend op = { t with fnc := f, outs := o } := by
    unfold State.avsSend
    simp only
    split <;> exact ⟨_, _, rfl⟩
  have hmove (t : State) (v d : Nat) : ∃ f o, t.movePoint v d = { t with fnc := f, outs := o } := by
    unfold State.movePoint
    simp only
    split
    · exact ⟨_, _, rfl⟩
    · obtain ⟨f, o, h⟩ := hsend (t.onFnc fun f =>
        { f with vset := v, settling := t.fnc.awaits v d, d := if (t.fnc.awaits v d).isSome then min f.d d else d })
        (.write v)
      exact ⟨f, o, h⟩
  have htake (t : State) : ∃ f o, t.takePoint = { t with fnc := f, outs := o } := by
    unfold State.takePoint
    split <;> exact hmove ..
  unfold State.dimEnd
  split
  · exact ⟨s.crs, s.sme, s.fnc, s.outs, rfl⟩
  · obtain ⟨f, o, h⟩ := htake (State.emit { s with
      crs := { s.crs with dim := false, dimExit := why, ctlCount := (s.reg .crsWdtCtlLoad).toNat }
      sme := { s.sme with tapUp := true } } (.tapCredits 32))
    exact ⟨_, _, f, o, h⟩

theorem State.dimEnd_mbx (s : State) (why : Nat) : (s.dimEnd why).mbx = s.mbx := by
  obtain ⟨c, m, f, o, h⟩ := s.dimEnd_only why
  rw [h]

/-! ### SEND and DB_SET of the side that sends -/

section
variable {q : Req} {m : Fin 4} {d : MbxDir} {s : State}

theorem execMbxSend_sender (hg : s.gateCore q = false) (h6 : s.serves .d6 = true)
    (hm : s.mbxSender q m.val d = true) (w : Word) :
    execMbxSend q m d w s = .next (s.quiet.sendFrom m.val d (fldN w 0 5)) := by
  have hg' : s.quiet.gateCore q = false := hg
  have hm' : s.quiet.mbxSender q m.val d = true := hm
  rw [execMbxSend, ran_eq, hg', hm', s.quiet_serves, h6]
  rfl

theorem execDbSet_sender (hg : s.gateCore q = false) (h6 : s.serves .d6 = true)
    (hm : s.mbxSender q m.val d = true) (w : Word) :
    execDbSet q m d w s = .next (s.quiet.ring (slotIx m.val d) (w &&& 0x7FFFFFFF#32)) := by
  have hg' : s.quiet.gateCore q = false := hg
  have hm' : s.quiet.mbxSender q m.val d = true := hm
  rw [execDbSet, ran_eq, hg', hm', s.quiet_serves, h6]
  rfl

theorem execMbxPop_receiver (hg : s.gateCore q = false) (h6 : s.serves .d6 = true)
    (hm : s.mbxReceiver q m.val d = true) : execMbxPop q m d s =
      .next ((s.quiet.emit (.read (s.mslot (slotIx m.val d)).popWord)).take (slotIx m.val d)) := by
  have hg' : s.quiet.gateCore q = false := hg
  have hm' : s.quiet.mbxReceiver q m.val d = true := hm
  rw [execMbxPop, ran_eq]
  simp only [hg', hm', s.quiet_serves, h6]
  rfl

/-- Another requester is denied. -/
theorem mbx_denied_sender (hg : s.gateCore q = false) (h6 : s.serves .d6 = true)
    (hm : s.mbxSender q m.val d = false) (w : Word) :
    execMbxSend q m d w s = .next (s.quiet.emit (.code .deniedAttr)) ∧
      execDbSet q m d w s = .next (s.quiet.emit (.code .deniedAttr)) := by
  have hg' : s.quiet.gateCore q = false := hg
  have hm' : s.quiet.mbxSender q m.val d = false := hm
  rw [execMbxSend, execDbSet, ran_eq, ran_eq, hg', hm', s.quiet_serves, h6]
  simp

theorem mbx_denied_receiver (hg : s.gateCore q = false) (h6 : s.serves .d6 = true)
    (hm : s.mbxReceiver q m.val d = false) : execMbxPop q m d s = .next (s.quiet.emit (.code .deniedAttr)) := by
  have hg' : s.quiet.gateCore q = false := hg
  have hm' : s.quiet.mbxReceiver q m.val d = false := hm
  rw [execMbxPop, ran_eq]
  simp only [hg', hm', s.quiet_serves, h6]
  simp

end

/-! ### What a SEND does to its slot -/

theorem State.sendSlot_refused {s : State} {i n : Nat} {c : Code} (h : lowest (s.sendRefusals i n) = some c)
    (ok : Bool) : s.sendSlot i n ok = (s.onMslot i fun v => { v with code := c }, false) := by
  simp only [State.sendSlot, h]

theorem State.sendSlot_posted {s : State} {i n : Nat} (h : lowest (s.sendRefusals i n) = none) :
    s.sendSlot i n true = (s.post i n, true) := by
  simp only [State.sendSlot, h, if_true]

theorem State.sendSlot_unfit {s : State} {i n : Nat} (h : lowest (s.sendRefusals i n) = none) :
    s.sendSlot i n false = (s.onMslot i fun v => { v with code := .aborted }, false) := by
  simp only [State.sendSlot, h]
  rfl

theorem State.sendFrom_refused {s : State} {m : Nat} {d : MbxDir} {n : Nat} {c : Code}
    (h : lowest (s.sendRefusals (slotIx m d) n) = some c) :
    s.sendFrom m d n = s.onMslot (slotIx m d) fun v => { v with code := c } := by
  simp only [State.sendFrom, State.wcpSend]
  split
  · next h5 =>
    rw [h5] at h ⊢
    simp [State.sendSlot_refused h]
  · split
    · next h7 =>
      rw [h7] at h ⊢
      simp [State.sendSlot_refused h]
    · simp [State.sendSlot_refused h]

/-- To another core or to the host, without a CAP_OFFER. -/
theorem State.sendFrom_posted {s : State} {m : Nat} {d : MbxDir} {n : Nat}
    (h : lowest (s.sendRefusals (slotIx m d) n) = none) (h5 : slotIx m d ≠ 5) (h7 : slotIx m d ≠ 7)
    (hcap : slotIx m d = 1 → s.msgType 1 ≠ 1) : s.sendFrom m d n = s.post (slotIx m d) n := by
  simp only [State.sendFrom, if_neg h5, if_neg h7, State.sendSlot_posted h]
  refine if_neg ?_
  intro hc
  simp only [Bool.and_eq_true, decide_eq_true_eq, beq_iff_eq] at hc
  obtain ⟨⟨h1, -⟩, ht⟩ := hc
  rw [h1] at ht
  exact hcap h1 ht

/-- A CAP_OFFER opens a negotiation. -/
theorem State.sendFrom_offer {s : State} {m : Nat} {d : MbxDir} {n : Nat}
    (h : lowest (s.sendRefusals (slotIx m d) n) = none) (h1 : slotIx m d = 1) (hcap : s.msgType 1 = 1) :
    s.sendFrom m d n = (s.post 1 n).capPrepare (s.msgAddr 1 1) (fld (s.msgWord 1 3) 0 8) := by
  rw [h1] at h
  have hcap' : fldN ((s.mslot 1).msg.getD 0 0) 0 8 = 1 := hcap
  simp only [State.sendFrom, h1, State.sendSlot_posted h]
  rw [if_neg (by decide), if_neg (by decide), if_pos (by rw [hcap']; rfl)]
  rfl

theorem State.sendFrom_frame {s : State} {m : Nat} {d : MbxDir} {n : Nat}
    (h : lowest (s.sendRefusals (slotIx m d) n) = none) (h7 : slotIx m d = 7) :
    s.sendFrom m d n = if postable (s.mslot 7).msg then s.post 7 n
      else s.onMslot 7 fun v => { v with code := .aborted } := by
  rw [h7] at h
  simp only [State.sendFrom, h7]
  rw [if_neg (by decide), if_pos trivial]
  cases postable (s.mslot 7).msg
  · rw [State.sendSlot_unfit h]
    rfl
  · rw [State.sendSlot_posted h]
    rfl

/-! ### Doorbells and resets -/

theorem State.ring_quiet {s : State} {i : Nat} {w : Word} (h : i = 0 → s.crs.dim = false ∨ w = 0) :
    s.ring i w = s.onMslot i fun v => { v with db := v.db ||| w } := by
  simp only [State.ring]
  split
  · next hi => exact dimEnd_of_not_dim (s := s.onMslot i _) ((h hi.1).resolve_right hi.2) 1
  · rfl

/-- A host doorbell of MBX0 ends DIM. -/
theorem State.ring_host {s : State} {w : Word} (hw : w ≠ 0) :
    s.ring 0 w = (s.onMslot 0 fun v => { v with db := v.db ||| w }).dimEnd 1 := if_pos ⟨rfl, hw⟩

theorem State.gateLeave_spec {s : State} (h : s.prt.gate.active = true) (why : GateReason) :
    (s.gateLeave why).mbx = s.mbx ∧ (s.gateLeave why).prt.gate.active = false ∧
      (s.gateLeave why).prt.gate.held = true ∧ (s.gateLeave why).prt.gate.reason = why := by
  unfold State.gateLeave
  rw [if_pos h]
  exact ⟨rfl, rfl, rfl, rfl⟩

/-- Core 7 in gate mode leaves it, and no mailbox changes. -/
theorem State.gateTrap_leaves {s : State} (h : s.prt.gate.active = true) (k : AccKind) (a : Nat) :
    (s.gateTrap k a).mbx = s.mbx ∧ (s.gateTrap k a).prt.gate.active = false ∧
      (s.gateTrap k a).prt.gate.held = true ∧ (s.gateTrap k a).prt.gate.reason = .access := by
  have hgate : ((7 : Nat) == 7 && s.prt.gate.active) = true := by rw [h]; rfl
  simp only [State.gateTrap, State.coreFault, hgate, if_true]
  exact State.gateLeave_spec (s := State.emit (s.recordFault _) _) h .access

theorem gateCore_seven {s : State} (h : s.prt.gate.active = true) : s.gateCore (.ctl 7) = true := by
  rw [State.gateCore, h]
  rfl

/-- A write of MBX_RINGDB: the ring's bit, doorbell 30, and the end of DIM. -/
theorem State.ringBell_spec (s : State) (w : Word) : (s.ringBell w).mbx =
      (State.onMslot { s with mbx := { s.mbx with ringPend := s.mbx.ringPend ||| (1#64 <<< fldN w 0 6) } } 0 fun v =>
        { v with db := v.db ||| (1#32 <<< 30) }).mbx ∧
    (s.ringBell w).crs.dim = false ∧ (s.crs.dim = true → (s.ringBell w).crs.dimExit = 1) ∧
    (s.crs.dim = false → s.ringBell w = { s with mbx := (s.ringBell w).mbx }) := by
  let u : State := State.onMslot { s with mbx := { s.mbx with ringPend := s.mbx.ringPend ||| (1#64 <<< fldN w 0 6) } } 0
    fun v => { v with db := v.db ||| (1#32 <<< 30) }
  have hbell : s.ringBell w = u.dimEnd 1 := State.ring_host (by decide)
  rw [hbell]
  refine ⟨u.dimEnd_mbx 1, ?_⟩
  cases h : s.crs.dim with
  | true =>
    obtain ⟨hdim, hexit, -⟩ := dimEnd_of_dim (s := u) h 1
    exact ⟨hdim, fun _ => hexit, fun h' => Bool.noConfusion h'⟩
  | false =>
    rw [dimEnd_of_not_dim (s := u) h 1]
    exact ⟨h, fun h' => Bool.noConfusion h', fun _ => rfl⟩

/-- A reset of the host side of MBX0. -/
theorem State.hostSide_spec {s : State} (h : s.mbx.slots.length = 8) :
    s.sideReset 0 false = { s with mbx := (s.sideReset 0 false).mbx } ∧
      (s.sideReset 0 false).mslot 0 = { (s.mslot 0).cleared with db := 1#32 <<< 31 } ∧
      (s.sideReset 0 false).mslot 1 = { (s.mslot 1).cleared with aborted := true } ∧
      ∀ i, 2 ≤ i → (s.sideReset 0 false).mslot i = s.mslot i := by
  refine ⟨rfl, ?_, ?_, fun i hi => ?_⟩
  all_goals
    simp only [State.sideReset, State.sideSurvives, Bool.not_false, if_true]
  · rw [State.mslot_onMslot_same (by simp [State.onMslot_length, h]), State.mslot_onMslot_ne (by decide),
      State.mslot_onMslot_ne (by decide), State.mslot_onMslot_same (by simp [h])]
    simp [MbxSlot.cleared]
  · rw [State.mslot_onMslot_ne (by decide), State.mslot_onMslot_same (by simp [State.onMslot_length, h]),
      State.mslot_onMslot_same (by simp [State.onMslot_length, h]), State.mslot_onMslot_ne (by decide)]
  · iterate 4 rw [State.mslot_onMslot_ne (by omega)]

/-- The host driver is reset: its side of MBX0, and what the firmware notes of it. -/
def State.hostReset (s : State) : State :=
  (s.sideReset 0 false).onFw fun f => { f with hostReset := true, page := none }

theorem execMbxHostReset_serves {s : State} (h : s.serves .d6 = true) (w : Word) :
    execMbxHostReset w s = .next (if fld w 24 8 = 0xC4#8 then s.quiet.hostReset else s.quiet) := by
  rw [execMbxHostReset, ran_eq, s.quiet_serves, h]
  rfl

theorem execMbxRingdb_serves {s : State} (h : s.serves .d6 = true) (w : Word) :
    execMbxRingdb w s = .next (s.quiet.ringBell w) := by
  rw [execMbxRingdb, ran_eq, s.quiet_serves, h]
  rfl

/-- A reset of the host driver changes MBX0 and what the firmware notes. -/
theorem State.hostReset_spec {s : State} (h : s.mbx.slots.length = 8) :
    s.hostReset = { s.onFw fun f => { f with hostReset := true, page := none } with mbx := s.hostReset.mbx } ∧
      s.hostReset.mslot 0 = { (s.mslot 0).cleared with db := 1#32 <<< 31 } ∧
      s.hostReset.mslot 1 = { (s.mslot 1).cleared with aborted := true } ∧
      ∀ i, 2 ≤ i → s.hostReset.mslot i = s.mslot i := by
  obtain ⟨-, h0, h1, hi⟩ := State.hostSide_spec h
  exact ⟨rfl, h0, h1, hi⟩

/-- Core 7's accesses to a mailbox in gate mode. -/
theorem mbx_gateTrap {s : State} (h : s.prt.gate.active = true) (m : Fin 4) (d : MbxDir) (w : Word) :
    (∃ a, execMbxSend (.ctl 7) m d w s = .next (s.quiet.gateTrap .store a)) ∧
      (∃ a, execDbSet (.ctl 7) m d w s = .next (s.quiet.gateTrap .store a)) ∧
      ∃ a, execMbxPop (.ctl 7) m d s = .next (s.quiet.gateTrap .load a) := by
  have hg : s.quiet.gateCore (.ctl 7) = true := gateCore_seven h
  refine ⟨⟨Reg.mbxSend.row.addr (slotIx m.val d) 0, ?_⟩, ⟨Reg.mbxDbSet.row.addr (slotIx m.val d) 0, ?_⟩,
    Reg.mbxPop.row.addr (slotIx m.val d) 0, ?_⟩
  · rw [execMbxSend, ran_eq, if_pos hg]
  · rw [execDbSet, ran_eq, if_pos hg]
  · rw [execMbxPop, ran_eq]
    simp only [if_pos hg]

/-- Settles O50: a SEND, a POP and a doorbell each change the one slot of their direction. -/
theorem mailboxesPassMessagesAndDoorbells : Obligations.MailboxesPassMessagesAndDoorbells := by
  unfold Obligations.MailboxesPassMessagesAndDoorbells
  simp only [exec]
  refine ⟨fun q m d w s hg h6 hm => ?_, fun q m d s hg h6 hm => execMbxPop_receiver hg h6 hm,
    fun q m d w s hg h6 => ⟨fun hm => mbx_denied_sender hg h6 hm w, fun hm => mbx_denied_receiver hg h6 hm⟩,
    fun m d w s h => ?_, fun w s h6 => ?_, fun w s h6 => ⟨fun hw hlen => ?_, fun hw => ?_⟩⟩
  · rw [execMbxSend_sender hg h6 hm, execDbSet_sender hg h6 hm]
    refine ⟨fun c hc => congrArg _ (State.sendFrom_refused hc),
      fun hc h1 h5 h7 => congrArg _ (State.sendFrom_posted hc h5 h7 fun h => absurd h h1),
      fun hc h7 => congrArg _ (State.sendFrom_frame (s := s.quiet) hc h7), fun hc h1 hcap => ?_,
      fun hc h1 hcap hlen => ?_,
      fun hdim => congrArg _ (State.ring_quiet (s := s.quiet) hdim), fun h0 hdim hw => ?_⟩
    · rw [State.sendFrom_posted (s := s.quiet) hc (by omega) (by omega) fun _ => hcap, h1]
    · have hoffer := State.sendFrom_offer (s := s.quiet) hc h1 hcap
      have hfull : ((s.quiet.post 1 (fldN w 0 5)).mslot 1).full = true := by
        rw [State.post, State.mslot_onMslot_same (by simp [hlen])]
      exact ⟨_, congrArg _ hoffer, rfl, rfl, rfl, rfl, rfl, rfl, hfull⟩
    · rw [h0, State.ring_host hw]
      obtain ⟨hoff, hexit, -⟩ := dimEnd_of_dim (s := s.quiet.onMslot 0 fun v =>
        { v with db := v.db ||| (w &&& 0x7FFFFFFF#32) }) hdim 1
      exact ⟨_, rfl, hoff, hexit, State.dimEnd_mbx ..⟩
  · simp only [List.forall_mem_cons, List.not_mem_nil, IsEmpty.forall_iff, implies_true, and_true]
    have htrap (k : AccKind) (a : Nat) := State.gateTrap_leaves (s := s.quiet) h k a
    obtain ⟨⟨_, hsend⟩, ⟨_, hset⟩, _, hpop⟩ := mbx_gateTrap h m d w
    exact ⟨⟨_, hsend, htrap ..⟩, ⟨_, hset, htrap ..⟩, _, hpop, htrap ..⟩
  · exact ⟨_, execMbxRingdb_serves h6 w, s.quiet.ringBell_spec w⟩
  · rw [execMbxHostReset_serves h6, if_pos hw]
    exact ⟨_, rfl, State.hostReset_spec (s := s.quiet) hlen⟩
  · rw [execMbxHostReset_serves h6, if_neg hw]

end Sys2Proof.Machine
end

section
/-!
PROOFS. The taps of the stream measurement engine, and the leaf buffers that their beats enter (R53, R200 to R204, R210,
R211, R234).
-/
namespace Sys2Proof.Machine

/-! ### What SECDED finds in a stream's context -/

theorem State.stream_setStream {s : State} (h : Sparse.wf ({} : Stream) s.sme.streams = true) (sid : StreamId)
    (v : Stream) : (s.setStream sid v).stream sid = v := Sparse.get_put h

theorem State.health_units (s : State) (unit : Nat) (code : Code) (part : Option PartId) :
    (s.health unit code part).fnc.healthUnits = s.fnc.healthUnits ||| (1#10 <<< unit) := by
  unfold State.health
  simp only
  split <;> rfl

theorem State.spoilStream_counts (s : State) (sid : StreamId) :
    (s.spoilStream sid).sme.cntUncorr = s.sme.cntUncorr ∧ (s.spoilStream sid).fnc = s.fnc := by
  unfold State.spoilStream
  split <;> exact ⟨rfl, rfl⟩

theorem State.spoilStream_running {s : State} {sid : StreamId}
    (h : (s.stream sid).st = .open ∨ (s.stream sid).st = .closing) :
    s.spoilStream sid = s.onStream sid fun v => { v with bad := true, lost := true } := by
  unfold State.spoilStream
  rcases h with h | h <;> simp only [h]

theorem State.spoilStream_closed {s : State} {sid : StreamId} (h : (s.stream sid).st = .closed) :
    s.spoilStream sid = s.onStream sid fun v => { v with outcome := .integrity, digest := [] } := by
  unfold State.spoilStream
  simp only [h]

/-- An uncorrectable error is counted and reported, and spoils the stream that it is found in. -/
theorem State.ctxErr_uncorr {s : State} (sid : StreamId) (h : Sparse.wf ({} : Stream) s.sme.streams = true) :
    let u := s.ctxErr .uncorr sid
    u.sme.cntUncorr = tally s.sme.cntUncorr ∧ u.fnc.healthUnits.getLsbD 0 = true ∧
      (((s.stream sid).st = .open ∨ (s.stream sid).st = .closing) →
        u.stream sid = { s.stream sid with bad := true, lost := true }) ∧
      ((s.stream sid).st = .closed → u.stream sid = { s.stream sid with outcome := .integrity, digest := [] }) := by
  let t := s.smeErr .uncorr (s.streamPart sid)
  have hu : s.ctxErr .uncorr sid = t.spoilStream sid := by
    rw [State.ctxErr]
    exact if_pos rfl
  obtain ⟨hcnt, hfnc⟩ := t.spoilStream_counts sid
  have hunits : t.fnc.healthUnits.getLsbD 0 = true := by
    rw [show t.fnc.healthUnits = _ from State.health_units ..]
    simp
  have hset (v : Stream) : (t.setStream sid v).stream sid = v := State.stream_setStream h sid v
  simp only [hu, hcnt, hfnc]
  refine ⟨rfl, hunits, fun hst => ?_, fun hst => ?_⟩
  · rw [State.spoilStream_running (s := t) hst]
    exact hset _
  · rw [State.spoilStream_closed (s := t) hst]
    exact hset _

/-! ### A beat at the tap -/

theorem execTapBeat_taken {tap : Fin 16} {s : State} (hup : s.sme.tapUp = true)
    (hroom : (s.sme.taps.getD tap.val []).length < 32) (d : BitVec 1024) (sid : StreamId) (first last : Bool)
    (nb : BitVec 7) (e : MemErr) :
    let u := s.quiet.ctxErr e sid
    execTapBeat tap d sid first last nb e s = .next
      (if (u.stream sid).st = .open ∧ (u.stream sid).tap = tap.val then
        u.openBeat tap.val sid ((leBytes 128 d.toNat).take (nb.toNat + 1)) first last
      else u.dropBeat tap.val sid) := by
  have hq : s.quiet.sme = s.sme := rfl
  refine congrArg Host.Outcome.next (if_neg ?_)
  simpa [hup] using hroom

theorem execTapBeat_void {tap : Fin 16} {s : State}
    (h : s.sme.tapUp = false ∨ 32 ≤ (s.sme.taps.getD tap.val []).length) (d : BitVec 1024) (sid : StreamId)
    (first last : Bool) (nb : BitVec 7) (e : MemErr) : execTapBeat tap d sid first last nb e s = .next s.quiet := by
  refine congrArg Host.Outcome.next (if_pos ?_)
  simpa using h

/-- A beat of `n` bytes of an OPEN stream on its tap. -/
theorem State.openBeat_eq {u : State} {sid : StreamId} (hst : (u.stream sid).st = .open) (tap : Nat) {bytes : Bytes}
    {n : Nat} (hn : bytes.length = n) (first last : Bool) :
    let v := u.stream sid
    u.openBeat tap sid bytes first last =
      if v.tooLong = true ∨ v.len < v.got + n then
        (u.setStream sid { v with tooLong := true, st := if last then .closing else .open }).dropBeat tap sid
      else if decide (v.got = 0) = first then
        (u.setStream sid { v with got := v.got + n, st := if last then .closing else .open }).onSme fun m =>
          { m with taps := m.taps.modify tap fun q => q ++ [⟨sid, bytes⟩] }
      else u.dropBeat tap sid := by
  have hclose (v : Stream) (hv : v.st = .open) :
      (if last then v.close else v) = { v with st := if last then .closing else .open } := by
    cases last <;> [rw [← hv]; skip] <;> rfl
  simp only [State.openBeat, hn]
  rw [hclose { u.stream sid with tooLong := true } hst, hclose { u.stream sid with got := (u.stream sid).got + n } hst]
  by_cases hlong : (u.stream sid).tooLong = true ∨ (u.stream sid).len < (u.stream sid).got + n
  · rw [if_pos hlong, if_pos (by simpa using hlong)]
  · rw [if_neg hlong, if_neg (by simpa using hlong)]
    by_cases hfirst : decide ((u.stream sid).got = 0) = first
    · rw [if_pos hfirst, if_neg (by cases first <;> simp_all)]
      rfl
    · rw [if_neg hfirst, if_pos (by (cases first <;> simp_all); omega)]

theorem length_beatBytes (d : BitVec 1024) (nb : BitVec 7) :
    ((leBytes 128 d.toNat).take (nb.toNat + 1)).length = nb.toNat + 1 := by
  have h := nb.isLt
  simp [leBytes]
  omega

/-! ### The front beat of a tap -/

theorem execBeatIntake_takes {tap : Fin 16} {s t : State} (hdue : (s.intakeTap tap.val).isSome = true)
    (h : s.quiet.intakeTap tap.val = some t) : execBeatIntake tap s = .next t := by
  rw [execBeatIntake, ranIf_due hdue, h]
  rfl

/-- The whole beat has entered: its credit returns. -/
theorem State.intakeTap_whole {s t : State} {tap : Nat} {b : TapBeat} {rest : List TapBeat}
    (hb : s.sme.taps.getD tap [] = b :: rest) (h : s.intake b = some (t, [])) : s.intakeTap tap =
      some ((t.onSme fun m => { m with taps := m.taps.set tap rest }).emit (.tapCredit tap)) := by
  simp only [State.intakeTap, hb, h]
  rfl

/-- What is left of the beat stays at the front of the tap. -/
theorem State.intakeTap_part {s t : State} {tap : Nat} {b : TapBeat} {rest : List TapBeat} {left : Bytes}
    (hb : s.sme.taps.getD tap [] = b :: rest) (h : s.intake b = some (t, left)) (hleft : left ≠ []) :
    s.intakeTap tap = some (t.onSme fun m => { m with taps := m.taps.set tap ({ b with bytes := left } :: rest) }) := by
  cases left with
  | nil => exact absurd rfl hleft
  | cons c l =>
    simp only [State.intakeTap, hb, h]
    rfl

theorem State.intake_begins {s : State} {b : TapBeat} {l : Nat} (hfill : s.fillingLane b.sid = none)
    (hfree : s.freeLane (s.stream b.sid).group = some l) : s.intake b = some (s.beginLeaf l b.sid b.bytes, []) := by
  simp only [State.intake, hfill, hfree]
  rfl

section
variable {s : State} {b : TapBeat} {l : Nat} {f : Leaf} (hfill : s.fillingLane b.sid = some l)
  (hf : ((s.lane l).bufs.find? fun f => f.sid == b.sid && f.bytes.length < 8192) = some f)

include hf in
theorem State.leafRoom_eq : s.leafRoom l b.sid = 8192 - f.bytes.length := by
  rw [State.leafRoom, hf]
  rfl

include hfill hf

theorem State.intake_joins (h : b.bytes.length ≤ 8192 - f.bytes.length) :
    s.intake b = some (s.fillLeaf l b.sid (b.bytes.take (8192 - f.bytes.length)), []) := by
  simp only [State.intake, hfill, State.leafRoom_eq hf, List.drop_eq_nil_of_le h]

theorem State.intake_waits (h : 8192 - f.bytes.length < b.bytes.length)
    (hfree : let u := s.fillLeaf l b.sid (b.bytes.take (8192 - f.bytes.length))
      u.freeLane (u.stream b.sid).group = none) :
    s.intake b = some (s.fillLeaf l b.sid (b.bytes.take (8192 - f.bytes.length)),
      b.bytes.drop (8192 - f.bytes.length)) := by
  have hne : b.bytes.drop (8192 - f.bytes.length) ≠ [] := by simpa using h
  simp only [State.intake, hfill, State.leafRoom_eq hf, hfree]

theorem State.intake_straddles (h : 8192 - f.bytes.length < b.bytes.length) {m : Nat}
    (hfree : let u := s.fillLeaf l b.sid (b.bytes.take (8192 - f.bytes.length))
      u.freeLane (u.stream b.sid).group = some m) :
    s.intake b = some ((s.fillLeaf l b.sid (b.bytes.take (8192 - f.bytes.length))).beginLeaf m b.sid
      (b.bytes.drop (8192 - f.bytes.length)), []) := by
  have hne : b.bytes.drop (8192 - f.bytes.length) ≠ [] := by simpa using h
  simp only [State.intake, hfill, State.leafRoom_eq hf, hfree]

end

/-- Settles O37: a beat is counted, dropped or refused by what its stream's context holds, and what enters the leaf
buffers is its whole or what the filling leaf still takes. -/
theorem tapBeatsAreCountedOrDropped : Obligations.TapBeatsAreCountedOrDropped := by
  unfold Obligations.TapBeatsAreCountedOrDropped
  simp only [exec]
  refine ⟨fun tap d sid first last nb e s => ⟨fun h => execTapBeat_void h d sid first last nb e, ?_, ?_, ?_, ?_, ?_⟩,
    fun tap s b rest l hb hfill hfree => ?_, fun tap s b rest l f hb hfill hf => ⟨fun h => ?_, fun h hfree => ?_,
      fun m h hfree => ?_⟩⟩
  · rintro rfl
    rfl
  · rintro rfl
    rfl
  · rintro rfl hwf
    exact State.ctxErr_uncorr (s := s.quiet) sid hwf
  · intro hup hroom hst
    rw [execTapBeat_taken hup hroom, if_neg (by tauto)]
  · intro hup hroom hst htap
    rw [execTapBeat_taken hup hroom, if_pos ⟨hst, htap⟩, State.openBeat_eq hst _ (length_beatBytes d nb)]
  · have h := State.intake_begins hfill hfree
    have h' := State.intake_begins (s := s.quiet) hfill hfree
    rw [execBeatIntake_takes (by rw [State.intakeTap_whole hb h]; rfl) (State.intakeTap_whole (s := s.quiet) hb h')]
    rfl
  · have h₁ := State.intake_joins hfill hf h
    have h₂ := State.intake_joins (s := s.quiet) hfill hf h
    exact execBeatIntake_takes (by rw [State.intakeTap_whole hb h₁]; rfl) (State.intakeTap_whole (s := s.quiet) hb h₂)
  · have h₁ := State.intake_waits hfill hf h hfree
    have h₂ := State.intake_waits (s := s.quiet) hfill hf h hfree
    have hne : b.bytes.drop (8192 - f.bytes.length) ≠ [] := by simpa using h
    exact execBeatIntake_takes (by rw [State.intakeTap_part hb h₁ hne]; rfl)
      (State.intakeTap_part (s := s.quiet) hb h₂ hne)
  · have h₁ := State.intake_straddles hfill hf h hfree
    have h₂ := State.intake_straddles (s := s.quiet) hfill hf h hfree
    exact execBeatIntake_takes (by rw [State.intakeTap_whole hb h₁]; rfl) (State.intakeTap_whole (s := s.quiet) hb h₂)

end Sys2Proof.Machine
end

section
/-!
PROOFS. The partition manager: gate runs, RELEASE, drain tokens and scrubs (R83, R434, R448, R450, R456 to R462).
-/
namespace Sys2Proof.Machine

/-! ### Commands -/

/-- A command that nothing refuses has its effect. -/
theorem State.prtCommand_taken {s : State} {w : Word} {early refusals : List (Bool × Code)} (f : State → State)
    (hbusy : s.prtBusy = false) (hw : rsvSet .prtCmd w = false) (hearly : ∀ x ∈ early, x.1 = false)
    (hrefusals : ∀ x ∈ refusals, x.1 = false) : s.prtCommand w .none early refusals f = f s := by
  have hnone : prtRefusal ((s.prtBusy, .busy) :: (rsvSet .prtCmd w, .deniedAttr) :: early) refusals .none = none := by
    rw [prtRefusal, lowest_eq_none, if_neg (by decide)]
    simp only [List.cons_append, List.forall_mem_cons, List.forall_mem_append]
    exact ⟨hbusy, hw, hearly, hrefusals⟩
  rw [State.prtCommand, hnone]

theorem prtTakes_quiet {s : State} {w : Word} (h : s.prtTakes w) :
    s.serves .d2 = true ∧ s.quiet.up .d4 = true ∧ s.quiet.prtBusy = false ∧ rsvSet .prtCmd w = false := h

/-! ### The release gate -/

/-- The scratch area is zeroed, and no other byte of control SRAM. -/
theorem State.zeroScratch_get {s : State} (h : Memory.wf 0 s.csram) (a : Nat) :
    Sparse.get 0 s.zeroScratch.csram a = if 0x0EC0000 ≤ a ∧ a < 0x0EF0000 then 0 else Sparse.get 0 s.csram a := by
  have hfilter : s.zeroScratch.csram = (s.csram.filter fun e =>
      !(0x0EC0000 ≤ e.1 && e.1 < 0x0EF0000) : Sparse Byte) := rfl
  rw [hfilter, Sparse.get_filter h]
  by_cases ha : 0x0EC0000 ≤ a ∧ a < 0x0EF0000
  · rw [if_pos ha, if_neg (by simp [ha])]
  · rw [if_neg ha, if_pos (by simp; omega)]

theorem execGateEnter_taken {w : Word} {s : State} (h : s.prtTakes w) (hact : s.prt.gate.active = false)
    (hheld : s.prt.gate.held = false) (hst : s.partState s.prtPart = .active)
    (hjob : (s.jobDigest s.prtPart s.prtJob).isSome = true)
    (hrec : (s.record s.prtPart.toNat s.prtJob).any (fun e => e.2.state == .formed) = true)
    (hmr : (s.mreg s.prtIndex).owner = some s.prtPart) (h2 : s.hasRegion s.prtPart 2 = true)
    (h3 : s.hasRegion s.prtPart 3 = true) (hkey : s.gateKeyed s.prtPart = true) (hwith : s.gateWithheld = false) :
    execGateEnter w .none s = .next ((s.quiet.zeroScratch.onPrt fun t => { t with gate :=
      { active := true, part := s.prtPart, mr := s.prtIndex, job := s.prtJob,
        budget := (s.reg .prtGateBudget).toNat } }).prtDone .done) := by
  obtain ⟨hd2, hd4, hbusy, hw⟩ := prtTakes_quiet h
  have hwith' : s.quiet.gateWithheld = false := hwith
  have hearly : ∀ x ∈ s.quiet.gateEarly, x.1 = false := by
    have hrec' : (s.quiet.record s.prtPart.toNat s.prtJob).any (fun e => e.2.state == .formed) = true := hrec
    have hmr' : (s.quiet.mreg s.prtIndex).owner = some s.prtPart := hmr
    have hkey' : s.quiet.gateKeyed s.prtPart = true := hkey
    have hpart : s.quiet.prtPart = s.prtPart := rfl
    have hjob' : s.quiet.prtJob = s.prtJob := rfl
    have hix : s.quiet.prtIndex = s.prtIndex := rfl
    simp only [State.gateEarly, hpart, hjob', hix, hrec', hmr', hkey', hd4]
    simp [hact, hheld]
  have hrefusals : ∀ x ∈ s.quiet.gateRefusals, x.1 = false := by
    have hst' : s.quiet.partState s.prtPart = .active := hst
    have hdig : (s.quiet.jobDigest s.prtPart s.prtJob).isNone = false := by
      rw [show s.quiet.jobDigest s.prtPart s.prtJob = s.jobDigest s.prtPart s.prtJob from rfl]
      simpa [Option.isSome_iff_ne_none] using hjob
    have h2' : s.quiet.hasRegion s.prtPart 2 = true := h2
    have h3' : s.quiet.hasRegion s.prtPart 3 = true := h3
    have hpart : s.quiet.prtPart = s.prtPart := rfl
    have hjob' : s.quiet.prtJob = s.prtJob := rfl
    simp only [State.gateRefusals, hpart, hjob', hst', hdig, h2', h3']
    simp
  rw [execGateEnter, ranOn_up hd2, hwith', if_neg Bool.false_ne_true,
    State.prtCommand_taken _ hbusy hw hearly hrefusals]
  rfl

theorem execGateExit_taken {w : Word} {s : State} (h : s.prtTakes w) (hheld : s.prt.gate.held = true) :
    execGateExit w s = .next ((s.quiet.zeroScratch.onPrt fun t => { t with gate := {} }).prtDone .done) := by
  obtain ⟨hd2, -, hbusy, hw⟩ := prtTakes_quiet h
  rw [execGateExit, ranOn_up hd2, State.prtCommand_taken _ hbusy hw (by simp [hheld]) (by simp)]

/-! ### RELEASE -/

/-- With a drain outstanding and no orphans taken up, the manager's own work leaves its state and what it has driven. -/
theorem State.prtGoOn_draining {s : State} {r : Release} (hr : s.prt.rel = some r) (hst : r.stage = .drain)
    (hwait : r.wait ≠ 0) (ho : s.prt.orphans = none) : s.prtGoOn.prt = s.prt ∧ ∀ o ∈ s.outs, o ∈ s.prtGoOn.outs := by
  have hstep : s.relStep = none := by
    simp only [State.relStep, hr, hst, if_neg hwait]
  have hrun : State.relRun 80 s = s := by
    rw [State.relRun, hstep]
  have hgo : s.prtGoOn = s.fillStep := by
    rw [State.prtGoOn, hrun]
    simp [State.orphanStep, ho]
  rw [hgo, State.fillStep]
  split
  · exact ⟨rfl, fun _ => id⟩
  · split
    · exact ⟨rfl, fun _ => id⟩
    · exact ⟨rfl, fun o ho => List.mem_append_left _ ho⟩

/-- Regions written one after another change nothing but the regions. -/
theorem State.foldl_setRegion (f : State → Nat → Region) (l : List Nat) (s : State) :
    ∃ g, l.foldl (fun s i => s.setRegion i (f s i)) s = s.onPrt fun t => { t with regions := g } := by
  induction l generalizing s with
  | nil => exact ⟨s.prt.regions, rfl⟩
  | cons i l ih =>
    obtain ⟨g, hg⟩ := ih (s.setRegion i (f s i))
    exact ⟨g, hg⟩

theorem State.gateStop_only (s : State) (p : PartId) (why : GateReason) :
    ∃ g b, s.gateStop p why = s.onPrt fun t => { t with gate := g, intGate := b } := by
  unfold State.gateStop State.gateLeave
  split
  · split <;> exact ⟨_, _, rfl⟩
  · exact ⟨s.prt.gate, s.prt.intGate, rfl⟩

/-- A drain request for each array of the mask, and nothing else. -/
theorem State.foldl_drain (m : BitVec 256) (p : PartId) (l : List Nat) (s : State) :
    let t := l.foldl (fun (s : State) i => if m.getLsbD i then s.emit (.drain i p (s.partGen p)) else s) s
    t = { s with outs := t.outs } ∧ (∀ o ∈ s.outs, o ∈ t.outs) ∧
      ∀ i ∈ l, m.getLsbD i = true → .drain i p (s.partGen p) ∈ t.outs := by
  induction l generalizing s with
  | nil => exact ⟨rfl, fun _ => id, fun _ h => nomatch h⟩
  | cons i l ih =>
    cases hi : m.getLsbD i with
    | true =>
      obtain ⟨heq, hkeep, hmem⟩ := ih (s.emit (.drain i p (s.partGen p)))
      simp only [List.foldl_cons, hi, if_true]
      refine ⟨heq, fun o ho => hkeep o (List.mem_append_left _ ho), fun j hj hb => ?_⟩
      rcases List.mem_cons.1 hj with rfl | hj
      · exact hkeep _ (List.mem_append_right _ List.mem_cons_self)
      · exact hmem j hj hb
    | false =>
      obtain ⟨heq, hkeep, hmem⟩ := ih s
      simp only [List.foldl_cons, hi]
      refine ⟨heq, hkeep, fun j hj hb => ?_⟩
      rcases List.mem_cons.1 hj with rfl | hj
      · exact absurd (hi.symm.trans hb) (by decide)
      · exact hmem j hj hb

/-- Steps 1 to 3 of RELEASE: the partition is RELEASING, and each of its arrays is asked to drain. -/
theorem State.relStart_spec {s : State} {p : PartId} (hp : p ≠ 0) :
    (s.relStart p).partState p = .releasing ∧ (s.relStart p).prt.orphans = s.prt.orphans ∧
      (s.relStart p).prt.rel = some ⟨p, .drain, (s.partEntry p).arrays, []⟩ ∧
      ∀ i, i < 256 → (s.partEntry p).arrays.getLsbD i = true → .drain i p (s.partGen p) ∈ (s.relStart p).outs := by
  let s₁ := s.setPart p { s.partEntry p with st := .releasing }
  obtain ⟨g, b, hg⟩ := s₁.gateStop_only p .release
  obtain ⟨rg, hrg⟩ := State.foldl_setRegion (fun s i => { s.region i with scrubbed := false })
    ((s₁.gateStop p .release).regionsOf p) (s₁.gateStop p .release)
  let u : State := s.onPrt fun t => { t with
    parts := Sparse.put {} t.parts p.toNat { s.partEntry p with st := .releasing }
    gate := g
    intGate := b
    regions := rg
    rel := some ⟨p, .drain, (s.partEntry p).arrays, []⟩ }
  have hu : s.relStart p = (List.range 256).foldl (fun (t : State) i =>
      if (s.partEntry p).arrays.getLsbD i then t.emit (.drain i p (t.partGen p)) else t) u := by
    unfold State.relStart
    extract_lets e t₁ t₂ t₃ t₄
    have h₄ : t₄ = u := by
      simp only [t₄, t₃, t₂, t₁, e]
      rw [hrg, hg]
      rfl
    rw [h₄]
  obtain ⟨heq, -, hmem⟩ := State.foldl_drain (s.partEntry p).arrays p (List.range 256) u
  rw [← hu] at heq hmem
  have hprt : (s.relStart p).prt = u.prt := by rw [heq]
  have horphans : u.prt.orphans = s.prt.orphans := rfl
  have hrel : u.prt.rel = some ⟨p, .drain, (s.partEntry p).arrays, []⟩ := rfl
  have hentry : u.partState p = .releasing := by
    have hne : ({ s.partEntry p with st := .releasing } : PartEntry) ≠ {} := fun h => by
      have hst := congrArg PartEntry.st h
      cases hst
    have hget : Sparse.get ({} : PartEntry) (Sparse.put {} s.prt.parts p.toNat { s.partEntry p with st := .releasing })
        p.toNat = { s.partEntry p with st := .releasing } := by
      rw [Sparse.get_put_of_ne hne, if_pos rfl]
    rw [State.partState, if_neg hp]
    exact congrArg PartEntry.st hget
  refine ⟨?_, (congrArg Prt.orphans hprt).trans horphans, (congrArg Prt.rel hprt).trans hrel,
    fun i hi hb => hmem i (List.mem_range.2 hi) hb⟩
  unfold State.partState State.partEntry at hentry ⊢
  rw [hprt]
  exact hentry

theorem execPrtRelease_taken {w : Word} {s : State} (h : s.prtTakes w) (hbg : s.prtBackground = false)
    (hp : s.prtPart ≠ 0) (hst : s.partState s.prtPart = .active ∨ s.partState s.prtPart = .quarantined) :
    execPrtRelease w .none s = .next ((s.quiet.relStart s.prtPart).prtDone .done).prtGoOn := by
  obtain ⟨hd2, hd4, hbusy, hw⟩ := prtTakes_quiet h
  have hbg' : s.quiet.prtBackground = false := hbg
  have hp' : s.quiet.prtPart ≠ 0 := hp
  have hst' : s.quiet.partState s.quiet.prtPart = .active ∨ s.quiet.partState s.quiet.prtPart = .quarantined := hst
  rw [execPrtRelease, ranOn_up hd2, State.prtCommand_taken _ hbusy hw]
  · rfl
  · simp only [hbg', hd4]
    simpa using hp'
  · rcases hst' with h | h <;> simp [h]

/-! ### Drain tokens -/

theorem execDrainToken_serves {s : State} (h2 : s.up .d2 = true) (h4 : s.up .d4 = true) (i : BitVec 8) (p : PartId)
    (g : Gen) : execDrainToken i p g s = .next
      (if s.prt.rel.any fun r => r.stage == .drain && r.part == p && r.wait.getLsbD i.toNat && s.partGen p == g then
        (s.quiet.onPrt fun t => { t with rel := t.rel.map fun r =>
          { r with wait := r.wait &&& ~~~ (1#256 <<< i.toNat) } }).prtGoOn
      else s.quiet.onPrt fun t => { t with cntTokdrop := tally t.cntTokdrop, intTokdrop := true }) := by
  have h2' : s.quiet.up .d2 = true := h2
  have h4' : s.quiet.up .d4 = true := h4
  rw [execDrainToken, ran_eq, if_neg (by rw [h2', h4']; decide)]
  rfl

theorem State.tokenStruck {s : State} {r : Release} {i : Nat} (hr : s.prt.rel = some r) :
    (s.onPrt fun t => { t with rel := t.rel.map fun r => { r with wait := r.wait &&& ~~~ (1#256 <<< i) } }) =
      s.onPrt fun t => { t with rel := some { r with wait := r.wait &&& ~~~ (1#256 <<< i) } } := by
  simp only [State.onPrt, hr, Option.map_some]

/-! ### Scrubs -/

theorem execScrubRegion_taken {w : Word} {s : State} (h : s.prtTakes w) (hph : s.partPhase s.prtPart = 4)
    (hpart : (s.region s.prtIndex).part = s.prtPart)
    (hkind : (s.region s.prtIndex).kind = 2 ∨ (s.region s.prtIndex).kind = 3) :
    execScrubRegion w .none s =
      .next (State.prtGoOn (s.quiet.onPrt fun t => { t with fill := some ⟨s.prtIndex, 0, false⟩ })) := by
  obtain ⟨hd2, hd4, hbusy, hw⟩ := prtTakes_quiet h
  have hph' : s.quiet.partPhase s.quiet.prtPart = 4 := hph
  have hpart' : (s.quiet.region s.quiet.prtIndex).part = s.quiet.prtPart := hpart
  have hkind' : (s.quiet.region s.quiet.prtIndex).kind = 2 ∨ (s.quiet.region s.quiet.prtIndex).kind = 3 := hkind
  rw [execScrubRegion, ranOn_up hd2, State.prtCommand_taken _ hbusy hw]
  · rfl
  · simp only [hd4, hph']
    simp
  · simp only [hpart']
    rcases hkind' with h | h <;> simp [h]

theorem execScrubDone_taken {w : Word} {s : State} (h : s.prtTakes w) (hph : s.partPhase s.prtPart = 4)
    (hregions : ∀ i ∈ s.regionsOf s.prtPart, (s.region i).kind = 1 ∨ (s.region i).scrubbed = true)
    (hgate : s.prt.gate.held = true → s.prt.gate.part ≠ s.prtPart) :
    execScrubDone w .none s = .next ((s.quiet.relEnd s.prtPart).prtDone .done) := by
  obtain ⟨hd2, hd4, hbusy, hw⟩ := prtTakes_quiet h
  have hph' : s.quiet.partPhase s.quiet.prtPart = 4 := hph
  have hgate' : (s.quiet.prt.gate.held && s.quiet.prt.gate.part == s.quiet.prtPart) = false := by
    have hpart : s.quiet.prtPart = s.prtPart := rfl
    rw [hpart]
    cases hh : s.prt.gate.held <;> simp [hh, hgate]
  rw [execScrubDone, ranOn_up hd2, State.prtCommand_taken _ hbusy hw]
  · rfl
  · simp only [hd4, hph', hgate']
    simp
  · have hany : ((s.quiet.regionsOf s.quiet.prtPart).any fun i =>
        (s.quiet.region i).kind != 1 && !(s.quiet.region i).scrubbed) = false := by
      rw [List.any_eq_false]
      intro i hi
      have hi' : (s.quiet.region i).kind = 1 ∨ (s.quiet.region i).scrubbed = true := hregions i hi
      rcases hi' with h | h <;> simp [h]
    exact List.forall_mem_singleton.2 hany

/-- Regions freed one after another. -/
theorem State.foldl_freeRegion {l : List Nat} {s : State} (hwf : Sparse.wf ({} : Region) s.prt.regions = true) :
    ∃ g, l.foldl (fun s i => s.setRegion i {}) s = (s.onPrt fun t => { t with regions := g }) ∧
      Sparse.wf ({} : Region) g = true ∧ (∀ i, Sparse.get ({} : Region) s.prt.regions i = {} → Sparse.get {} g i = {}) ∧
      ∀ i ∈ l, Sparse.get ({} : Region) g i = {} := by
  induction l generalizing s with
  | nil => exact ⟨s.prt.regions, rfl, hwf, fun _ => id, fun _ h => nomatch h⟩
  | cons i l ih =>
    have hput : Sparse.wf ({} : Region) (s.setRegion i {}).prt.regions = true := Sparse.wf_put hwf
    obtain ⟨g, hg, hwfg, hkeep, hfree⟩ := ih hput
    have hi : Sparse.get ({} : Region) (s.setRegion i {}).prt.regions i = {} := Sparse.get_put hwf
    refine ⟨g, hg, hwfg, fun j hj => hkeep j ?_, fun j hj => ?_⟩
    · by_cases h : j = i
      · exact h ▸ hi
      · exact (Sparse.get_put_ne hwf h).trans hj
    · rcases List.mem_cons.1 hj with rfl | hj
      · exact hkeep _ hi
      · exact hfree j hj

/-- Step 12 of RELEASE. -/
theorem State.relEnd_spec {s : State} {p : PartId} (hp : p ≠ 0) (hparts : Sparse.wf ({} : PartEntry) s.prt.parts = true)
    (hregions : Sparse.wf ({} : Region) s.prt.regions = true) :
    (s.relEnd p).prt.rel = none ∧ (s.relEnd p).partState p = .free ∧
      (∀ i ∈ s.regionsOf p, (s.relEnd p).region i = {}) ∧
      (s.relEnd p).prt.cntRelease = tally s.prt.cntRelease ∧ (s.relEnd p).prt.intReleased = true := by
  obtain ⟨g, hg, -, -, hfree⟩ := State.foldl_freeRegion (l := s.regionsOf p) hregions
  have hend : s.relEnd p = s.onPrt fun t => { t with
      regions := g
      parts := Sparse.put {} t.parts p.toNat {}
      rel := none
      intReleased := true
      cntRelease := tally t.cntRelease } := by
    rw [State.relEnd, hg]
    rfl
  have hentry : Sparse.get ({} : PartEntry) (Sparse.put {} s.prt.parts p.toNat {}) p.toNat = {} := Sparse.get_put hparts
  rw [hend]
  refine ⟨rfl, ?_, hfree, rfl, rfl⟩
  rw [State.partState, if_neg hp]
  exact congrArg PartEntry.st hentry

theorem execScrubOrphans_taken {w : Word} {s : State} (h : s.prtTakes w) (hbg : s.prtBackground = false) :
    execScrubOrphans w .none s = .next (((s.quiet.onPrt fun t =>
      { t with orphans := some ((s.prt.regions.filter fun e => e.2.orphan).map (·.1)) }).prtDone .done).prtGoOn) := by
  obtain ⟨hd2, hd4, hbusy, hw⟩ := prtTakes_quiet h
  have hbg' : s.quiet.prtBackground = false := hbg
  rw [execScrubOrphans, ranOn_up hd2, State.prtCommand_taken _ hbusy hw]
  · rfl
  · simp [hbg', hd4]
  · simp

/-- What GATE_ENTER leaves: the run, the zeroed scratch area, and every other byte as it was. -/
theorem gateEntered_spec {s : State} (h : Memory.wf 0 s.csram) {g : Gate} :
    let t := (s.zeroScratch.onPrt fun t => { t with gate := g }).prtDone .done
    t.prt.code = .done ∧ t.prt.gate = g ∧ t.psram = s.psram ∧
      ∀ a, Sparse.get 0 t.csram a = if 0x0EC0000 ≤ a ∧ a < 0x0EF0000 then 0 else Sparse.get 0 s.csram a :=
  ⟨rfl, rfl, rfl, State.zeroScratch_get h⟩

theorem State.partState_of_prt {s t : State} (h : t.prt = s.prt) (p : PartId) : t.partState p = s.partState p := by
  unfold State.partState State.partEntry
  rw [h]

theorem State.partState_prtDone (s : State) (c : Code) (p : PartId) : (s.prtDone c).partState p = s.partState p := rfl

theorem State.region_prtDone (s : State) (c : Code) (i : Nat) : (s.prtDone c).region i = s.region i := rfl

/-- RELEASE records DONE and waits for the arrays that its first steps have asked. -/
theorem State.prtGoOn_released {u : State} {p : PartId} {m : BitVec 256} (hpart : u.partState p = .releasing)
    (horphans : u.prt.orphans = none) (hrel : u.prt.rel = some ⟨p, .drain, m, []⟩) (hm : m ≠ 0) :
    (u.prtDone .done).prtGoOn.prt.code = .done ∧ (u.prtDone .done).prtGoOn.partState p = .releasing ∧
      (u.prtDone .done).prtGoOn.prt.rel = some ⟨p, .drain, m, []⟩ ∧
      ∀ o ∈ u.outs, o ∈ (u.prtDone .done).prtGoOn.outs := by
  obtain ⟨hprt, hkeep⟩ := (u.prtDone .done).prtGoOn_draining hrel rfl hm horphans
  exact ⟨congrArg Prt.code hprt, (State.partState_of_prt hprt p).trans hpart, (congrArg Prt.rel hprt).trans hrel, hkeep⟩

/-- What SCRUB_DONE leaves. -/
theorem scrubbed_spec {s : State} {p : PartId} (hp : p ≠ 0) (hparts : Sparse.wf ({} : PartEntry) s.prt.parts = true)
    (hregions : Sparse.wf ({} : Region) s.prt.regions = true) :
    let t := (s.relEnd p).prtDone .done
    t.prt.code = .done ∧ t.prt.rel = none ∧ t.partState p = .free ∧ (∀ i ∈ s.regionsOf p, t.region i = {}) ∧
      t.prt.cntRelease = tally s.prt.cntRelease ∧ t.prt.intReleased = true := by
  obtain ⟨hrel, hpart, hregion, hcnt, hint⟩ := State.relEnd_spec (s := s) hp hparts hregions
  exact ⟨rfl, hrel, (State.partState_prtDone ..).trans hpart,
    fun i hi => (State.region_prtDone ..).trans (hregion i hi),
    hcnt, hint⟩

/-- Settles O49: a command that nothing refuses has its one effect, and a drain outstanding stops what follows it. -/
theorem gateRunsAndReleasesHandCoresAndPartitionsOver :
    Obligations.GateRunsAndReleasesHandCoresAndPartitionsOver := by
  unfold Obligations.GateRunsAndReleasesHandCoresAndPartitionsOver
  simp only [exec]
  refine ⟨fun w s h hact hheld hst hjob hrec hmr h2 h3 hkey hwith hwf => ?_,
    fun w s h hheld => execGateExit_taken h hheld,
    fun w s hact => ⟨?_, fun h2 hw => ?_⟩, fun w s h hbg hp hst => ?_,
    fun i p g s h2 h4 => ⟨fun r hr hdrain hpart hwait hgen => ?_, fun h => ?_⟩,
    fun w s h hph => ⟨fun hpart hkind => execScrubRegion_taken h hph hpart hkind,
      fun hregions hgate hp hparts hwf => ?_⟩, fun w s h hbg => execScrubOrphans_taken h hbg⟩
  · exact ⟨_, execGateEnter_taken h hact hheld hst hjob hrec hmr h2 h3 hkey hwith, gateEntered_spec (s := s.quiet) hwf⟩
  · rw [execGateBudgetExpire, ranIf_due hact]
    exact congrArg _ (if_pos hact)
  · have hact' : s.quiet.prt.gate.active = true := hact
    rw [execGateYield, ranOn_up h2, if_neg (by rw [hact']; decide), if_pos hw]
    exact congrArg _ (if_pos hact)
  · have hnone : s.prt.orphans = none := by
      simp only [State.prtBackground, Bool.or_eq_false_iff] at hbg
      simpa using hbg.2
    obtain ⟨hpart, horphans, hrel, hdrain⟩ := State.relStart_spec (s := s.quiet) hp
    refine ⟨_, execPrtRelease_taken h hbg hp hst, rfl, fun harr => ?_⟩
    obtain ⟨hcode, hpart', hrel', hkeep⟩ := State.prtGoOn_released hpart (horphans.trans hnone) hrel harr
    exact ⟨hcode, hpart', hrel', fun i hi hb => hkeep _ (hdrain i hi hb)⟩
  · have hawaits : (s.prt.rel.any fun r => r.stage == .drain && r.part == p && r.wait.getLsbD i.toNat &&
        s.partGen p == g) = true := by
      rw [hr]
      simp [hdrain, hpart, hwait, hgen]
    rw [execDrainToken_serves h2 h4, if_pos hawaits]
    exact congrArg Host.Outcome.next (congrArg State.prtGoOn (State.tokenStruck (s := s.quiet) hr))
  · have hawaits : ¬ (s.prt.rel.any fun r => r.stage == .drain && r.part == p && r.wait.getLsbD i.toNat &&
        s.partGen p == g) = true := by
      cases hr : s.prt.rel with
      | none => exact Bool.false_ne_true
      | some r =>
        rcases h r hr with h | h | h | h <;> simp [h]
    rw [execDrainToken_serves h2 h4, if_neg hawaits]
  · exact ⟨_, execScrubDone_taken h hph hregions hgate, scrubbed_spec (s := s.quiet) hp hparts hwf⟩

end Sys2Proof.Machine
end

section
/-!
PROOFS. The worker channel: what it receives, and what it sends beat by beat (R55 to R57, R479).
-/
namespace Sys2Proof.Machine

/-! ### Receiving -/

/-- A message that the engine holds as the only one, where it had held none. -/
theorem State.wcpTake_held {s : State} {h : WBeat} {l : List WBeat} (hrx : s.wcp.rx = []) :
    State.wcpTake (s.onWcp fun c => { c with rx := c.rx ++ [h :: l] }) =
      if s.wcpKeeps h && !s.wcpRoom then s.onWcp fun c => { c with rx := [h :: l] } else s.wcpReceive h l := by
  have hheld : s.onWcp (fun c => { c with rx := c.rx ++ [h :: l] }) = s.onWcp fun c => { c with rx := [h :: l] } := by
    simp only [State.onWcp, hrx, List.nil_append]
  have hempty : s.onWcp (fun c => { c with rx := [] }) = s := by
    rw [State.onWcp, ← hrx]
  have hkeeps (c : Wcp) (hc : c.genReport = s.wcp.genReport ∧ c.genVersion = s.wcp.genVersion) :
      State.wcpKeeps { s with wcp := c } h = s.wcpKeeps h := by
    obtain ⟨hr, hv⟩ := hc
    simp only [State.wcpKeeps, State.wantedGen, hr, hv]
    rfl
  rw [hheld, State.wcpTake]
  exact congrArg₂ (fun b (t : State) => if b && !s.wcpRoom then s.onWcp fun c => { c with rx := [h :: l] } else t)
    (hkeeps _ ⟨rfl, rfl⟩) (congrArg (fun t : State => t.wcpReceive h l) hempty)

theorem execWcpRxMessage_whole {h : WBeat} {l : List WBeat} {s : State} (hrx : s.wcp.rx = []) (hup : s.wcpUp = true)
    (hlen : l.length = hLen h) : execWcpRxMessage (h :: l) s = .next
      (if s.wcpKeeps h && !s.wcpRoom then s.quiet.onWcp fun c => { c with rx := [h :: l] }
      else s.quiet.wcpReceive h l) := by
  have hup' : s.quiet.wcpUp = true := hup
  have hwhole : ¬ (!s.quiet.wcpUp || (h :: l).length != 1 + hLen ((h :: l).headD 0)) = true := by
    simp [hup', hlen, Nat.add_comm]
  rw [execWcpRxMessage, ran_eq, if_neg hwhole]
  exact congrArg _ (State.wcpTake_held (s := s.quiet) hrx)

theorem execWcpRxMessage_void {h : WBeat} {l : List WBeat} {s : State} (hv : s.wcpUp = false ∨ l.length ≠ hLen h) :
    execWcpRxMessage (h :: l) s = .next s.quiet := by
  have hvoid : (!s.quiet.wcpUp || (h :: l).length != 1 + hLen ((h :: l).headD 0)) = true := by
    rcases hv with hup | hlen
    · have hup' : s.quiet.wcpUp = false := hup
      simp [hup']
    · have hne : l.length + 1 ≠ 1 + hLen h := by omega
      simp [hne]
  rw [execWcpRxMessage, ran_eq, if_pos hvoid]

theorem State.wcpKeeps_eq {s : State} {h : WBeat} : s.wcpKeeps h = true ↔
    s.headerBad h true = false ∧ s.wantedGen h = some (hGen h) := by
  simp [State.wcpKeeps]

theorem State.notesGen_only (s : State) (h : WBeat) :
    ∃ r v, s.notesGen h = s.onWcp fun c => { c with genReport := r, genVersion := v } := by
  unfold State.notesGen
  split <;> exact ⟨_, _, rfl⟩

/-- A message that the firmware posts, in its slot. -/
theorem State.mslot_fwPost {s : State} {i : Nat} (hi : i < s.mbx.slots.length) (ws : List Word) :
    (s.fwPost i ws).mslot i = { s.mslot i with
      full := true, len := ws.length, seq := (s.mslot i).seq + 1, code := .done, aborted := false
      msg := ws ++ List.replicate (16 - ws.length) 0 } := by
  rw [State.fwPost, State.postMsg, State.post, State.mslot_onMslot_same (by simpa [State.onMslot_length] using hi),
    State.mslot_onMslot_same (by simpa [State.onMslot_length] using hi), State.mslot_onMslot_same hi]

/-- A kept message: its beats in control SRAM, its descriptor in MBX2, its credits returned, and DIM at its end. -/
theorem State.wcpReceive_kept {s : State} {h : WBeat} {l : List WBeat} (hbad : s.headerBad h true = false)
    (hgen : s.wantedGen h = some (hGen h)) (hslots : s.mbx.slots.length = 8) :
    let a := fldN (s.reg .mbxWcpRxbase) 12 12 * 4096 + 4096 * (((s.mslot 4).seq + 1).toNat % 16)
    let t := s.wcpReceive h l
    t.csram = Sparse.putBytes 0 s.csram a (l.flatMap beatBytes) ∧ t.psram = s.psram ∧ (t.mslot 4).full = true ∧
      (t.mslot 4).seq = (s.mslot 4).seq + 1 ∧
      (t.mslot 4).msg.take 6 = [beatWord h 0, beatWord h 1, beatWord h 2, beatWord h 3, BitVec.ofNat 32 a,
        BitVec.ofNat 32 l.length] ∧
      .wcpCredits (1 + l.length) ∈ t.outs ∧ t.crs.dim = false ∧ (s.crs.dim = true → t.crs.dimExit = 2) := by
  intro a t
  obtain ⟨c, m, f, o, hdim⟩ := s.dimEnd_only 2
  have hoff : (s.dimEnd 2).crs.dim = false ∧ (s.crs.dim = true → (s.dimEnd 2).crs.dimExit = 2) := by
    cases hd : s.crs.dim with
    | true =>
      obtain ⟨hoff, hexit, -⟩ := dimEnd_of_dim hd 2
      exact ⟨hoff, fun _ => hexit⟩
    | false =>
      rw [dimEnd_of_not_dim hd]
      exact ⟨hd, fun h => Bool.noConfusion h⟩
  obtain ⟨r, v, hnotes⟩ := (s.dimEnd 2).notesGen_only h
  let u : State := { s with crs := c, sme := m, fnc := f, outs := o }
  let u₁ : State := (u.onWcp fun c => { c with genReport := r, genVersion := v }).csramPut a (l.flatMap beatBytes)
  let ws : List Word := [beatWord h 0, beatWord h 1, beatWord h 2, beatWord h 3, BitVec.ofNat 32 a,
    BitVec.ofNat 32 l.length, 0, 0, 0, 0, 0, 0, 0, 0, 0, 0]
  have ht : t = State.emit (u₁.fwPost 4 ws) (.wcpCredits (1 + l.length)) := by
    simp only [t, State.wcpReceive]
    rw [if_neg (by rw [hbad]; decide), if_pos (State.wcpKeeps_eq.2 ⟨hbad, hgen⟩), State.wcpAccept,
      hnotes, hdim]
    rfl
  have hslot : t.mslot 4 = { s.mslot 4 with
      full := true, len := ws.length, seq := (s.mslot 4).seq + 1, code := .done, aborted := false
      msg := ws ++ List.replicate (16 - ws.length) 0 } := by
    have hpost := State.mslot_fwPost (s := u₁) (i := 4) (by rw [show u₁.mbx = s.mbx from rfl, hslots]; decide) ws
    rw [ht]
    exact hpost
  rw [hdim] at hoff
  refine ⟨by rw [ht]; rfl, by rw [ht]; rfl, by rw [hslot], by rw [hslot], by rw [hslot]; rfl, ?_,
    by rw [ht]; exact hoff.1, by rw [ht]; exact hoff.2⟩
  rw [ht]
  exact List.mem_append_right _ List.mem_cons_self

/-! ### Sending -/

/-- Beats leave in order, one for each credit. -/
theorem State.wcpPump_eq {n : Nat} {s : State} (h : s.wcp.tx.length ≤ n) :
    State.wcpPump n s = { s with
      wcp := { s.wcp with tx := s.wcp.tx.drop s.wcp.credits, credits := s.wcp.credits - s.wcp.tx.length }
      outs := s.outs ++ (s.wcp.tx.take s.wcp.credits).map Out.wcp } := by
  induction n generalizing s with
  | zero =>
    have htx : s.wcp.tx = [] := List.length_eq_zero_iff.1 (Nat.le_zero.1 h)
    have hwcp : s.wcp = { s.wcp with tx := [] } := by rw [← htx]
    simp only [State.wcpPump, htx, List.drop_nil, List.take_nil, List.map_nil, List.append_nil, List.length_nil,
      Nat.sub_zero]
    rw [← hwcp]
  | succ n ih =>
    rw [State.wcpPump]
    cases htx : s.wcp.tx with
    | nil =>
      have hwcp : s.wcp = { s.wcp with tx := [] } := by rw [← htx]
      simp only [List.drop_nil, List.take_nil, List.map_nil, List.append_nil, List.length_nil, Nat.sub_zero]
      rw [← hwcp]
    | cons b l =>
      rw [htx] at h
      cases hc : s.wcp.credits with
      | zero =>
        have hwcp : s.wcp = { s.wcp with tx := b :: l, credits := 0 } := by rw [← htx, ← hc]
        simp only [if_true, List.drop_zero, List.take_zero, List.map_nil, List.append_nil, Nat.zero_sub]
        rw [← hwcp]
      | succ k =>
        simp only [if_neg (Nat.succ_ne_zero k)]
        rw [ih (Nat.le_of_succ_le_succ h)]
        simp [State.onWcp, State.emit, hc]

theorem length_beatsOf (n : Nat) (bs : Bytes) : (beatsOf n bs).length = n := by
  induction n generalizing bs with
  | zero => rfl
  | succ n ih => simp [beatsOf, ih]

theorem State.noteCollection_only (s : State) (h : WBeat) (beats : List WBeat) :
    ∃ f, s.noteCollection h beats = { s with fw := f } := by
  unfold State.noteCollection
  split
  · exact ⟨s.fw, rfl⟩
  · exact ⟨_, rfl⟩

/-- The engine takes the descriptor: its header and beats, and as many sent as there are credits. -/
theorem State.wcpStart_spec (s : State) :
    let h := descHeader (s.mslot 5).msg
    let beats := beatsOf (hLen h) (s.csramBytes (fldN ((s.mslot 5).msg.getD 4 0) 0 24) (16 * hLen h))
    s.wcpStart.mbx = s.mbx ∧ s.wcpStart.wcp.posted = true ∧ s.wcpStart.csram = s.csram ∧
      s.wcpStart.wcp.tx = (h :: beats).drop s.wcp.credits ∧
      s.wcpStart.outs = s.outs ++ ((h :: beats).take s.wcp.credits).map Out.wcp ∧
      s.wcpStart.wcp.credits = s.wcp.credits - (1 + hLen h) := by
  intro h beats
  obtain ⟨r, v, hnotes⟩ := s.notesGen_only h
  let u : State := s.onWcp fun c => { c with genReport := r, genVersion := v, tx := h :: beats, posted := true }
  have hu : s.wcpStart = State.wcpPump 256 u := by
    rw [State.wcpStart, hnotes]
    rfl
  have hlen : beats.length = hLen h := length_beatsOf ..
  have hfit : u.wcp.tx.length ≤ 256 := by
    have hlt : hLen h < 256 := (fld h 92 8).isLt
    change beats.length + 1 ≤ 256
    omega
  rw [hu, State.wcpPump_eq hfit]
  refine ⟨rfl, rfl, rfl, rfl, rfl, ?_⟩
  change s.wcp.credits - (beats.length + 1) = _
  rw [hlen, Nat.add_comm]

theorem State.wcpSend_unfit {s : State} {n : Nat} (h : lowest (s.sendRefusals 5 n) = none)
    (hbad : s.wcpUp = false ∨ s.headerBad (descHeader (s.mslot 5).msg) false = true) :
    s.wcpSend n = s.onMslot 5 fun v => { v with code := .aborted } := by
  have hunfit : (s.wcpUp && !s.headerBad (descHeader (s.mslot 5).msg) false) = false := by
    rcases hbad with hb | hb <;> simp [hb]
  simp only [State.wcpSend, hunfit, State.sendSlot_unfit h]
  rfl

theorem State.wcpSend_posted {s : State} {n : Nat} (h : lowest (s.sendRefusals 5 n) = none)
    (hup : s.wcpUp = true) (hbad : s.headerBad (descHeader (s.mslot 5).msg) false = false) :
    ∃ f, s.wcpSend n = State.wcpStart { s.post 5 n with fw := f } := by
  have hfit : (s.wcpUp && !s.headerBad (descHeader (s.mslot 5).msg) false) = true := by
    rw [hup, hbad]
    rfl
  simp only [State.wcpSend, hfit, State.sendSlot_posted h, if_true]
  obtain ⟨f, hf⟩ := (s.post 5 n).noteCollection_only (descHeader (s.mslot 5).msg)
    (beatsOf (hLen (descHeader (s.mslot 5).msg))
      (s.csramBytes (fldN ((s.mslot 5).msg.getD 4 0) 0 24) (16 * hLen (descHeader (s.mslot 5).msg))))
  exact ⟨f, congrArg State.wcpStart hf⟩

/-- A descriptor sent: posted with DONE, and its beats on their way. -/
theorem State.wcpSend_spec {s : State} {n : Nat} (hnone : lowest (s.sendRefusals 5 n) = none) (hup : s.wcpUp = true)
    (hbad : s.headerBad (descHeader (s.mslot 5).msg) false = false) (hslots : s.mbx.slots.length = 8) :
    let h := descHeader (s.mslot 5).msg
    let beats := beatsOf (hLen h) (s.csramBytes (fldN ((s.mslot 5).msg.getD 4 0) 0 24) (16 * hLen h))
    let t := s.wcpSend n
    (t.mslot 5).full = true ∧ (t.mslot 5).code = .done ∧ t.wcp.posted = true ∧ t.csram = s.csram ∧
      t.wcp.tx = (h :: beats).drop s.wcp.credits ∧ t.outs = s.outs ++ ((h :: beats).take s.wcp.credits).map Out.wcp ∧
      t.wcp.credits = s.wcp.credits - (1 + hLen h) := by
  intro h beats t
  obtain ⟨f, hf⟩ := State.wcpSend_posted hnone hup hbad
  let u : State := { s.post 5 n with fw := f }
  have hslot : u.mslot 5 = { s.mslot 5 with full := true, len := n, seq := (s.mslot 5).seq + 1, code := .done } := by
    have hpost : (s.post 5 n).mslot 5 = _ := State.mslot_onMslot_same (by rw [hslots]; decide) _
    exact hpost
  have hmsg : (u.mslot 5).msg = (s.mslot 5).msg := by rw [hslot]
  obtain ⟨hmbx, hposted, hcsram, htx, houts, hcredits⟩ := u.wcpStart_spec
  rw [hmsg] at htx houts hcredits
  have ht : t = u.wcpStart := hf
  have htslot : t.mslot 5 = u.mslot 5 := by rw [ht, State.mslot, hmbx]; rfl
  rw [htslot, hslot, ht]
  exact ⟨rfl, rfl, hposted, hcsram, htx, houts, hcredits⟩

theorem State.wcpNext_idle {s : State} (h : s.wcp.queue = []) : s.wcpNext = s := by
  simp only [State.wcpNext, h]

theorem execWcpCredit_up {s : State} (h : s.wcpUp = true) :
    execWcpCredit s = .next (State.wcpPump 1 (s.quiet.onWcp fun c => { c with credits := c.credits + 1 })) := by
  have h' : s.quiet.wcpUp = true := h
  rw [execWcpCredit, ran_eq, if_pos h']

/-- Settles O52: a message is dropped, counted or kept by its header and generation, and beats leave one for each
credit. -/
theorem workerMessagesAreCheckedKeptAndSent : Obligations.WorkerMessagesAreCheckedKeptAndSent := by
  unfold Obligations.WorkerMessagesAreCheckedKeptAndSent
  simp only [exec]
  refine ⟨fun h l s => ⟨fun hup => execWcpRxMessage_void (.inl hup), fun _ hlen => execWcpRxMessage_void (.inr hlen),
    fun hrx hup hlen hbad => ?_, fun hrx hup hlen hbad hgen => ?_, fun hrx hup hlen hbad hgen => ?_⟩,
    fun s => ⟨fun hup => ?_, fun hup htx => ?_, fun b l hup htx => ?_⟩, fun s hposted htx => ⟨?_, fun hq => ?_⟩,
    fun q w s hg h6 hm hc hslots => ⟨fun hbad => ?_, fun hup hbad => ?_⟩⟩
  · have hkeeps : s.wcpKeeps h = false := by simp [State.wcpKeeps, hbad]
    have hbad' : s.quiet.headerBad h true = true := hbad
    rw [execWcpRxMessage_whole hrx hup hlen, hkeeps, State.wcpReceive, if_pos hbad']
    rfl
  · have hkeeps : s.wcpKeeps h = false := by simp [State.wcpKeeps, hgen]
    have hkeeps' : s.quiet.wcpKeeps h = false := hkeeps
    have hbad' : s.quiet.headerBad h true = false := hbad
    rw [execWcpRxMessage_whole hrx hup hlen, hkeeps, State.wcpReceive, hbad', hkeeps']
    rfl
  · have hkeeps : s.wcpKeeps h = true := State.wcpKeeps_eq.2 ⟨hbad, hgen⟩
    rw [execWcpRxMessage_whole hrx hup hlen, hkeeps]
    refine ⟨fun hroom => ?_, fun hroom hslots => ?_⟩
    · rw [hroom]
      rfl
    · rw [hroom]
      exact ⟨_, rfl, State.wcpReceive_kept (s := s.quiet) hbad hgen hslots⟩
  · have hup' : s.quiet.wcpUp = false := hup
    rw [execWcpCredit, ran_eq, if_neg (ne_true_of_eq_false hup')]
  · rw [execWcpCredit_up hup, State.wcpPump]
    simp [htx]
  · rw [execWcpCredit_up hup, State.wcpPump]
    simp [htx, State.wcpPump]
    rfl
  · rw [execWcpMessageSent, ranIf_due (by rw [hposted, htx]; rfl)]
    rfl
  · exact State.wcpNext_idle hq
  · rw [execMbxSend_sender hg h6 hm]
    exact congrArg _ (State.wcpSend_unfit (s := s.quiet) hc hbad)
  · rw [execMbxSend_sender hg h6 hm]
    exact ⟨_, rfl, State.wcpSend_spec (s := s.quiet) hc hup hbad hslots⟩

end Sys2Proof.Machine
end

section
/-!
PROOFS. Workers that answer and managers that collect (R57, R388, R417, R418, R421, R520), and what the queue of the
main firmware leaves alone.
-/
namespace Sys2Proof.Machine

/-! ### The queue of the main firmware -/

/-- The state without what the firmware's queue works on: the queue, the memory port, the mailboxes, what is driven. -/
def State.unqueued (s : State) : State :=
  { s with fw := { s.fw with io := [], ioOut := false }, mp := [], mbx := {}, outs := [] }

theorem State.onMslot_unqueued (s : State) (i : Nat) (f : MbxSlot → MbxSlot) :
    (s.onMslot i f).unqueued = s.unqueued := rfl

theorem State.fwPost_unqueued (s : State) (i : Nat) (ws : List Word) : (s.fwPost i ws).unqueued = s.unqueued := rfl

theorem State.ioHead_unqueued (s : State) (g : FwIo) : (s.ioHead g).unqueued = s.unqueued := rfl

theorem State.ring_unqueued (s : State) (w : Word) : (s.ring 1 w).unqueued = s.unqueued := by
  rw [State.ring_quiet fun h => absurd h (by decide)]
  rfl

theorem State.ioFail_unqueued (s : State) (c : Code) : (s.ioFail c).unqueued = s.unqueued := by
  unfold State.ioFail
  split <;> rfl

theorem State.ioWrite_unqueued (s : State) (a : Nat) (data : Bytes) : (s.ioWrite a data).unqueued = s.unqueued := by
  unfold State.ioWrite
  simp only
  split
  · exact s.ioFail_unqueued _
  · repeat' split
    all_goals rfl

theorem State.ioStep_unqueued (s : State) : s.ioStep.unqueued = s.unqueued := by
  unfold State.ioStep
  split
  · rfl
  · next g rest _ =>
    have hdone := s.ioHead_unqueued { g with ops := g.ops.drop 1 }
    simp only
    generalize s.ioHead { g with ops := g.ops.drop 1 } = done at hdone ⊢
    split
    · rfl
    · split
      · rfl
      · split
        · exact hdone
        · exact s.ioWrite_unqueued ..
    · split
      · exact hdone
      · split
        · exact (done.ring_unqueued _).trans hdone
        · rfl
    · split
      · exact hdone
      · split
        · exact (done.fwPost_unqueued ..).trans hdone
        · rfl
      · split
        · exact (done.fwPost_unqueued ..).trans hdone
        · rfl

theorem State.ioGo_unqueued (s : State) : s.ioGo.unqueued = s.unqueued := by
  have hfold (l : List Nat) (s : State) : (l.foldl (fun s _ => s.ioStep) s).unqueued = s.unqueued := by
    induction l generalizing s with
    | nil => rfl
    | cons _ l ih => exact (ih s.ioStep).trans s.ioStep_unqueued
  exact hfold ..

/-- What the firmware queues changes nothing but the queue, the port, the mailboxes and what is driven. -/
theorem State.ioRun_unqueued (s : State) (sec : Bool) (ops : List FwOp) : (s.ioRun sec ops).unqueued = s.unqueued :=
  State.ioGo_unqueued _

/-! ### Messages in MBX2 -/

/-- A message of type `t` that waits on a worker is due. -/
theorem wcpMsg_due {s : State} {t : Nat} {b : Bool} (hb : b = true) (h : s.wcpMsg t = true) :
    (b && s.wcpMsg t) = true := by
  rw [hb, h]
  rfl

theorem execReportReq_due {s : State} (hw : s.isWorker = true) (hm : s.wcpMsg 1 = true) (hi : s.attIdle .c = true) :
    execReportReq s = .next (if messageBad s.wcpHead 2 84 then s.quiet.take 4 else
      (s.quiet.take 4).askReport .c .platform (padTo 32 s.wcpBytes) 131072 (.worker s.wcpHead)) := by
  rw [execReportReq, ranIf_due (by rw [hw, hm, hi]; rfl)]
  rfl

/-- A worker's report that is over is sent in parts. -/
theorem State.attResumeC_worker {s : State} {h : WBeat} {k : Code} {n : Nat}
    (hc : s.fw.attC = some ⟨.worker h, some (k, n)⟩) (hs : s.mainServes = true) :
    s.attResumeC = (s.setTask .c none).workerReported h k n := by
  simp only [State.attResumeC, hc, hs]
  rfl

theorem execVersionReq_due {s : State} (hw : s.isWorker = true) (hm : s.wcpMsg 3 = true) :
    let es := s.att.record.entries.filter fun e => e.valid
    execVersionReq s = .next (if 4 ≤ es.length ∧ messageBad s.wcpHead 0 84 = false then
      (s.quiet.take 4).wcpQueue [header (hWorker s.wcpHead) true 4 es.length (hGen s.wcpHead)
        ((s.att.record.release.setWidth 84 <<< 52) ||| (BitVec.ofNat 84 es.length <<< 44)) ::
          es.map fun e => entryBeat e (s.minPeer e.typ.toNat)] else s.quiet.take 4) := by
  intro es
  rw [execVersionReq, ranIf_due (wcpMsg_due hw hm)]
  rfl

/-! ### CANCEL -/

/-- What a worker drops of the request that CANCEL names. -/
def State.dropRequest (s : State) (h : WBeat) : State :=
  (s.onFw fun w =>
    { w with attC := w.attC.map fun t =>
        match t.job with
        | .worker x => if hGen x == hGen h && cancelType h ≤ 2 then { t with job := .void } else t
        | _ => t }).onWcp fun c =>
    { c with queue := c.queue.filter fun m =>
        !(hGen (m.headD 0) == hGen h && hType (m.headD 0) == (if cancelType h ≤ 2 then 2 else 4)) }

/-- Where a manager counts the worker of a CANCEL absent. -/
def State.markAbsent (s : State) (h : WBeat) : State :=
  s.onColl fun c =>
    { c with workers := c.workers.map fun a =>
        if a.worker == hWorker h ∧ c.gen = hGen h then { a with absent := !a.answered } else a }

theorem execWcpCancel_due {s : State} (hm : s.wcpMsg 5 = true) :
    execWcpCancel s = .next (if messageBad s.wcpHead 0 76 then s.quiet.take 4
      else if s.isWorker then (s.quiet.take 4).dropRequest s.wcpHead else (s.quiet.take 4).markAbsent s.wcpHead) := by
  rw [execWcpCancel, ranIf_due hm]
  rfl

theorem State.dropRequest_spec (s : State) (h : WBeat) :
    s.dropRequest h = (s.onFw fun w => { w with attC := (s.dropRequest h).fw.attC }).onWcp
      (fun c => { c with queue := (s.dropRequest h).wcp.queue }) ∧
    (∀ x d, (s.dropRequest h).fw.attC = some ⟨.worker x, d⟩ → hGen x = hGen h → 2 < cancelType h) ∧
    ∀ m, m ∈ (s.dropRequest h).wcp.queue ↔ m ∈ s.wcp.queue ∧
      ¬(hGen (m.headD 0) = hGen h ∧ hType (m.headD 0) = if cancelType h ≤ 2 then 2 else 4) := by
  refine ⟨rfl, fun x d hattC hgen => ?_, fun m => ?_⟩
  · obtain ⟨⟨job, done⟩, -, ht⟩ := Option.map_eq_some_iff.1 hattC
    cases job with
    | worker y =>
      by_contra hle
      by_cases hy : (hGen y == hGen h && decide (cancelType h ≤ 2)) = true
      · simp only [hy, if_true] at ht
        cases ht
      · simp only [hy] at ht
        cases ht
        exact hy (by simp [hgen]; omega)
    | _ => cases ht
  · simp [State.dropRequest, State.onFw, State.onWcp, ← not_and_or]

/-! ### The collection -/

/-- The running collection after it is changed and settled. -/
theorem State.onColl_running {s : State} {c : Collection} (hc : s.fw.coll = some c) (he : c.ended = false)
    (f : Collection → Collection) : s.onColl f = s.onFw fun w => { w with coll := some (f c).settle } := by
  simp only [State.onColl, State.onFw, hc, Option.map_some, he]
  rfl

theorem State.onColl_ended {s : State} {c : Collection} (hc : s.fw.coll = some c) (he : c.ended = true)
    (f : Collection → Collection) : s.onColl f = s := by
  have hcoll : (s.fw.coll.map fun c => if c.ended then c else (f c).settle) = s.fw.coll := by
    rw [hc]
    simp [he]
  rw [State.onColl, State.onFw, hcoll]

theorem State.keepReport_fw (s : State) (w : BitVec 12) (r : Bytes) :
    (s.keepReport w r).fw.coll = s.fw.coll ∧
      (s.keepReport w r).fw.reports = (s.fw.reports.filter fun x => x.1 != w) ++ [(w, r)] := by
  have h : (s.keepReport w r).unqueued = State.unqueued (s.onFw fun f =>
      { f with reports := (f.reports.filter fun x => x.1 != w) ++ [(w, r)] }) := State.ioRun_unqueued ..
  exact ⟨congrArg (·.fw.coll) h, congrArg (·.fw.reports) h⟩

/-- A part of an answer of the running collection. -/
def State.joinPart (s : State) (w : BitVec 12) (a b : WorkerAnswer) : State :=
  (if b.answered && !a.answered then s.keepReport w (b.report.getD []) else s).onColl fun c =>
    { c with workers := c.workers.map fun x => if x = a then b else x }

theorem execReportPart_due {s : State} (hw : s.isManager = true) (hm : s.wcpMsg 2 = true) :
    execReportPart s = .next (match s.fw.coll, s.workerAnswer (hWorker s.wcpHead) with
      | some c, some a => if c.gen ≠ hGen s.wcpHead then s.quiet.take 4 else
          (s.quiet.take 4).joinPart (hWorker s.wcpHead) a (a.takes s.wcpHead s.wcpBytes c.nonce)
      | _, _ => s.quiet.take 4) := by
  rw [execReportPart, ranIf_due (wcpMsg_due hw hm)]
  rfl

theorem State.joinPart_spec {s : State} {c : Collection} (hc : s.fw.coll = some c) (he : c.ended = false)
    (w : BitVec 12) (a b : WorkerAnswer) : ∃ d, (s.joinPart w a b).fw.coll = some d ∧ d.gen = c.gen ∧
      d.workers = (c.workers.map fun x => if x = a then b else x) ∧
      (b.answered = true → a.answered = false → (w, b.report.getD []) ∈ (s.joinPart w a b).fw.reports) ∧
      (b.answered = a.answered → (s.joinPart w a b).fw.reports = s.fw.reports) := by
  cases hnew : b.answered && !a.answered with
  | true =>
    obtain ⟨hcoll, hreports⟩ := s.keepReport_fw w (b.report.getD [])
    have hjoin : s.joinPart w a b = _ :=
      (congrArg (fun t : State => t.onColl _) (if_pos hnew)).trans (State.onColl_running (hcoll.trans hc) he _)
    rw [hjoin]
    refine ⟨_, rfl, rfl, rfl, fun _ _ => ?_, fun h => ?_⟩
    · change _ ∈ (s.keepReport w (b.report.getD [])).fw.reports
      rw [hreports]
      exact List.mem_append_right _ List.mem_cons_self
    · rw [h] at hnew
      simp at hnew
  | false =>
    have hjoin : s.joinPart w a b = _ :=
      (congrArg (fun t : State => t.onColl _) (if_neg (ne_true_of_eq_false hnew))).trans (State.onColl_running hc he _)
    rw [hjoin]
    refine ⟨_, rfl, rfl, rfl, fun hb ha => ?_, fun _ => rfl⟩
    rw [hb, ha] at hnew
    cases hnew

/-! ### VERSION_INFO -/

/-- What VERSION_INFO tells of its worker. -/
def versionTold (h : WBeat) (bytes : Bytes) : WorkerInfo :=
  { worker := hWorker h, release := fld (hPayload h) 52 32,
    entries := (beatsOf (hLen h) bytes).map fun b => (fld b 120 8, fld b 112 8, fld b 80 32, fld b 48 32) }

/-- What a worker last told is replaced. -/
def State.noteInfo (s : State) (info : WorkerInfo) : State :=
  s.onFw fun w => { w with infos := (w.infos.filter fun x => x.worker != info.worker) ++ [info] }

/-- VERSION_INFO breaks R421. -/
def versionBad (h : WBeat) (bytes : Bytes) : Bool :=
  hLen h < 4 || 16 < hLen h || fldN (hPayload h) 44 8 != hLen h || fldN (hPayload h) 0 44 != 0 ||
    (beatsOf (hLen h) bytes).any fun b => fldN b 0 48 != 0

theorem versionBad_iff {h : WBeat} {bytes : Bytes} : versionBad h bytes = true ↔
    hLen h < 4 ∨ 16 < hLen h ∨ fldN (hPayload h) 44 8 ≠ hLen h ∨ fldN (hPayload h) 0 44 ≠ 0 ∨
      ∃ b ∈ beatsOf (hLen h) bytes, fldN b 0 48 ≠ 0 := by
  simp [versionBad, or_assoc]

theorem execVersionInfo_due {s : State} (hw : s.isManager = true) (hm : s.wcpMsg 4 = true) :
    execVersionInfo s = .next (if versionBad s.wcpHead s.wcpBytes then s.quiet.take 4
      else if s.info (hWorker s.wcpHead) = some (versionTold s.wcpHead s.wcpBytes) then
        (s.quiet.take 4).noteInfo (versionTold s.wcpHead s.wcpBytes)
      else ((s.quiet.take 4).noteInfo (versionTold s.wcpHead s.wcpBytes)).recheckJobs (hWorker s.wcpHead)) := by
  rw [execVersionInfo, ranIf_due (wcpMsg_due hw hm)]
  rfl

/-! ### The end of a collection -/

/-- Every worker without its whole report is absent. -/
def Collection.timeout (c : Collection) : Collection :=
  { c with workers := c.workers.map fun a => if a.answered then a else { a with absent := true } }

theorem Collection.timeout_answers {c : Collection} {a : WorkerAnswer} (h : a ∈ c.timeout.workers) :
    a.answered = true ∨ a.absent = true := by
  obtain ⟨x, -, rfl⟩ := List.mem_map.1 h
  by_cases hx : x.answered = true
  · rw [if_pos hx]
    exact .inl hx
  · rw [if_neg hx]
    exact .inr rfl

theorem Collection.timeout_ended (c : Collection) : c.timeout.settle.ended = true := by
  have hall : (c.timeout.workers.all fun a => a.answered || a.absent) = true :=
    List.all_eq_true.2 fun a ha => Bool.or_eq_true_iff.2 (Collection.timeout_answers ha)
  rw [Collection.settle, hall]
  exact Bool.or_true _

/-- Settles O53: a message is due for its role, and an answer changes the running collection alone. -/
theorem workersAnswerAndManagersCollect : Obligations.WorkersAnswerAndManagersCollect := by
  unfold Obligations.WorkersAnswerAndManagersCollect
  simp only [exec]
  refine ⟨fun s hw hm hi => ?_, fun s h k n hc hs => State.attResumeC_worker hc hs, fun s hw hm => ?_,
    fun s hm => ?_, fun s hw hm => ?_, fun s hw hm => ?_, fun s c hw hs hc he => ?_⟩
  · rw [execReportReq_due hw hm hi]
    exact ⟨fun hbad => congrArg _ (if_pos hbad), fun hok => congrArg _ (if_neg (ne_true_of_eq_false hok))⟩
  · rw [execVersionReq_due hw hm]
    exact ⟨fun hbad => congrArg _ (if_neg fun h => absurd (h.2.symm.trans hbad) (by decide)),
      fun hok hlen => congrArg _ (if_pos ⟨hlen, hok⟩)⟩
  · rw [execWcpCancel_due hm]
    refine ⟨fun hbad => congrArg _ (if_pos hbad), fun hok hw => ?_, fun hok hw => ?_⟩
    · rw [if_neg (ne_true_of_eq_false hok), if_pos hw]
      exact ⟨_, rfl, State.dropRequest_spec (s.quiet.take 4) s.wcpHead⟩
    · rw [if_neg (ne_true_of_eq_false hok), if_neg (ne_true_of_eq_false hw)]
      refine ⟨_, rfl, fun c hc => ⟨fun he => State.onColl_ended (s := s.quiet.take 4) hc he _, fun he => ?_⟩⟩
      rw [State.markAbsent, State.onColl_running (s := s.quiet.take 4) hc he]
      exact ⟨_, rfl, rfl, by simp [Collection.settle]⟩
  · rw [execReportPart_due hw hm]
    refine ⟨fun h => ?_, fun c a hc he hgen ha => ?_⟩
    · rcases h with hc | ha | ⟨c, hc, hgen⟩
      · rw [hc]
      · rw [ha]
        split
        · next h => cases h
        · rfl
      · rw [hc]
        split
        · next hc' _ =>
          cases hc'
          exact congrArg _ (if_pos hgen)
        · rfl
    · rw [hc, ha]
      obtain ⟨d, hd⟩ := State.joinPart_spec (s := s.quiet.take 4) hc he (hWorker s.wcpHead) a
        (a.takes s.wcpHead s.wcpBytes c.nonce)
      exact ⟨_, d, congrArg _ (if_neg (not_not.2 hgen)), hd⟩
  · rw [execVersionInfo_due hw hm]
    simp only [← versionBad_iff]
    refine ⟨fun hbad => congrArg _ (if_pos hbad), fun hok hsame => ?_, fun hok hnew => ?_⟩
    · rw [if_neg hok]
      exact congrArg _ (if_pos hsame)
    · rw [if_neg hok]
      exact congrArg _ (if_neg hnew)
  · have hdue : (s.isManager && s.mainServes && s.fw.coll.any fun c => !c.ended) = true := by
      rw [hw, hs, hc]
      simp [he]
    rw [execCollectionTimeout, ranIf_due hdue]
    refine ⟨_, c.timeout.settle, congrArg _ (State.onColl_running (s := s.quiet) hc he _), rfl, c.timeout_ended, ?_,
      fun a ha => Collection.timeout_answers ha⟩
    exact List.length_map _

end Sys2Proof.Machine
end

section
/-!
PROOFS. The messages of the host driver on MBX0, and what the firmware queues to answer them (R467, R478 to R485).
-/
namespace Sys2Proof.Machine

/-! ### Acts of the queue -/

section
variable {s : State} {g : FwIo} {rest : List FwIo}

theorem State.ioStep_post {ws : List Word} {at_ : Option (Nat × Nat)} {ops : List FwOp} (hio : s.fw.io = g :: rest)
    (hops : g.ops = .post ws at_ :: ops) (hbad : g.bad = none) (hfree : s.slotFree 1 = true) :
    s.ioStep = (s.ioHead { g with ops := ops }).fwPost 1 ws := by
  unfold State.ioStep
  rw [hio]
  simp only [hops, hbad, hfree, if_true, List.drop_one, List.tail_cons]

theorem State.ioStep_end (hio : s.fw.io = g :: rest) (hops : g.ops = []) :
    s.ioStep = s.onFw fun w => { w with io := rest } := by
  unfold State.ioStep
  rw [hio]
  simp only [hops]

/-- What follows a write waits for its acknowledgement. -/
theorem State.ioStep_waits {a : Nat} {d : Bytes} {ops : List FwOp} (hio : s.fw.io = g :: rest)
    (hops : g.ops = .write a d :: ops) (hout : s.fw.ioOut = true) : s.ioStep = s := by
  unfold State.ioStep
  rw [hio]
  simp only [hops, hout, if_true]

theorem State.ioGo_waits {a : Nat} {d : Bytes} {ops : List FwOp} (hio : s.fw.io = g :: rest)
    (hops : g.ops = .write a d :: ops) (hout : s.fw.ioOut = true) : s.ioGo = s := by
  have hfold (l : List Nat) : l.foldl (fun s _ => s.ioStep) s = s := by
    induction l with
    | nil => rfl
    | cons _ l ih => rw [List.foldl_cons, State.ioStep_waits hio hops hout, ih]
  exact hfold _

end

/-- The two acts of a message that goes out at once: it is posted, and its operation ends. -/
theorem State.ioStep_ioStep_post {s : State} {sec : Bool} {ws : List Word} {at_ : Option (Nat × Nat)}
    (hio : s.fw.io = [⟨sec, [.post ws at_], none⟩]) (hfree : s.slotFree 1 = true) :
    s.ioStep.ioStep = (s.fwPost 1 ws).onFw fun w => { w with io := [] } := by
  have hpost := State.ioStep_post (s := s) hio rfl rfl hfree
  have hend : s.ioStep.fw.io = [⟨sec, [], none⟩] := by
    rw [hpost]
    change _ :: s.fw.io.drop 1 = _
    rw [hio]
    rfl
  rw [State.ioStep_end hend rfl, hpost]
  rfl

/-- With nothing queued, and room in MBX0, a message is posted at once. -/
theorem State.ioRun_post {s : State} (hio : s.fw.io = []) (h6 : s.serves .d6 = true) (hfull : (s.mslot 1).full = false)
    (sec : Bool) (ws : List Word) (at_ : Option (Nat × Nat)) : s.ioRun sec [.post ws at_] = s.fwPost 1 ws := by
  let u : State := s.onFw fun w => { w with io := w.io ++ [⟨sec, [.post ws at_], none⟩] }
  have hu : u.fw.io = [⟨sec, [.post ws at_], none⟩] := by
    change s.fw.io ++ _ = _
    rw [hio]
    rfl
  have hfree : u.slotFree 1 = true := by
    have hserves : u.serves .d6 = s.serves .d6 := rfl
    have hslot : u.mslot 1 = s.mslot 1 := rfl
    rw [State.slotFree, hserves, hslot, h6, hfull]
    rfl
  have hrun : s.ioRun sec [.post ws at_] = u.ioStep.ioStep := by
    have hgo : u.ioGo = (List.range (ioActs u.fw.io)).foldl (fun s _ => s.ioStep) u := rfl
    rw [hu] at hgo
    exact hgo
  have hfw : { s.fw with io := [] } = s.fw := by rw [← hio]
  rw [hrun, State.ioStep_ioStep_post hu hfree]
  change ({ s.fwPost 1 ws with fw := { s.fw with io := [] } } : State) = _
  rw [hfw]
  rfl

/-- A message that goes out at once stands in MBX0. -/
theorem State.ioRun_posted {s : State} (hio : s.fw.io = []) (h6 : s.serves .d6 = true)
    (hfull : (s.mslot 1).full = false) (hslots : s.mbx.slots.length = 8) (sec : Bool) (ws : List Word)
    (at_ : Option (Nat × Nat)) :
    (s.ioRun sec [.post ws at_]).mslot 0 = s.mslot 0 ∧ ((s.ioRun sec [.post ws at_]).mslot 1).full = true ∧
      ((s.ioRun sec [.post ws at_]).mslot 1).len = ws.length ∧
      ((s.ioRun sec [.post ws at_]).mslot 1).msg = ws ++ List.replicate (16 - ws.length) 0 ∧
      (s.ioRun sec [.post ws at_]).fw.io = [] := by
  have hslot := State.mslot_fwPost (s := s) (i := 1) (by rw [hslots]; decide) ws
  have h0 : (s.fwPost 1 ws).mslot 0 = s.mslot 0 := by
    rw [State.fwPost, State.postMsg, State.post, State.mslot_onMslot_ne (by decide), State.mslot_onMslot_ne (by decide),
      State.mslot_onMslot_ne (by decide)]
  rw [State.ioRun_post hio h6 hfull, hslot]
  exact ⟨h0, rfl, rfl, rfl, hio⟩

/-- A message taken and answered at once. -/
theorem State.reply_posted {s : State} (hio : s.fw.io = []) (h6 : s.serves .d6 = true)
    (hfull : (s.mslot 1).full = false) (hslots : s.mbx.slots.length = 8) (ws : List Word) :
    ((s.reply ws).mslot 0).full = false ∧ ((s.reply ws).mslot 1).full = true ∧
      ((s.reply ws).mslot 1).len = ws.length ∧ ((s.reply ws).mslot 1).msg = ws ++ List.replicate (16 - ws.length) 0 ∧
      (s.reply ws).fw.io = [] := by
  have htaken : ((s.take 0).mslot 1).full = false := by
    rw [State.take, State.mslot_onMslot_ne (by decide)]
    exact hfull
  obtain ⟨h0, h1, hlen, hmsg, hend⟩ := State.ioRun_posted (s := s.take 0) hio h6 htaken
    ((State.onMslot_length ..).trans hslots) false ws none
  refine ⟨?_, h1, hlen, hmsg, hend⟩
  have hslot : (s.take 0).mslot 0 = { s.mslot 0 with full := false } :=
    State.mslot_onMslot_same (by rw [hslots]; decide) _
  rw [State.reply, h0, hslot]

/-! ### Messages by their type -/

theorem State.serveType_of_eq {s : State} {t : Nat} (h : s.msgType 0 = t) (f : State → State) : s.serveType t f = f s :=
  if_pos h

theorem State.serveType_of_error {s : State} {t : Nat} (h : s.msgType 0 = 9) (ht : s.msgType 0 ≠ t)
    (f : State → State) : s.serveType t f = s.take 0 := by
  simp only [State.serveType, if_neg ht, if_pos h]

theorem State.serveType_of_ne {s : State} {t : Nat} (h : s.msgType 0 ≠ 9) (ht : s.msgType 0 ≠ t) (f : State → State) :
    s.serveType t f = s.reply [9, BitVec.ofNat 32 (s.msgType 0), Code.deniedAttr.byte.setWidth 32] := by
  simp only [State.serveType, if_neg ht, if_neg h]

theorem hostMsg_full {s : State} {t : Nat} (h : s.hostMsg t = true) : (s.mslot 1).full = false := by
  simp only [State.hostMsg, Bool.and_eq_true] at h
  exact Bool.not_eq_true' .. ▸ h.2

/-- The answer to RING_CREATE. -/
def State.ringMake (s : State) (a : Bool) : State :=
  let w := s.msgWord 0 1
  let r := fldN w 0 6
  if s.ringDenied a then s.ringRefuse r
  else
    s.ringPut r
      { st := .running, gen := (s.ringOf r).gen + 1, part := fld w 8 6, sqBase := s.msgAddr 0 2,
        cqBase := s.msgAddr 0 4, sqLog := fldN w 16 4, cqLog := fldN w 20 4 }

/-- The answer to RING_DESTROY. -/
def State.ringEnd (s : State) : State :=
  let r := fldN (s.msgWord 0 1) 0 6
  if s.msgReserved || fld (s.msgWord 0 1) 6 26 != 0 then s.ringRefuse r
  else s.ringPut r { gen := (s.ringOf r).gen }

/-- The answer to REPORT, or its beginning. -/
def State.reportBegin (s : State) : State :=
  if s.msgReserved then s.reply [8, Code.deniedAttr.byte.setWidth 32, 0]
  else
    (s.take 0).askReport s.reportBlk .platform (wordsToBytes ((List.range 8).map fun k => s.msgWord 0 (1 + k)))
      (min (s.msgWord 0 11).toNat 131072) (.host (s.msgAddr 0 9))

theorem execCapAccept_due {s : State} (hfree : s.mainFree = true) (hm : s.hostMsg 2 = true)
    (hpage : s.msgType 0 ≠ 2 ∨ s.fw.page.isSome = true) :
    execCapAccept s = .next (s.quiet.serveType 2 fun s => s.capAccept (s.fw.page.getD none)) := by
  have hdue : (s.mainFree && s.hostMsg 2 && (s.msgType 0 != 2 || s.fw.page.isSome)) = true := by
    rw [hfree, hm]
    simpa using hpage
  rw [execCapAccept, ranIf_due hdue]

theorem execRingCreate_due {s : State} (hfree : s.mainFree = true) (hm : s.hostMsg 4 = true) (a : Bool) :
    execRingCreate a s = .next (s.quiet.serveType 4 fun s => s.ringMake a) := by
  rw [execRingCreate, ranIf_due (by rw [hfree, hm]; rfl)]
  rfl

theorem execRingDestroy_due {s : State} (hfree : s.mainFree = true) (hm : s.hostMsg 5 = true) :
    execRingDestroy s = .next (s.quiet.serveType 5 State.ringEnd) := by
  rw [execRingDestroy, ranIf_due (by rw [hfree, hm]; rfl)]
  rfl

theorem execHostReport_due {s : State} (hm : s.hostMsg 7 = true) (hdue : s.reportDue = true) :
    execHostReport s = .next (s.quiet.serveType 7 State.reportBegin) := by
  rw [execHostReport, ranIf_due (by rw [hm, hdue]; rfl)]
  rfl

/-! ### CAP_ACCEPT -/

/-- DONE needs an open offer. -/
theorem capCode_done {s : State} {p : Bytes} (h : s.capCode p = .done) : s.fw.offered = true := by
  unfold State.capCode at h
  cases hl : lowest
      [(!s.fw.offered || s.msgReserved || s.pageBad p || s.msgWord 0 1 != s.fw.capgen.setWidth 32, Code.deniedAttr),
       (pageNum p 0x10 32 % 2 == 0, .incomplete),
       (capLevel p < Config.fwProtoMin || capLevel p < pageNum p 8 2, .version)] with
  | none =>
    have hfirst := lowest_eq_none.1 hl _ List.mem_cons_self
    simp only [Bool.or_eq_false_iff] at hfirst
    simpa using hfirst.1.1.1
  | some d =>
    rw [hl] at h
    have hd : d = .done := h
    obtain ⟨hmem, -⟩ := lowest_least hl
    rw [hd] at hmem
    simp at hmem

/-- The offer answered, before anything of the answer is written. -/
def State.capTaken (s : State) : State := (s.take 0).onFw fun w => { w with unanswered := false, page := none }

/-- CAP_ACCEPT answered with DONE activates the offer, at the level and with the features of both pages. -/
theorem State.capAccept_done {s : State} {page : Option Bytes}
    (h : (if page.isNone then .integrity else s.capCode (page.getD [])) = Code.done) :
    (s.capAccept page).fw.unanswered = false ∧ (s.capAccept page).fw.page = none ∧
      (s.capAccept page).fw.offered = false ∧ (s.capAccept page).fw.capActive = true ∧
      (s.capAccept page).fw.level = capLevel (page.getD []) ∧
      (s.capAccept page).fw.features = capFeatures (page.getD []) := by
  have hrest : (s.capAccept page).unqueued = State.unqueued (s.capTaken.onFw fun w =>
      { w with offered := false, capActive := true, level := capLevel (page.getD []),
               features := capFeatures (page.getD []) }) := by
    simp only [State.capAccept, if_pos h]
    exact State.ioRun_unqueued ..
  exact ⟨congrArg (·.fw.unanswered) hrest, congrArg (·.fw.page) hrest, congrArg (·.fw.offered) hrest,
    congrArg (·.fw.capActive) hrest, congrArg (·.fw.level) hrest, congrArg (·.fw.features) hrest⟩

theorem State.capAccept_refused {s : State} {page : Option Bytes} {c : Code}
    (hc : (if page.isNone then .integrity else s.capCode (page.getD [])) = c) (h : c ≠ .done) :
    s.capAccept page = s.capTaken.ioRun false [.post [3, s.fw.capgen.setWidth 32, c.byte.setWidth 32] none] := by
  simp only [State.capAccept, hc, if_neg h]
  rfl

/-- CAP_ACCEPT answered with another code leaves the negotiation as it is. -/
theorem State.capAccept_refused_spec {s : State} {page : Option Bytes} {c : Code}
    (hc : (if page.isNone then .integrity else s.capCode (page.getD [])) = c) (h : c ≠ .done) :
    (s.capAccept page).fw.unanswered = false ∧ (s.capAccept page).fw.page = none ∧
      (s.capAccept page).fw.offered = s.fw.offered ∧ (s.capAccept page).fw.capActive = s.fw.capActive ∧
      (s.capAccept page).fw.level = s.fw.level ∧ (s.capAccept page).fw.features = s.fw.features := by
  have hrest : (s.capAccept page).unqueued = s.capTaken.unqueued := by
    rw [State.capAccept_refused hc h]
    exact State.ioRun_unqueued ..
  exact ⟨congrArg (·.fw.unanswered) hrest, congrArg (·.fw.page) hrest, congrArg (·.fw.offered) hrest,
    congrArg (·.fw.capActive) hrest, congrArg (·.fw.level) hrest, congrArg (·.fw.features) hrest⟩

/-- The refusal is sent at once where nothing is queued. -/
theorem State.capAccept_refused_posted {s : State} {page : Option Bytes} {c : Code}
    (hc : (if page.isNone then .integrity else s.capCode (page.getD [])) = c) (h : c ≠ .done)
    (hio : s.fw.io = []) (h6 : s.serves .d6 = true) (hfull : (s.mslot 1).full = false)
    (hslots : s.mbx.slots.length = 8) :
    ((s.capAccept page).mslot 0).full = false ∧ ((s.capAccept page).mslot 1).full = true ∧
      ((s.capAccept page).mslot 1).msg.take 3 = [3, s.fw.capgen.setWidth 32, c.byte.setWidth 32] := by
  let u : State := s.onFw fun w => { w with unanswered := false, page := none }
  have hreply : s.capAccept page = u.reply [3, s.fw.capgen.setWidth 32, c.byte.setWidth 32] :=
    State.capAccept_refused hc h
  obtain ⟨h0, h1, -, hmsg, -⟩ := State.reply_posted (s := u) hio h6 hfull hslots
    [3, s.fw.capgen.setWidth 32, c.byte.setWidth 32]
  rw [hreply]
  exact ⟨h0, h1, by rw [hmsg]; rfl⟩

/-! ### Rings put -/

/-- Where a ring is put and its control block queued, the rings are those put. -/
theorem State.ringPut_rings (s : State) (r : Nat) (v : Ring) :
    (s.ringPut r v).fw.rings = Sparse.put {} s.fw.rings r v := by
  have hrest : (s.ringPut r v).unqueued = State.unqueued ((s.take 0).setRing r v) := State.ioRun_unqueued ..
  exact congrArg (·.fw.rings) hrest

theorem State.ringPut_ringOf {s : State} {r : Nat} {v : Ring} (hv : v ≠ {}) (k : Nat) :
    (s.ringPut r v).ringOf k = if k = r then v else s.ringOf k := by
  rw [State.ringOf, State.ringPut_rings, Sparse.get_put_of_ne hv]
  rfl

theorem State.ringPut_spec {s : State} {r : Nat} {v : Ring} (hv : v ≠ {}) :
    (s.ringPut r v).ringOf r = v ∧ ∀ k, k ≠ r → (s.ringPut r v).ringOf k = s.ringOf k :=
  ⟨(State.ringPut_ringOf hv r).trans (if_pos rfl), fun k hk => (State.ringPut_ringOf hv k).trans (if_neg hk)⟩

end Sys2Proof.Machine
end

section
/-!
PROOFS. Ring submissions and their completions (R105, R467, R484 to R489, R520).
-/
namespace Sys2Proof.Machine

/-! ### The head of a ring -/

/-- The ring after its head submission is taken. -/
def Ring.popped (v : Ring) : Ring := { v with sqHead := (v.sqHead + 1) % 2 ^ v.sqLog, head := .none }

theorem State.ringOf_setRing {s : State} {r : Nat} {v : Ring} (hv : v ≠ {}) (k : Nat) :
    (s.setRing r v).ringOf k = if k = r then v else s.ringOf k :=
  Sparse.get_put_of_ne hv

theorem Ring.ne_default_of_st {v : Ring} (h : v.st ≠ .free) : v ≠ {} := fun hv => h (congrArg Ring.st hv)

theorem submitted_iff {s : State} {r op : Nat} : s.submitted r op = true ↔
    s.mainFree = true ∧ (s.ringOf r).st = .running ∧
      ∃ e, (s.ringOf r).head.bytes = some e ∧ (entryNum e 0 1 = op ∨ knownOpcode (entryNum e 0 1) = false) := by
  simp [State.submitted, Option.any_eq_true, and_assoc]

/-- Once taken, the ring is what it was but for its head. -/
theorem State.ringOf_popped {s : State} {r op : Nat} (h : s.submitted r op = true) :
    (s.setRing r (s.ringOf r).popped).ringOf r = (s.ringOf r).popped := by
  obtain ⟨-, hst, -⟩ := submitted_iff.1 h
  have hne : (s.ringOf r).popped ≠ {} := Ring.ne_default_of_st (by
    change (s.ringOf r).st ≠ .free
    rw [hst]
    decide)
  rw [State.ringOf_setRing hne, if_pos rfl]

section
variable {s : State} {r op feature : Nat} {e : Bytes} {f : State → Bytes → State}

theorem State.submission_stale (he : (s.ringOf r).head.bytes = some e)
    (hgen : entryNum e 3 1 ≠ (s.ringOf r).gen.toNat) :
    s.submission r op feature f =
      ((s.setRing r (s.ringOf r).popped).onFw fun w => { w with stale := tally w.stale }).ioRun false
        (((s.setRing r (s.ringOf r).popped).onFw fun w => { w with stale := tally w.stale }).pageOps 0x83C
          (leBytes 4 (tally s.fw.stale))) := by
  simp only [State.submission, he, Option.getD_some, if_pos hgen]
  rfl

theorem State.submission_denied (he : (s.ringOf r).head.bytes = some e) (hgen : entryNum e 3 1 = (s.ringOf r).gen.toNat)
    (hgood : s.entryGood r e op feature = false) :
    s.submission r op feature f = (s.setRing r (s.ringOf r).popped).complete r e .deniedAttr [] := by
  simp only [State.submission, he, Option.getD_some, hgood, if_neg (not_not.2 hgen)]
  rfl

theorem State.submission_bad (he : (s.ringOf r).head = .bad e) (hgen : entryNum e 3 1 = (s.ringOf r).gen.toNat)
    (hgood : s.entryGood r e op feature = true) :
    s.submission r op feature f = (s.setRing r (s.ringOf r).popped).complete r e .integrity [] := by
  have he' : (s.ringOf r).head.bytes = some e := by rw [he]; rfl
  simp only [State.submission, he', Option.getD_some, hgood, if_neg (not_not.2 hgen), if_pos he]
  rfl

theorem State.submission_taken (he : (s.ringOf r).head = .whole e) (hgen : entryNum e 3 1 = (s.ringOf r).gen.toNat)
    (hgood : s.entryGood r e op feature = true) :
    s.submission r op feature f = f (s.setRing r (s.ringOf r).popped) e := by
  have he' : (s.ringOf r).head.bytes = some e := by rw [he]; rfl
  have hbad : ¬ (s.ringOf r).head = .bad e := by rw [he]; exact fun h => nomatch h
  simp only [State.submission, he', Option.getD_some, hgood, if_neg (not_not.2 hgen), if_neg hbad]
  rfl

end

/-- What makes a submission good. -/
theorem entryGood_iff {s : State} {r op feature : Nat} {e : Bytes} : s.entryGood r e op feature = true ↔
    entryNum e 2 1 = (s.ringOf r).part.toNat ∧ entryNum e 0 1 = op ∧ s.feature feature = true ∧
      entryReserved e = false := by
  simp [State.entryGood, and_assoc]

theorem entryGood_eq_false {s : State} {r op feature : Nat} {e : Bytes}
    (h : entryNum e 2 1 ≠ (s.ringOf r).part.toNat ∨ entryNum e 0 1 ≠ op ∨ s.feature feature = false ∨
      entryReserved e = true) : s.entryGood r e op feature = false := by
  rw [← Bool.not_eq_true, entryGood_iff]
  rintro ⟨hpart, hop, hfeature, hrsv⟩
  rcases h with h | h | h | h
  · exact h hpart
  · exact h hop
  · exact absurd (h.symm.trans hfeature) (by decide)
  · exact absurd (h.symm.trans hrsv) (by decide)

/-! ### The rows of R487 -/

/-- What JOB_STEP does with its submission. -/
def State.stepRow (r : Nat) (ws : List (BitVec 12)) (s : State) (e : Bytes) : State :=
  (s.jobStep r e ws).1.complete r e (s.jobStep r e ws).2 []

/-- What STREAM_OPEN does with its submission. -/
def State.openRow (r : Nat) (s : State) (e : Bytes) : State :=
  if !s.d3Serves then (s.dimEnd 4).complete r e .busy []
  else (s.ringOpen e (s.ringOf r).part).complete r e (s.ringOpen e (s.ringOf r).part).sme.blkC.code []

/-- The stream of another partition that STREAM_RESULT names. -/
def State.resultForeign (s : State) (r : Nat) (e : Bytes) : Bool :=
  let z := s.stream (BitVec.ofNat 12 (entryNum e 8 2))
  z.st != .free && z.part != (s.ringOf r).part

/-- What STREAM_RESULT does with its submission, for the stream `z` that it names. -/
def State.resultRow (r : Nat) (foreign : Bool) (z : Stream) (s : State) (e : Bytes) : State :=
  if foreign then s.complete r e .deniedAttr [] else s.complete r e .done [z.outcome.byte, z.gen]

/-- COPY moves its bytes through a HOSTBUS endpoint of the partition. -/
def State.copyWired (s : State) (r : Nat) (e : Bytes) : Bool :=
  let x := s.endpoint (BitVec.ofNat 12 (entryNum e 0x20 2))
  x.present && x.part == (s.ringOf r).part && x.kind == usageHostbus

/-- What COPY does with its submission. -/
def State.copyRow (r : Nat) (s : State) (e : Bytes) : State :=
  if s.copyWired r e then
    (s.emit (.wireCopy (s.ringOf r).part (BitVec.ofNat 12 (entryNum e 0x20 2)) (entryNum e 8 8) (entryNum e 0x10 8)
      (entryNum e 0x18 8))).complete r e .done []
  else s.complete r e .deniedAttr []

section
variable {s : State} {ring : BitVec 6}

theorem execRingNop_due (h : s.submitted ring.toNat 1 = true) :
    execRingNop ring s = .next (s.quiet.submission ring.toNat 1 0 fun s e => s.complete ring.toNat e .done []) := by
  rw [execRingNop, ranIf_due h]

theorem execJobStep_due (h : s.submitted ring.toNat 2 = true) (ws : List (BitVec 12)) :
    execJobStep ring ws s = .next (s.quiet.submission ring.toNat 2 0 (State.stepRow ring.toNat ws)) := by
  rw [execJobStep, ranIf_due h]
  rfl

theorem execRingStreamOpen_due (h : s.submitted ring.toNat 3 = true)
    (hfree : s.sme.run = none ∧ s.sme.waitS = none ∧ s.sme.waitC = none) :
    execRingStreamOpen ring s = .next (s.quiet.submission ring.toNat 3 1 (State.openRow ring.toNat)) := by
  obtain ⟨hrun, hs, hc⟩ := hfree
  have hdue : (s.submitted ring.toNat 3 && s.sme.run.isNone && s.sme.waitS.isNone && s.sme.waitC.isNone) = true := by
    rw [h, hrun, hs, hc]
    rfl
  rw [execRingStreamOpen, ranIf_due hdue]
  rfl

theorem execRingStreamResult_due {e : Bytes} (h : s.submitted ring.toNat 4 = true)
    (he : (s.ringOf ring.toNat).head.bytes = some e)
    (hdue : (s.stream (BitVec.ofNat 12 (entryNum e 8 2))).st = .closed ∨ s.resultForeign ring.toNat e = true ∨
      entryNum e 3 1 ≠ (s.ringOf ring.toNat).gen.toNat ∨ s.entryGood ring.toNat e 4 1 = false) :
    execRingStreamResult ring s = .next (s.quiet.submission ring.toNat 4 1 (State.resultRow ring.toNat
      (s.resultForeign ring.toNat e) (s.stream (BitVec.ofNat 12 (entryNum e 8 2))))) := by
  unfold execRingStreamResult
  simp only [he, Option.getD_some]
  refine ranIf_due ?_
  rw [h]
  rcases hdue with hd | hd | hd | hd
  · simp [hd]
  · rw [State.resultForeign] at hd
    rw [hd]
    simp
  · simp [hd]
  · simp [hd]

theorem execRingCopy_due (h : s.submitted ring.toNat 5 = true) :
    execRingCopy ring s = .next (s.quiet.submission ring.toNat 5 0 (State.copyRow ring.toNat)) := by
  rw [execRingCopy, ranIf_due h]
  rfl

end

/-! ### What a row does once its submission is taken -/

section
variable {s : State} {r : Nat} {e : Bytes} {p : PartId}

theorem State.stepRow_alone (hp : (s.ringOf r).part = p) : s.stepRow r [] e =
    ((s.onFw fun f => { f with jobs := s.fw.jobs.filter fun j => j.ring != r }).emit
      (.jobStep p (entryNum e 8 8) (entryNum e 0x10 8) [] 0)).complete r e .done [] := by
  subst hp
  rfl

/-- A step whose workers share no level is refused. -/
theorem State.stepRow_refused {ws : List (BitVec 12)} (hws : ws ≠ []) (hl : s.spanLevel ws = none) :
    s.stepRow r ws e =
      (s.onFw fun f => { f with jobs := s.fw.jobs.filter fun j => j.ring != r }).complete r e .version [] := by
  have hl' : (s.onFw fun f => { f with jobs := f.jobs.filter fun j => j.ring != r }).spanLevel ws = none := hl
  have hempty : ¬ ws.isEmpty = true := by simpa using hws
  rw [State.stepRow, State.jobStep]
  simp only [if_neg hempty, hl']
  rfl

/-- A step over workers is scheduled at their level. -/
theorem State.stepRow_spans {ws : List (BitVec 12)} {n : Nat} (hp : (s.ringOf r).part = p) (hws : ws ≠ [])
    (hl : s.spanLevel ws = some n) : s.stepRow r ws e =
      ((s.onFw fun f => { f with jobs := (s.fw.jobs.filter fun j => j.ring != r) ++
        [{ ring := r, workers := ws, level := n }] }).emit
          (.jobStep p (entryNum e 8 8) (entryNum e 0x10 8) ws n)).complete r e .done [] := by
  subst hp
  have hl' : (s.onFw fun f => { f with jobs := f.jobs.filter fun j => j.ring != r }).spanLevel ws = some n := hl
  have hempty : ¬ ws.isEmpty = true := by simpa using hws
  rw [State.stepRow, State.jobStep]
  simp only [if_neg hempty, hl']
  rfl

theorem State.copyRow_wired (hp : (s.ringOf r).part = p) (h : s.copyWired r e = true) : s.copyRow r e =
    (s.emit (.wireCopy p (BitVec.ofNat 12 (entryNum e 0x20 2)) (entryNum e 8 8) (entryNum e 0x10 8)
      (entryNum e 0x18 8))).complete r e .done [] := by
  subst hp
  exact if_pos h

theorem State.copyRow_denied (h : ¬ s.copyWired r e = true) : s.copyRow r e = s.complete r e .deniedAttr [] := if_neg h

theorem copyWired_iff (hp : (s.ringOf r).part = p) : s.copyWired r e = true ↔
    (s.endpoint (BitVec.ofNat 12 (entryNum e 0x20 2))).present = true ∧
      (s.endpoint (BitVec.ofNat 12 (entryNum e 0x20 2))).part = p ∧
      (s.endpoint (BitVec.ofNat 12 (entryNum e 0x20 2))).kind = usageHostbus := by
  subst hp
  simp [State.copyWired, and_assoc]

theorem State.openRow_serves (hp : (s.ringOf r).part = p) (h : s.d3Serves = true) :
    s.openRow r e = (s.ringOpen e p).complete r e (s.ringOpen e p).sme.blkC.code [] := by
  subst hp
  exact if_neg (by rw [h]; decide)

/-- While D3 does not serve, STREAM_OPEN is answered BUSY and ends DIM. -/
theorem State.openRow_busy (h : s.d3Serves = false) : s.openRow r e = (s.dimEnd 4).complete r e .busy [] :=
  if_pos (by rw [h]; decide)

end

/-! ### Reading the rings -/

theorem State.nextRing_spec {s : State} {r : Nat} (h : s.nextRing = some r) : s.ringDue r = true ∧ r < 64 := by
  refine ⟨List.find?_some h, ?_⟩
  obtain ⟨k, -, rfl⟩ := List.mem_map.1 (List.mem_of_find?_eq_some h)
  exact Nat.mod_lt _ (by decide)

/-- The next ring taken up: its pending bit cleared, its control block to be read. -/
def State.takeUp (s : State) (r : Nat) : State :=
  (((s.setRing r { s.ringOf r with rung := true }).onMbx fun x =>
    { x with ringPend := x.ringPend &&& ~~~ (1#64 <<< r) }).onFw fun w => { w with turn := (r + 1) % 64 })

theorem State.lookNext_ring {s : State} {r : Nat} (hfree : s.mainFree = true) (hlook : s.fw.look = none)
    (hroom : s.mpRoom = true) (hgate : s.gateBound s.coreCtx = false) (hacc : s.acceptWaits = false)
    (hnext : s.nextRing = some r) : s.lookNext = State.lookAt ((s.onFw fun w => { w with page := none }).takeUp r)
      (.block r (s.ringOf r).gen) (s.ringBlock r) 1 := by
  let u : State := s.onFw fun w => { w with page := none }
  have hu : s.lookNext = if !u.mainFree || u.fw.look.isSome || !u.mpRoom || u.gateBound u.coreCtx then u
      else if u.acceptWaits && u.fw.page.isNone then u.lookAt .page (u.fw.area + 0x400) 16
      else match u.nextRing with
        | none => u
        | some r => (u.takeUp r).lookAt (.block r (u.ringOf r).gen) (u.ringBlock r) 1 := by
    rw [State.lookNext, if_neg (ne_true_of_eq_false hacc)]
    rfl
  have hbusy : (!u.mainFree || u.fw.look.isSome || !u.mpRoom || u.gateBound u.coreCtx) = false := by
    have hfree' : u.mainFree = true := hfree
    have hlook' : u.fw.look = none := hlook
    have hroom' : u.mpRoom = true := hroom
    have hgate' : u.gateBound u.coreCtx = false := hgate
    rw [hfree', hlook', hroom', hgate']
    rfl
  have hacc' : u.acceptWaits = false := hacc
  have hnext' : u.nextRing = some r := hnext
  rw [hu, if_neg (ne_true_of_eq_false hbusy), hacc', hnext']
  rfl

theorem bit_cleared {v : BitVec 64} {r : Nat} (h : r < 64) : bit ((v &&& ~~~ (1#64 <<< r)) >>> r) 0 = false := by
  simp [bit, h]

theorem State.lookAt_spec (s : State) (x : FwRead) (addr beats : Nat) :
    (s.lookAt x addr beats).fw.look = some x ∧ (s.lookAt x addr beats).mbx = s.mbx ∧
      .mp s.mpTag false (addr % 2 ^ 48) beats 0 s.coreCtx [] ∈ (s.lookAt x addr beats).outs :=
  ⟨rfl, rfl, List.mem_append_right _ List.mem_cons_self⟩

theorem State.takeUp_spec (s : State) (r : Nat) :
    (s.takeUp r).mbx.ringPend = s.mbx.ringPend &&& ~~~ (1#64 <<< r) ∧ (s.takeUp r).mpTag = s.mpTag ∧
      (s.takeUp r).coreCtx = s.coreCtx :=
  ⟨rfl, rfl, rfl⟩

/-- The control block of a rung ring is read with partition 0 and the context of TOP_MP_CTX. -/
theorem State.lookNext_spec {s : State} {r : Nat} (hfree : s.mainFree = true) (hlook : s.fw.look = none)
    (hroom : s.mpRoom = true) (hgate : s.gateBound s.coreCtx = false) (hacc : s.acceptWaits = false)
    (hnext : s.nextRing = some r) :
    s.lookNext.fw.look = some (.block r (s.ringOf r).gen) ∧
      (s.ringDue r = true ∧ bit (s.lookNext.mbx.ringPend >>> r) 0 = false) ∧
      .mp s.mpTag false ((s.fw.area + 0x1000 + 64 * r) % 2 ^ 48) 1 0 (fld (s.reg .topMpCtx) 0 12) [] ∈
        s.lookNext.outs := by
  obtain ⟨hdue, hr⟩ := State.nextRing_spec hnext
  obtain ⟨hring, htag, hctx⟩ := (s.onFw fun w => { w with page := none }).takeUp_spec r
  obtain ⟨hl, hm, ho⟩ := ((s.onFw fun w => { w with page := none }).takeUp r).lookAt_spec
    (.block r (s.ringOf r).gen) (s.ringBlock r) 1
  rw [State.lookNext_ring hfree hlook hroom hgate hacc hnext, hm, hring]
  rw [htag, hctx] at ho
  exact ⟨hl, ⟨hdue, bit_cleared hr⟩, ho⟩

end Sys2Proof.Machine
end

section
/-!
PROOFS. The driver gone (R488), and the whole of the host driver's use of MBX0 and the rings (R478 to R489).
-/
namespace Sys2Proof.Machine

/-! ### What stays queued -/

/-- An act at the head of the queue leaves what is queued behind it. -/
theorem State.ioStep_io {s : State} {g : FwIo} {rest : List FwIo} (hio : s.fw.io = g :: rest) :
    ∃ l, s.ioStep.fw.io = l ++ rest := by
  have hhead (h : FwIo) : (s.ioHead h).fw.io = [h] ++ rest := by
    change h :: s.fw.io.drop 1 = _
    rw [hio]
    rfl
  have hkept : s.fw.io = [g] ++ rest := hio
  unfold State.ioStep
  rw [hio]
  simp only
  have hdone := hhead { g with ops := g.ops.drop 1 }
  generalize s.ioHead { g with ops := g.ops.drop 1 } = done at hdone ⊢
  split
  · exact ⟨[], rfl⟩
  · split
    · exact ⟨_, hkept⟩
    · split
      · exact ⟨_, hdone⟩
      · unfold State.ioWrite State.ioFail
        rw [hio]
        simp only
        repeat' split
        · exact ⟨_, hhead _⟩
        all_goals exact ⟨_, hkept⟩
  · split
    · exact ⟨_, hdone⟩
    · split
      · rw [State.ring_quiet fun h => absurd h (by decide)]
        exact ⟨_, hdone⟩
      · exact ⟨_, hkept⟩
  · split
    · exact ⟨_, hdone⟩
    · split
      · exact ⟨_, hdone⟩
      · exact ⟨_, hkept⟩
    · split
      · exact ⟨_, hdone⟩
      · exact ⟨_, hkept⟩

/-- Operation `g`, whose bytes can be written, stands last in the queue. -/
def State.QueuedLast (s : State) (g : FwIo) : Prop :=
  s.gateBound s.coreCtx = false ∧ ∃ l, s.fw.io = l ++ [g]

theorem gateBound_of_unqueued {s t : State} (h : t.unqueued = s.unqueued) :
    t.gateBound t.coreCtx = s.gateBound s.coreCtx := by
  have hbound : t.unqueued.gateBound t.unqueued.coreCtx = s.unqueued.gateBound s.unqueued.coreCtx := by rw [h]
  exact hbound

/-- What begins with a write stays queued until the write is acknowledged. -/
theorem State.QueuedLast.ioStep {s : State} {g : FwIo} {a : Nat} {d : Bytes} {ops : List FwOp}
    (hops : g.ops = .write a d :: ops) (hd : d.isEmpty = false) (hbad : g.bad = none) (h : s.QueuedLast g) :
    s.ioStep.QueuedLast g := by
  obtain ⟨hgate, l, hl⟩ := h
  refine ⟨(gateBound_of_unqueued s.ioStep_unqueued).trans hgate, ?_⟩
  cases l with
  | nil =>
    have hio : s.fw.io = [g] := hl
    refine ⟨[], ?_⟩
    unfold State.ioStep
    rw [hio]
    simp only [hops, hd, hbad, Option.isSome_none, Bool.or_self, State.ioWrite, hgate, Bool.false_eq_true, if_false]
    repeat' split
    all_goals exact hio
  | cons b l =>
    obtain ⟨l', hl'⟩ := State.ioStep_io (s := s) hl
    exact ⟨l' ++ l, hl'.trans (List.append_assoc ..).symm⟩

theorem State.QueuedLast.ioGo {s : State} {g : FwIo} {a : Nat} {d : Bytes} {ops : List FwOp}
    (hops : g.ops = .write a d :: ops) (hd : d.isEmpty = false) (hbad : g.bad = none) (h : s.QueuedLast g) :
    s.ioGo.QueuedLast g := by
  have hfold (l : List Nat) (s : State) (h : s.QueuedLast g) : (l.foldl (fun s _ => s.ioStep) s).QueuedLast g := by
    induction l generalizing s with
    | nil => exact h
    | cons _ l ih => exact ih _ (h.ioStep hops hd hbad)
  exact hfold _ s h

/-- An operation that begins with a write stays queued. -/
theorem State.ioRun_queued {s : State} {sec : Bool} {a : Nat} {d : Bytes} {ops : List FwOp}
    (hgate : s.gateBound s.coreCtx = false) (hd : d.isEmpty = false) :
    ⟨sec, .write a d :: ops, none⟩ ∈ (s.ioRun sec (.write a d :: ops)).fw.io := by
  have hlast : (s.onFw fun w => { w with io := w.io ++ [⟨sec, .write a d :: ops, none⟩] }).QueuedLast
      ⟨sec, .write a d :: ops, none⟩ := ⟨hgate, s.fw.io, rfl⟩
  obtain ⟨-, l, hl⟩ := hlast.ioGo rfl hd rfl
  rw [State.ioRun, hl]
  exact List.mem_append_right _ List.mem_cons_self

/-! ### Rings parked -/

/-- A RUNNING ring parked, its control block written. -/
def State.parkRing (s : State) (r : Nat) : State :=
  if (s.ringOf r).st = .running then
    let u := s.setRing r { s.ringOf r with st := .parked, head := .none }
    u.ioRun false (u.blockOps r)
  else s

/-- The state without the rings either. -/
def State.unringed (s : State) : State := State.unqueued (s.onFw fun w => { w with rings := [] })

theorem State.unringed_of_unqueued {s t : State} (h : t.unqueued = s.unqueued) : t.unringed = s.unringed := by
  have hrest : t.unqueued.unringed = s.unqueued.unringed := by rw [h]
  exact hrest

theorem State.setRing_unringed (s : State) (r : Nat) (v : Ring) : (s.setRing r v).unringed = s.unringed := rfl

theorem State.parkRing_unringed (s : State) (r : Nat) : (s.parkRing r).unringed = s.unringed := by
  unfold State.parkRing
  split
  · exact (State.unringed_of_unqueued (State.ioRun_unqueued ..)).trans (s.setRing_unringed ..)
  · rfl

theorem State.ringOf_of_unqueued {s t : State} (h : t.unqueued = s.unqueued) (k : Nat) : t.ringOf k = s.ringOf k := by
  have hring : t.unqueued.ringOf k = s.unqueued.ringOf k := by rw [h]
  exact hring

/-- Where a ring is parked, no other begins to run. -/
theorem State.parkRing_idle (s : State) {r k : Nat} (h : k = r ∨ (s.ringOf k).st ≠ .running) :
    ((s.parkRing r).ringOf k).st ≠ .running := by
  unfold State.parkRing
  split
  · have hne : ({ s.ringOf r with st := .parked, head := .none } : Ring) ≠ {} :=
      Ring.ne_default_of_st fun h : RingState.parked = .free => nomatch h
    rw [State.ringOf_of_unqueued (State.ioRun_unqueued ..), State.ringOf_setRing hne]
    split
    · exact fun h => nomatch h
    · next hk => exact h.resolve_left hk
  · next hr =>
    rcases h with rfl | h
    · exact hr
    · exact h

theorem State.parkRings_spec (s : State) :
    s.parkRings.unringed = s.unringed ∧ ∀ r, r < 64 → (s.parkRings.ringOf r).st ≠ .running := by
  have hfold (l : List Nat) (s : State) : (l.foldl State.parkRing s).unringed = s.unringed ∧
      ∀ k, (k ∈ l ∨ (s.ringOf k).st ≠ .running) → ((l.foldl State.parkRing s).ringOf k).st ≠ .running := by
    induction l generalizing s with
    | nil => exact ⟨rfl, fun k h => h.resolve_left List.not_mem_nil⟩
    | cons r l ih =>
      obtain ⟨hrest, hidle⟩ := ih (s.parkRing r)
      refine ⟨hrest.trans (s.parkRing_unringed r), fun k hk => hidle k ?_⟩
      rcases hk with hk | hk
      · rcases List.mem_cons.1 hk with h | h
        · exact .inr (s.parkRing_idle (.inl h))
        · exact .inl h
      · exact .inr (s.parkRing_idle (.inr hk))
  obtain ⟨hrest, hidle⟩ := hfold (List.range 64) s
  exact ⟨hrest, fun r hr => hidle r (.inl (List.mem_range.2 hr))⟩

/-! ### A new offer -/

theorem State.capOffer_unqueued (s : State) :
    s.capOffer.unqueued = (s.capPrepare s.fw.area (s.fw.capgen + 1)).unqueued := State.ioRun_unqueued ..

/-- The new offer waits behind the pages that the firmware writes for it. -/
theorem State.capOffer_queued {s : State} (hgate : s.gateBound s.coreCtx = false) :
    ∃ g ∈ s.capOffer.fw.io, FwOp.post [1, BitVec.ofNat 32 s.fw.area, BitVec.ofNat 32 (s.fw.area / 2 ^ 32),
      (s.fw.capgen + 1).setWidth 32] none ∈ g.ops := by
  refine ⟨_, State.ioRun_queued (s := s.capPrepare s.fw.area (s.fw.capgen + 1)) hgate ?_, ?_⟩
  · exact List.isEmpty_eq_false_iff.2 (List.append_ne_nil_of_right_ne_nil _
      (List.length_pos_iff.1 (by rw [List.length_replicate]; decide)))
  · exact List.mem_cons_of_mem _ (List.mem_cons_of_mem _ List.mem_cons_self)

theorem State.capOffer_spec (s : State) :
    s.capOffer.fw.capgen = s.fw.capgen + 1 ∧ s.capOffer.fw.offered = true ∧ s.capOffer.fw.capActive = false ∧
      s.capOffer.fw.hostReset = s.fw.hostReset ∧ s.capOffer.fw.unanswered = true ∧
      ∀ r, s.capOffer.ringOf r = s.ringOf r := by
  have h := s.capOffer_unqueued
  exact ⟨congrArg (·.fw.capgen) h, congrArg (·.fw.offered) h, congrArg (·.fw.capActive) h,
    congrArg (·.fw.hostReset) h, congrArg (·.fw.unanswered) h, fun r => State.ringOf_of_unqueued h r⟩

theorem gateBound_of_unringed {s t : State} (h : t.unringed = s.unringed) :
    t.gateBound t.coreCtx = s.gateBound s.coreCtx := by
  have hbound : t.unringed.gateBound t.unringed.coreCtx = s.unringed.gateBound s.unringed.coreCtx := by rw [h]
  exact hbound

theorem fw_of_unringed {s t : State} (h : t.unringed = s.unringed) :
    t.fw.capgen = s.fw.capgen ∧ t.fw.area = s.fw.area ∧ t.fw.hostReset = s.fw.hostReset :=
  ⟨congrArg (·.fw.capgen) h, congrArg (·.fw.area) h, congrArg (·.fw.hostReset) h⟩

/-- The driver's reset noted as seen. -/
def State.resetSeen (s : State) : State := s.onFw fun w => { w with hostReset := false }

theorem State.resetSeen_parked (s : State) :
    s.resetSeen.parkRings.fw.capgen = s.fw.capgen ∧ s.resetSeen.parkRings.fw.area = s.fw.area ∧
      s.resetSeen.parkRings.fw.hostReset = false ∧
      s.resetSeen.parkRings.gateBound s.resetSeen.parkRings.coreCtx = s.gateBound s.coreCtx := by
  obtain ⟨hrest, -⟩ := s.resetSeen.parkRings_spec
  obtain ⟨hgen, harea, hreset⟩ := fw_of_unringed hrest
  exact ⟨hgen, harea, hreset, gateBound_of_unringed (s := s.resetSeen) hrest⟩

/-- A driver gone: every ring parked, and a new offer of the next generation. -/
theorem State.driverGone_spec (s : State) :
    let t := s.resetSeen.parkRings.capOffer
    t.fw.capgen = s.fw.capgen + 1 ∧ t.fw.offered = true ∧ t.fw.capActive = false ∧ t.fw.hostReset = false ∧
      t.fw.unanswered = true ∧ (∀ r, r < 64 → (t.ringOf r).st ≠ .running) ∧
      (s.gateBound s.coreCtx = false → ∃ g ∈ t.fw.io, FwOp.post [1, BitVec.ofNat 32 s.fw.area,
        BitVec.ofNat 32 (s.fw.area / 2 ^ 32), (s.fw.capgen + 1).setWidth 32] none ∈ g.ops) := by
  obtain ⟨-, hidle⟩ := s.resetSeen.parkRings_spec
  obtain ⟨hgen, harea, hreset, hbound⟩ := s.resetSeen_parked
  obtain ⟨hnext, hoffered, hactive, hkept, hopen, hrings⟩ := s.resetSeen.parkRings.capOffer_spec
  rw [hgen] at hnext
  refine ⟨hnext, hoffered, hactive, hkept.trans hreset, hopen, fun r hr => ?_, fun hgate => ?_⟩
  · rw [hrings]
    exact hidle r hr
  · rw [← hgen, ← harea]
    exact State.capOffer_queued (hbound.trans hgate)

theorem execDriverGone_due {s : State} {why : GoneCause} (hfree : s.mainFree = true) (hgone : s.driverGone why = true)
    (hfull : (s.mslot 1).full = false) : execDriverGone why s =
      .next s.quiet.resetSeen.parkRings.capOffer := by
  rw [execDriverGone, ranIf_due (by rw [hfree, hgone, hfull]; rfl)]
  rfl

/-! ### The rows as they are due -/

section
variable {s : State} {ring : BitVec 6} {e : Bytes}

/-- Each row of R487 takes its submission by `submission`, also where the submission cannot be good. -/
theorem ringRow_due {ws : List (BitVec 12)} {y : Nat × Nat × Instr}
    (hy : y ∈ [(1, 0, Instr.ringNop ring), (2, 0, .jobStep ring ws), (3, 1, .ringStreamOpen ring),
      (4, 1, .ringStreamResult ring), (5, 0, .ringCopy ring)])
    (hsub : s.submitted ring.toNat y.1 = true)
    (hfree : y.1 = 3 → s.sme.run = none ∧ s.sme.waitS = none ∧ s.sme.waitC = none)
    (he : (s.ringOf ring.toNat).head.bytes = some e)
    (hunfit : entryNum e 3 1 ≠ (s.ringOf ring.toNat).gen.toNat ∨ s.entryGood ring.toNat e y.1 y.2.1 = false) :
    ∃ f, exec y.2.2 s = .next (s.quiet.submission ring.toNat y.1 y.2.1 f) := by
  simp only [List.mem_cons, List.not_mem_nil, or_false] at hy
  rcases hy with rfl | rfl | rfl | rfl | rfl
  · exact ⟨_, execRingNop_due hsub⟩
  · exact ⟨_, execJobStep_due hsub ws⟩
  · exact ⟨_, execRingStreamOpen_due hsub (hfree rfl)⟩
  · exact ⟨_, execRingStreamResult_due hsub he (.inr (.inr hunfit))⟩
  · exact ⟨_, execRingCopy_due hsub⟩

end

section
variable {s : State} {ring : BitVec 6} {e : Bytes} {ws : List (BitVec 12)}

/-- A submission of another GEN is dropped and counted; one that R485 to R487 refuse completes with DENIED_ATTR. -/
theorem ringRow_unfit {y : Nat × Nat × Instr}
    (hy : y ∈ [(1, 0, Instr.ringNop ring), (2, 0, .jobStep ring ws), (3, 1, .ringStreamOpen ring),
      (4, 1, .ringStreamResult ring), (5, 0, .ringCopy ring)])
    (hsub : s.submitted ring.toNat y.1 = true)
    (hfree : y.1 = 3 → s.sme.run = none ∧ s.sme.waitS = none ∧ s.sme.waitC = none)
    (he : (s.ringOf ring.toNat).head = .whole e) :
    let s1 := s.quiet.setRing ring.toNat (s.ringOf ring.toNat).popped
    let s2 := s1.onFw fun f => { f with stale := tally f.stale }
    (entryNum e 3 1 ≠ (s.ringOf ring.toNat).gen.toNat →
      exec y.2.2 s = .next (s2.ioRun false (s2.pageOps 0x83C (leBytes 4 (tally s.fw.stale))))) ∧
    (entryNum e 3 1 = (s.ringOf ring.toNat).gen.toNat → (entryNum e 2 1 ≠ (s.ringOf ring.toNat).part.toNat ∨
      entryNum e 0 1 ≠ y.1 ∨ s.feature y.2.1 = false ∨ entryReserved e = true) →
        exec y.2.2 s = .next (s1.complete ring.toNat e .deniedAttr [])) := by
  have hbytes : (s.ringOf ring.toNat).head.bytes = some e := by rw [he]; rfl
  refine ⟨fun hgen => ?_, fun hgen hbad => ?_⟩
  · obtain ⟨f, hf⟩ := ringRow_due hy hsub hfree hbytes (.inl hgen)
    rw [hf]
    exact congrArg _ (State.submission_stale (s := s.quiet) hbytes hgen)
  · have hgood := entryGood_eq_false hbad
    obtain ⟨f, hf⟩ := ringRow_due hy hsub hfree hbytes (.inr hgood)
    rw [hf]
    exact congrArg _ (State.submission_denied (s := s.quiet) hbytes hgen hgood)

end

/-- A good submission at the head of ring `r`, for the row of `op`. -/
structure State.GoodHead (s : State) (r op feature : Nat) (e : Bytes) : Prop where
  submitted : s.submitted r op = true
  whole : (s.ringOf r).head = .whole e
  gen : entryNum e 3 1 = (s.ringOf r).gen.toNat
  good : s.entryGood r e op feature = true

section
variable {s : State} {r op feature : Nat} {e : Bytes} {f : State → Bytes → State}

theorem State.GoodHead.taken (h : s.GoodHead r op feature e) :
    s.quiet.submission r op feature f = f (s.quiet.setRing r (s.ringOf r).popped) e :=
  State.submission_taken (s := s.quiet) h.whole h.gen h.good

theorem State.GoodHead.part (h : s.GoodHead r op feature e) :
    ((s.quiet.setRing r (s.ringOf r).popped).ringOf r).part = (s.ringOf r).part := by
  have hring := State.ringOf_popped (s := s.quiet) h.submitted
  exact (congrArg Ring.part hring).trans rfl

end

section
variable {s : State} {ring : BitVec 6} {e : Bytes}

theorem jobStep_rows (h : s.GoodHead ring.toNat 2 0 e) (ws : List (BitVec 12)) :
    let v := s.ringOf ring.toNat
    let s1 := s.quiet.setRing ring.toNat v.popped
    let left := s.fw.jobs.filter fun j => j.ring != ring.toNat
    let out (n : Nat) : Out := .jobStep v.part (entryNum e 8 8) (entryNum e 0x10 8) ws n
    (ws = [] → execJobStep ring ws s = .next
      (((s1.onFw fun f => { f with jobs := left }).emit (out 0)).complete ring.toNat e .done [])) ∧
    (ws ≠ [] → s.spanLevel ws = none → execJobStep ring ws s = .next
      ((s1.onFw fun f => { f with jobs := left }).complete ring.toNat e .version [])) ∧
    ∀ n, ws ≠ [] → s.spanLevel ws = some n → execJobStep ring ws s = .next
      (((s1.onFw fun f => { f with jobs := left ++ [{ ring := ring.toNat, workers := ws, level := n }] }).emit
        (out n)).complete ring.toNat e .done []) := by
  rw [execJobStep_due h.submitted, h.taken]
  refine ⟨fun hws => ?_, fun hws hl => ?_, fun n hws hl => ?_⟩
  · subst hws
    exact congrArg _ (State.stepRow_alone h.part)
  · exact congrArg _ (State.stepRow_refused hws hl)
  · exact congrArg _ (State.stepRow_spans h.part hws hl)

theorem ringCopy_rows (h : s.GoodHead ring.toNat 5 0 e) :
    let v := s.ringOf ring.toNat
    let s1 := s.quiet.setRing ring.toNat v.popped
    let i : EndpointId := BitVec.ofNat 12 (entryNum e 0x20 2)
    let p := s.endpoint i
    let wire := p.present = true ∧ p.part = v.part ∧ p.kind = usageHostbus
    (wire → execRingCopy ring s = .next
      ((s1.emit (.wireCopy v.part i (entryNum e 8 8) (entryNum e 0x10 8) (entryNum e 0x18 8))).complete ring.toNat e
        .done [])) ∧
    (¬wire → execRingCopy ring s = .next (s1.complete ring.toNat e .deniedAttr [])) := by
  have hiff := copyWired_iff (e := e) h.part
  rw [execRingCopy_due h.submitted, h.taken]
  exact ⟨fun hwire => congrArg _ (State.copyRow_wired h.part (hiff.2 hwire)),
    fun hwire => congrArg _ (State.copyRow_denied (mt hiff.1 hwire))⟩

theorem ringStreamOpen_rows (h : s.GoodHead ring.toNat 3 1 e)
    (hfree : s.sme.run = none ∧ s.sme.waitS = none ∧ s.sme.waitC = none) :
    let s1 := s.quiet.setRing ring.toNat (s.ringOf ring.toNat).popped
    let u := s1.ringOpen e (s.ringOf ring.toNat).part
    (s.d3Serves = true → execRingStreamOpen ring s = .next (u.complete ring.toNat e u.sme.blkC.code [])) ∧
    (s.d3Serves = false → execRingStreamOpen ring s = .next ((s1.dimEnd 4).complete ring.toNat e .busy [])) := by
  rw [execRingStreamOpen_due h.submitted hfree, h.taken]
  exact ⟨fun h3 => congrArg _ (State.openRow_serves h.part h3), fun h3 => congrArg _ (State.openRow_busy h3)⟩

theorem ringStreamResult_rows (h : s.GoodHead ring.toNat 4 1 e) :
    let s1 := s.quiet.setRing ring.toNat (s.ringOf ring.toNat).popped
    let z := s.stream (BitVec.ofNat 12 (entryNum e 8 2))
    (z.st = .closed → z.part = (s.ringOf ring.toNat).part →
      execRingStreamResult ring s = .next (s1.complete ring.toNat e .done [z.outcome.byte, z.gen])) ∧
    (z.st ≠ .free → z.part ≠ (s.ringOf ring.toNat).part →
      execRingStreamResult ring s = .next (s1.complete ring.toNat e .deniedAttr [])) := by
  have hbytes : (s.ringOf ring.toNat).head.bytes = some e := by rw [h.whole]; rfl
  refine ⟨fun hst hpart => ?_, fun hst hpart => ?_⟩
  · have hown : s.resultForeign ring.toNat e = false := by simp [State.resultForeign, hpart]
    rw [execRingStreamResult_due h.submitted hbytes (.inl hst), h.taken, hown]
    rfl
  · have hforeign : s.resultForeign ring.toNat e = true := by simp [State.resultForeign, hst, hpart]
    rw [execRingStreamResult_due h.submitted hbytes (.inr (.inl hforeign)), h.taken, hforeign]
    rfl

end

/-- Settles O51: the queue of the main firmware leaves alone what it answers about, and each submission is taken by one
rule. -/
theorem hostDriverNegotiatesAndUsesRings : Obligations.HostDriverNegotiatesAndUsesRings := by
  unfold Obligations.HostDriverNegotiatesAndUsesRings
  refine ⟨fun a s hfree x hx hm ht => ?_, fun page s hfree hm ht hpage => ?_, fun a s hfree hm ht => ?_,
    fun s hfree hm ht hwf => ?_, fun s hm hdue => ?_, fun b addr k s hio h6 hfull hslots => ?_,
    fun ws s hio h6 hfull hslots => ?_, fun s g l a d ops hio hops hout => State.ioGo_waits hio hops hout,
    fun s r hfree hlook hroom hgate hacc hnext => ⟨_, rfl, State.lookNext_spec hfree hlook hroom hgate hacc hnext⟩,
    fun ring ws e s => ?_, fun why s hfree hgone hfull => ?_⟩
  · have hserve : ∃ f, exec x.2 s = .next (s.quiet.serveType x.1 f) := by
      simp only [List.mem_cons, List.not_mem_nil, or_false] at hx
      rcases hx with rfl | rfl | rfl
      · exact ⟨_, execCapAccept_due hfree hm (.inl ht)⟩
      · exact ⟨_, execRingCreate_due hfree hm a⟩
      · exact ⟨_, execRingDestroy_due hfree hm⟩
    obtain ⟨f, hf⟩ := hserve
    rw [hf]
    exact ⟨fun h9 => congrArg _ (State.serveType_of_ne (s := s.quiet) h9 ht f),
      fun h9 => congrArg _ (State.serveType_of_error (s := s.quiet) h9 ht f)⟩
  · have hdue : execCapAccept s = .next (s.quiet.capAccept page) := by
      have hread : s.quiet.fw.page = some page := hpage
      rw [execCapAccept_due hfree hm (.inr (by rw [hpage]; rfl)), State.serveType_of_eq (s := s.quiet) ht, hread]
      rfl
    refine ⟨fun hc => ?_, _, hdue, ?_⟩
    · cases page with
      | none => cases hc
      | some p => exact capCode_done hc
    · by_cases hc : (if page.isNone then .integrity else s.capCode (page.getD [])) = Code.done
      · obtain ⟨hans, hpage, hspec⟩ := State.capAccept_done (s := s.quiet) hc
        exact ⟨hans, hpage, fun _ => hspec, fun h => absurd hc h⟩
      · obtain ⟨hans, hpage, hoffered, hactive, hlevel, hfeatures⟩ :=
          State.capAccept_refused_spec (s := s.quiet) (page := page) rfl hc
        exact ⟨hans, hpage, fun h => absurd h hc, fun _ => ⟨hoffered, hactive, hlevel, hfeatures, fun hio h6 hslots =>
          State.capAccept_refused_posted (s := s.quiet) rfl hc hio h6 (hostMsg_full hm) hslots⟩⟩
  · rw [show exec (.ringCreate a) s = _ from execRingCreate_due hfree hm a, State.serveType_of_eq (s := s.quiet) ht]
    refine ⟨fun hden => congrArg _ (if_pos hden), fun hok => ?_⟩
    have hmake : s.quiet.ringMake a = _ := if_neg (ne_true_of_eq_false hok)
    rw [hmake]
    exact ⟨_, rfl, rfl, State.ringPut_spec (s := s.quiet) 
      (Ring.ne_default_of_st fun h : RingState.running = .free => nomatch h)⟩
  · rw [show exec .ringDestroy s = _ from execRingDestroy_due hfree hm, State.serveType_of_eq (s := s.quiet) ht]
    have hiff : (s.quiet.msgReserved || fld (s.quiet.msgWord 0 1) 6 26 != 0) = true ↔
        s.msgReserved = true ∨ fld (s.msgWord 0 1) 6 26 ≠ 0 := by
      rw [Bool.or_eq_true_iff, bne_iff_ne]
      rfl
    refine ⟨fun hrsv => congrArg _ (if_pos (hiff.2 hrsv)), fun hok => ?_⟩
    have hend : s.quiet.ringEnd = _ := if_neg (mt hiff.1 hok)
    rw [hend]
    refine ⟨_, rfl, rfl, ?_⟩
    rw [State.ringOf, State.ringPut_rings]
    exact Sparse.get_put hwf
  · have hexec : exec .hostReport s = _ := execHostReport_due hm hdue
    rw [hexec]
    refine ⟨fun ht hok => ?_, fun ht hrsv => ?_, fun ht h9 => congrArg _ (State.serveType_of_ne (s := s.quiet) h9 ht _)⟩
    · rw [State.serveType_of_eq (s := s.quiet) ht]
      exact congrArg _ (if_neg (ne_true_of_eq_false hok))
    · rw [State.serveType_of_eq (s := s.quiet) ht]
      exact congrArg _ (if_pos hrsv)
  · have hrun : s.hostReported b addr k 0 = s.ioRun (b == .s) [.post [8, k.byte.setWidth 32, 0] (some (1, 0))] := by
      cases b <;> rfl
    obtain ⟨-, h1, -, hmsg, -⟩ := State.ioRun_posted hio h6 hfull hslots (b == .s)
      [8, k.byte.setWidth 32, 0] (some (1, 0))
    rw [hrun]
    exact ⟨h1, by rw [hmsg]; rfl⟩
  · obtain ⟨h0, h1, hlen, hmsg, hend⟩ := State.reply_posted hio h6 hfull hslots ws
    exact ⟨_, rfl, h0, h1, hlen, by rw [hmsg, List.take_left], hend⟩
  · refine ⟨fun he hsub hgen hgood => ?_, fun he => ⟨fun y hy hsub hfree => ringRow_unfit hy hsub hfree he,
      fun hgen hpart hrsv => ?_⟩⟩
    · have hexec : exec (.jobStep ring ws) s = _ := execJobStep_due hsub ws
      rw [hexec]
      exact congrArg _ (State.submission_bad (s := s.quiet) he hgen hgood)
    have hhead {op feature : Nat} (hf : s.feature feature = true) (hsub : s.submitted ring.toNat op = true)
        (hop : entryNum e 0 1 = op) : s.GoodHead ring.toNat op feature e :=
      ⟨hsub, he, hgen, entryGood_iff.2 ⟨hpart, hop, hf, hrsv⟩⟩
    refine ⟨fun hf hsub hop => ?_, fun hf hsub hop => jobStep_rows (hhead hf hsub hop) ws,
      fun hf hsub hop => ringCopy_rows (hhead hf hsub hop),
      fun hf hsub hop hfree => ringStreamOpen_rows (hhead hf hsub hop) hfree,
      fun hf hsub hop => ringStreamResult_rows (hhead hf hsub hop)⟩
    exact (execRingNop_due hsub).trans (congrArg _ (hhead hf hsub hop).taken)
  · exact ⟨_, execDriverGone_due hfree hgone hfull, s.quiet.driverGone_spec⟩

end Sys2Proof.Machine
end

section
/-!
PROOFS. What leaves the counter cells as they are (R342): one equation for each operation of the model that does not
belong to the counter fabric, for `simp`.
-/
namespace Sys2Proof.Machine

@[simp] theorem cells_ite (c : Prop) [Decidable c] (s t : State) :
    (if c then s else t).cnt.cells = if c then s.cnt.cells else t.cnt.cells := apply_ite (fun u => u.cnt.cells) c s t

@[simp] theorem cells_foldl {α : Type} {f : State → α → State} (h : ∀ s a, (f s a).cnt.cells = s.cnt.cells)
    (s : State) (l : List α) : (l.foldl f s).cnt.cells = s.cnt.cells := by
  induction l generalizing s with
  | nil => rfl
  | cons a l ih => exact (ih _).trans (h s a)

/-- Either branch of an optional value. -/
theorem cells_elim {α : Type} {s t : State} {f : α → State} (hs : s.cnt.cells = t.cnt.cells)
    (hf : ∀ a, (f a).cnt.cells = t.cnt.cells) (o : Option α) : (o.elim s f).cnt.cells = t.cnt.cells := by
  cases o <;> [exact hs; exact hf _]

/-! ### The operations that every unit shares -/

@[simp] theorem State.nvmDrive_cells (s : State) (op : NvmBus) : (s.nvmDrive op).cnt.cells = s.cnt.cells := rfl

@[simp] theorem State.nvmFetch_cells (s : State) (a n : Nat) : (s.nvmFetch a n).cnt.cells = s.cnt.cells := rfl

@[simp] theorem State.health_cells (s : State) (unit : Nat) (code : Code) (part : Option PartId) :
    (s.health unit code part).cnt.cells = s.cnt.cells := rfl

@[simp] theorem State.mpIssue_cells (s : State) (write : Bool) (addr beats : Nat) (part : PartId) (ctx : EndpointId)
    (data : Bytes) (owner : MpOwner) :
    (s.mpIssue write addr beats part ctx data owner).cnt.cells = s.cnt.cells := rfl

/-! ### The fence -/

@[simp] theorem State.avsSend_cells (s : State) (op : AvsOp) :
    (s.avsSend op).cnt.cells = s.cnt.cells := by simp [State.avsSend]

@[simp] theorem State.movePoint_cells (s : State) (v d : Nat) :
    (s.movePoint v d).cnt.cells = s.cnt.cells := by simp [State.movePoint]

@[simp] theorem State.boostOff_cells (s : State) : s.boostOff.cnt.cells = s.cnt.cells := rfl

@[simp] theorem State.takePoint_cells (s : State) : s.takePoint.cnt.cells = s.cnt.cells := by simp [State.takePoint]

@[simp] theorem State.countFall_cells (s : State) (d : Nat) : (s.countFall d).cnt.cells = s.cnt.cells := rfl

@[simp] theorem State.avsFails_cells (s : State) : s.avsFails.cnt.cells = s.cnt.cells := by simp [State.avsFails]

@[simp] theorem State.fenceStart_cells (s : State) : s.fenceStart.cnt.cells = s.cnt.cells := by simp [State.fenceStart]

@[simp] theorem State.fenceCommit_cells (s : State) :
    s.fenceCommit.cnt.cells = s.cnt.cells := by simp [State.fenceCommit]

@[simp] theorem State.sensorReads_cells (s : State) (a : BitVec 8) (v : Option (BitVec 16)) :
    (s.sensorReads a v).cnt.cells = s.cnt.cells := rfl

@[simp] theorem State.avsNext_cells (s : State) : s.avsNext.cnt.cells = s.cnt.cells := by
  simp only [State.avsNext]
  split <;> simp

@[simp] theorem State.avsBar_cells (s : State) : s.avsBar.cnt.cells = s.cnt.cells := rfl

@[simp] theorem State.avsAlerted_cells (s : State) (alert : Bool) :
    (s.avsAlerted alert).cnt.cells = s.cnt.cells := by simp [State.avsAlerted]

@[simp] theorem State.scanEnd_cells (s : State) : s.scanEnd.cnt.cells = s.cnt.cells := by simp [State.scanEnd]

@[simp] theorem State.dimEnd_cells (s : State) (why : Nat) : (s.dimEnd why).cnt.cells = s.cnt.cells := by
  simp only [State.dimEnd]
  split <;> simp

@[simp] theorem State.refuseD3_cells (s : State) : s.refuseD3.cnt.cells = s.cnt.cells := by simp [State.refuseD3]

/-! ### Key slots -/

@[simp] theorem State.setSlot_cells (s : State) (i : SlotIx) (v : Slot) : (s.setSlot i v).cnt.cells = s.cnt.cells := rfl

@[simp] theorem State.readSlot_cells (s : State) (i : SlotIx) : (s.readSlot i).cnt.cells = s.cnt.cells := by
  simp [State.readSlot]

@[simp] theorem State.slotErr_cells (s : State) (i : SlotIx) (e : MemErr) :
    (s.slotErr i e).cnt.cells = s.cnt.cells := by
  simp only [State.slotErr]
  split <;> simp

@[simp] theorem State.fetchSlot_cells (s : State) (i : SlotIx) (e : MemErr) :
    (s.fetchSlot i e).cnt.cells = s.cnt.cells := by simp [State.fetchSlot]

@[simp] theorem State.writeSlot_cells (s : State) (i : SlotIx) (key : BitVec 256) (attr : Word) (lineage : BitVec 7) :
    (s.writeSlot i key attr lineage).cnt.cells = s.cnt.cells := rfl

@[simp] theorem State.zeroSlot_cells (s : State) (i : SlotIx) (g : Gen) :
    (s.zeroSlot i g).cnt.cells = s.cnt.cells := rfl

/-! ### The key fabric -/

@[simp] theorem State.setEndpoint_cells (s : State) (e : EndpointId) (v : Endpoint) :
    (s.setEndpoint e v).cnt.cells = s.cnt.cells := rfl

@[simp] theorem State.onPort_cells (s : State) (p : Nat) (f : KfPort → KfPort) :
    (s.onPort p f).cnt.cells = s.cnt.cells := rfl

@[simp] theorem State.faultPort_cells (s : State) (p : Nat) : (s.faultPort p).cnt.cells = s.cnt.cells := rfl

@[simp] theorem State.endTicket_cells (s : State) (t : Nat) (c : Code) :
    (s.endTicket t c).cnt.cells = s.cnt.cells := rfl

@[simp] theorem State.settle_cells (s : State) (t n : Nat) (c : Code) : (s.settle t n c).cnt.cells = s.cnt.cells := by
  simp only [State.settle]
  split <;> simp

@[simp] theorem State.abortCovered_cells (s : State) (r : EmberReq) (p : Nat) :
    (s.abortCovered r p).cnt.cells = s.cnt.cells := by
  refine cells_foldl (fun s m => ?_) s _
  split <;> simp

@[simp] theorem State.commitEmber_cells (s : State) (r : EmberReq) : (s.commitEmber r).cnt.cells = s.cnt.cells := by
  simp only [State.commitEmber]
  repeat' split
  all_goals simp

@[simp] theorem State.klnComplete_cells (s : State) (c : Code) : (s.klnComplete c).cnt.cells = s.cnt.cells := rfl

@[simp] theorem State.klnSettle_cells (s : State) : s.klnSettle.cnt.cells = s.cnt.cells := by
  simp only [State.klnSettle]
  split <;> simp

@[simp] theorem State.drainEmber_cells (s : State) : s.drainEmber.cnt.cells = s.cnt.cells := by simp [State.drainEmber]

@[simp] theorem State.raiseEmber_cells (s : State) (r : EmberReq) :
    (s.raiseEmber r).cnt.cells = s.cnt.cells := by simp [State.raiseEmber]

@[simp] theorem State.portFails_cells (s : State) (p : Nat) : (s.portFails p).cnt.cells = s.cnt.cells := by
  simp [State.portFails]

@[simp] theorem State.sendEmber_cells (s : State) (p : Nat) : (s.sendEmber p).cnt.cells = s.cnt.cells := by
  simp only [State.sendEmber]
  split <;> simp

@[simp] theorem State.sendClass_cells (s : State) (p c : Nat) : (s.sendClass p c).cnt.cells = s.cnt.cells := by
  simp only [State.sendClass]
  split <;> simp

@[simp] theorem State.sendBeat_cells (s : State) (p : Nat) : (s.sendBeat p).cnt.cells = s.cnt.cells := by
  simp only [State.sendBeat]
  split <;> simp

@[simp] theorem State.ackRevoke_cells (s : State) (p id age : Nat) :
    (s.ackRevoke p id age).cnt.cells = s.cnt.cells := by
  simp only [State.ackRevoke]
  repeat' split
  all_goals simp

@[simp] theorem State.eackPulse_cells (s : State) (p age : Nat) : (s.eackPulse p age).cnt.cells = s.cnt.cells := by
  simp only [State.eackPulse]
  repeat' split
  all_goals simp

@[simp] theorem State.countUpdrop_cells (s : State) : s.countUpdrop.cnt.cells = s.cnt.cells := rfl

@[simp] theorem State.ackBeat_cells (s : State) (beat : BitVec 64) (c : Code) :
    (s.ackBeat beat c).cnt.cells = s.cnt.cells := by
  simp only [State.ackBeat]
  split <;> simp

@[simp] theorem State.queueCntReq_cells (s : State) (p : Nat) (beat : BitVec 64) :
    (s.queueCntReq p beat).cnt.cells = s.cnt.cells := by simp [State.queueCntReq]

@[simp] theorem State.queueNextReq_cells (s : State) (beat : BitVec 64) :
    (s.queueNextReq beat).cnt.cells = s.cnt.cells := by simp [State.queueNextReq]

@[simp] theorem State.faultBeat_cells (s : State) (beat : BitVec 64) : (s.faultBeat beat).cnt.cells = s.cnt.cells := rfl

@[simp] theorem State.upBeat_cells (s : State) (p : Nat) (beat : BitVec 64) :
    (s.upBeat p beat).cnt.cells = s.cnt.cells := by
  unfold State.upBeat
  split
  · exact cells_elim (by simp) (fun c => by simp) _
  all_goals simp

@[simp] theorem State.upstream_cells (s : State) (p : Nat) (beat : BitVec 64) (corrected : Bool) :
    (s.upstream p beat corrected).cnt.cells = s.cnt.cells := by simp [State.upstream]

@[simp] theorem State.kfbRefuse_cells (s : State) (c : Code) : (s.kfbRefuse c).cnt.cells = s.cnt.cells := rfl

@[simp] theorem State.kfbAccept_cells (s : State) (wait : Nat) : (s.kfbAccept wait).cnt.cells = s.cnt.cells := rfl

@[simp] theorem State.kfbCommand_cells (s : State) {f : State → State} (h : ∀ s, (f s).cnt.cells = s.cnt.cells)
    (w : Word) (refusals : List (Bool × Code)) : (s.kfbCommand w refusals f).cnt.cells = s.cnt.cells := by
  unfold State.kfbCommand
  split <;> simp [h]

@[simp] theorem State.queueMsg_cells (s : State) (m : KfMsg) : (s.queueMsg m).cnt.cells = s.cnt.cells := by
  simp only [State.queueMsg, State.onKfb_cnt]
  exact cells_foldl (by intros; rfl) _ _

@[simp] theorem State.putKgen_cells (s : State) (g : Gen) :
    (s.putKgen g).cnt.cells = s.cnt.cells := by simp [State.putKgen]

@[simp] theorem State.loadAccepted_cells (s : State) :
    s.loadAccepted.cnt.cells = s.cnt.cells := by simp [State.loadAccepted]

@[simp] theorem State.doLoad_cells (s : State) (w : Word) (e : MemErr) : (s.doLoad w e).cnt.cells = s.cnt.cells := by
  simp only [State.doLoad, cells_ite, State.onKst_cnt, State.kfbCommand_cells _ State.loadAccepted_cells,
    State.fetchSlot_cells, ite_self]

@[simp] theorem State.rotateAccepted_cells (s : State) : s.rotateAccepted.cnt.cells = s.cnt.cells := by
  simp [State.rotateAccepted]

@[simp] theorem State.emberAccepted_cells (s : State) (r : EmberReq) :
    (s.emberAccepted r).cnt.cells = s.cnt.cells := by simp [State.emberAccepted]

@[simp] theorem State.bindAccepted_cells (s : State) :
    s.bindAccepted.cnt.cells = s.cnt.cells := by simp [State.bindAccepted]

@[simp] theorem State.abandonOwed_cells (s : State) (e : EndpointId) :
    (s.abandonOwed e).cnt.cells = s.cnt.cells := by simp [State.abandonOwed]

@[simp] theorem State.unbind_cells (s : State) (e : EndpointId) :
    (s.unbind e).cnt.cells = s.cnt.cells := by simp [State.unbind]

@[simp] theorem State.releaseAccepted_cells (s : State) :
    s.releaseAccepted.cnt.cells = s.cnt.cells := by simp [State.releaseAccepted]

@[simp] theorem State.kfbUp_cells (s : State) : s.kfbUp.cnt.cells = s.cnt.cells := by simp [State.kfbUp]

/-! ### Counter cells -/

@[simp] theorem State.queueExh_cells (s : State) (c : CellId) : (s.queueExh c).cnt.cells = s.cnt.cells := by
  simp [State.queueExh]

@[simp] theorem State.cellCorrected_cells (s : State) (err : CellErr) :
    (s.cellCorrected err).cnt.cells = s.cnt.cells := by simp [State.cellCorrected]

@[simp] theorem State.cntEnd_cells (s : State) (c : Code) : (s.cntEnd c).cnt.cells = s.cnt.cells := rfl

@[simp] theorem State.cntStart_cells (s : State) (w : Word) (c : CntCmd) :
    (s.cntStart w c).cnt.cells = s.cnt.cells := by
  simp only [State.cntStart]
  split <;> simp

/-! ### The Kiln -/

@[simp] theorem State.klnDone_cells (s : State) (c : Code) :
    (s.klnDone c).cnt.cells = s.cnt.cells := by simp [State.klnDone]

@[simp] theorem State.countStale_cells (s : State) (c : Code) :
    (s.countStale c).cnt.cells = s.cnt.cells := by simp [State.countStale]

theorem State.klnCommand_cells {f : State → State} (h : ∀ s, (f s).cnt.cells = s.cnt.cells) (s : State) (w : Word)
    (refusals : State → List (Bool × Code)) : (s.klnCommand w refusals f).cnt.cells = s.cnt.cells := by
  unfold State.klnCommand
  split
  · simp
  · split
    · simp
    · split <;> simp [h]

@[simp] theorem State.formSeeds_cells (s : State) (k : RootKind) : (s.formSeeds k).cnt.cells = s.cnt.cells := rfl

@[simp] theorem State.formRoot_cells (s : State) : s.formRoot.cnt.cells = s.cnt.cells := by simp [State.formRoot]

@[simp] theorem State.formFinish_cells (s : State) (digest : Bytes) :
    (s.formFinish digest).cnt.cells = s.cnt.cells := by
  simp only [State.formFinish]
  split <;> simp

@[simp] theorem State.formFails_cells (s : State) (c : Code) : (s.formFails c).cnt.cells = s.cnt.cells := by
  simp only [State.formFails]
  split <;> simp

@[simp] theorem State.derive_cells (s : State) : s.derive.cnt.cells = s.cnt.cells := by simp [State.derive]

@[simp] theorem State.readParent_cells (s : State) (e : MemErr) :
    (s.readParent e).cnt.cells = s.cnt.cells := by simp [State.readParent]

@[simp] theorem State.onSession_cells (s : State) (sid : Word) (f : Session → Session) :
    (s.onSession sid f).cnt.cells = s.cnt.cells := rfl

@[simp] theorem State.sessionOpen_cells (s : State) :
    s.sessionOpen.cnt.cells = s.cnt.cells := by simp [State.sessionOpen]

@[simp] theorem State.doSessionOpen_cells (s : State) (w : Word) : (s.doSessionOpen w).cnt.cells = s.cnt.cells := by
  simp [State.doSessionOpen, State.klnCommand_cells State.sessionOpen_cells]

@[simp] theorem State.destroySlot_cells (s : State) (i : SlotIx) (src : EmberSrc) :
    (s.destroySlot i src).cnt.cells = s.cnt.cells := by simp [State.destroySlot]

@[simp] theorem State.destroySlots_cells (s : State) (l : List SlotIx) (src : EmberSrc) :
    (s.destroySlots l src).cnt.cells = s.cnt.cells := by simp [State.destroySlots]

@[simp] theorem State.doDestroy_cells (s : State) (w : Word) (e : MemErr) :
    (s.doDestroy w e).cnt.cells = s.cnt.cells := by
  refine (State.klnCommand_cells (fun s => ?_) _ _ _).trans ?_ <;> simp

@[simp] theorem State.countMsg_cells (s : State) : s.countMsg.cnt.cells = s.cnt.cells := by simp [State.countMsg]

@[simp] theorem State.readMsgSession_cells (s : State) (e : MemErr) : (s.readMsgSession e).cnt.cells = s.cnt.cells := by
  simp only [State.readMsgSession]
  repeat' split
  all_goals simp

@[simp] theorem State.countIn_cells (s : State) (m : KuMsg) :
    (s.countIn m).cnt.cells = s.cnt.cells := by simp [State.countIn]

@[simp] theorem State.putKey_cells (s : State) (m : KuMsg) (key : Bytes) :
    (s.putKey m key).cnt.cells = s.cnt.cells := by simp [State.putKey]

@[simp] theorem State.putPersist_cells (s : State) (m : KuMsg) (key : Bytes) :
    (s.putPersist m key).cnt.cells = s.cnt.cells := by simp [State.putPersist]

@[simp] theorem State.destroyShares_cells (s : State) (r : KRecord) (src : EmberSrc) :
    (s.destroyShares r src).cnt.cells = s.cnt.cells := by simp [State.destroyShares]

@[simp] theorem State.unsealMsg_cells (s : State) : s.unsealMsg.cnt.cells = s.cnt.cells := by simp [State.unsealMsg]

@[simp] theorem State.doUnseal_cells (s : State) (w : Word) (e : MemErr) :
    (s.doUnseal w e).cnt.cells = s.cnt.cells := by
  simp [State.doUnseal, State.klnCommand_cells State.unsealMsg_cells]

@[simp] theorem State.sealMsg_cells (s : State) : s.sealMsg.cnt.cells = s.cnt.cells := by
  simp only [State.sealMsg]
  split <;> simp

@[simp] theorem State.readSealSession_cells (s : State) (e : MemErr) :
    (s.readSealSession e).cnt.cells = s.cnt.cells := by
  simp only [State.readSealSession]
  repeat' split
  all_goals simp

@[simp] theorem State.doSeal_cells (s : State) (w : Word) (e : MemErr) : (s.doSeal w e).cnt.cells = s.cnt.cells := by
  simp [State.doSeal, State.klnCommand_cells State.sealMsg_cells]

@[simp] theorem State.dropEvent_cells (s : State) : s.dropEvent.cnt.cells = s.cnt.cells := rfl

@[simp] theorem State.doFormRoot_cells (s : State) (w : Word) : (s.doFormRoot w).cnt.cells = s.cnt.cells := by
  simp [State.doFormRoot, State.klnCommand_cells State.formRoot_cells]

@[simp] theorem State.doDerive_cells (s : State) (w : Word) (e : MemErr) :
    (s.doDerive w e).cnt.cells = s.cnt.cells := by
  simp [State.doDerive, State.klnCommand_cells State.derive_cells]

@[simp] theorem State.doSaltLoad_cells (s : State) (w : Word) : (s.doSaltLoad w).cnt.cells = s.cnt.cells := by
  exact State.klnCommand_cells (fun s => by simp) _ _ _

/-! ### Stream measurement -/

@[simp] theorem State.setStream_cells (s : State) (sid : StreamId) (v : Stream) :
    (s.setStream sid v).cnt.cells = s.cnt.cells := rfl

@[simp] theorem State.onStream_cells (s : State) (sid : StreamId) (f : Stream → Stream) :
    (s.onStream sid f).cnt.cells = s.cnt.cells := rfl

@[simp] theorem State.setLane_cells (s : State) (l : Nat) (v : FenLane) : (s.setLane l v).cnt.cells = s.cnt.cells := rfl

@[simp] theorem State.setExp_cells (s : State) (i : Nat) (v : ExpEntry) : (s.setExp i v).cnt.cells = s.cnt.cells := rfl

@[simp] theorem State.setMreg_cells (s : State) (i : Nat) (v : MReg) : (s.setMreg i v).cnt.cells = s.cnt.cells := rfl

@[simp] theorem State.onSmeBlk_cells (s : State) (b : Blk) (f : SmeBlk → SmeBlk) :
    (s.onSmeBlk b f).cnt.cells = s.cnt.cells := by
  simp only [State.onSmeBlk]
  split <;> simp

@[simp] theorem State.smeErr_cells (s : State) (e : MemErr) (part : Option PartId) :
    (s.smeErr e part).cnt.cells = s.cnt.cells := by
  simp only [State.smeErr]
  split <;> simp

@[simp] theorem State.spoilStream_cells (s : State) (sid : StreamId) : (s.spoilStream sid).cnt.cells = s.cnt.cells := by
  simp only [State.spoilStream]
  split <;> simp

@[simp] theorem State.ctxErr_cells (s : State) (e : MemErr) (sid : StreamId) :
    (s.ctxErr e sid).cnt.cells = s.cnt.cells := by simp [State.ctxErr]

@[simp] theorem State.sendEvent_cells (s : State) (e : SmeEvent) :
    (s.sendEvent e).cnt.cells = s.cnt.cells := by simp [State.sendEvent]

@[simp] theorem State.dropBeat_cells (s : State) (tap : Nat) (sid : StreamId) :
    (s.dropBeat tap sid).cnt.cells = s.cnt.cells := by simp [State.dropBeat]

@[simp] theorem State.openBeat_cells (s : State) (tap : Nat) (sid : StreamId) (bytes : Bytes) (first last : Bool) :
    (s.openBeat tap sid bytes first last).cnt.cells = s.cnt.cells := by simp [State.openBeat]

@[simp] theorem State.fillLeaf_cells (s : State) (l : Nat) (sid : StreamId) (bs : Bytes) :
    (s.fillLeaf l sid bs).cnt.cells = s.cnt.cells := rfl

@[simp] theorem State.beginLeaf_cells (s : State) (l : Nat) (sid : StreamId) (bs : Bytes) :
    (s.beginLeaf l sid bs).cnt.cells = s.cnt.cells := rfl

theorem State.intake_cells {s t : State} {b : TapBeat} {bs : Bytes} (h : s.intake b = some (t, bs)) :
    t.cnt.cells = s.cnt.cells := by
  simp only [State.intake] at h
  split at h
  · obtain ⟨l, -, hl⟩ := Option.map_eq_some_iff.1 h
    rw [← (Prod.mk.inj hl).1, State.beginLeaf_cells]
  · split at h <;> cases h <;> simp

theorem State.intakeTap_cells {s t : State} {tap : Nat} (h : s.intakeTap tap = some t) : t.cnt.cells = s.cnt.cells := by
  unfold State.intakeTap at h
  split at h
  · cases h
  · split at h
    · cases h
    · rename_i hi
      cases h
      exact (State.intake_cells hi :)
    · rename_i hi
      cases h
      exact (State.intake_cells hi :)

@[simp] theorem State.finishLeaf_cells (s : State) (l : Nat) (e : MemErr) :
    (s.finishLeaf l e).cnt.cells = s.cnt.cells := by
  simp only [State.finishLeaf]
  split <;> simp

@[simp] theorem State.feedSlice_cells (s : State) (c : Nat) : (s.feedSlice c).cnt.cells = s.cnt.cells := by
  simp only [State.feedSlice]
  repeat' split
  all_goals simp

@[simp] theorem State.queueExt_cells (s : State) (r : ExtReq) : (s.queueExt r).cnt.cells = s.cnt.cells := rfl

@[simp] theorem State.smeDone_cells (s : State) (b : Blk) (c : Code) :
    (s.smeDone b c).cnt.cells = s.cnt.cells := by simp [State.smeDone]

@[simp] theorem State.postResult_cells (s : State) (b : Blk) (r : StreamResult) :
    (s.postResult b r).cnt.cells = s.cnt.cells := by simp [State.postResult]

@[simp] theorem State.closeEvent_cells (s : State) (v : Stream) (sid : StreamId) (c : Code) :
    (s.closeEvent v sid c).cnt.cells = s.cnt.cells := by simp [State.closeEvent]

@[simp] theorem State.closeExt_cells (s : State) (v : Stream) (sid : StreamId) (c : Code) (digest : Bytes) :
    (s.closeExt v sid c digest).cnt.cells = s.cnt.cells := by simp [State.closeExt]

@[simp] theorem State.purgeTokens_cells (s : State) (p : PartId) :
    (s.purgeTokens p).cnt.cells = s.cnt.cells := by simp [State.purgeTokens]

@[simp] theorem State.closeStream_cells (s : State) (sid : StreamId) (e : MemErr) :
    (s.closeStream sid e).cnt.cells = s.cnt.cells := by
  simp only [State.closeStream]
  split <;> simp

@[simp] theorem State.loadStream_cells (s : State) (b : Blk) (sid : StreamId) (digest : Option Bytes) :
    (s.loadStream b sid digest).cnt.cells = s.cnt.cells := by simp [State.loadStream]

@[simp] theorem State.openStream_cells (s : State) (b : Blk) :
    (s.openStream b).cnt.cells = s.cnt.cells := by simp [State.openStream]

@[simp] theorem State.endCtx_cells (s : State) (c : Nat) (code : Code) (digest : Bytes) (aux : Word) :
    (s.endCtx c code digest aux).cnt.cells = s.cnt.cells := rfl

@[simp] theorem State.zeroMreg_cells (s : State) (i : Nat) (owner : Option PartId) :
    (s.zeroMreg i owner).cnt.cells = s.cnt.cells := by
  refine (cells_foldl (fun s r => ?_) _ _).trans (by simp)
  split <;> simp

@[simp] theorem State.mrAssign_cells (s : State) (b : Blk) (rsv : Bool) :
    (s.mrAssign b rsv).cnt.cells = s.cnt.cells := by
  simp only [State.mrAssign]
  split <;> simp

@[simp] theorem State.mrRead_cells (s : State) (b : Blk) (rsv : Bool) (e : MemErr) :
    (s.mrRead b rsv e).cnt.cells = s.cnt.cells := by simp [State.mrRead]

@[simp] theorem State.mrExtend_cells (s : State) (b : Blk) (rsv : Bool) :
    (s.mrExtend b rsv).cnt.cells = s.cnt.cells := by simp [State.mrExtend]

@[simp] theorem State.smeStatus_cells (s : State) (b : Blk) (rsv : Bool) (e : MemErr) :
    (s.smeStatus b rsv e).cnt.cells = s.cnt.cells := by simp [State.smeStatus]

@[simp] theorem State.expErr_cells (s : State) (e : MemErr) (i : Nat) : (s.expErr e i).cnt.cells = s.cnt.cells := by
  simp only [State.expErr]
  split <;> simp

@[simp] theorem State.expWrite_cells (s : State) (b : Blk) (rsv : Bool) (e : MemErr) :
    (s.expWrite b rsv e).cnt.cells = s.cnt.cells := by
  simp only [State.expWrite]
  split <;> simp

@[simp] theorem State.expClear_cells (s : State) (b : Blk) (rsv : Bool) :
    (s.expClear b rsv).cnt.cells = s.cnt.cells := by
  simp only [State.expClear]
  split <;> simp

@[simp] theorem State.expRead_cells (s : State) (b : Blk) (rsv : Bool) (e : MemErr) :
    (s.expRead b rsv e).cnt.cells = s.cnt.cells := by simp [State.expRead]

@[simp] theorem State.smeAbort_cells (s : State) (b : Blk) (rsv : Bool) :
    (s.smeAbort b rsv).cnt.cells = s.cnt.cells := by
  simp only [State.smeAbort]
  split <;> simp

@[simp] theorem State.purgeStart_cells (s : State) (p : PartId) (run : SmeRun) :
    (s.purgeStart p run).cnt.cells = s.cnt.cells := by simp [State.purgeStart]

@[simp] theorem State.purgeEnd_cells (s : State) (p : PartId) : (s.purgeEnd p).cnt.cells = s.cnt.cells := by
  simp [State.purgeEnd]

@[simp] theorem State.smeOpen_cells (s : State) (b : Blk) (rsv : Bool) : (s.smeOpen b rsv).cnt.cells = s.cnt.cells := by
  simp only [State.smeOpen]
  split <;> simp

@[simp] theorem State.smePurge_cells (s : State) (b : Blk) (rsv : Bool) :
    (s.smePurge b rsv).cnt.cells = s.cnt.cells := by simp [State.smePurge]

@[simp] theorem State.smeRun_cells (s : State) (b : Blk) (code : Nat) (w : Word) (e : MemErr) :
    (s.smeRun b code w e).cnt.cells = s.cnt.cells := by
  simp only [State.smeRun]
  split <;> simp

@[simp] theorem State.smeNext_cells (s : State) : s.smeNext.cnt.cells = s.cnt.cells := by
  simp only [State.smeNext]
  repeat' split
  all_goals simp

@[simp] theorem State.smeCommand_cells (s : State) (b : Blk) (code : Nat) (w : Word) (e : MemErr) :
    (s.smeCommand b code w e).cnt.cells = s.cnt.cells := by
  simp only [State.smeCommand]
  repeat' split
  all_goals simp

@[simp] theorem State.smeCommit_cells (s : State) : s.smeCommit.cnt.cells = s.cnt.cells := by
  simp only [State.smeCommit]
  split <;> simp

/-! ### Small digests and the comparator -/

@[simp] theorem State.setCtx_cells (s : State) (c : Nat) (x : DgeCtx) : (s.setCtx c x).cnt.cells = s.cnt.cells := rfl

@[simp] theorem State.feedCores_cells (s : State) : s.feedCores.cnt.cells = s.cnt.cells := by simp [State.feedCores]

@[simp] theorem State.readNext_cells (s : State) (c : Nat) : (s.readNext c).cnt.cells = s.cnt.cells := by
  simp only [State.readNext]
  split <;> simp

@[simp] theorem State.askSlice_cells (s : State) (r : CmpReq) : (s.askSlice r).cnt.cells = s.cnt.cells := rfl

@[simp] theorem State.deliver_cells (s : State) (c : Nat) (dest : DgeDest) :
    (s.deliver c dest).cnt.cells = s.cnt.cells := by
  simp only [State.deliver]
  split <;> simp

@[simp] theorem State.dgeProgress_cells (s : State) (c : Nat) : (s.dgeProgress c).cnt.cells = s.cnt.cells := by
  simp only [State.dgeProgress]
  repeat' split
  all_goals simp

@[simp] theorem State.abandonNow_cells (s : State) (c : Nat) :
    (s.abandonNow c).cnt.cells = s.cnt.cells := by simp [State.abandonNow]

@[simp] theorem State.abandonCtx_cells (s : State) (c : Nat) (code : Code) :
    (s.abandonCtx c code).cnt.cells = s.cnt.cells := by simp [State.abandonCtx]

@[simp] theorem State.forceAbandon_cells (s : State) (c : Nat) :
    (s.forceAbandon c).cnt.cells = s.cnt.cells := by simp [State.forceAbandon]

@[simp] theorem State.faultCtx_cells (s : State) (c : Nat) : (s.faultCtx c).cnt.cells = s.cnt.cells := rfl

@[simp] theorem State.dgeErr_cells (s : State) (e : MemErr) : (s.dgeErr e).cnt.cells = s.cnt.cells := by
  simp only [State.dgeErr]
  split <;> simp

@[simp] theorem State.dgeReadDone_cells (s : State) (c : Nat) (gen : Gen) (data : Bytes) (err : Bool) :
    (s.dgeReadDone c gen data err).cnt.cells = s.cnt.cells := by
  simp only [State.dgeReadDone]
  repeat' split
  all_goals simp

@[simp] theorem State.dgeAcquire_cells (s : State) (q : Req) (w : Word) :
    (s.dgeAcquire q w).cnt.cells = s.cnt.cells := by
  simp only [State.dgeAcquire]
  repeat' split
  all_goals simp

@[simp] theorem State.dgeGrant_cells (s : State) : s.dgeGrant.cnt.cells = s.cnt.cells := by
  simp only [State.dgeGrant]
  split <;> simp

@[simp] theorem State.arbWrite_cells (s : State) (w : Word) :
    (s.arbWrite w).cnt.cells = s.cnt.cells := by simp [State.arbWrite]

@[simp] theorem State.dgeAbandonHolders_cells (s : State) (p : BitVec 4 → Bool) :
    (s.dgeAbandonHolders p).cnt.cells = s.cnt.cells := by simp [State.dgeAbandonHolders]

@[simp] theorem State.updateStart_cells (s : State) (c : Nat) (w : Word) :
    (s.updateStart c w).cnt.cells = s.cnt.cells := by simp [State.updateStart]

@[simp] theorem State.finalStart_cells (s : State) (c : Nat) (dest : DgeDest) :
    (s.finalStart c dest).cnt.cells = s.cnt.cells := by simp [State.finalStart]

@[simp] theorem State.ctxCode_cells (s : State) (c : Nat) (code : Code) :
    (s.ctxCode c code).cnt.cells = s.cnt.cells := rfl

theorem State.ctxCommand_cells {f : State → State} (h : ∀ s, (f s).cnt.cells = s.cnt.cells) (s : State) (q : Req)
    (c : Nat) : (s.ctxCommand q c f).cnt.cells = s.cnt.cells := by
  simp only [State.ctxCommand]
  split <;> [simp; skip]
  split <;> [simp; skip]
  split <;> simp [h]

@[simp] theorem State.ctxRefuse_cells (s : State) (c : Nat) (k : Code) :
    (s.ctxRefuse c k).cnt.cells = s.cnt.cells := by simp [State.ctxRefuse]

@[simp] theorem State.ctxSpoilt_cells (s : State) (c : Nat) : (s.ctxSpoilt c).cnt.cells = s.cnt.cells := rfl

@[simp] theorem State.dgeUpdate_cells (s : State) (c : Nat) (w : Word) (e : MemErr) :
    (s.dgeUpdate c w e).cnt.cells = s.cnt.cells := by
  simp only [State.dgeUpdate]
  split <;> simp

@[simp] theorem State.dgeFinal_cells (s : State) (c : Nat) (w : Word) (e : MemErr) :
    (s.dgeFinal c w e).cnt.cells = s.cnt.cells := by
  simp only [State.dgeFinal]
  repeat' split
  all_goals simp

@[simp] theorem State.dgeAbandon_cells (s : State) (c : Nat) (w : Word) :
    (s.dgeAbandon c w).cnt.cells = s.cnt.cells := by simp [State.dgeAbandon]

@[simp] theorem State.blockDone_cells (s : State) (c : Nat) (e : MemErr) :
    (s.blockDone c e).cnt.cells = s.cnt.cells := by simp [State.blockDone]

@[simp] theorem State.cmpCode_cells (s : State) (b : Blk) (k : Code) : (s.cmpCode b k).cnt.cells = s.cnt.cells := by
  simp only [State.cmpCode]
  split <;> simp

@[simp] theorem State.cmpDone_cells (s : State) (b : Blk) (k : Code) :
    (s.cmpDone b k).cnt.cells = s.cnt.cells := by simp [State.cmpDone]

@[simp] theorem State.cmpCommand_cells (s : State) (b : Blk) (w : Word) :
    (s.cmpCommand b w).cnt.cells = s.cnt.cells := by
  simp only [State.cmpCommand]
  repeat' split
  all_goals simp

@[simp] theorem State.cmpResult_cells (s : State) (r : CmpReq) (e : MemErr) :
    (s.cmpResult r e).cnt.cells = s.cnt.cells := by
  simp only [State.cmpResult]
  split <;> simp

@[simp] theorem State.spoilResult_cells (s : State) (sid : StreamId) (gen : Gen) :
    (s.spoilResult sid gen).cnt.cells = s.cnt.cells := by simp [State.spoilResult]

@[simp] theorem State.applyExt_cells (s : State) (r : ExtReq) : (s.applyExt r).cnt.cells = s.cnt.cells := by
  simp only [State.applyExt]
  split <;> simp

@[simp] theorem State.extensionStep_cells (s : State) (err : MemErr) :
    (s.extensionStep err).cnt.cells = s.cnt.cells := by
  simp only [State.extensionStep]
  split <;> simp

/-! ### The partition manager -/

@[simp] theorem State.setPart_cells (s : State) (p : PartId) (v : PartEntry) :
    (s.setPart p v).cnt.cells = s.cnt.cells := rfl

@[simp] theorem State.setRegion_cells (s : State) (i : Nat) (v : Region) :
    (s.setRegion i v).cnt.cells = s.cnt.cells := rfl

@[simp] theorem State.prtHealth_cells (s : State) (c : Code) : (s.prtHealth c).cnt.cells = s.cnt.cells := by
  simp [State.prtHealth]

@[simp] theorem State.prtDone_cells (s : State) (c : Code) : (s.prtDone c).cnt.cells = s.cnt.cells := rfl

theorem State.prtCommand_cells_of {Q : State → Prop} {s : State} {f : State → State}
    (hQ : ∀ t, t.cnt.cells = s.cnt.cells → Q t)
    (hf : Q (f s)) (w : Word) (err : MemErr) (early refusals : List (Bool × Code)) :
    Q (s.prtCommand w err early refusals f) := by
  unfold State.prtCommand
  split <;> [exact hQ _ (by simp); exact hf]

@[simp] theorem State.setJob_cells (s : State) (i : Nat) (v : Option JobDigest) :
    (s.setJob i v).cnt.cells = s.cnt.cells := rfl

@[simp] theorem State.zeroScratch_cells (s : State) : s.zeroScratch.cnt.cells = s.cnt.cells := rfl

@[simp] theorem State.gateLeave_cells (s : State) (why : GateReason) :
    (s.gateLeave why).cnt.cells = s.cnt.cells := by simp [State.gateLeave]

@[simp] theorem State.gateStop_cells (s : State) (p : PartId) (why : GateReason) :
    (s.gateStop p why).cnt.cells = s.cnt.cells := by simp [State.gateStop]

@[simp] theorem State.sendScrub_cells (s : State) (i : Nat) : (s.sendScrub i).cnt.cells = s.cnt.cells := rfl

@[simp] theorem State.relTo_cells (s : State) (st : RelStage) : (s.relTo st).cnt.cells = s.cnt.cells := rfl

@[simp] theorem State.relJobs_cells (s : State) (p : PartId) : (s.relJobs p).cnt.cells = s.cnt.cells := rfl

@[simp] theorem State.relEnd_cells (s : State) (p : PartId) : (s.relEnd p).cnt.cells = s.cnt.cells := by
  simp only [State.relEnd, State.onPrt_cnt, State.setPart_cells]
  exact cells_foldl (by intros; rfl) _ _

@[simp] theorem State.fillStep_cells (s : State) : s.fillStep.cnt.cells = s.cnt.cells := by
  unfold State.fillStep
  split
  · rfl
  · split <;> rfl

@[simp] theorem State.orphanStep_cells (s : State) : s.orphanStep.cnt.cells = s.cnt.cells := by
  simp only [State.orphanStep]
  split <;> simp

@[simp] theorem State.orphanDone_cells (s : State) (i : Nat) (ok : Bool) :
    (s.orphanDone i ok).cnt.cells = s.cnt.cells := by simp [State.orphanDone]

@[simp] theorem State.relFail_cells (s : State) : s.relFail.cnt.cells = s.cnt.cells := rfl

@[simp] theorem State.relStart_cells (s : State) (p : PartId) : (s.relStart p).cnt.cells = s.cnt.cells := by
  simp only [State.relStart]
  rw [cells_foldl (fun s i => by rw [cells_ite, State.emit_cnt, ite_self]), State.onPrt_cnt,
    cells_foldl (by intros; rfl),
    State.gateStop_cells, State.setPart_cells]

/-! ### The public-key engine -/

@[simp] theorem State.pkeCode_cells (s : State) (b : Blk) (k : Code) : (s.pkeCode b k).cnt.cells = s.cnt.cells := by
  simp only [State.pkeCode]
  split <;> simp

@[simp] theorem State.pkeWrite_cells (s : State) (r a : Nat) (bs : Bytes) :
    (s.pkeWrite r a bs).cnt.cells = s.cnt.cells := by simp [State.pkeWrite]

@[simp] theorem State.pkeCommand_cells (s : State) (b : Blk) (op : PkeOp) (w : Word) (e : MemErr) :
    (s.pkeCommand b op w e).cnt.cells = s.cnt.cells := by
  simp only [State.pkeCommand]
  repeat' split
  all_goals simp

@[simp] theorem State.pkeGrant_cells (s : State) (c : PkeCmd) : (s.pkeGrant c).cnt.cells = s.cnt.cells := rfl

@[simp] theorem State.setCache_cells (s : State) (i : SlotIx) (e : Option PkeEntry) :
    (s.setCache i e).cnt.cells = s.cnt.cells := rfl

@[simp] theorem State.fillCache_cells (s : State) (i : SlotIx) : (s.fillCache i).cnt.cells = s.cnt.cells := rfl

@[simp] theorem State.zeroTouched_cells (s : State) (c : PkeCmd) : (s.zeroTouched c).cnt.cells = s.cnt.cells := rfl

@[simp] theorem State.selfFail_cells (s : State) : s.selfFail.cnt.cells = s.cnt.cells := rfl

@[simp] theorem State.pkeCompute_cells (s : State) (c : PkeCmd) : (s.pkeCompute c).1.cnt.cells = s.cnt.cells := by
  simp only [State.pkeCompute]
  split
  case h_4 => split <;> [simp; (split <;> simp)]
  case h_7 => split <;> simp
  case h_10 => split <;> [rfl; (split <;> simp)]
  all_goals simp

@[simp] theorem State.pkeResult_cells (s : State) (c : PkeCmd) (f : PkeFault) :
    (s.pkeResult c f).1.cnt.cells = s.cnt.cells := by
  simp only [State.pkeResult]
  split
  case h_5 => split <;> simp
  case h_6 => split <;> simp
  all_goals simp

@[simp] theorem State.pkeEnd_cells (s : State) (c : PkeCmd) (k : Code) : (s.pkeEnd c k).cnt.cells = s.cnt.cells := by
  simp only [State.pkeEnd]
  split <;> simp

/-! ### Attestation -/

@[simp] theorem State.attEdge_cells (s : State) (b : Blk) : (s.attEdge b).cnt.cells = s.cnt.cells := rfl

@[simp] theorem State.attDone_cells (s : State) (b : Blk) (c : Code) (len : Nat) :
    (s.attDone b c len).cnt.cells = s.cnt.cells := rfl

@[simp] theorem State.attEnd_cells (s : State) (c : AttCmd) (k : Code) (len : Nat) :
    (s.attEnd c k len).cnt.cells = s.cnt.cells := by simp [State.attEnd]

@[simp] theorem State.attRefused_cells (s : State) : s.attRefused.cnt.cells = s.cnt.cells := rfl

@[simp] theorem State.attWrite_cells (s : State) (b : Blk) (a : Nat) (bs : Bytes) :
    (s.attWrite b a bs).cnt.cells = s.cnt.cells := by
  simp only [State.attWrite]
  split <;> simp

@[simp] theorem State.attOutput_cells (s : State) (c : AttCmd) (bs : Bytes) (k : Code) :
    (s.attOutput c bs k).cnt.cells = s.cnt.cells := by simp [State.attOutput]

@[simp] theorem State.attAsk_cells (s : State) : s.attAsk.cnt.cells = s.cnt.cells := by simp [State.attAsk]

@[simp] theorem State.attRunTo_cells (s : State) (r : AttRun) : (s.attRunTo r).cnt.cells = s.cnt.cells := rfl

@[simp] theorem State.attDefer_cells (s : State) (r : AttRun) (c : AttCmd) :
    (s.attDefer r c).cnt.cells = s.cnt.cells := rfl

@[simp] theorem State.sampled_cells (s : State) (c : AttCmd) (err : MemErr) :
    (s.sampled c err).1.cnt.cells = s.cnt.cells := by
  simp [State.sampled]

@[simp] theorem State.attSample_cells (s : State) (r : AttRun) (c : AttCmd) (err : MemErr) :
    (s.attSample r c err).cnt.cells = s.cnt.cells := by
  simp only [State.attSample]
  split <;> simp

@[simp] theorem State.attBegin_cells (s : State) (c : AttCmd) : (s.attBegin c).cnt.cells = s.cnt.cells := by
  simp only [State.attBegin]
  split <;> simp

@[simp] theorem State.attNext_cells (s : State) : s.attNext.cnt.cells = s.cnt.cells := by
  simp only [State.attNext]
  repeat' split
  all_goals simp

@[simp] theorem State.attGoOn_cells (s : State) : s.attGoOn.cnt.cells = s.cnt.cells := by simp [State.attGoOn]

@[simp] theorem State.attRefuse_cells (s : State) (b : Blk) (k : Code) :
    (s.attRefuse b k).cnt.cells = s.cnt.cells := by simp [State.attRefuse]

@[simp] theorem State.attCommand_cells (s : State) (b : Blk) (op : AttOp) (w : Word) :
    (s.attCommand b op w).cnt.cells = s.cnt.cells := by
  simp only [State.attCommand]
  split <;> simp

@[simp] theorem State.attHash_cells (s : State) (c : Nat) (r : AttRun) (p : Bytes) :
    (s.attHash c r p).cnt.cells = s.cnt.cells := by simp [State.attHash]

@[simp] theorem State.attYield_cells (s : State) (c : Nat) : (s.attYield c).cnt.cells = s.cnt.cells := rfl

@[simp] theorem State.attTake_cells (s : State) (c : Nat) (err : MemErr) :
    (s.attTake c err).cnt.cells = s.cnt.cells := by
  simp only [State.attTake]
  split
  · simp
  · split <;> [simp; simp; skip]
    split
    · simp
    · split <;> simp

@[simp] theorem State.attHashed_cells (s : State) : s.attHashed.cnt.cells = s.cnt.cells := by
  simp only [State.attHashed]
  repeat' split
  all_goals simp

@[simp] theorem State.certKeys_cells (s : State) (r : AttRun) (keys : Bytes) :
    (s.certKeys r keys).cnt.cells = s.cnt.cells := rfl

@[simp] theorem State.attSigned_cells (s : State) (r : AttRun) (sig : Bytes) :
    (s.attSigned r sig).cnt.cells = s.cnt.cells := by
  simp only [State.attSigned]
  repeat' split
  all_goals simp

@[simp] theorem State.attAnswer_cells (s : State) (k : Code) (out : Bytes) :
    (s.attAnswer k out).cnt.cells = s.cnt.cells := by
  simp only [State.attAnswer]
  repeat' split
  all_goals simp

@[simp] theorem State.pkeAnswer_cells (s : State) (c : PkeCmd) (k : Code) (out : Bytes) :
    (s.pkeAnswer c k out).cnt.cells = s.cnt.cells := by
  simp only [State.pkeAnswer]
  split <;> simp

@[simp] theorem State.pkeAbandon_cells (s : State) : s.pkeAbandon.cnt.cells = s.cnt.cells := by
  simp only [State.pkeAbandon]
  split <;> simp

@[simp] theorem State.attIssue_cells (s : State) (op : PkeOp) (next : AttPhase) (e : MemErr) :
    (s.attIssue op next e).cnt.cells = s.cnt.cells := by
  simp only [State.attIssue]
  repeat' split
  all_goals simp

@[simp] theorem State.attCommit_cells (s : State) : s.attCommit.cnt.cells = s.cnt.cells := by simp [State.attCommit]

@[simp] theorem State.setHandover_cells (s : State) (w : Word) : (s.setHandover w).cnt.cells = s.cnt.cells := rfl

/-! ### Access faults -/

@[simp] theorem State.recordFault_cells (s : State) (f : Afault) : (s.recordFault f).cnt.cells = s.cnt.cells := rfl

@[simp] theorem State.coreFault_cells (s : State) (core : Nat) (k : AccKind) (space : Nat) (a : BitVec 64) :
    (s.coreFault core k space a).cnt.cells = s.cnt.cells := by simp [State.coreFault]

@[simp] theorem State.secFault_cells (s : State) (k : AccKind) (space : Nat) (a : BitVec 32) :
    (s.secFault k space a).cnt.cells = s.cnt.cells := rfl

@[simp] theorem State.gateTrap_cells (s : State) (k : AccKind) (a : Nat) :
    (s.gateTrap k a).cnt.cells = s.cnt.cells := by simp [State.gateTrap]

/-! ### Mailboxes -/

@[simp] theorem State.setMslot_cells (s : State) (i : Nat) (v : MbxSlot) :
    (s.setMslot i v).cnt.cells = s.cnt.cells := rfl

@[simp] theorem State.onMslot_cells (s : State) (i : Nat) (f : MbxSlot → MbxSlot) :
    (s.onMslot i f).cnt.cells = s.cnt.cells := rfl

@[simp] theorem State.post_cells (s : State) (i n : Nat) : (s.post i n).cnt.cells = s.cnt.cells := rfl

@[simp] theorem State.sendSlot_cells (s : State) (i n : Nat) (ok : Bool) :
    (s.sendSlot i n ok).1.cnt.cells = s.cnt.cells := by
  unfold State.sendSlot
  split <;> [simp; (split <;> simp)]

@[simp] theorem State.take_cells (s : State) (i : Nat) : (s.take i).cnt.cells = s.cnt.cells := rfl

@[simp] theorem State.ring_cells (s : State) (i : Nat) (w : Word) :
    (s.ring i w).cnt.cells = s.cnt.cells := by simp [State.ring]

@[simp] theorem State.ringBell_cells (s : State) (w : Word) :
    (s.ringBell w).cnt.cells = s.cnt.cells := by simp [State.ringBell]

@[simp] theorem State.sideSurvives_cells (s : State) (m : Nat) (b : Bool) :
    (s.sideSurvives m b).cnt.cells = s.cnt.cells := rfl

@[simp] theorem State.sideReset_cells (s : State) (m : Nat) (b : Bool) :
    (s.sideReset m b).cnt.cells = s.cnt.cells := rfl

@[simp] theorem State.sidesReset_cells (s : State) (d : Dom) :
    (s.sidesReset d).cnt.cells = s.cnt.cells := by simp [State.sidesReset]

@[simp] theorem State.mailboxesUp_cells (s : State) (reached : Dom → Bool) :
    (s.mailboxesUp reached).cnt.cells = s.cnt.cells := by simp [State.mailboxesUp]

/-! ### Interrupts and random numbers -/

@[simp] theorem State.onPlic_cells (s : State) (f : Plic → Plic) : (s.onPlic f).cnt.cells = s.cnt.cells := rfl

@[simp] theorem State.plicWrite_cells (s : State) (o : Nat) (w : Word) : (s.plicWrite o w).cnt.cells = s.cnt.cells := by
  simp only [State.plicWrite]
  split <;> simp

@[simp] theorem State.clearEdge_cells (s : State) (n : Nat) : (s.clearEdge n).cnt.cells = s.cnt.cells := rfl

@[simp] theorem State.plicClaim_cells (s : State) (c : Nat) : (s.plicClaim c).cnt.cells = s.cnt.cells := by
  simp [State.plicClaim]

@[simp] theorem State.vectorClaim_cells (s : State) (n : Nat) :
    (s.vectorClaim n).cnt.cells = s.cnt.cells := by simp [State.vectorClaim]

@[simp] theorem State.trngPop_cells (s : State) (b : Nat) : (s.trngPop b).cnt.cells = s.cnt.cells := by
  simp only [State.trngPop]
  split <;> simp

@[simp] theorem State.drawBootId_cells (s : State) : s.drawBootId.cnt.cells = s.cnt.cells := by simp [State.drawBootId]

/-! ### The resident firmware -/

@[simp] theorem State.fwPost_cells (s : State) (i : Nat) (ws : List Word) :
    (s.fwPost i ws).cnt.cells = s.cnt.cells := rfl

@[simp] theorem State.mbx1Pass_cells (s : State) (i kind : Nat) : (s.mbx1Pass i kind).cnt.cells = s.cnt.cells := rfl

@[simp] theorem State.ioHead_cells (s : State) (g : FwIo) : (s.ioHead g).cnt.cells = s.cnt.cells := rfl

@[simp] theorem State.ioFail_cells (s : State) (c : Code) : (s.ioFail c).cnt.cells = s.cnt.cells := by
  simp only [State.ioFail]
  split <;> simp

@[simp] theorem State.coreIssue_cells (s : State) (write : Bool) (addr beats : Nat) (data : Bytes) :
    (s.coreIssue write addr beats data).cnt.cells = s.cnt.cells := rfl

@[simp] theorem State.ioWrite_cells (s : State) (a : Nat) (data : Bytes) :
    (s.ioWrite a data).cnt.cells = s.cnt.cells := by simp [State.ioWrite]

@[simp] theorem State.ioStep_cells (s : State) : s.ioStep.cnt.cells = s.cnt.cells := by
  simp only [State.ioStep]
  repeat' split
  all_goals simp

@[simp] theorem State.ioGo_cells (s : State) : s.ioGo.cnt.cells = s.cnt.cells := by simp [State.ioGo]

@[simp] theorem State.ioRun_cells (s : State) (sec : Bool) (ops : List FwOp) :
    (s.ioRun sec ops).cnt.cells = s.cnt.cells := by simp [State.ioRun]

@[simp] theorem State.ioFilled_cells (s : State) (line : Bytes) (err : Bool) :
    (s.ioFilled line err).cnt.cells = s.cnt.cells := by
  simp only [State.ioFilled]
  repeat' split
  all_goals simp

@[simp] theorem State.ioAcked_cells (s : State) (err : Bool) : (s.ioAcked err).cnt.cells = s.cnt.cells := by
  simp only [State.ioAcked]
  repeat' split
  all_goals simp

@[simp] theorem State.ioLost_cells (s : State) : s.ioLost.cnt.cells = s.cnt.cells := rfl

@[simp] theorem State.setTask_cells (s : State) (b : Blk) (t : Option FwTask) :
    (s.setTask b t).cnt.cells = s.cnt.cells := rfl

@[simp] theorem State.attGive_cells (s : State) (b : Blk) (op : AttOp) (job : FwJob) :
    (s.attGive b op job).cnt.cells = s.cnt.cells := by simp [State.attGive]

@[simp] theorem State.setWords_cells (s : State) (r : Reg) (b n : Nat) (bs : Bytes) :
    (s.setWords r b n bs).cnt.cells = s.cnt.cells := cells_foldl (by intros; rfl) _ _

@[simp] theorem State.askReport_cells (s : State) (b : Blk) (op : AttOp) (nonce : Bytes) (max : Nat) (job : FwJob) :
    (s.askReport b op nonce max job).cnt.cells = s.cnt.cells := by simp [State.askReport]

@[simp] theorem State.askSign_cells (s : State) (b : Blk) (purpose : Nat) (h : Bytes) (job : FwJob) :
    (s.askSign b purpose h job).cnt.cells = s.cnt.cells := by simp [State.askSign]

@[simp] theorem State.dgeTurns_cells (s : State) (who n : Nat) (v : Bytes) :
    (s.dgeTurns who n v).cnt.cells = s.cnt.cells := by
  simp only [State.dgeTurns]
  split <;> simp

@[simp] theorem State.cmpTurn_cells (s : State) (equal : Bool) : (s.cmpTurn equal).cnt.cells = s.cnt.cells := rfl

@[simp] theorem State.d3Missed_cells (s : State) : s.d3Missed.cnt.cells = s.cnt.cells := by simp [State.d3Missed]

@[simp] theorem State.destroyNow_cells (s : State) (i : SlotIx) (g : Gen) :
    (s.destroyNow i g).cnt.cells = s.cnt.cells := by simp [State.destroyNow]

theorem State.fwRandom_cells {s t : State} {n : Nat} {b : Bytes} (h : s.fwRandom n = some (t, b)) :
    t.cnt.cells = s.cnt.cells := by
  simp only [State.fwRandom] at h
  split at h <;> cases h
  simp

/-! ### The workers of a manager -/

@[simp] theorem State.recheckJobs_cells (s : State) (w : BitVec 12) : (s.recheckJobs w).cnt.cells = s.cnt.cells := by
  simp only [State.recheckJobs]
  exact cells_foldl (by intros; rfl) _ _

/-! ### The SPDM responder -/

@[simp] theorem State.onSpdm_cells (s : State) (id : Word) (f : SpdmSession → SpdmSession) :
    (s.onSpdm id f).cnt.cells = s.cnt.cells := rfl

@[simp] theorem State.endSpdm_cells (s : State) (id : Word) : (s.endSpdm id).cnt.cells = s.cnt.cells := rfl

@[simp] theorem State.fwDestroys_cells (s : State) : s.fwDestroys.cnt.cells = s.cnt.cells := by simp [State.fwDestroys]

@[simp] theorem State.answer_cells (s : State) (ss : Option Word) (m : Bytes) :
    (s.answer ss m).cnt.cells = s.cnt.cells := by
  simp only [State.answer]
  split <;> simp

@[simp] theorem State.answerError_cells (s : State) (ss : Option Word) (c : Byte) :
    (s.answerError ss c).cnt.cells = s.cnt.cells := by simp [State.answerError]

@[simp] theorem State.transcripts_cells (s : State) (ss : Option Word) (code : Byte) :
    (s.transcripts ss code).cnt.cells = s.cnt.cells := by
  simp only [State.transcripts]
  split <;> simp

@[simp] theorem State.countRecord_cells (s : State) (ss : Option Word) :
    (s.countRecord ss).cnt.cells = s.cnt.cells := by
  simp only [State.countRecord]
  split <;> simp

/-- A request that reaches its meaning does so with the counter cells as they were. -/
theorem State.spdm_cells_of {Q : State → Prop} {s : State} {f : State → Bytes → State}
    (hQ : ∀ t, t.cnt.cells = s.cnt.cells → Q t)
    (hf : ∀ t m, t.cnt.cells = s.cnt.cells → Q (f t m)) (ss : Option Word) (r : Bytes) (mine : Byte × Byte) :
    Q (s.spdm ss r mine f) := by
  simp only [State.spdm]
  split <;> [exact hQ _ rfl; skip]
  split <;> [exact hQ _ (by simp); skip]
  generalize hu : (if (ss.bind s.spdmSession).isSome = true then s.cmpTurn (s.opened ss r).isSome else s) = u
  have hst : u.cnt.cells = s.cnt.cells := by simp [← hu]
  split
  · split <;> exact hQ _ (by simp [hst])
  · split
    · split <;> exact hQ _ (by simp [hst])
    · split <;> [exact hQ _ hst; (split <;> [exact hQ _ (by simp [hst]); exact hf _ _ (by simp [hst])])]

theorem State.inSession_cells_of {Q : State → Prop} {k : Sparse CtrCell} {s : State}
    {f : State → SpdmSession → State} (hQ : ∀ t, t.cnt.cells = k → Q t) (hf : ∀ t x, t.cnt.cells = k → Q (f t x))
    (hs : s.cnt.cells = k) (ss : Option Word) (late : Bool) : Q (s.inSession ss late f) := by
  unfold State.inSession
  split <;> [exact hQ _ (by simp [hs]); (split <;> [exact hf _ _ hs; exact hQ _ (by simp [hs])])]

@[simp] theorem State.negotiated_cells (s : State) (n : Nat) (m rsp : Bytes) :
    (s.negotiated n m rsp).cnt.cells = s.cnt.cells := rfl

@[simp] theorem State.fetchCerts_cells (s : State) (ec : Bool) :
    (s.fetchCerts ec).cnt.cells = s.cnt.cells := cells_foldl (by intros; rfl) _ _

@[simp] theorem State.noteB_cells (s : State) (ss : Option Word) (m rsp : Bytes) :
    (s.noteB ss m rsp).cnt.cells = s.cnt.cells := by simp [State.noteB]

@[simp] theorem State.withSignature_cells (s : State) (purpose : Nat) (t : Bytes) (job : FwJob) :
    (s.withSignature purpose t job).cnt.cells = s.cnt.cells := by simp [State.withSignature]

@[simp] theorem State.setMsgL_cells (s : State) (ss : Option Word) (l : Bytes) :
    (s.setMsgL ss l).cnt.cells = s.cnt.cells := by
  simp only [State.setMsgL]
  split <;> simp

@[simp] theorem State.exchanged_cells (s : State) (id : Word) (t body hs sig : Bytes) :
    (s.exchanged id t body hs sig).cnt.cells = s.cnt.cells := by simp [State.exchanged]

@[simp] theorem State.answerVendor_cells (s : State) (ss : Option Word) (op : Byte) (payload : Bytes) :
    (s.answerVendor ss op payload).cnt.cells = s.cnt.cells := by simp [State.answerVendor]

@[simp] theorem State.answerCode_cells (s : State) (ss : Option Word) (op : Byte) (c : Code) :
    (s.answerCode ss op c).cnt.cells = s.cnt.cells := by simp [State.answerCode]

@[simp] theorem State.setPq_cells (s : State) (q : Option PqWork) : (s.setPq q).cnt.cells = s.cnt.cells := rfl

@[simp] theorem State.pqOver_cells (s : State) (q : PqWork) (op : Byte) (c : Code) :
    (s.pqOver q op c).cnt.cells = s.cnt.cells := by simp [State.pqOver]

@[simp] theorem State.pqCommand_cells (s : State) (q : PqWork) (op : PkeOp) (w : Word) :
    (s.pqCommand q op w).cnt.cells = s.cnt.cells := by simp [State.pqCommand]

@[simp] theorem State.openNow_cells (s : State) (i : SlotIx) (id : Word) (p : BitVec 8) (th : Bytes) :
    (s.openNow i id p th).cnt.cells = s.cnt.cells := by simp [State.openNow]

@[simp] theorem State.pqAsk_cells (s : State) (q : PqWork) : (s.pqAsk q).cnt.cells = s.cnt.cells := by
  simp only [State.pqAsk]
  repeat' split
  all_goals simp

@[simp] theorem State.pqDone_cells (s : State) (q : PqWork) (k : Code) : (s.pqDone q k).cnt.cells = s.cnt.cells := by
  simp only [State.pqDone]
  repeat' split
  all_goals simp

@[simp] theorem State.pqNext_cells (s : State) : s.pqNext.cnt.cells = s.cnt.cells := by
  simp only [State.pqNext]
  split <;> simp

@[simp] theorem State.pqGo_cells (s : State) : s.pqGo.cnt.cells = s.cnt.cells := by
  simp only [State.pqGo]
  repeat' split
  all_goals simp

@[simp] theorem State.dataIn_cells (s : State) (x : SpdmSession) (n : Nat) :
    (s.dataIn x n).1.cnt.cells = s.cnt.cells := by
  simp only [State.dataIn]
  split <;> simp

@[simp] theorem State.dataOut_cells (s : State) (id : Word) (text : Bytes) :
    (s.dataOut id text).1.cnt.cells = s.cnt.cells := by
  simp [State.dataOut]

/-! ### Rings of the host -/

@[simp] theorem State.reply_cells (s : State) (ws : List Word) :
    (s.reply ws).cnt.cells = s.cnt.cells := by simp [State.reply]

theorem State.serveType_cells {f : State → State} (h : ∀ s, (f s).cnt.cells = s.cnt.cells) (s : State) (t : Nat) :
    (s.serveType t f).cnt.cells = s.cnt.cells := by
  simp [State.serveType, h]

@[simp] theorem State.capPrepare_cells (s : State) (area : Nat) (gen : BitVec 8) :
    (s.capPrepare area gen).cnt.cells = s.cnt.cells := rfl

@[simp] theorem State.capOffer_cells (s : State) :
    s.capOffer.cnt.cells = s.cnt.cells := (State.ioRun_cells _ _ _).trans (State.capPrepare_cells _ _ _)

@[simp] theorem State.capAccept_cells (s : State) (page : Option Bytes) :
    (s.capAccept page).cnt.cells = s.cnt.cells := by simp [State.capAccept]

@[simp] theorem State.setRing_cells (s : State) (r : Nat) (v : Ring) : (s.setRing r v).cnt.cells = s.cnt.cells := rfl

@[simp] theorem State.ringRefuse_cells (s : State) (r : Nat) :
    (s.ringRefuse r).cnt.cells = s.cnt.cells := by simp [State.ringRefuse]

@[simp] theorem State.ringPut_cells (s : State) (r : Nat) (v : Ring) :
    (s.ringPut r v).cnt.cells = s.cnt.cells := by simp [State.ringPut]

@[simp] theorem State.hostReported_cells (s : State) (b : Blk) (addr : Nat) (k : Code) (n : Nat) :
    (s.hostReported b addr k n).cnt.cells = s.cnt.cells := by simp [State.hostReported]

@[simp] theorem State.complete_cells (s : State) (r : Nat) (e : Bytes) (c : Code) (result : Bytes) :
    (s.complete r e c result).cnt.cells = s.cnt.cells := by simp [State.complete]

theorem State.submission_cells {f : State → Bytes → State} (h : ∀ s e, (f s e).cnt.cells = s.cnt.cells) (s : State)
    (r op feature : Nat) : (s.submission r op feature f).cnt.cells = s.cnt.cells := by
  simp [State.submission, h]

@[simp] theorem State.lookAt_cells (s : State) (x : FwRead) (addr beats : Nat) :
    (s.lookAt x addr beats).cnt.cells = s.cnt.cells := rfl

@[simp] theorem State.lookDescriptor_cells (s : State) (r : Nat) (gen : Gen) (addr left : Nat) :
    (s.lookDescriptor r gen addr left).cnt.cells = s.cnt.cells := rfl

@[simp] theorem State.lookNext_cells (s : State) : s.lookNext.cnt.cells = s.cnt.cells := by
  simp only [State.lookNext]
  repeat' split
  all_goals simp

@[simp] theorem State.entryRead_cells (s : State) (r : Nat) (gen : Gen) (e : Bytes) :
    (s.entryRead r gen e).cnt.cells = s.cnt.cells := by simp [State.entryRead]

@[simp] theorem State.blockRead_cells (s : State) (r : Nat) (gen : Gen) (b : Bytes) :
    (s.blockRead r gen b).cnt.cells = s.cnt.cells := by simp [State.blockRead]

@[simp] theorem State.lookDone_cells (s : State) (data : Bytes) (err : Bool) :
    (s.lookDone data err).cnt.cells = s.cnt.cells := by
  simp only [State.lookDone]
  repeat' split
  all_goals simp

@[simp] theorem State.jobStep_cells (s : State) (r : Nat) (e : Bytes) (workers : List (BitVec 12)) :
    (s.jobStep r e workers).1.cnt.cells = s.cnt.cells := by
  simp only [State.jobStep]
  split <;> [simp; (split <;> simp)]

@[simp] theorem State.ringOpen_cells (s : State) (e : Bytes) (p : PartId) :
    (s.ringOpen e p).cnt.cells = s.cnt.cells := by simp [State.ringOpen]

@[simp] theorem State.parkRings_cells (s : State) : s.parkRings.cnt.cells = s.cnt.cells := by simp [State.parkRings]

/-! ### The worker channel -/

@[simp] theorem State.notesGen_cells (s : State) (h : WBeat) : (s.notesGen h).cnt.cells = s.cnt.cells := rfl

@[simp] theorem State.wcpAccept_cells (s : State) (h : WBeat) (beats : List WBeat) :
    (s.wcpAccept h beats).cnt.cells = s.cnt.cells := by simp [State.wcpAccept]

@[simp] theorem State.wcpReceive_cells (s : State) (h : WBeat) (beats : List WBeat) :
    (s.wcpReceive h beats).cnt.cells = s.cnt.cells := by simp [State.wcpReceive]

@[simp] theorem State.wcpTake_cells (s : State) : s.wcpTake.cnt.cells = s.cnt.cells := by
  simp only [State.wcpTake]
  split <;> simp

@[simp] theorem State.wcpPump_cells (n : Nat) (s : State) : (State.wcpPump n s).cnt.cells = s.cnt.cells := by
  induction n generalizing s with
  | zero => rfl
  | succ n ih =>
    unfold State.wcpPump
    split <;> [rfl; (split <;> simp [ih])]

@[simp] theorem State.wcpStart_cells (s : State) : s.wcpStart.cnt.cells = s.cnt.cells := by simp [State.wcpStart]

@[simp] theorem State.noteCollection_cells (s : State) (h : WBeat) (beats : List WBeat) :
    (s.noteCollection h beats).cnt.cells = s.cnt.cells := by simp [State.noteCollection]

@[simp] theorem State.wcpSend_cells (s : State) (n : Nat) :
    (s.wcpSend n).cnt.cells = s.cnt.cells := by simp [State.wcpSend]

@[simp] theorem State.wcpNext_cells (s : State) : s.wcpNext.cnt.cells = s.cnt.cells := by
  simp only [State.wcpNext]
  split <;> simp

@[simp] theorem State.wcpQueue_cells (s : State) (l : List (List WBeat)) :
    (s.wcpQueue l).cnt.cells = s.cnt.cells := by simp [State.wcpQueue]

@[simp] theorem State.workerReported_cells (s : State) (h : WBeat) (k : Code) (n : Nat) :
    (s.workerReported h k n).cnt.cells = s.cnt.cells := by simp [State.workerReported]

@[simp] theorem State.onColl_cells (s : State) (f : Collection → Collection) :
    (s.onColl f).cnt.cells = s.cnt.cells := rfl

@[simp] theorem State.keepReport_cells (s : State) (w : BitVec 12) (r : Bytes) :
    (s.keepReport w r).cnt.cells = s.cnt.cells := by simp [State.keepReport]

@[simp] theorem State.sessionReported_cells (s : State) (id : Word) (n : Nat) :
    (s.sessionReported id n).cnt.cells = s.cnt.cells := by simp [State.sessionReported]

@[simp] theorem State.composeNext_cells (s : State) : s.composeNext.cnt.cells = s.cnt.cells := by
  simp only [State.composeNext]
  split <;> simp

@[simp] theorem State.beginComposite_cells (s : State) (id : Word) (nonce : Bytes) :
    (s.beginComposite id nonce).cnt.cells = s.cnt.cells := by simp [State.beginComposite]

@[simp] theorem State.attSettled_cells (s : State) (j : FwJob) (k : Code) (n : Nat) :
    (s.attSettled j k n).cnt.cells = s.cnt.cells := by
  simp only [State.attSettled]
  split <;> simp

@[simp] theorem State.attResumeC_cells (s : State) : s.attResumeC.cnt.cells = s.cnt.cells := by
  simp only [State.attResumeC]
  split <;> simp

@[simp] theorem State.attResumeS_cells (s : State) : s.attResumeS.cnt.cells = s.cnt.cells := by
  simp only [State.attResumeS]
  repeat' split
  all_goals simp

/-! ### What a reset clears -/

@[simp] theorem State.clearDom_cells (s : State) (d : Dom) : (s.clearDom d).cnt.cells = s.cnt.cells := rfl

@[simp] theorem State.passSlot_cells (s : State) (i : SlotIx) : (s.passSlot i).cnt.cells = s.cnt.cells := by
  simp [State.passSlot]

@[simp] theorem State.keyPass_cells (s : State) (rank : Nat) (fresh : Bool) :
    (s.keyPass rank fresh).cnt.cells = s.cnt.cells := by simp [State.keyPass]

@[simp] theorem State.chunkAcked_cells (s : State) (sid : StreamId) (gen : Gen) (err : Bool) :
    (s.chunkAcked sid gen err).cnt.cells = s.cnt.cells := by simp [State.chunkAcked]

@[simp] theorem State.pkeDropC_cells (s : State) : s.pkeDropC.cnt.cells = s.cnt.cells := by simp [State.pkeDropC]

@[simp] theorem State.tearNvm_cells (s : State) : s.tearNvm.cnt.cells = s.cnt.cells := by
  unfold State.tearNvm
  split <;> [rfl; (split <;> rfl)]

@[simp] theorem State.letCtx_cells (s : State) (c : Nat) (g : Gen) :
    (s.letCtx c g).cnt.cells = s.cnt.cells := by simp [State.letCtx]

@[simp] theorem State.updDrop_cells (s : State) : s.updDrop.cnt.cells = s.cnt.cells := by
  simp only [State.updDrop]
  repeat' split
  all_goals simp

/-! ### The reset sequencer, the watchdogs and DIM -/

@[simp] theorem State.lcsStopped_cells (s : State) : s.lcsStopped.cnt.cells = s.cnt.cells := by simp [State.lcsStopped]

@[simp] theorem State.dimReset_cells (s : State) (doms : List Dom) :
    (s.dimReset doms).cnt.cells = s.cnt.cells := by simp [State.dimReset]

@[simp] theorem State.blockOver_cells (s : State) (d : Dom) : (s.blockOver d).cnt.cells = s.cnt.cells := by
  simp [State.blockOver]

@[simp] theorem State.crsCommit_cells (s : State) : s.crsCommit.cnt.cells = s.cnt.cells := by
  simp only [State.crsCommit]
  split <;> simp

@[simp] theorem State.blockWrite_cells (s : State) (w : Word) : (s.blockWrite w).cnt.cells = s.cnt.cells := by
  simp only [State.blockWrite]
  split <;> rfl

@[simp] theorem State.ctlKick_cells (s : State) (w : Word) :
    (s.ctlKick w).cnt.cells = s.cnt.cells := by simp [State.ctlKick]

@[simp] theorem State.ctlCtrl_cells (s : State) (w : Word) :
    (s.ctlCtrl w).cnt.cells = s.cnt.cells := by simp [State.ctlCtrl]

@[simp] theorem State.dimWrite_cells (s : State) (w : Word) (coresWaiting : Bool) :
    (s.dimWrite w coresWaiting).cnt.cells = s.cnt.cells := by simp [State.dimWrite]

@[simp] theorem State.pkeClear_cells (s : State) : s.pkeClear.cnt.cells = s.cnt.cells := by simp [State.pkeClear]

/-! ### The programming path and the life cycle -/

@[simp] theorem State.cwyField_cells (s : State) (lo len v : Nat) : (s.cwyField lo len v).cnt.cells = s.cnt.cells := rfl

@[simp] theorem State.cwyPhase_cells (s : State) (p : Nat) :
    (s.cwyPhase p).cnt.cells = s.cnt.cells := by simp [State.cwyPhase]

theorem State.otpCommand_cells_of {Q : State → Prop} {s : State} {f : State → State}
    (hQ : ∀ t, t.cnt.cells = s.cnt.cells → Q t)
    (hf : Q (f s)) (w : Word) (allowed : LcState → Bool) (refusals : List (Bool × Code)) :
    Q (s.otpCommand w allowed refusals f) := by
  unfold State.otpCommand
  split <;> [exact hQ _ (by simp); exact hf]

@[simp] theorem State.lcsRefuse_cells (s : State) (c : Code) : (s.lcsRefuse c).cnt.cells = s.cnt.cells := rfl

@[simp] theorem State.rootAction_cells (s : State) : s.rootAction.cnt.cells = s.cnt.cells := by
  simp only [State.rootAction]
  split <;> simp

/-! ### The Tinder ROM -/

@[simp] theorem State.extendNow_cells (s : State) (i : Nat) (v : Bytes) :
    (s.extendNow i v).cnt.cells = s.cnt.cells := rfl

@[simp] theorem State.formNow_cells (s : State) : s.formNow.1.cnt.cells = s.cnt.cells := by
  simp only [State.formNow]
  split <;> [rfl; skip]
  split <;> [simp; skip]
  split <;> simp

@[simp] theorem State.bootHalt_cells (s : State) (f : SetFail) : (s.bootHalt f).cnt.cells = s.cnt.cells := rfl

@[simp] theorem State.enterRecovery_cells (s : State) :
    s.enterRecovery.cnt.cells = s.cnt.cells := by simp [State.enterRecovery]

@[simp] theorem State.bootFail_cells (s : State) (f : SetFail) : (s.bootFail f).cnt.cells = s.cnt.cells := by
  simp [State.bootFail]

@[simp] theorem State.bootAbort_cells (s : State) : s.bootAbort.cnt.cells = s.cnt.cells := rfl

@[simp] theorem State.bootStop_cells (s : State) (abort : Option (Fin 27)) (f : SetFail) :
    (s.bootStop abort f).cnt.cells = s.cnt.cells := by simp [State.bootStop]

@[simp] theorem State.placePart_cells (s : State) (p : Part) (bs : Bytes) :
    (s.placePart p bs).cnt.cells = s.cnt.cells := by
  unfold State.placePart
  split <;> [rfl; exact cells_elim rfl (by intros; rfl) _]

@[simp] theorem State.placeAll_cells (s : State) (m : Bytes) : (s.placeAll m).cnt.cells = s.cnt.cells := by
  simp [State.placeAll]

@[simp] theorem State.bootHand_cells (s : State) (r m : Bytes) (abort : Option (Fin 27)) :
    (s.bootHand r m abort).cnt.cells = s.cnt.cells := by simp [State.bootHand]

@[simp] theorem State.bootFinish_cells (s : State) (r m : Bytes) (abort : Option (Fin 27)) :
    (s.bootFinish r m abort).cnt.cells = s.cnt.cells := by
  have hfold (l : List Nat) :
      (l.foldl (fun s t => (partOf m t).elim s fun p => s.extendNow (t + 1) p.digest) s).cnt.cells = s.cnt.cells :=
    cells_foldl (fun s t => cells_elim rfl (fun p => by simp) _) s l
  simp only [State.bootFinish]
  split <;> [simp; skip]
  generalize hu : [1, 2, 3, 4].foldl _ s = u
  have hst : u.cnt.cells = s.cnt.cells := hu ▸ hfold _
  simp [hst]

@[simp] theorem State.bootParts_cells (s : State) (r m : Bytes) (abort : Option (Fin 27)) :
    (s.bootParts r m abort).cnt.cells = s.cnt.cells := by
  simp only [State.bootParts]
  repeat' split
  all_goals simp

@[simp] theorem State.bootSet_cells (s : State) (r : Bytes) (abort : Option (Fin 27)) :
    (s.bootSet r abort).cnt.cells = s.cnt.cells := by
  simp only [State.bootSet]
  repeat' split
  all_goals simp

@[simp] theorem State.secKick_cells (s : State) : s.secKick.cnt.cells = s.cnt.cells := rfl

@[simp] theorem State.bootRun_cells (s : State) (abort : Option (Fin 27)) :
    (s.bootRun abort).cnt.cells = s.cnt.cells := by
  simp only [State.bootRun]
  repeat' split
  all_goals simp

@[simp] theorem State.testArray_cells (s : State) (i : Nat) : (s.testArray i).cnt.cells = s.cnt.cells := by
  simp [State.testArray]

@[simp] theorem State.mainStart_cells (s : State) (w : Word) : (s.mainStart w).cnt.cells = s.cnt.cells := by
  simp [State.mainStart]

@[simp] theorem State.lockWrite_cells (s : State) (which : Nat) (w : Word) :
    (s.lockWrite which w).cnt.cells = s.cnt.cells := by simp [State.lockWrite]

/-! ### The Causeway link -/

@[simp] theorem State.dropFrame_cells (s : State) (why : FrameFault) : (s.dropFrame why).cnt.cells = s.cnt.cells := rfl

@[simp] theorem State.engineAnswer_cells (s : State) (f : Bytes) (c : Code) (keep : Bool) :
    (s.engineAnswer f c keep).cnt.cells = s.cnt.cells := by simp [State.engineAnswer]

@[simp] theorem State.stageIssue_cells (n : Nat) (s : State) : (State.stageIssue n s).cnt.cells = s.cnt.cells := by
  induction n generalizing s with
  | zero => rfl
  | succ n ih =>
    unfold State.stageIssue
    split <;> [rfl; simp [ih]]

@[simp] theorem State.stage_cells (s : State) (f : Bytes) : (s.stage f).cnt.cells = s.cnt.cells := by simp [State.stage]

@[simp] theorem State.describe_cells (s : State) (f : Bytes) (c : Code) (buffered : Bool) :
    (s.describe f c buffered).cnt.cells = s.cnt.cells := rfl

@[simp] theorem State.postFrame_cells (s : State) (typ : Nat) (seq : BitVec 16) (arg : Nat) (payload : Bytes) :
    (s.postFrame typ seq arg payload).cnt.cells = s.cnt.cells := rfl

@[simp] theorem State.sendPosted_cells (s : State) : s.sendPosted.cnt.cells = s.cnt.cells := rfl

@[simp] theorem State.sendFrom_cells (s : State) (m : Nat) (d : MbxDir) (n : Nat) :
    (s.sendFrom m d n).cnt.cells = s.cnt.cells := by simp [State.sendFrom]

@[simp] theorem State.copyNext_cells (s : State) : s.copyNext.cnt.cells = s.cnt.cells := by
  simp only [State.copyNext]
  split <;> simp

@[simp] theorem State.copyRead_cells (s : State) (data : Bytes) (err : Bool) :
    (s.copyRead data err).cnt.cells = s.cnt.cells := by
  simp only [State.copyRead]
  split <;> simp

@[simp] theorem State.cwyCopy_cells (s : State) (w : Word) : (s.cwyCopy w).cnt.cells = s.cnt.cells := by
  simp only [State.cwyCopy]
  split <;> simp

@[simp] theorem State.nvmNext_cells (s : State) : s.nvmNext.cnt.cells = s.cnt.cells := by
  simp only [State.nvmNext]
  split <;> simp

@[simp] theorem State.nvmRead_cells (s : State) (data : Bytes) (err : Bool) :
    (s.nvmRead data err).cnt.cells = s.cnt.cells := by
  simp only [State.nvmRead]
  split <;> simp

@[simp] theorem State.cwyNvm_cells (s : State) (w : Word) : (s.cwyNvm w).cnt.cells = s.cnt.cells := by
  simp only [State.cwyNvm]
  split <;> simp

@[simp] theorem State.nvmBus_cells (s : State) (r : NvmRun) : (s.nvmBus r).cnt.cells = s.cnt.cells := by
  unfold State.nvmBus
  split <;> [rfl; rfl; skip]
  exact cells_foldl (by intros; rfl) _ _

@[simp] theorem State.nvmEnd_cells (s : State) (r : NvmRun) (ok : Bool) : (s.nvmEnd r ok).cnt.cells = s.cnt.cells := by
  unfold State.nvmEnd
  extract_lets old done t
  have hdone (c : Code) (u : State) : (done c u).cnt.cells = u.cnt.cells := rfl
  have ht : t.cnt.cells = s.cnt.cells := State.nvmBus_cells ..
  have hput (bs : Bytes) : (t.nvmPut r.sector bs).cnt.cells = s.cnt.cells := ht
  have htear : t.tearNvm.cnt.cells = s.cnt.cells := t.tearNvm_cells.trans ht
  split <;> [exact hdone ..; skip]
  split <;> [skip; split; split] <;> refine (hdone ..).trans ?_
  exacts [ht, hput _, htear, hput _, htear]

/-! ### Field update -/

@[simp] theorem State.status_cells (s : State) (f : Bytes) (c : Code) : (s.status f c).cnt.cells = s.cnt.cells := rfl

@[simp] theorem State.statusFull_cells (s : State) (f : Bytes) (c : Code) :
    (s.statusFull f c).cnt.cells = s.cnt.cells := rfl

@[simp] theorem State.noteFail_cells (s : State) (f : Option SetFail) : (s.noteFail f).cnt.cells = s.cnt.cells := rfl

@[simp] theorem State.answerFail_cells (s : State) (f : Bytes) (x : Option SetFail) :
    (s.answerFail f x).cnt.cells = s.cnt.cells := by simp [State.answerFail]

@[simp] theorem State.rephase_cells (s : State) (p : Nat) :
    (s.rephase p).cnt.cells = s.cnt.cells := by simp [State.rephase]

@[simp] theorem State.dropSet_cells (s : State) :
    s.dropSet.cnt.cells = s.cnt.cells := cells_elim (by simp) (fun f => by simp) _

@[simp] theorem State.endService_cells (s : State) : s.endService.cnt.cells = s.cnt.cells := by simp [State.endService]

@[simp] theorem State.hello_cells (s : State) (f : Bytes) : (s.hello f).cnt.cells = s.cnt.cells := by simp [State.hello]

@[simp] theorem State.noteLimit_cells (s : State) (x : SetFail) :
    (s.noteLimit x).cnt.cells = s.cnt.cells := by simp [State.noteLimit]

@[simp] theorem State.manifestFrame_cells (s : State) (f : Bytes) : (s.manifestFrame f).cnt.cells = s.cnt.cells := by
  simp only [State.manifestFrame]
  repeat' split
  all_goals simp

@[simp] theorem State.stagedAnswer_cells (s : State) (r : CwyRx) :
    (s.stagedAnswer r).cnt.cells = s.cnt.cells := by simp [State.stagedAnswer]

@[simp] theorem State.stageGoOn_cells (s : State) : s.stageGoOn.cnt.cells = s.cnt.cells := by
  simp only [State.stageGoOn]
  split <;> simp

@[simp] theorem State.stageAcked_cells (s : State) (err : Bool) :
    (s.stageAcked err).cnt.cells = s.cnt.cells := by simp [State.stageAcked]

@[simp] theorem State.stageFrame_cells (s : State) (f : Bytes) :
    (s.stageFrame f).cnt.cells = s.cnt.cells := by simp [State.stageFrame]

@[simp] theorem State.updTo_cells (s : State) (st : UpdStep) : (s.updTo st).cnt.cells = s.cnt.cells := rfl

@[simp] theorem State.updStarted_cells (s : State) (b : Bool) : (s.updStarted b).cnt.cells = s.cnt.cells := rfl

@[simp] theorem State.updRefuse_cells (s : State) (u : UpdWork) (c : Code) (x : Option SetFail) :
    (s.updRefuse u c x).cnt.cells = s.cnt.cells := by simp [State.updRefuse]

@[simp] theorem State.updVerified_cells (s : State) (u : UpdWork) :
    (s.updVerified u).cnt.cells = s.cnt.cells := by simp [State.updVerified]

@[simp] theorem State.hashPart_cells (s : State) (p : Part) (c : Nat) (g : Gen) :
    (s.hashPart p c g).cnt.cells = s.cnt.cells := by
  simp only [State.hashPart, State.dgeUpdate_cells]
  rw [cells_foldl (by intros; rfl), State.setReg_cnt, State.setReg_cnt, State.setReg_cnt]

@[simp] theorem State.updAsk_cells (s : State) (u : UpdWork) (i : Nat) : (s.updAsk u i).cnt.cells = s.cnt.cells := by
  simp only [State.updAsk]
  split <;> simp

@[simp] theorem State.updAbsorb_cells (s : State) (u : UpdWork) (i c : Nat) (g : Gen) :
    (s.updAbsorb u i c g).cnt.cells = s.cnt.cells := by simp [State.updAbsorb]

@[simp] theorem State.updCompare_cells (s : State) (u : UpdWork) (i c : Nat) (g : Gen) :
    (s.updCompare u i c g).cnt.cells = s.cnt.cells := by
  simp only [State.updCompare]
  repeat' split
  all_goals simp

@[simp] theorem State.compareTurn_cells (s : State) (who : Nat) :
    (s.compareTurn who).cnt.cells = s.cnt.cells := by simp [State.compareTurn]

@[simp] theorem State.raiseLock_cells (s : State) (t : Nat) (p : Part) : (s.raiseLock t p).cnt.cells = s.cnt.cells := by
  simp only [State.raiseLock]
  split <;> simp

@[simp] theorem State.copyPart_cells (s : State) (t : Nat) (p : Part) :
    (s.copyPart t p).cnt.cells = s.cnt.cells := by simp [State.copyPart]

@[simp] theorem State.afterCopy_cells (s : State) (t : Nat) : (s.afterCopy t).cnt.cells = s.cnt.cells := by
  simp only [State.afterCopy]
  split <;> simp

@[simp] theorem State.secMigrates_cells (s : State) (m : Bytes) :
    (s.secMigrates m).cnt.cells = s.cnt.cells := by simp [State.secMigrates]

@[simp] theorem State.updCopy_cells (s : State) (u : UpdWork) (t : Nat) : (s.updCopy u t).cnt.cells = s.cnt.cells := by
  simp only [State.updCopy]
  split <;> simp

@[simp] theorem State.raiseEnd_cells (s : State) (m : Bytes) (t : Nat) : (s.raiseEnd m t).cnt.cells = s.cnt.cells := by
  simp only [State.raiseEnd]
  split <;> simp

@[simp] theorem State.updGate_cells (s : State) (u : UpdWork) : (s.updGate u).cnt.cells = s.cnt.cells := by
  simp only [State.updGate]
  split <;> [rfl; skip]
  simp only [State.updTo_cells, State.raiseEnd_cells]
  rw [cells_foldl (by intros; rfl)]
  rfl

@[simp] theorem State.updMeet_cells (s : State) (u : UpdWork) :
    (s.updMeet u).cnt.cells = s.cnt.cells := by simp [State.updMeet]

@[simp] theorem State.mainHandsOver_cells (s : State) (m : Bytes) :
    (s.mainHandsOver m).cnt.cells = s.cnt.cells := by simp [State.mainHandsOver]

@[simp] theorem State.afterRequest_cells (s : State) : s.afterRequest.cnt.cells = s.cnt.cells := rfl

@[simp] theorem State.updAsks_cells (s : State) : s.updAsks.cnt.cells = s.cnt.cells := by simp [State.updAsks]

@[simp] theorem State.updRequest_cells (s : State) (u : UpdWork) :
    (s.updRequest u).cnt.cells = s.cnt.cells := by simp [State.updRequest]

@[simp] theorem State.updIdle_cells (s : State) : s.updIdle.cnt.cells = s.cnt.cells := by simp [State.updIdle]

@[simp] theorem State.updBlock_cells (s : State) (u : UpdWork) : (s.updBlock u).cnt.cells = s.cnt.cells := by
  simp [State.updBlock]

@[simp] theorem State.mainMigrates_cells (s : State) (k : Fw) :
    (s.mainMigrates k).cnt.cells = s.cnt.cells := by simp [State.mainMigrates]

@[simp] theorem State.updServe_cells (s : State) (u : UpdWork) : (s.updServe u).cnt.cells = s.cnt.cells := by
  simp only [State.updServe]
  split <;> [rfl; skip]
  split <;> [simp; skip]
  rw [State.updTo_cells, State.mbx1Pass_cells]
  exact cells_elim (by simp) (fun k => by simp) _

@[simp] theorem State.updFinish_cells (s : State) (u : UpdWork) :
    (s.updFinish u).cnt.cells = s.cnt.cells := by simp [State.updFinish]

@[simp] theorem State.rewriteFails_cells (s : State) :
    s.rewriteFails.cnt.cells = s.cnt.cells := by simp [State.rewriteFails]

@[simp] theorem State.sectorDone_cells (s : State) (a : Nat) (rest : List Nat) (st : SectorStep) (again : Bool) :
    (s.sectorDone a rest st again).cnt.cells = s.cnt.cells := by
  simp only [State.sectorDone]
  split <;> simp

@[simp] theorem State.commitSet_cells (s : State) (f : Bytes) (now : Bool) :
    (s.commitSet f now).cnt.cells = s.cnt.cells := by
  simp only [State.commitSet]
  repeat' split
  all_goals simp

theorem State.receive_cells_of {Q : State → Prop} {s : State} {go : State → State}
    (hQ : ∀ t, t.cnt.cells = s.cnt.cells → Q t)
    (hgo : ∀ t, t.cnt.cells = s.cnt.cells → Q (go t)) (f : Bytes) : Q (s.receive f go) := by
  simp only [State.receive]
  split <;> [exact hQ _ rfl; skip]
  split <;> [exact hQ _ (by simp); skip]
  split <;> [exact hQ _ (by simp); skip]
  split <;> [exact hQ _ (by simp); skip]
  split
  · exact hQ _ (by simp)
  · split <;> [exact hQ _ (by simp); skip]
    split <;> [exact hQ _ (by simp); skip]
    split <;> [exact hQ _ (by simp); exact hgo _ (by simp)]

theorem State.plainFrame_cells_of {Q : State → Prop} {s : State} {go : State → State}
    (hQ : ∀ t, t.cnt.cells = s.cnt.cells → Q t)
    (hgo : ∀ t, t.cnt.cells = s.cnt.cells → Q (go t)) (f : Bytes) : Q (s.plainFrame f go) := by
  simp only [State.plainFrame]
  split <;> [exact hgo _ (by simp); exact hQ _ (by simp)]

theorem State.commit_cells_of {Q : State → Prop} {s : State} {go : State → State}
    (hQ : ∀ t, t.cnt.cells = s.cnt.cells → Q t)
    (hgo : ∀ t, t.cnt.cells = s.cnt.cells → Q (go t)) (f : Bytes) : Q (s.commit f go) := by
  refine State.receive_cells_of hQ (fun t ht => ?_) f
  refine State.plainFrame_cells_of (fun u hu => hQ u (hu.trans ht)) (fun u hu => ?_) f
  split <;> [exact hQ _ ((State.statusFull_cells ..).trans (hu.trans ht)); exact hgo _ (hu.trans ht)]

/-! ### The memory port -/

@[simp] theorem State.mpDeliver_cells (s : State) (r : MpReq) : (s.mpDeliver r).cnt.cells = s.cnt.cells := by
  simp only [State.mpDeliver]
  split <;> simp

/-! ### Writes of registers -/

@[simp] theorem State.store_cells (s : State) (r : Reg) (b k : Nat) (w : Word) :
    (s.store r b k w).cnt.cells = s.cnt.cells := by simp [State.store]

@[simp] theorem State.looked_cells (s : State) : s.looked.cnt.cells = s.cnt.cells := rfl

@[simp] theorem State.dimCtrl_cells (s : State) (w : Word) :
    (s.dimCtrl w).cnt.cells = s.cnt.cells := by simp [State.dimCtrl]

@[simp] theorem State.smeIntClear_cells (s : State) (b : Blk) (w : Word) :
    (s.smeIntClear b w).cnt.cells = s.cnt.cells := by simp [State.smeIntClear]

@[simp] theorem State.klnIntClear_cells (s : State) (w : Word) : (s.klnIntClear w).cnt.cells = s.cnt.cells := rfl

@[simp] theorem State.kfbIntClear_cells (s : State) (w : Word) : (s.kfbIntClear w).cnt.cells = s.cnt.cells := rfl

@[simp] theorem State.cntIntClear_cells (s : State) (w : Word) : (s.cntIntClear w).cnt.cells = s.cnt.cells := rfl

@[simp] theorem State.prtIntClear_cells (s : State) (w : Word) : (s.prtIntClear w).cnt.cells = s.cnt.cells := rfl

@[simp] theorem State.onStaged_cells (s : State) (f : StagedRegion → StagedRegion) :
    (s.onStaged f).cnt.cells = s.cnt.cells := rfl

@[simp] theorem State.gateEpWrite_cells (s : State) (w : Word) :
    (s.gateEpWrite w).cnt.cells = s.cnt.cells := by simp [State.gateEpWrite]

@[simp] theorem State.scrubAddrWrite_cells (s : State) (hi : Bool) (w : Word) :
    (s.scrubAddrWrite hi w).cnt.cells = s.cnt.cells := by simp [State.scrubAddrWrite]

@[simp] theorem State.onEntry_cells (s : State) (f : FwEntry → FwEntry) : (s.onEntry f).cnt.cells = s.cnt.cells := rfl

@[simp] theorem State.thrMaskWrite_cells (s : State) (w : Word) :
    (s.thrMaskWrite w).cnt.cells = s.cnt.cells := by simp [State.thrMaskWrite]

@[simp] theorem State.msgWrite_cells (s : State) (i k : Nat) (w : Word) :
    (s.msgWrite i k w).cnt.cells = s.cnt.cells := rfl

/-! ### Windows and the control port -/

@[simp] theorem State.refuseDown_cells (s : State) (d : Dom) :
    (s.refuseDown d).cnt.cells = s.cnt.cells := by simp [State.refuseDown]

@[simp] theorem State.zeroLook_cells (s : State) : s.zeroLook.cnt.cells = s.cnt.cells := by simp [State.zeroLook]

theorem State.throughWindow_cells {f : State → Nat → State} (h : ∀ s i, (f s i).cnt.cells = s.cnt.cells) (s : State)
    (k : AccKind) (size a : Nat) : (s.throughWindow k size a f).cnt.cells = s.cnt.cells := by
  simp [State.throughWindow, h]

@[simp] theorem State.windowWrite_cells (s : State) (size a : Nat) (v : Word) :
    (s.windowWrite size a v).cnt.cells = s.cnt.cells :=
  State.throughWindow_cells (f := fun s i => s.csramPut i ((wordBytes v).take (2 ^ size))) (fun _ _ => rfl) s _ size a

@[simp] theorem State.newWindow_cells (s : State) (arb : Arbiter) : (s.newWindow arb).cnt.cells = s.cnt.cells := by
  simp only [State.newWindow]
  split <;> simp

/-! ### A cycle -/

@[simp] theorem State.raise_cells (s : State) (i : Instr) : (s.raise i).cnt.cells = s.cnt.cells := rfl

@[simp] theorem State.secTick_cells (s : State) : s.secTick.cnt.cells = s.cnt.cells := by simp [State.secTick]

@[simp] theorem State.ctlTick_cells (s : State) : s.ctlTick.cnt.cells = s.cnt.cells := by simp [State.ctlTick]

@[simp] theorem State.gateTick_cells (s : State) : s.gateTick.cnt.cells = s.cnt.cells := by simp [State.gateTick]

@[simp] theorem State.availTick_cells (s : State) : s.availTick.cnt.cells = s.cnt.cells := by simp [State.availTick]

@[simp] theorem State.gateCycle_cells (s : State) : s.gateCycle.cnt.cells = s.cnt.cells := by simp [State.gateCycle]

@[simp] theorem State.counted_cells (s : State) : s.counted.cnt.cells = s.cnt.cells := by simp [State.counted]

/-! ### The queue -/

/-! ### The checks of an SPDM request -/

section
variable {k : Sparse CtrCell} {s : State}

theorem State.spdm_cells {f : State → Bytes → State} (hf : ∀ t m, t.cnt.cells = k → (f t m).cnt.cells = k)
    (hs : s.cnt.cells = k)
    (ss : Option Word) (r : Bytes) (mine : Byte × Byte) : (s.spdm ss r mine f).cnt.cells = k := by
  subst hs
  exact State.spdm_cells_of (Q := fun t => t.cnt.cells = s.cnt.cells) (fun _ h => h) hf ss r mine

theorem State.inSession_cells {f : State → SpdmSession → State} (hf : ∀ t x, t.cnt.cells = k → (f t x).cnt.cells = k)
    (hs : s.cnt.cells = k) (ss : Option Word) (late : Bool) : (s.inSession ss late f).cnt.cells = k :=
  State.inSession_cells_of (Q := fun t => t.cnt.cells = k) (fun _ h => h) hf hs ss late

theorem State.outside_cells {f : State → State} (hf : ∀ t, t.cnt.cells = k → (f t).cnt.cells = k) (hs : s.cnt.cells = k)
    (ss : Option Word) (n : Nat) : (s.outside ss n f).cnt.cells = k := by
  unfold State.outside
  split <;> [simp [hs]; (split <;> [simp [hs]; exact hf _ hs])]

theorem State.anywhere_cells {f : State → State} (hf : ∀ t, t.cnt.cells = k → (f t).cnt.cells = k)
    (hs : s.cnt.cells = k) (ss : Option Word) : (s.anywhere ss f).cnt.cells = k := by
  unfold State.anywhere
  split <;> split <;> [simp [hs]; exact hf _ hs; exact hf _ hs; simp [hs]]

theorem State.longEnough_cells {f : State → State} (hf : ∀ t, t.cnt.cells = k → (f t).cnt.cells = k)
    (hs : s.cnt.cells = k) (ss : Option Word) (m : Bytes) (n : Nat) : (s.longEnough ss m n f).cnt.cells = k := by
  unfold State.longEnough
  split <;> [simp [hs]; exact hf _ hs]

theorem State.withChain_cells {f : State → List Bytes → State} (hf : ∀ t c, t.cnt.cells = k → (f t c).cnt.cells = k)
    (hs : s.cnt.cells = k) {old : State} (hold : old.cnt.cells = k) (ss : Option Word) (ec : Bool) :
    (s.withChain old ss ec f).cnt.cells = k := by
  unfold State.withChain
  split <;> [exact hf _ _ (by simp [hs]); (split <;> [simp [hs]; exact hold])]

theorem State.withRandom_cells {f : State → Bytes → State} (hf : ∀ t b, t.cnt.cells = k → (f t b).cnt.cells = k)
    (hs : s.cnt.cells = k) (ss : Option Word) (n : Nat) : (s.withRandom ss n f).cnt.cells = k := by
  unfold State.withRandom
  split <;> [exact hf _ _ ((State.fwRandom_cells ‹_›).trans hs); simp [hs]]

theorem State.withArgs_cells {f : State → Bytes → State} (hf : ∀ t a, t.cnt.cells = k → (f t a).cnt.cells = k)
    (hs : s.cnt.cells = k) (ss : Option Word) (m : Bytes) (n used : Nat) :
    (s.withArgs ss m n used f).cnt.cells = k := by
  simp only [State.withArgs]
  split <;> [simp [hs]; exact hf _ _ hs]

end

/-! ### Confluence records and commands of the Kiln -/

@[simp] theorem State.setRecord_cells (s : State) (i : Nat) (r : Option KRecord) :
    (s.setRecord i r).cnt.cells = s.cnt.cells := rfl

@[simp] theorem State.failRecord_cells (s : State) (i : Nat) (r : KRecord) (src : EmberSrc) :
    (s.failRecord i r src).cnt.cells = s.cnt.cells := by simp [State.failRecord]

@[simp] theorem State.faultRecord_cells (s : State) (i : Nat) (r : KRecord) (src : EmberSrc) :
    (s.faultRecord i r src).cnt.cells = s.cnt.cells := by simp [State.faultRecord]

@[simp] theorem State.formRecord_cells (s : State) (i : Nat) (r : KRecord) (src : EmberSrc) :
    (s.formRecord i r src).cnt.cells = s.cnt.cells := by simp [State.formRecord]

@[simp] theorem State.updateRecord_cells (s : State) (i : Nat) (r : KRecord) (src : EmberSrc) :
    (s.updateRecord i r src).cnt.cells = s.cnt.cells := by simp [State.updateRecord]

@[simp] theorem State.applyTo_cells (s : State) (e : SmeEvent) (i : Nat) (r : KRecord) (t : ReqStream) :
    (s.applyTo e i r t).cnt.cells = s.cnt.cells := by
  simp only [State.applyTo]
  split <;> simp

@[simp] theorem State.applyEvent_cells (s : State) : s.applyEvent.cnt.cells = s.cnt.cells := by
  simp only [State.applyEvent]
  repeat' split
  all_goals simp

@[simp] theorem State.klnTurn_cells (s : State) : s.klnTurn.cnt.cells = s.cnt.cells := by simp [State.klnTurn]

@[simp] theorem State.destroyKeys_cells (s : State) : s.destroyKeys.cnt.cells = s.cnt.cells :=
  cells_foldl (by intros; rfl) s _

@[simp] theorem State.destroyPart_cells (s : State) (p : PartId) (owner : EmberOwner) (src : EmberSrc) :
    (s.destroyPart p owner src).cnt.cells = s.cnt.cells := by
  simp only [State.destroyPart, State.raiseEmber_cells, State.onKln_cnt]
  exact cells_foldl (by intros; rfl) s _

@[simp] theorem State.putShare_cells (s : State) (m : KuMsg) (key : Bytes) :
    (s.putShare m key).cnt.cells = s.cnt.cells := by
  simp only [State.putShare]
  split <;> simp

@[simp] theorem State.unwrap_cells (s : State) : s.unwrap.cnt.cells = s.cnt.cells := by simp [State.unwrap]

@[simp] theorem State.doUnwrap_cells (s : State) (w : Word) (e : MemErr) :
    (s.doUnwrap w e).cnt.cells = s.cnt.cells := by
  simp [State.doUnwrap, State.klnCommand_cells State.unwrap_cells]

@[simp] theorem State.doDestroyPart_cells (s : State) (w : Word) : (s.doDestroyPart w).cnt.cells = s.cnt.cells :=
  State.klnCommand_cells (fun s => by simp) ..

@[simp] theorem State.doJobCreate_cells (s : State) (w : Word) : (s.doJobCreate w).cnt.cells = s.cnt.cells :=
  State.klnCommand_cells (fun s => by simp [State.jobCreate]) ..

@[simp] theorem State.doJobDestroy_cells (s : State) (w : Word) : (s.doJobDestroy w).cnt.cells = s.cnt.cells :=
  State.klnCommand_cells (fun s => by split <;> simp) ..

@[simp] theorem State.klnRun_cells (s : State) (c : KlnWait) : (s.klnRun c).cnt.cells = s.cnt.cells := by
  unfold State.klnRun
  split
  case h_12 => exact State.klnCommand_cells (fun _ => rfl) ..
  all_goals simp

@[simp] theorem State.klnStart_cells (s : State) (c : KlnWait) : (s.klnStart c).cnt.cells = s.cnt.cells := by
  simp [State.klnStart]

@[simp] theorem State.klnResume_cells (s : State) : s.klnResume.cnt.cells = s.cnt.cells := by
  simp only [State.klnResume]
  split <;> simp

@[simp] theorem State.klnWrite_cells (s : State) (c : KlnWait) : (s.klnWrite c).cnt.cells = s.cnt.cells := by
  simp [State.klnWrite]

@[simp] theorem State.firmwareGoesOn_cells (s : State) : s.firmwareGoesOn.cnt.cells = s.cnt.cells := by
  simp [State.firmwareGoesOn]

/-! ### Leaving reset -/

@[simp] theorem State.leaveD2_cells (s : State) : s.leaveD2.cnt.cells = s.cnt.cells := by simp [State.leaveD2]

/-! ### A transition's keys -/

@[simp] theorem State.destroyWorking_cells (s : State) : s.destroyWorking.cnt.cells = s.cnt.cells := by
  simp [State.destroyWorking]

@[simp] theorem State.transitionRuns_cells (s : State) : s.transitionRuns.cnt.cells = s.cnt.cells := by
  simp [State.transitionRuns]

end Sys2Proof.Machine
end

section
/-!
PROOFS. The commands and events that leave the counter cells as they are (R342).
-/
namespace Sys2Proof.Machine

/-- The outcome, where it is a state, has the counter cells of `s`. -/
structure Keeps (s : State) (r : Res) : Prop where
  of_next : ∀ t, r = .next t → t.cnt.cells = s.cnt.cells

@[simp] theorem keeps_ran {f : State → State} {s : State} : Keeps s (ran f s) ↔ (f s.quiet).cnt.cells = s.cnt.cells :=
  ⟨fun h => h.of_next _ rfl, fun h => ⟨fun _ ht => by rwa [ran_next ht]⟩⟩

@[simp] theorem keeps_ranIf {b : Bool} {f : State → State} {s : State} :
    Keeps s (ranIf b f s) ↔ (b = true → (f s.quiet).cnt.cells = s.cnt.cells) := by
  cases b with
  | true => exact keeps_ran.trans (by simp)
  | false => exact keeps_ran.trans (by simp)

@[simp] theorem keeps_ranOn {d : Dom} {f : State → State} {s : State} :
    Keeps s (ranOn d f s) ↔ (s.serves d = true → (f s.quiet).cnt.cells = s.cnt.cells) := by
  cases h : s.serves d with
  | true =>
    refine ⟨fun hk _ => hk.of_next _ (ranOn_up h), fun hf => ⟨fun t ht => ?_⟩⟩
    cases (ranOn_up h).symm.trans ht
    exact hf rfl
  | false =>
    refine ⟨fun _ hd => (nomatch hd), fun _ => ⟨fun t ht => ?_⟩⟩
    cases (ranOn_down h).symm.trans ht
    rfl

theorem State.prtCommand_cells {s : State} {f : State → State} (hf : (f s).cnt.cells = s.cnt.cells) (w : Word)
    (err : MemErr) (early refusals : List (Bool × Code)) :
    (s.prtCommand w err early refusals f).cnt.cells = s.cnt.cells :=
  State.prtCommand_cells_of (Q := fun t => t.cnt.cells = s.cnt.cells) (fun _ h => h) hf w err early refusals

theorem State.otpCommand_cells {s : State} {f : State → State} (hf : (f s).cnt.cells = s.cnt.cells) (w : Word)
    (allowed : LcState → Bool) (refusals : List (Bool × Code)) :
    (s.otpCommand w allowed refusals f).cnt.cells = s.cnt.cells :=
  State.otpCommand_cells_of (Q := fun t => t.cnt.cells = s.cnt.cells) (fun _ h => h) hf w allowed refusals

theorem State.receive_cells {s : State} {go : State → State}
    (hgo : ∀ t, t.cnt.cells = s.cnt.cells → (go t).cnt.cells = s.cnt.cells)
    (f : Bytes) : (s.receive f go).cnt.cells = s.cnt.cells :=
  State.receive_cells_of (Q := fun t => t.cnt.cells = s.cnt.cells) (fun _ h => h) hgo f

theorem State.plainFrame_cells {s t : State} {go : State → State}
    (hgo : ∀ u, u.cnt.cells = s.cnt.cells → (go u).cnt.cells = s.cnt.cells) (h : t.cnt.cells = s.cnt.cells)
    (f : Bytes) : (t.plainFrame f go).cnt.cells = s.cnt.cells :=
  State.plainFrame_cells_of (Q := fun u => u.cnt.cells = s.cnt.cells) (fun _ hu => hu.trans h)
    (fun _ hu => hgo _ (hu.trans h)) f

theorem State.commit_cells {s : State} {go : State → State}
    (hgo : ∀ t, t.cnt.cells = s.cnt.cells → (go t).cnt.cells = s.cnt.cells)
    (f : Bytes) : (s.commit f go).cnt.cells = s.cnt.cells :=
  State.commit_cells_of (Q := fun t => t.cnt.cells = s.cnt.cells) (fun _ h => h) hgo f

/-! ### The fence -/

@[simp] theorem execFncCommit_cells (w : Word) (s : State) : Keeps s (execFncCommit w s) := by simp [execFncCommit]

@[simp] theorem execSnsRequest_cells (s : State) : Keeps s (execSnsRequest s) := by
  simp only [execSnsRequest, keeps_ranIf]
  repeat' split
  all_goals simp

@[simp] theorem execSnsResponse_cells (addr : BitVec 8) (data : BitVec 16) (s : State) :
    Keeps s (execSnsResponse addr data s) := by
  simp only [execSnsResponse, keeps_ran]
  repeat' split
  all_goals simp

@[simp] theorem execSnsTimeout_cells (addr : BitVec 8) (s : State) :
    Keeps s (execSnsTimeout addr s) := by simp [execSnsTimeout]

@[simp] theorem execAvsResponse_cells (good alert : Bool) (data : BitVec 16) (s : State) :
    Keeps s (execAvsResponse good alert data s) := by
  simp only [execAvsResponse, keeps_ranIf]
  repeat' split
  all_goals simp

@[simp] theorem execAvsReadback_cells (good : Bool) (mv : BitVec 16) (s : State) :
    Keeps s (execAvsReadback good mv s) := by
  simp only [execAvsReadback, keeps_ranIf]
  repeat' split
  all_goals simp

@[simp] theorem execAvsSettleTimeout_cells (s : State) :
    Keeps s (execAvsSettleTimeout s) := by simp [execAvsSettleTimeout]

@[simp] theorem execFncHealthPop_cells (s : State) : Keeps s (execFncHealthPop s) := by simp [execFncHealthPop]

/-! ### The key fabric -/

@[simp] theorem execEmberLate_cells (id : Nat) (s : State) : Keeps s (execEmberLate id s) := by simp [execEmberLate]

@[simp] theorem execEmberTimeout_cells (port : Fin 8) (s : State) :
    Keeps s (execEmberTimeout port s) := by simp [execEmberTimeout]

@[simp] theorem execKfAck_cells (port : Fin 8) (beat : BitVec 64) (corrected : Bool) (s : State) :
    Keeps s (execKfAck port beat corrected s) := by simp [execKfAck]

@[simp] theorem execKfCntReq_cells (port : Fin 8) (beat : BitVec 64) (corrected : Bool) (s : State) :
    Keeps s (execKfCntReq port beat corrected s) := by simp [execKfCntReq]

@[simp] theorem execKfNextReq_cells (port : Fin 8) (beat : BitVec 64) (corrected : Bool) (s : State) :
    Keeps s (execKfNextReq port beat corrected s) := by simp [execKfNextReq]

@[simp] theorem execKfFault_cells (port : Fin 8) (beat : BitVec 64) (corrected : Bool) (s : State) :
    Keeps s (execKfFault port beat corrected s) := by simp [execKfFault]

@[simp] theorem execUpstreamDrop_cells (port : Fin 8) (beat : BitVec 64) (uncorr : Bool) (s : State) :
    Keeps s (execUpstreamDrop port beat uncorr s) := by
  simp only [execUpstreamDrop, keeps_ranIf]
  repeat' split
  all_goals simp

@[simp] theorem execKfbLoad_cells (w : Word) (err : MemErr) (s : State) :
    Keeps s (execKfbLoad w err s) := by simp [execKfbLoad]

@[simp] theorem execKfbRotate_cells (w : Word) (s : State) : Keeps s (execKfbRotate w s) := by simp [execKfbRotate]

@[simp] theorem execKfbZeroise_cells (w : Word) (s : State) : Keeps s (execKfbZeroise w s) := by simp [execKfbZeroise]

@[simp] theorem execKfbRevoke_cells (w : Word) (s : State) : Keeps s (execKfbRevoke w s) := by simp [execKfbRevoke]

@[simp] theorem execKfbBind_cells (w : Word) (s : State) : Keeps s (execKfbBind w s) := by simp [execKfbBind]

@[simp] theorem execKfbRelease_cells (w : Word) (s : State) : Keeps s (execKfbRelease w s) := by simp [execKfbRelease]

@[simp] theorem execKfbDonePop_cells (s : State) : Keeps s (execKfbDonePop s) := by simp [execKfbDonePop]

@[simp] theorem execKfbNextPop_cells (s : State) : Keeps s (execKfbNextPop s) := by simp [execKfbNextPop]

/-! ### Counter cells -/

@[simp] theorem execCntConfigure_cells (w : Word) (s : State) :
    Keeps s (execCntConfigure w s) := by simp [execCntConfigure]

@[simp] theorem execCntRead_cells (w : Word) (s : State) : Keeps s (execCntRead w s) := by simp [execCntRead]

@[simp] theorem execCntAdvance_cells (w : Word) (s : State) : Keeps s (execCntAdvance w s) := by simp [execCntAdvance]

@[simp] theorem execCntRetire_cells (w : Word) (s : State) : Keeps s (execCntRetire w s) := by simp [execCntRetire]

@[simp] theorem execCntExhPop_cells (s : State) : Keeps s (execCntExhPop s) := by simp [execCntExhPop]

/-! ### Stream measurement -/

@[simp] theorem execSmeEventSend_cells (s : State) : Keeps s (execSmeEventSend s) := by
  simp only [execSmeEventSend, keeps_ranIf]
  repeat' split
  all_goals simp

@[simp] theorem execTapBeat_cells (tap : Fin 16) (data : BitVec 1024) (sid : StreamId) (first last : Bool)
    (nbm1 : BitVec 7) (err : MemErr) (s : State) :
    Keeps s (execTapBeat tap data sid first last nbm1 err s) := by
  simp only [execTapBeat, keeps_ran]
  repeat' split
  all_goals simp

@[simp] theorem execBeatIntake_cells (tap : Fin 16) (s : State) : Keeps s (execBeatIntake tap s) := by
  simp only [execBeatIntake, keeps_ranIf]
  intro
  cases h : s.quiet.intakeTap tap.val with
  | none => rfl
  | some t => exact (State.intakeTap_cells h : t.cnt.cells = s.quiet.cnt.cells)

@[simp] theorem execLeafDone_cells (lane : Fin 192) (err : MemErr) (s : State) :
    Keeps s (execLeafDone lane err s) := by simp [execLeafDone]

@[simp] theorem execCombineAbsorb_cells (lane : Fin 4) (err : MemErr) (s : State) :
    Keeps s (execCombineAbsorb lane err s) := by
  simp only [execCombineAbsorb, keeps_ranIf]
  repeat' split
  all_goals simp

@[simp] theorem execStreamResult_cells (sid : StreamId) (err : MemErr) (s : State) :
    Keeps s (execStreamResult sid err s) := by simp [execStreamResult]

@[simp] theorem execSmeOpen_cells (b : Blk) (w : Word) (s : State) :
    Keeps s (execSmeOpen b w s) := by simp [execSmeOpen]

@[simp] theorem execSmeAbort_cells (b : Blk) (w : Word) (s : State) :
    Keeps s (execSmeAbort b w s) := by simp [execSmeAbort]

@[simp] theorem execSmeStatus_cells (b : Blk) (w : Word) (err : MemErr) (s : State) :
    Keeps s (execSmeStatus b w err s) := by simp [execSmeStatus]

@[simp] theorem execExpWrite_cells (b : Blk) (w : Word) (err : MemErr) (s : State) :
    Keeps s (execExpWrite b w err s) := by simp [execExpWrite]

@[simp] theorem execExpClear_cells (b : Blk) (w : Word) (s : State) :
    Keeps s (execExpClear b w s) := by simp [execExpClear]

@[simp] theorem execExpRead_cells (b : Blk) (w : Word) (err : MemErr) (s : State) :
    Keeps s (execExpRead b w err s) := by simp [execExpRead]

@[simp] theorem execMrExtend_cells (b : Blk) (w : Word) (s : State) :
    Keeps s (execMrExtend b w s) := by simp [execMrExtend]

@[simp] theorem execMrAssign_cells (b : Blk) (w : Word) (s : State) :
    Keeps s (execMrAssign b w s) := by simp [execMrAssign]

@[simp] theorem execMrRead_cells (b : Blk) (w : Word) (err : MemErr) (s : State) :
    Keeps s (execMrRead b w err s) := by simp [execMrRead]

@[simp] theorem execSmePurge_cells (b : Blk) (w : Word) (s : State) :
    Keeps s (execSmePurge b w s) := by simp [execSmePurge]

@[simp] theorem execSmeCommit_cells (w : Word) (s : State) : Keeps s (execSmeCommit w s) := by simp [execSmeCommit]

@[simp] theorem execResPop_cells (b : Blk) (s : State) : Keeps s (execResPop b s) := by simp [execResPop]

/-! ### Small digests and the comparator -/

@[simp] theorem execDgeAcquireReq_cells (q : Req) (w : Word) (s : State) :
    Keeps s (execDgeAcquireReq q w s) := by simp [execDgeAcquireReq]

@[simp] theorem execDgeAcquireWithdraw_cells (q : Req) (w : Word) (s : State) :
    Keeps s (execDgeAcquireWithdraw q w s) := by simp [execDgeAcquireWithdraw]

@[simp] theorem execDgeUpdate_cells (q : Req) (c : Fin 4) (w : Word) (err : MemErr) (s : State) :
    Keeps s (execDgeUpdate q c w err s) := keeps_ran.2 (State.ctxCommand_cells (fun _ => by simp) ..)

@[simp] theorem execDgeFinal_cells (q : Req) (c : Fin 4) (w : Word) (err : MemErr) (s : State) :
    Keeps s (execDgeFinal q c w err s) := keeps_ran.2 (State.ctxCommand_cells (fun _ => by simp) ..)

@[simp] theorem execCmpCompare_cells (b : Blk) (w : Word) (s : State) :
    Keeps s (execCmpCompare b w s) := by simp [execCmpCompare]

@[simp] theorem execCmpSliceGrant_cells (s : State) : Keeps s (execCmpSliceGrant s) := by
  simp only [execCmpSliceGrant, keeps_ranIf]
  repeat' split
  all_goals simp

@[simp] theorem execComparisonDone_cells (slice : Fin 5) (err : MemErr) (s : State) :
    Keeps s (execComparisonDone slice err s) := by
  simp only [execComparisonDone, keeps_ranIf]
  repeat' split
  all_goals simp

/-! ### The partition manager -/

@[simp] theorem execJobRecord_cells (w : Word) (err : MemErr) (s : State) : Keeps s (execJobRecord w err s) :=
  keeps_ranOn.2 fun _ => State.prtCommand_cells (by simp) ..

@[simp] theorem execJobForget_cells (w : Word) (err : MemErr) (s : State) : Keeps s (execJobForget w err s) := by
  refine keeps_ranOn.2 fun _ => State.prtCommand_cells ?_ ..
  split <;> simp

@[simp] theorem execGateEnter_cells (w : Word) (err : MemErr) (s : State) : Keeps s (execGateEnter w err s) := by
  refine keeps_ranOn.2 fun _ => ?_
  split <;> [rfl; exact State.prtCommand_cells (by simp) ..]

@[simp] theorem execGateExit_cells (w : Word) (s : State) : Keeps s (execGateExit w s) :=
  keeps_ranOn.2 fun _ => State.prtCommand_cells (by simp) ..

@[simp] theorem execGateYield_cells (w : Word) (s : State) : Keeps s (execGateYield w s) := by
  simp only [execGateYield, keeps_ranOn]
  repeat' split
  all_goals simp

@[simp] theorem execGateBudgetExpire_cells (s : State) :
    Keeps s (execGateBudgetExpire s) := by simp [execGateBudgetExpire]

@[simp] theorem execPrtQuarantine_cells (w : Word) (err : MemErr) (s : State) : Keeps s (execPrtQuarantine w err s) :=
  keeps_ranOn.2 fun _ => State.prtCommand_cells (by simp) ..

/-! ### The public-key engine -/

@[simp] theorem execEcVerify_cells (b : Blk) (w : Word) (s : State) :
    Keeps s (execEcVerify b w s) := by simp [execEcVerify]

@[simp] theorem execMldsaVerify_cells (b : Blk) (w : Word) (s : State) :
    Keeps s (execMldsaVerify b w s) := by simp [execMldsaVerify]

@[simp] theorem execHybVerify_cells (b : Blk) (w : Word) (s : State) :
    Keeps s (execHybVerify b w s) := by simp [execHybVerify]

@[simp] theorem execEcdhKeygen_cells (b : Blk) (w : Word) (s : State) :
    Keeps s (execEcdhKeygen b w s) := by simp [execEcdhKeygen]

@[simp] theorem execEcdhDerive_cells (b : Blk) (w : Word) (s : State) :
    Keeps s (execEcdhDerive b w s) := by simp [execEcdhDerive]

@[simp] theorem execKemKeygen_cells (b : Blk) (w : Word) (s : State) :
    Keeps s (execKemKeygen b w s) := by simp [execKemKeygen]

@[simp] theorem execKemDecaps_cells (b : Blk) (w : Word) (s : State) :
    Keeps s (execKemDecaps b w s) := by simp [execKemDecaps]

@[simp] theorem execKemEncaps_cells (b : Blk) (w : Word) (s : State) :
    Keeps s (execKemEncaps b w s) := by simp [execKemEncaps]

@[simp] theorem execPkeGrant_cells (s : State) : Keeps s (execPkeGrant s) :=
  keeps_ranIf.2 fun _ => cells_elim rfl (by simp) _

/-! ### Attestation -/

@[simp] theorem execPlatformReport_cells (b : Blk) (w : Word) (s : State) :
    Keeps s (execPlatformReport b w s) := by simp [execPlatformReport]

@[simp] theorem execJobReport_cells (b : Blk) (w : Word) (s : State) :
    Keeps s (execJobReport b w s) := by simp [execJobReport]

@[simp] theorem execSignBind_cells (b : Blk) (w : Word) (s : State) :
    Keeps s (execSignBind b w s) := by simp [execSignBind]

@[simp] theorem execCertRead_cells (b : Blk) (w : Word) (s : State) :
    Keeps s (execCertRead b w s) := by simp [execCertRead]

@[simp] theorem execAttComposite_cells (b : Blk) (w : Word) (s : State) :
    Keeps s (execAttComposite b w s) := by simp [execAttComposite]

@[simp] theorem execReportSample_cells (err : MemErr) (s : State) : Keeps s (execReportSample err s) := by
  simp only [execReportSample, keeps_ranIf]
  repeat' split
  all_goals simp

@[simp] theorem execDgeGrant_cells (err : MemErr) (s : State) : Keeps s (execDgeGrant err s) := by
  simp only [execDgeGrant, keeps_ranIf]
  repeat' split
  all_goals simp

@[simp] theorem execDgeForceAbandon_cells (w : Word) (s : State) :
    Keeps s (execDgeForceAbandon w s) := by simp [execDgeForceAbandon]

@[simp] theorem execDgeAbandon_cells (q : Req) (c : Fin 4) (w : Word) (s : State) : Keeps s (execDgeAbandon q c w s) :=
  keeps_ran.2 (State.ctxCommand_cells (fun _ => by simp) ..)

@[simp] theorem execDgeBlockDone_cells (c : Fin 4) (err : MemErr) (s : State) :
    Keeps s (execDgeBlockDone c err s) := by simp [execDgeBlockDone]

@[simp] theorem execCertBuild_cells (s : State) : Keeps s (execCertBuild s) := by simp [execCertBuild]

@[simp] theorem execPkeOpDone_cells (fault : PkeFault) (s : State) : Keeps s (execPkeOpDone fault s) := by
  simp only [execPkeOpDone, keeps_ranIf]
  repeat' split
  all_goals simp

@[simp] theorem execPkeExpand_cells (slot : Fin 2) (s : State) : Keeps s (execPkeExpand slot s) := by
  simp only [execPkeExpand, keeps_ranIf]
  repeat' split
  all_goals simp

@[simp] theorem execPkeAbandon_cells (w : Word) (s : State) : Keeps s (execPkeAbandon w s) := by simp [execPkeAbandon]

@[simp] theorem execHybSign_cells (b : PkeReq) (w : Word) (err : MemErr) (s : State) :
    Keeps s (execHybSign b w err s) := by
  simp only [execHybSign]
  repeat' split
  all_goals simp

@[simp] theorem execPkePubkey_cells (b : PkeReq) (w : Word) (err : MemErr) (s : State) :
    Keeps s (execPkePubkey b w err s) := by
  simp only [execPkePubkey]
  repeat' split
  all_goals simp

@[simp] theorem execAttCommit_cells (w : Word) (s : State) : Keeps s (execAttCommit w s) := by simp [execAttCommit]

@[simp] theorem execHandoverSet_cells (w : Word) (s : State) :
    Keeps s (execHandoverSet w s) := by simp [execHandoverSet]

@[simp] theorem execHandoverClear_cells (w : Word) (s : State) :
    Keeps s (execHandoverClear w s) := by simp [execHandoverClear]

@[simp] theorem execMainReady_cells (w : Word) (s : State) : Keeps s (execMainReady w s) := by simp [execMainReady]

/-! ### Access faults -/

@[simp] theorem execAccessFault_cells (core : Fin 8) (kind : AccKind) (space : AccSpace) (addr : BitVec 64)
    (machine uncorr : Bool) (s : State) : Keeps s (execAccessFault core kind space addr machine uncorr s) := by
  simp [execAccessFault]

@[simp] theorem execSecAccessFault_cells (kind : AccKind) (space : AccSpace) (size : Fin 3) (addr : BitVec 32)
    (uncorr : Bool) (s : State) : Keeps s (execSecAccessFault kind space size addr uncorr s) := by
  simp [execSecAccessFault]

/-! ### Mailboxes -/

@[simp] theorem execMbxPop_cells (q : Req) (m : Fin 4) (d : MbxDir) (s : State) :
    Keeps s (execMbxPop q m d s) := by simp [execMbxPop]

@[simp] theorem execDbSet_cells (q : Req) (m : Fin 4) (d : MbxDir) (w : Word) (s : State) :
    Keeps s (execDbSet q m d w s) := by simp [execDbSet]

@[simp] theorem execMbxRingdb_cells (w : Word) (s : State) : Keeps s (execMbxRingdb w s) := by simp [execMbxRingdb]

/-! ### Interrupts and random numbers -/

@[simp] theorem execInterruptClaim_cells (who : Claimer) (s : State) : Keeps s (execInterruptClaim who s) := by
  simp only [execInterruptClaim]
  repeat' split
  all_goals simp

@[simp] theorem execTrngRead_cells (q : Req) (s : State) : Keeps s (execTrngRead q s) := by
  simp only [execTrngRead, keeps_ran]
  repeat' split
  all_goals simp

@[simp] theorem execTrngRefill_cells (s : State) : Keeps s (execTrngRefill s) := by
  simp only [execTrngRefill, keeps_ranIf]
  repeat' split
  all_goals simp

@[simp] theorem execTrngHealthFail_cells (s : State) : Keeps s (execTrngHealthFail s) := by simp [execTrngHealthFail]

@[simp] theorem execTrngResume_cells (pass : Bool) (s : State) :
    Keeps s (execTrngResume pass s) := by simp [execTrngResume]

/-! ### The SPDM responder -/

@[simp] theorem execGetVersion_cells (ss : Option Word) (r : Bytes) (s : State) : Keeps s (execGetVersion ss r s) := by
  refine keeps_ran.2 (State.spdm_cells (fun t m h => ?_) rfl ..)
  refine State.outside_cells (fun t h => ?_) h ..
  simp [h]

@[simp] theorem execGetCapabilities_cells (ss : Option Word) (r : Bytes) (s : State) :
    Keeps s (execGetCapabilities ss r s) := by
  refine keeps_ran.2 (State.spdm_cells (fun t m h => ?_) rfl ..)
  refine State.outside_cells (fun t h => ?_) h ..
  refine State.longEnough_cells (fun t h => ?_) h ..
  simp [h]

@[simp] theorem execNegotiateAlgorithms_cells (ss : Option Word) (r : Bytes) (s : State) :
    Keeps s (execNegotiateAlgorithms ss r s) := by
  refine keeps_ran.2 (State.spdm_cells (fun t m h => ?_) rfl ..)
  refine State.outside_cells (fun t h => ?_) h ..
  refine State.longEnough_cells (fun t h => ?_) h ..
  split <;> simp [h]

@[simp] theorem execGetDigests_cells (ss : Option Word) (r : Bytes) (s : State) : Keeps s (execGetDigests ss r s) := by
  refine keeps_ran.2 (State.spdm_cells (fun t m h => ?_) rfl ..)
  refine State.anywhere_cells (fun t h => ?_) h ..
  refine State.withChain_cells (fun t c h => ?_) h rfl ..
  simp [h]

@[simp] theorem execGetCertificate_cells (ss : Option Word) (r : Bytes) (s : State) :
    Keeps s (execGetCertificate ss r s) := by
  refine keeps_ran.2 (State.spdm_cells (fun t m h => ?_) rfl ..)
  refine State.anywhere_cells (fun t h => ?_) h ..
  refine State.longEnough_cells (fun t h => ?_) h ..
  refine State.withChain_cells (fun t c h => ?_) h rfl ..
  simp only
  split <;> simp [h]

@[simp] theorem execChallenge_cells (ss : Option Word) (r : Bytes) (s : State) : Keeps s (execChallenge ss r s) := by
  refine keeps_ran.2 (State.spdm_cells (fun t m h => ?_) rfl ..)
  refine State.outside_cells (fun t h => ?_) h ..
  refine State.longEnough_cells (fun t h => ?_) h ..
  split <;> [rfl; skip]
  refine State.withChain_cells (fun t c h => ?_) h rfl ..
  split <;> [simp [h]; skip]
  split <;> [simp [h]; (split <;> [simp [h]; skip])]
  refine State.withRandom_cells (fun t b h => ?_) h ..
  simp [h]

@[simp] theorem execGetMeasurements_cells (ss : Option Word) (r : Bytes) (s : State) :
    Keeps s (execGetMeasurements ss r s) := by
  refine keeps_ran.2 (State.spdm_cells (fun t m h => ?_) rfl ..)
  refine State.anywhere_cells (fun t h => ?_) h ..
  refine State.longEnough_cells (fun t h => ?_) h ..
  split <;> [rfl; skip]
  split <;> [simp [h]; (split <;> [simp [h]; skip])]
  refine State.withRandom_cells (fun t b h => ?_) h ..
  simp only
  split <;> simp [h]

@[simp] theorem execKeyExchange_cells (ss : Option Word) (r : Bytes) (s : State) :
    Keeps s (execKeyExchange ss r s) := by
  refine keeps_ran.2 (State.spdm_cells (fun t m h => ?_) rfl ..)
  refine State.outside_cells (fun t h => ?_) h ..
  refine State.longEnough_cells (fun t h => ?_) h ..
  split <;> [rfl; skip]
  refine State.withChain_cells (fun t c h => ?_) h rfl ..
  split <;> [skip; simp [h]]
  split <;> [simp [h]; (split <;> [simp [h]; (split <;> [simp [h]; skip])])]
  refine State.withRandom_cells (fun t b h => ?_) h ..
  simp [h]

@[simp] theorem execFinish_cells (ss : Option Word) (r : Bytes) (s : State) : Keeps s (execFinish ss r s) := by
  refine keeps_ran.2 (State.spdm_cells (fun t m h => ?_) rfl ..)
  refine State.inSession_cells (fun t x h => ?_) h ..
  refine State.longEnough_cells (fun t h => ?_) h ..
  simp only
  split <;> [simp [h]; (split <;> [rfl; (split <;> simp [h])])]

@[simp] theorem execPqStart_cells (ss : Option Word) (r : Bytes) (s : State) : Keeps s (execPqStart ss r s) := by
  refine keeps_ran.2 (State.spdm_cells (fun t m h => ?_) rfl ..)
  refine State.inSession_cells (fun t x h => ?_) h ..
  refine State.withArgs_cells (fun t a h => ?_) h ..
  split <;> [simp [h]; (split <;> [rfl; simp [h]])]

@[simp] theorem execPqAccept_cells (ss : Option Word) (r : Bytes) (s : State) : Keeps s (execPqAccept ss r s) := by
  refine keeps_ran.2 (State.spdm_cells (fun t m h => ?_) rfl ..)
  refine State.inSession_cells (fun t x h => ?_) h ..
  refine State.withArgs_cells (fun t a h => ?_) h ..
  split <;> [skip; simp [h]]
  split <;> [simp [h]; (split <;> [rfl; simp [h]])]

@[simp] theorem execPqLegTimeout_cells (s : State) : Keeps s (execPqLegTimeout s) := by
  simp only [execPqLegTimeout, keeps_ranIf]
  repeat' split
  all_goals simp

@[simp] theorem execEndSession_cells (ss : Option Word) (r : Bytes) (s : State) : Keeps s (execEndSession ss r s) := by
  refine keeps_ran.2 (State.spdm_cells (fun t m h => ?_) rfl ..)
  refine State.inSession_cells (fun t x h => ?_) h ..
  simp [h]

@[simp] theorem execPqCert_cells (ss : Option Word) (r : Bytes) (s : State) : Keeps s (execPqCert ss r s) := by
  refine keeps_ran.2 (State.spdm_cells (fun t m h => ?_) rfl ..)
  refine State.anywhere_cells (fun t h => ?_) h ..
  refine State.withArgs_cells (fun t a h => ?_) h ..
  refine State.withChain_cells (fun t c h => ?_) h rfl ..
  simp [h]

@[simp] theorem execGetPage_cells (ss : Option Word) (r : Bytes) (s : State) : Keeps s (execGetPage ss r s) := by
  refine keeps_ran.2 (State.spdm_cells (fun t m h => ?_) rfl ..)
  refine State.inSession_cells (fun t x h => ?_) h ..
  refine State.withArgs_cells (fun t a h => ?_) h ..
  simp [h]

@[simp] theorem execSupplyCheck_cells (ss : Option Word) (r : Bytes) (s : State) :
    Keeps s (execSupplyCheck ss r s) := by
  refine keeps_ran.2 (State.spdm_cells (fun t m h => ?_) rfl ..)
  refine State.anywhere_cells (fun t h => ?_) h ..
  refine State.withArgs_cells (fun t a h => ?_) h ..
  simp only
  split <;> [simp [h]; (split <;> [simp; simp [h]])]

/-! ### Rings of the host -/

@[simp] theorem execCapAccept_cells (s : State) : Keeps s (execCapAccept s) :=
  keeps_ranIf.2 fun _ => State.serveType_cells (fun _ => by simp) ..

@[simp] theorem execRingCreate_cells (authorised : Bool) (s : State) : Keeps s (execRingCreate authorised s) := by
  refine keeps_ranIf.2 fun _ => State.serveType_cells (fun _ => ?_) ..
  simp only
  split <;> simp

@[simp] theorem execRingDestroy_cells (s : State) : Keeps s (execRingDestroy s) := by
  refine keeps_ranIf.2 fun _ => State.serveType_cells (fun _ => ?_) ..
  simp only
  split <;> simp

@[simp] theorem execHostReport_cells (s : State) : Keeps s (execHostReport s) := by
  refine keeps_ranIf.2 fun _ => State.serveType_cells (fun _ => ?_) ..
  simp only
  split <;> simp

@[simp] theorem execRingNop_cells (ring : BitVec 6) (s : State) : Keeps s (execRingNop ring s) := by
  refine keeps_ranIf.2 fun _ => State.submission_cells (fun _ _ => ?_) ..
  simp

@[simp] theorem execJobStep_cells (ring : BitVec 6) (workers : List (BitVec 12)) (s : State) :
    Keeps s (execJobStep ring workers s) := by
  refine keeps_ranIf.2 fun _ => State.submission_cells (fun _ _ => ?_) ..
  simp

@[simp] theorem execRingStreamOpen_cells (ring : BitVec 6) (s : State) : Keeps s (execRingStreamOpen ring s) := by
  refine keeps_ranIf.2 fun _ => State.submission_cells (fun _ _ => ?_) ..
  simp only
  split <;> simp

@[simp] theorem execRingStreamResult_cells (ring : BitVec 6) (s : State) : Keeps s (execRingStreamResult ring s) := by
  refine keeps_ranIf.2 fun _ => State.submission_cells (fun _ _ => ?_) ..
  split <;> simp

@[simp] theorem execRingCopy_cells (ring : BitVec 6) (s : State) : Keeps s (execRingCopy ring s) := by
  refine keeps_ranIf.2 fun _ => State.submission_cells (fun _ _ => ?_) ..
  simp only
  split <;> simp

@[simp] theorem execDriverGone_cells (why : GoneCause) (s : State) :
    Keeps s (execDriverGone why s) := by simp [execDriverGone]

@[simp] theorem execMbxHostReset_cells (w : Word) (s : State) :
    Keeps s (execMbxHostReset w s) := by simp [execMbxHostReset]

/-! ### The worker channel -/

@[simp] theorem execWcpRxMessage_cells (beats : List (BitVec 128)) (s : State) :
    Keeps s (execWcpRxMessage beats s) := by simp [execWcpRxMessage]

@[simp] theorem execWcpCredit_cells (s : State) : Keeps s (execWcpCredit s) := by simp [execWcpCredit]

@[simp] theorem execWcpMessageSent_cells (s : State) : Keeps s (execWcpMessageSent s) := by simp [execWcpMessageSent]

@[simp] theorem execReportReq_cells (s : State) : Keeps s (execReportReq s) := by simp [execReportReq]

@[simp] theorem execVersionReq_cells (s : State) : Keeps s (execVersionReq s) := by
  simp only [execVersionReq, keeps_ranIf]
  repeat' split
  all_goals simp

@[simp] theorem execReportPart_cells (s : State) : Keeps s (execReportPart s) := by
  simp only [execReportPart, keeps_ranIf]
  repeat' split
  all_goals simp

@[simp] theorem execWcpCancel_cells (s : State) : Keeps s (execWcpCancel s) := by simp [execWcpCancel]

@[simp] theorem execVersionInfo_cells (s : State) : Keeps s (execVersionInfo s) := by simp [execVersionInfo]

@[simp] theorem execCollectionTimeout_cells (s : State) :
    Keeps s (execCollectionTimeout s) := by simp [execCollectionTimeout]

@[simp] theorem execVdmReport_cells (ss : Option Word) (r : Bytes) (s : State) : Keeps s (execVdmReport ss r s) := by
  refine keeps_ran.2 (State.spdm_cells (fun t m h => ?_) rfl ..)
  refine State.inSession_cells (fun t x h => ?_) h ..
  refine State.withArgs_cells (fun t a h => ?_) h ..
  split <;> [simp [h]; skip; skip]
  · split <;> [simp [h]; (split <;> [rfl; simp [h]])]
  · split <;> [simp [h]; (split <;> [rfl; simp [h]])]

/-! ### The reset sequencer, the watchdogs and DIM -/

@[simp] theorem execPllLock_cells (s : State) : Keeps s (execPllLock s) := by simp [execPllLock]

@[simp] theorem execPllLockTimeout_cells (s : State) : Keeps s (execPllLockTimeout s) := by simp [execPllLockTimeout]

@[simp] theorem execStrapLatch_cells (readings : List (BitVec 4)) (s : State) :
    Keeps s (execStrapLatch readings s) := by
  simp only [execStrapLatch, keeps_ranIf]
  repeat' split
  all_goals simp

@[simp] theorem execHostDomainRelease_cells (s : State) : Keeps s (execHostDomainRelease s) := by
  simp only [execHostDomainRelease, keeps_ranIf]
  repeat' split
  all_goals simp

@[simp] theorem execGo_cells (w : Word) (s : State) : Keeps s (execGo w s) := by simp [execGo]

@[simp] theorem execHoldRelease_cells (w : Word) (s : State) :
    Keeps s (execHoldRelease w s) := by simp [execHoldRelease]

@[simp] theorem execCrsCommit_cells (w : Word) (s : State) : Keeps s (execCrsCommit w s) := by simp [execCrsCommit]

@[simp] theorem execBlockCmd_cells (w : Word) (s : State) : Keeps s (execBlockCmd w s) := by simp [execBlockCmd]

@[simp] theorem execWdtSecKick_cells (w : Word) (s : State) : Keeps s (execWdtSecKick w s) := by simp [execWdtSecKick]

@[simp] theorem execWdtCtlKick_cells (q : Req) (w : Word) (s : State) :
    Keeps s (execWdtCtlKick q w s) := by simp [execWdtCtlKick]

@[simp] theorem execWdtCtlEnable_cells (w : Word) (s : State) :
    Keeps s (execWdtCtlEnable w s) := by simp [execWdtCtlEnable]

@[simp] theorem execDimEnter_cells (w : Word) (coresWaiting : Bool) (s : State) :
    Keeps s (execDimEnter w coresWaiting s) := by simp [execDimEnter]

@[simp] theorem execDimExit_cells (w : Word) (s : State) : Keeps s (execDimExit w s) := by simp [execDimExit]

@[simp] theorem execKlnTamperClear_cells (w : Word) (active : BitVec 8) (s : State) :
    Keeps s (execKlnTamperClear w active s) := by simp [execKlnTamperClear]

/-! ### The programming path and the life cycle -/

@[simp] theorem execOtpStartupDone_cells (drift : List (Nat × Row3)) (s : State) :
    Keeps s (execOtpStartupDone drift s) := by simp [execOtpStartupDone]

@[simp] theorem execOtpRead_cells (w : Word) (s : State) : Keeps s (execOtpRead w s) :=
  keeps_ranOn.2 fun _ => State.otpCommand_cells (by simp) ..

@[simp] theorem execOtpFinalise_cells (w : Word) (s : State) : Keeps s (execOtpFinalise w s) :=
  keeps_ranOn.2 fun _ => State.otpCommand_cells (by simp) ..

@[simp] theorem execEraseDone_cells (w : Word) (s : State) : Keeps s (execEraseDone w s) := by
  simp only [execEraseDone, keeps_ranOn]
  repeat' split
  all_goals simp

@[simp] theorem execJtagInstruction_cells (ir : BitVec 8) (s : State) :
    Keeps s (execJtagInstruction ir s) := by simp [execJtagInstruction]

@[simp] theorem execTrstNAssert_cells (s : State) : Keeps s (execTrstNAssert s) := by simp [execTrstNAssert]

/-! ### The Tinder ROM -/

@[simp] theorem execTinderBoot_cells (abort : Option (Fin 27)) (s : State) :
    Keeps s (execTinderBoot abort s) := by simp [execTinderBoot]

@[simp] theorem execBootMainStart_cells (w : Word) (s : State) :
    Keeps s (execBootMainStart w s) := by simp [execBootMainStart]

@[simp] theorem execBootLockWrite_cells (which : Fin 3) (w : Word) (s : State) :
    Keeps s (execBootLockWrite which w s) := by simp [execBootLockWrite]

/-! ### The Causeway link -/

@[simp] theorem execLinkUp_cells (s : State) : Keeps s (execLinkUp s) := by simp [execLinkUp]

@[simp] theorem execLinkDown_cells (s : State) : Keeps s (execLinkDown s) := by simp [execLinkDown]

@[simp] theorem execFrameDrop_cells (why : FrameFault) (s : State) :
    Keeps s (execFrameDrop why s) := by simp [execFrameDrop]

@[simp] theorem execCausewayFrameSent_cells (s : State) :
    Keeps s (execCausewayFrameSent s) := by simp [execCausewayFrameSent]

@[simp] theorem execMbxSend_cells (q : Req) (m : Fin 4) (d : MbxDir) (w : Word) (s : State) :
    Keeps s (execMbxSend q m d w s) := by simp [execMbxSend]

@[simp] theorem execCwyCopy_cells (w : Word) (s : State) : Keeps s (execCwyCopy w s) := by simp [execCwyCopy]

@[simp] theorem execNvmErase_cells (w : Word) (s : State) : Keeps s (execNvmErase w s) := by simp [execNvmErase]

@[simp] theorem execNvmProgram_cells (w : Word) (s : State) : Keeps s (execNvmProgram w s) := by simp [execNvmProgram]

@[simp] theorem execNvmVerify_cells (w : Word) (s : State) : Keeps s (execNvmVerify w s) := by simp [execNvmVerify]

@[simp] theorem execCwyEngineDone_cells (ok : Bool) (s : State) : Keeps s (execCwyEngineDone ok s) := by
  refine keeps_ranIf.2 fun _ => ?_
  split <;> [(split <;> [simp; exact cells_elim rfl (by simp) _]); simp; rfl]

/-! ### Field update -/

@[simp] theorem execCwyHello_cells (frame : Bytes) (s : State) : Keeps s (execCwyHello frame s) :=
  keeps_ranIf.2 fun _ => State.receive_cells (fun _ h => by simp [h]) ..

@[simp] theorem execCwyManifest_cells (frame : Bytes) (s : State) : Keeps s (execCwyManifest frame s) :=
  keeps_ranIf.2 fun _ => State.receive_cells (fun _ h => by simp [h]) ..

@[simp] theorem execCwyChunk_cells (frame : Bytes) (s : State) : Keeps s (execCwyChunk frame s) :=
  keeps_ranIf.2 fun _ => State.receive_cells (fun _ h => by simp [h]) ..

@[simp] theorem execCwyActivate_cells (frame : Bytes) (s : State) : Keeps s (execCwyActivate frame s) :=
  keeps_ranIf.2 fun _ => State.commit_cells (fun _ h => by simp [h]) ..

@[simp] theorem execCwyNextBoot_cells (frame : Bytes) (s : State) : Keeps s (execCwyNextBoot frame s) :=
  keeps_ranIf.2 fun _ => State.commit_cells (fun _ h => by simp [h]) ..

@[simp] theorem execStatusQuery_cells (frame : Bytes) (s : State) : Keeps s (execStatusQuery frame s) :=
  keeps_ranIf.2 fun _ =>
  State.receive_cells (fun _ h => State.plainFrame_cells (fun _ hu => by simp [hu]) h ..) ..

@[simp] theorem execAbortFrame_cells (frame : Bytes) (s : State) : Keeps s (execAbortFrame frame s) :=
  keeps_ranIf.2 fun _ =>
  State.receive_cells (fun _ h => State.plainFrame_cells (fun _ hu => by simp [hu]) h ..) ..

@[simp] theorem execRepeatFrame_cells (frame : Bytes) (s : State) : Keeps s (execRepeatFrame frame s) :=
  keeps_ranIf.2 fun _ => State.receive_cells (fun _ h => by simp [h]) ..

@[simp] theorem execSessionIdleTimeout_cells (s : State) :
    Keeps s (execSessionIdleTimeout s) := by simp [execSessionIdleTimeout]

/-! ### The memory port -/

@[simp] theorem execAstResponse_cells (array : BitVec 8) (result : BitVec 2) (s : State) :
    Keeps s (execAstResponse array result s) := by
  simp only [execAstResponse, keeps_ran]
  repeat' split
  all_goals simp

@[simp] theorem execAstTimeout_cells (array : BitVec 8) (s : State) :
    Keeps s (execAstTimeout array s) := by simp [execAstTimeout]

@[simp] theorem execIcpResponse_cells (s : State) : Keeps s (execIcpResponse s) := by
  simp only [execIcpResponse, keeps_ranIf]
  repeat' split
  all_goals simp

/-! ### Windows and the control port -/

@[simp] theorem execArbiterWindow_cells (arb : Arbiter) (s : State) :
    Keeps s (execArbiterWindow arb s) := by simp [execArbiterWindow]

end Sys2Proof.Machine
end

section
/-!
PROOFS. How counter cells move (R342, R343, R348, R456): a grant and ADVANCE raise a cell's value, EXHAUSTED and FAULTED
are only set, and a RELEASE that disables the cells of a partition leaves all three.
-/
namespace Sys2Proof.Machine

/-! ### One cell, and all cells -/

/-- `w` gives out no range that `v` has given out, and keeps its marks (R342, R348). -/
structure CtrCell.NotBack (v w : CtrCell) : Prop where
  value : v.value ≤ w.value
  exhausted : v.exhausted = true → w.exhausted = true
  faulted : v.faulted = true → w.faulted = true

theorem CtrCell.NotBack.refl (v : CtrCell) : v.NotBack v := ⟨BitVec.le_refl _, id, id⟩

theorem CtrCell.NotBack.trans {u v w : CtrCell} (h : u.NotBack v) (h' : v.NotBack w) : u.NotBack w :=
  ⟨BitVec.le_trans h.value h'.value, h'.exhausted ∘ h.exhausted, h'.faulted ∘ h.faulted⟩

/-- The array of the cells is in canonical form. -/
def State.cellsWf (s : State) : Prop := Sparse.wf ({} : CtrCell) s.cnt.cells = true

/-- From a canonical array, `t` has one too, with no cell set back. -/
structure State.CellsOn (s t : State) : Prop where
  wf : s.cellsWf → t.cellsWf
  cell : s.cellsWf → ∀ c, (s.cell c).NotBack (t.cell c)

theorem State.cell_of_cells {s t : State} (h : t.cnt.cells = s.cnt.cells) (c : CellId) : t.cell c = s.cell c := by
  rw [State.cell, State.cell, h]

theorem State.CellsOn.of_cells {s t : State} (h : t.cnt.cells = s.cnt.cells) : s.CellsOn t where
  wf hs := by rwa [State.cellsWf, h]
  cell _ c := State.cell_of_cells h c ▸ .refl _

theorem State.CellsOn.refl (s : State) : s.CellsOn s := .of_cells rfl

theorem State.CellsOn.trans {s t u : State} (h : s.CellsOn t) (h' : t.CellsOn u) : s.CellsOn u :=
  ⟨fun hs => h'.wf (h.wf hs), fun hs c => (h.cell hs c).trans (h'.cell (h.wf hs) c)⟩

/-- A further change that leaves the cells. -/
theorem State.CellsOn.then {s t u : State} (h : s.CellsOn t) (hu : u.cnt.cells = t.cnt.cells) : s.CellsOn u :=
  h.trans (.of_cells hu)

/-- A change before that leaves the cells. -/
theorem State.CellsOn.after {s t u : State} (h : t.CellsOn u) (ht : t.cnt.cells = s.cnt.cells) : s.CellsOn u :=
  (State.CellsOn.of_cells ht).trans h

theorem State.CellsOn.foldl {α : Type} {f : State → α → State} (h : ∀ (s : State) a, s.CellsOn (f s a)) (s : State)
    (l : List α) : s.CellsOn (l.foldl f s) := by
  induction l generalizing s with
  | nil => exact .refl s
  | cons a l ih => exact (h s a).trans (ih _)

/-! ### Grants and commands -/

theorem State.setCell_cellsOn {s : State} {c : CellId} {v : CtrCell} (h : (s.cell c).NotBack v) :
    s.CellsOn (s.setCell c v) where
  wf := Sparse.wf_put
  cell hs d := by
    by_cases hd : d = c
    · subst hd
      rwa [setCell_cell hs]
    · rw [setCell_cell_ne hs v hd]
      exact .refl _

theorem State.exhaust_cellsOn (s : State) (c : CellId) : s.CellsOn (s.exhaust c) := by
  unfold State.exhaust
  split
  · exact .refl s
  · have hset : s.CellsOn (s.setCell c { s.cell c with exhausted := true }) :=
      State.setCell_cellsOn ⟨BitVec.le_refl _, fun _ => rfl, id⟩
    exact hset.then (State.queueExh_cells ..)

theorem State.faultCell_cellsOn (s : State) (c : CellId) (residue : Bool) : s.CellsOn (s.faultCell c residue) := by
  have hset : s.CellsOn (s.setCell c { s.cell c with faulted := true }) :=
    State.setCell_cellsOn ⟨BitVec.le_refl _, id, fun _ => rfl⟩
  exact hset.then (by simp [State.faultCell])

/-- A cell that moves to a value as high at least, and below the end of the counter, is not set back. -/
theorem CtrCell.notBack_of_value {v : CtrCell} {n : Nat} (hle : v.value.toNat ≤ n) (hlt : n < 2 ^ 64) (res : Nat) :
    v.NotBack { v with value := BitVec.ofNat 64 n, res := res } := by
  refine ⟨?_, id, id⟩
  rw [BitVec.le_def, BitVec.toNat_ofNat, Nat.mod_eq_of_lt hlt]
  exact hle

theorem State.grantMade_cellsOn {s : State} {r : CntReq}
    (h : (s.cell r.cell).value.toNat + 2 ^ r.size < 2 ^ 64) : s.CellsOn (s.grantMade r) :=
  have hset := State.setCell_cellsOn (CtrCell.notBack_of_value (Nat.le_add_right _ (2 ^ r.size)) h
    (((s.cell r.cell).value.toNat + 2 ^ r.size) % 3))
  hset.then (State.queueMsg_cells ..)

theorem State.grantRefused_cellsOn (s : State) (r : CntReq) (err : CellErr) (c : Code) :
    s.CellsOn (s.grantRefused r err c) := by
  unfold State.grantRefused
  extract_lets bad s₁ s₂ s₃
  have h₁ : s.CellsOn s₁ := by
    simp only [s₁]
    split <;> [exact s.exhaust_cellsOn _; exact .refl s]
  have h₂ : s₁.CellsOn s₂ := by
    simp only [s₂]
    split <;> [exact s₁.faultCell_cellsOn ..; exact .refl s₁]
  exact (h₁.trans h₂).then (by simp [s₃])

theorem State.grantOp_cellsOn (s : State) (r : CntReq) (err : CellErr) : s.CellsOn (s.grantOp r err) := by
  refine State.CellsOn.after (t := s.cellCorrected err) ?_ (s.cellCorrected_cells err)
  simp only [State.grantOp]
  split
  · next h => exact State.grantMade_cellsOn (value_lt_of_granted h)
  · exact State.grantRefused_cellsOn ..

theorem State.cntCommand_cellsOn (s : State) (c : CntCmd) (err : CellErr) : s.CellsOn (s.cntCommand c err) := by
  refine State.CellsOn.after (t := s.cellCorrected err) ?_ (s.cellCorrected_cells err)
  simp only [State.cntCommand]
  generalize s.cellCorrected err = u
  cases c with
  | configure =>
    dsimp only
    split
    · exact .of_cells rfl
    · have hset : u.CellsOn (u.setCell u.opCell
          { u.cell u.opCell with part := u.opCellPart, enable := u.opCellEnable }) :=
        State.setCell_cellsOn ⟨BitVec.le_refl _, id, id⟩
      exact hset.then rfl
  | read =>
    dsimp only
    split
    · exact (u.faultCell_cellsOn u.opCell (err != .uncorr)).then rfl
    · exact .of_cells rfl
  | advance =>
    dsimp only
    split
    · split
      · exact (u.faultCell_cellsOn u.opCell (err != .uncorr)).then rfl
      · exact .of_cells rfl
    · next h =>
      have hbad := lowest_eq_none.1 h _ (List.mem_cons_of_mem _ List.mem_cons_self)
      simp only at hbad
      rw [if_neg (by simp [hbad])]
      have hlt : max (u.cell u.opCell).value.toNat u.opCellValue.toNat < 2 ^ 64 := by omega
      exact (State.setCell_cellsOn (CtrCell.notBack_of_value (le_max_left ..) hlt _)).then rfl
  | retire => exact (u.exhaust_cellsOn _).then rfl

theorem State.bankOp_cellsOn (s : State) (b : Nat) (err : CellErr) : s.CellsOn (s.bankOp b err) := by
  unfold State.bankOp
  split
  · exact .refl s
  · exact s.cntCommand_cellsOn ..
  · exact (State.grantOp_cellsOn ..).after rfl

/-! ### A RELEASE -/

/-- The cells of a partition with ENABLE clear. -/
def disableCells (p : PartId) (m : Sparse CtrCell) : Sparse CtrCell :=
  Sparse.mapAll {} (fun _ c => if c.part == p then { c with enable := false } else c) m

theorem disableCells_notBack {m : Sparse CtrCell} (h : Sparse.wf {} m = true) (p : PartId) (i : Nat) :
    (Sparse.get {} m i).NotBack (Sparse.get {} (disableCells p m) i) := by
  have hcell (v : CtrCell) : v.NotBack (if v.part == p then { v with enable := false } else v) := by
    split <;> exact ⟨BitVec.le_refl _, id, id⟩
  rcases Sparse.get_mapAll (f := fun _ c => if c.part == p then { c with enable := false } else c) h i with
    hget | ⟨hdefault, hget⟩
  · rw [disableCells, hget]
    exact hcell _
  · rw [disableCells, hget, hdefault]
    exact .refl _

/-- Step 8 of RELEASE disables cells, and moves none (R456). -/
theorem State.relUnbind_cellsOn (s : State) (p : PartId) : s.CellsOn (s.relUnbind p) := by
  have hunbind : ((s.groupMembers p).foldl (fun s e => s.unbind e) s).cnt.cells = s.cnt.cells := by simp
  have hcells : (s.relUnbind p).cnt.cells = disableCells p s.cnt.cells := congrArg (disableCells p) hunbind
  constructor
  · rw [State.cellsWf, State.cellsWf, hcells]
    exact Sparse.wf_mapAll
  · intro hs c
    rw [State.cell, State.cell, hcells]
    exact disableCells_notBack hs p c.toNat

theorem State.relPurged_cellsOn (s : State) (p : PartId) : s.CellsOn (s.relPurged p) := by
  simp only [State.relPurged]
  generalize hu : State.smeNext _ = u
  have hcells : u.cnt.cells = s.cnt.cells := by simp [← hu]
  exact ((u.relUnbind_cellsOn p).after hcells).then rfl

theorem State.relStep_cellsOn {s t : State} (h : s.relStep = some t) : s.CellsOn t := by
  unfold State.relStep at h
  split at h <;> [cases h; skip]
  simp only at h
  split at h
  case h_5 =>
    split at h <;> cases h
    split <;> [exact (State.relPurged_cellsOn ..).after (by simp); exact .of_cells (by simp)]
  case h_7 =>
    split at h
    · split at h <;> cases h
      exact .of_cells (by simp)
    · split at h
      · cases h
      · split at h <;> cases h <;> exact .of_cells (by simp)
  case h_1 | h_2 | h_3 | h_4 =>
    split at h <;> cases h
    exact .of_cells (by simp)
  case h_6 | h_8 => cases h

theorem State.relRun_cellsOn (n : Nat) (s : State) : s.CellsOn (State.relRun n s) := by
  induction n generalizing s with
  | zero => exact .refl s
  | succ n ih =>
    unfold State.relRun
    split <;> [exact .refl s; exact (State.relStep_cellsOn ‹_›).trans (ih _)]

theorem State.prtGoOn_cellsOn (s : State) : s.CellsOn s.prtGoOn :=
  (State.relRun_cellsOn 80 s).then (by simp [State.prtGoOn])

/-- A change that leaves the cells, after which a RELEASE goes on. -/
theorem State.CellsOn.prtGoOn {s t : State} (h : t.cnt.cells = s.cnt.cells) : s.CellsOn t.prtGoOn :=
  t.prtGoOn_cellsOn.after h

theorem State.scrubAcked_cellsOn (s : State) (i : Nat) (err : Bool) : s.CellsOn (s.scrubAcked i err) := by
  unfold State.scrubAcked
  split <;> [skip; split] <;> exact .prtGoOn (by simp)

theorem State.fillAcked_cellsOn (s : State) (i : Nat) (err : Bool) : s.CellsOn (s.fillAcked i err) := by
  simp only [State.fillAcked]
  split <;> [exact .refl s; skip]
  split <;> [exact .prtGoOn (by simp); skip]
  split <;> [exact .prtGoOn (by simp); exact .of_cells (by simp)]

theorem State.purgeResume_cellsOn (s : State) : s.CellsOn s.purgeResume := by
  unfold State.purgeResume
  split
  · exact .prtGoOn (by simp)
  · exact (s.relPurged_cellsOn _).trans (State.prtGoOn_cellsOn _)
  · exact .refl s

/-! ### The memory port -/

theorem State.mpGoOn_cellsOn (s : State) : s.CellsOn s.mpGoOn :=
  State.CellsOn.then (t := State.prtGoOn (State.stageGoOn (State.nvmNext (State.copyNext
    ((List.range 4).foldl (fun s c => s.readNext c) s))))) (.prtGoOn (by simp)) (by simp [State.mpGoOn])

theorem State.mpLost_cellsOn (s : State) (r : MpReq) : s.CellsOn (s.mpLost r) := by
  unfold State.mpLost
  split
  · exact s.scrubAcked_cellsOn ..
  · exact s.fillAcked_cellsOn ..
  all_goals exact .of_cells (by simp)

theorem State.mpAcked_cellsOn (s : State) (r : MpReq) (err : Bool) : s.CellsOn (s.mpAcked r err) := by
  unfold State.mpAcked
  split
  · exact s.scrubAcked_cellsOn ..
  · exact s.fillAcked_cellsOn ..
  all_goals exact .of_cells (by simp)

theorem State.mpBeat_cellsOn (s : State) (r : MpReq) (err : Bool) (data : BitVec 512) :
    s.CellsOn (s.mpBeat r err data) := by
  simp only [State.mpBeat]
  split <;> [exact (State.mpGoOn_cellsOn _).after (by simp); exact .of_cells rfl]

end Sys2Proof.Machine
end

section
/-!
PROOFS. What a reset does to the counter cells (R112, R349): only an episode of COLD or POWER reach zeroes them.
-/
namespace Sys2Proof.Machine

/-! ### Domains that enter and leave reset -/

theorem State.enterD1_cells (s : State) : s.enterD1.cnt.cells = s.cnt.cells := rfl

theorem State.enterD2_cells (s : State) : s.enterD2.cnt.cells = s.cnt.cells := by
  simp only [State.enterD2]
  generalize hu : (s.dgeAbandonHolders _).sidesReset .d2 = u
  have hcells : u.cnt.cells = s.cnt.cells := by simp [← hu]
  exact hcells

theorem State.enterD3_cells (s : State) : s.enterD3.cnt.cells = s.cnt.cells := rfl

/-- D4 keeps the array, and what its requests leave is what their units do (R36, R349). -/
theorem State.enterD4_cellsOn (s : State) : s.CellsOn s.enterD4 := by
  simp only [State.enterD4]
  exact (State.CellsOn.foldl State.mpLost_cellsOn ..).after rfl

theorem State.enterD5_cells (s : State) : s.enterD5.cnt.cells = s.cnt.cells := by simp [State.enterD5, State.hold]

theorem State.enterD6_cells (s : State) : s.enterD6.cnt.cells = s.cnt.cells := by
  simp only [State.enterD6]
  generalize hu : s.updDrop.tearNvm.sidesReset .d6 = u
  have hcells : u.cnt.cells = s.cnt.cells := by simp [← hu]
  exact hcells

theorem State.enter_cellsOn (s : State) (d : Dom) : s.CellsOn (s.enter d) := by
  cases d with
  | d1 => exact .of_cells s.enterD1_cells
  | d2 => exact .of_cells s.enterD2_cells
  | d3 => exact .of_cells s.enterD3_cells
  | d4 => exact s.enterD4_cellsOn
  | d5 => exact .of_cells s.enterD5_cells
  | d6 => exact .of_cells s.enterD6_cells
  | d0 | core => exact .refl s

theorem State.leave_cellsOn (s : State) (d : Dom) : s.CellsOn (s.leave d) := by
  cases d with
  | d3 | d4 => exact .prtGoOn (by simp)
  | d2 => exact .of_cells (by simp [State.leave, State.leaveD2])
  | _ => exact .of_cells (by simp [State.leave])

/-! ### What a step may do to the cells -/

/-- From a canonical array, `t` has one too; no cell is set back unless `t` runs an episode of COLD or POWER reach. -/
structure State.Forward (s t : State) : Prop where
  wf : s.cellsWf → t.cellsWf
  cell : s.cellsWf → t.coldReach = true ∨ ∀ c, (s.cell c).NotBack (t.cell c)

/-- And an episode of COLD or POWER reach runs on, so that such changes can follow one another. -/
structure State.Counts (s t : State) : Prop extends s.Forward t where
  cold : s.coldReach = true → t.coldReach = true

theorem State.coldReach_of_ep {s t : State} (h : t.crs.ep = s.crs.ep) : t.coldReach = s.coldReach := by
  rw [State.coldReach, State.coldReach, h]

theorem State.CellsOn.forward {s t : State} (h : s.CellsOn t) : s.Forward t := ⟨h.wf, fun hs => .inr (h.cell hs)⟩

theorem State.CellsOn.counts {s t : State} (h : s.CellsOn t) (hst : t.still = s.still) : s.Counts t :=
  ⟨h.forward, fun hs => (State.coldReach_of_ep (State.ep_of_still hst)).trans hs⟩

theorem State.Counts.of_same {s t : State} (h : t.cnt.cells = s.cnt.cells) (hst : t.still = s.still) : s.Counts t :=
  (State.CellsOn.of_cells h).counts hst

theorem State.Counts.refl (s : State) : s.Counts s := .of_same rfl rfl

theorem State.Counts.trans {s t u : State} (h : s.Counts t) (h' : t.Counts u) : s.Counts u where
  wf hs := h'.wf (h.wf hs)
  cold hs := h'.cold (h.cold hs)
  cell hs := by
    rcases h.cell hs with ht | ht
    · exact .inl (h'.cold ht)
    · exact (h'.cell (h.wf hs)).imp_right fun hu c => (ht c).trans (hu c)

/-- A further change that leaves the cells, the domains and the episode. -/
theorem State.Counts.then {s t u : State} (h : s.Counts t) (hc : u.cnt.cells = t.cnt.cells) (hst : u.still = t.still) :
    s.Counts u := h.trans (.of_same hc hst)

/-- A change before that leaves the cells, the domains and the episode. -/
theorem State.Counts.after {s t u : State} (h : t.Counts u) (hc : t.cnt.cells = s.cnt.cells) (hst : t.still = s.still) :
    s.Counts u := (State.Counts.of_same hc hst).trans h

/-! ### A reset source -/

theorem Episode.four_le_rank_after {e : Episode} (h : 4 ≤ e.rank) (x : Source) (rank : Nat) (doms : List Dom) :
    4 ≤ (Episode.after (some e) x rank doms).rank := by
  by_cases hr : rank = 5
  · exact (by omega : 4 ≤ rank).trans (Episode.le_rank_after ..)
  · simp [Episode.after, hr, h]

theorem State.act_coldReach (s : State) (x : Source) (rank : Nat) (doms : List Dom) :
    (s.act x rank doms).coldReach = decide (4 ≤ (Episode.after s.crs.ep x rank doms).rank) := by
  obtain ⟨r, hep⟩ := s.act_ep x rank doms
  rw [State.coldReach, hep]
  rfl

theorem State.act_keeps_coldReach {s : State} (h : s.coldReach = true) (x : Source) (rank : Nat) (doms : List Dom) :
    (s.act x rank doms).coldReach = true := by
  rw [State.act_coldReach, decide_eq_true_eq]
  cases hep : s.crs.ep with
  | none => simp [State.coldReach, hep] at h
  | some e =>
    simp only [State.coldReach, hep, Option.any_some, decide_eq_true_eq] at h
    exact Episode.four_le_rank_after h x rank doms

@[simp] theorem State.closeDebug_cells (s : State) : s.closeDebug.cnt.cells = s.cnt.cells := rfl

/-- A reset source sets no cell back, or the episode is of COLD or POWER reach and the array is zeroed. -/
theorem State.act_cells (s : State) (x : Source) (rank : Nat) (doms : List Dom) :
    s.CellsOn (s.act x rank doms) ∨
      4 ≤ (Episode.after s.crs.ep x rank doms).rank ∧ (s.act x rank doms).cnt.cells = [] := by
  unfold State.act
  extract_lets e s₁ s₂ s₃ s₄ s₅ entersD2 now waits s₆ s₇ s₈ s₉ s₁₀ s₁₁ s₁₂
  have h₇ : s₇.cnt.cells = s.cnt.cells := by simp [s₇, s₆, s₅, s₄, s₃, s₂, s₁]
  have h₈ : s₇.CellsOn s₈ := State.CellsOn.foldl (fun t d => by split <;> [exact t.enter_cellsOn d; exact .refl t]) ..
  have h₁₀ : s₁₀.cnt.cells = s₈.cnt.cells := by simp [s₁₀, s₉]
  have hlast : (if rank = 5 then s₁₂.enterCore else s₁₂).cnt.cells = s₁₁.cnt.cells := by
    have hcore (t : State) : t.enterCore.cnt.cells = t.cnt.cells := rfl
    simp [s₁₂, hcore]
  by_cases hzero : (4 ≤ e.rank && e.doms.contains .d4 && !s₁₀.up .d4) = true
  · have h₁₁ : s₁₁ = s₁₀.zeroD4 := if_pos hzero
    simp only [Bool.and_eq_true, decide_eq_true_eq] at hzero
    exact .inr ⟨hzero.1.1, hlast.trans (h₁₁ ▸ rfl)⟩
  · have h₁₁ : s₁₁ = s₁₀ := if_neg hzero
    exact .inl ((h₈.after h₇).then (hlast.trans (h₁₁ ▸ h₁₀)))

theorem State.act_counts (s : State) (x : Source) (rank : Nat) (doms : List Dom) : s.Counts (s.act x rank doms) := by
  refine ⟨⟨fun hs => ?_, fun hs => ?_⟩, fun hs => State.act_keeps_coldReach hs x rank doms⟩ <;>
    rcases s.act_cells x rank doms with h | ⟨hcold, hnil⟩
  · exact h.wf hs
  · rw [State.cellsWf, hnil]
    exact Sparse.wf_nil _
  · exact .inr (h.cell hs)
  · exact .inl ((State.act_coldReach ..).trans (decide_eq_true hcold))

end Sys2Proof.Machine
end

section
/-!
PROOFS. No step takes a counter cell back but in a COLD or POWER episode: the commands and events that can reset, and
those with which a RELEASE goes on (R112, R342, R348, R349, R456).
-/
namespace Sys2Proof.Machine

theorem State.Forward.of_cells {s t : State} (h : t.cnt.cells = s.cnt.cells) : s.Forward t :=
  (State.CellsOn.of_cells h).forward

/-- A change before that leaves the cells. -/
theorem State.Forward.after {s t u : State} (h : t.Forward u) (ht : t.cnt.cells = s.cnt.cells) : s.Forward u := by
  have hcell (c : CellId) : t.cell c = s.cell c := State.cell_of_cells ht c
  obtain ⟨hwf, hback⟩ := h
  simp only [State.cellsWf, ht, hcell] at hwf hback
  exact ⟨hwf, hback⟩

theorem State.act_forward {s t : State} (h : t.cnt.cells = s.cnt.cells) (x : Source) (rank : Nat) (doms : List Dom) :
    s.Forward (t.act x rank doms) := (t.act_counts x rank doms).toForward.after h

/-! ### Resets, and the life cycle -/

theorem State.powerOn_counts (s : State) : s.Counts s.powerOn := (State.act_counts ..).then rfl rfl

theorem State.swReset_counts (s : State) (w : Word) : s.Counts (s.swReset w) := by
  unfold State.swReset
  split
  · exact .refl s
  · split <;> [exact State.act_counts ..; (split <;> exact State.act_counts ..)]

/-- A transition ends, or is refused, in LC_TRANS: an episode of COLD reach (R165). -/
theorem State.lcEnd_counts (s : State) (c : Code) (burned : Nat) : s.Counts (s.lcEnd c burned) := by
  simp only [State.lcEnd]
  exact (State.act_counts ..).after rfl rfl

theorem State.pathTo_counts (s : State) (r : Otp × Option PathEnd) : s.Counts (s.pathTo r) := by
  unfold State.pathTo
  split
  · exact .of_same rfl rfl
  · split <;> [(simp only; split); skip]
    · exact .of_same rfl rfl
    · exact (State.lcEnd_counts ..).after rfl rfl
    · exact .of_same rfl rfl

theorem State.burn_counts (s : State) (job : OtpJob) (todo : List Burn) (vqps : Nat) :
    s.Counts (s.burn job todo vqps) :=
  State.pathTo_counts ..

theorem State.advanceGoOn_counts (vqps : Nat) (l : List (Nat × Nat)) (s : State) :
    s.Counts (State.advanceGoOn vqps l s) := by
  induction l generalizing s with
  | nil => exact .of_same (by simp [State.advanceGoOn]) (by simp [State.advanceGoOn])
  | cons e l ih =>
    obtain ⟨c, target⟩ := e
    have hburn : s.Counts
        (State.burn { s with fw := { s.fw with advance := l } } .advance (s.otp.advanceBurns c target) vqps) :=
      (State.burn_counts ..).after rfl rfl
    simp only [State.advanceGoOn]
    generalize State.burn _ _ _ _ = b at *
    split <;> [skip; exact ih s]
    split <;> [exact hburn; skip]
    split <;> [exact hburn.trans (ih b); exact hburn.then (by simp) (by simp)]

theorem State.afterPath_counts (s : State) (vqps : Nat) (job : OtpJob) : s.Counts (s.afterPath vqps job) := by
  unfold State.afterPath
  split <;> [exact .refl s; (split <;> exact State.advanceGoOn_counts ..)]

theorem State.lcsPhase_counts (s : State) (vqps : Nat) : s.Counts (s.lcsPhase vqps) := by
  simp only [State.lcsPhase]
  split
  · split <;> exact .of_same rfl (by simp)
  · split
    · exact State.lcEnd_counts ..
    · have hcells := s.rootAction_cells
      have hst := s.rootAction_still
      generalize s.rootAction = u at hcells hst
      split <;> exact .of_same hcells (by simp [hst])
  · exact .of_same rfl (by simp)
  · exact (State.pathTo_counts ..).after rfl rfl
  · exact State.lcEnd_counts ..
  · exact .refl s

/-! ### Field update -/

theorem State.rewriteOver_counts (s : State) : s.Counts s.rewriteOver := by
  simp only [State.rewriteOver]
  split <;> [exact (State.act_counts ..).after rfl rfl; exact .of_same (by simp) (by simp)]

theorem State.updSector_counts (s : State) (u : UpdWork) (todo : List Nat) (st : SectorStep) (again : Bool) :
    s.Counts (s.updSector u todo st again) := by
  unfold State.updSector
  split <;> [exact s.rewriteOver_counts; exact .of_same (by simp) (by simp)]

theorem State.updGoOn_counts (s : State) : s.Counts s.updGoOn := by
  unfold State.updGoOn
  split
  · exact .refl s
  · split
    case h_12 => exact State.updSector_counts ..
    all_goals exact .of_same (by simp) (by simp)

theorem State.commitAdvance_counts (s : State) (f : Bytes) (vqps : Nat) : s.Counts (s.commitAdvance f vqps) := by
  simp only [State.commitAdvance]
  split
  · exact .of_same rfl rfl
  · split
    · exact .of_same rfl rfl
    · split <;> [exact (State.advanceGoOn_counts ..).after (by simp) (by simp); exact .of_same (by simp) (by simp)]

/-! ### A cycle -/

theorem State.goesOn_counts (s : State) : s.Counts s.goesOn := by
  have hmp : s.Counts s.mpGoOn := s.mpGoOn_cellsOn.counts s.mpGoOn_still
  exact (hmp.then (by simp) (by simp)).trans (State.updGoOn_counts _)

theorem State.tick_counts (s : State) : s.Counts s.tick :=
  (State.goesOn_counts (State.counted { s with outs := [] })).after (by simp) (by simp)

/-! ### What an outcome may do to the cells -/

/-- The outcome, where it is a state, has no cell set back but in an episode of COLD or POWER reach. -/
structure MovesOn (s : State) (r : Res) : Prop where
  of_next : ∀ t, r = .next t → s.Forward t

theorem Keeps.movesOn {s : State} {r : Res} (h : Keeps s r) : MovesOn s r :=
  ⟨fun t ht => .of_cells (h.of_next t ht)⟩

theorem movesOn_ran {f : State → State} {s : State} (h : s.quiet.Forward (f s.quiet)) : MovesOn s (ran f s) := by
  refine ⟨fun t ht => ?_⟩
  rw [ran_next ht]
  exact h.after rfl

theorem movesOn_ranIf {b : Bool} {f : State → State} {s : State} (h : b = true → s.quiet.Forward (f s.quiet)) :
    MovesOn s (ranIf b f s) := by
  cases b with
  | true => exact movesOn_ran (h rfl)
  | false => exact movesOn_ran (.of_cells rfl)

theorem movesOn_ranOn {d : Dom} {f : State → State} {s : State} (h : s.serves d = true → s.quiet.Forward (f s.quiet)) :
    MovesOn s (ranOn d f s) := by
  refine ⟨fun t ht => ?_⟩
  rcases ranOn_next ht with ⟨hd, rfl⟩ | ⟨-, rfl⟩
  · exact (h hd).after rfl
  · exact .of_cells rfl

/-! #### Counter cells, the partition table and the memory port -/

theorem execCntGrant_movesOn (bank : Fin 16) (err : CellErr) (s : State) : MovesOn s (execCntGrant bank err s) :=
  movesOn_ranIf fun _ => (State.bankOp_cellsOn ..).forward

/-- A RELEASE goes on after a change that leaves the cells. -/
theorem State.prtGoOn_forward {s t : State} (h : t.cnt.cells = s.cnt.cells) : s.Forward t.prtGoOn :=
  t.prtGoOn_cellsOn.forward.after h

theorem execPrtRelease_movesOn (w : Word) (err : MemErr) (s : State) : MovesOn s (execPrtRelease w err s) := by
  refine movesOn_ranOn fun _ => State.prtCommand_cells_of (fun _ h => .of_cells h) ?_ ..
  exact State.prtGoOn_forward (by simp)

theorem execScrubRegion_movesOn (w : Word) (err : MemErr) (s : State) : MovesOn s (execScrubRegion w err s) := by
  refine movesOn_ranOn fun _ => State.prtCommand_cells_of (fun _ h => .of_cells h) ?_ ..
  exact State.prtGoOn_forward (by simp)

theorem execScrubOrphans_movesOn (w : Word) (err : MemErr) (s : State) : MovesOn s (execScrubOrphans w err s) := by
  refine movesOn_ranOn fun _ => State.prtCommand_cells_of (fun _ h => .of_cells h) ?_ ..
  exact State.prtGoOn_forward (by simp)

@[simp] theorem execScrubDone_cells (w : Word) (err : MemErr) (s : State) : Keeps s (execScrubDone w err s) :=
  keeps_ranOn.2 fun _ => State.prtCommand_cells (by simp) ..

@[simp] theorem State.define_cells (s : State) : s.define.cnt.cells = s.cnt.cells := by
  have hregions (l : List (Nat × Region)) (t : State) :
      (l.foldl (fun s e => s.setRegion e.1 e.2) t).cnt.cells = t.cnt.cells := cells_foldl (by intros; rfl) t l
  simp [State.define, hregions]

@[simp] theorem State.prtCommit_cells (s : State) (err : MemErr) : (s.prtCommit err).cnt.cells = s.cnt.cells := by
  unfold State.prtCommit
  split <;> simp

@[simp] theorem execPrtCommit_cells (w : Word) (err : MemErr) (s : State) : Keeps s (execPrtCommit w err s) := by
  simp [execPrtCommit]

theorem execDrainToken_movesOn (array : BitVec 8) (part : PartId) (gen : Gen) (s : State) :
    MovesOn s (execDrainToken array part gen s) := by
  refine movesOn_ran ?_
  split <;> [exact .of_cells rfl; skip]
  simp only
  split <;> [exact State.prtGoOn_forward (by simp); exact .of_cells (by simp)]

theorem execEack_movesOn (port : Fin 8) (age : Nat) (s : State) : MovesOn s (execEack port age s) := by
  refine movesOn_ran ?_
  split <;> [exact State.prtGoOn_forward (by simp); exact .of_cells rfl]

theorem execKfBeatSend_movesOn (port : Fin 8) (s : State) : MovesOn s (execKfBeatSend port s) :=
  movesOn_ranIf fun _ => State.prtGoOn_forward (by simp)

theorem execExtensionApply_movesOn (err : MemErr) (s : State) : MovesOn s (execExtensionApply err s) :=
  movesOn_ranIf fun _ => State.prtGoOn_forward (by simp)

theorem execPurgeResume_movesOn (s : State) : MovesOn s (execPurgeResume s) :=
  movesOn_ranIf fun _ => (State.purgeResume_cellsOn _).forward

theorem execMpReadData_movesOn (tag : BitVec 8) (last err : Bool) (data : BitVec 512) (s : State) :
    MovesOn s (execMpReadData tag last err data s) := by
  refine movesOn_ran ?_
  split <;> [exact .of_cells rfl; skip]
  simp only
  split <;> [exact .of_cells rfl; exact (State.mpBeat_cellsOn ..).forward]

theorem execMpWriteAck_movesOn (tag : BitVec 8) (err : Bool) (s : State) : MovesOn s (execMpWriteAck tag err s) := by
  refine movesOn_ran ?_
  split <;> [exact .of_cells rfl; skip]
  split <;> [exact .of_cells rfl; skip]
  generalize hu : ({ s.quiet with mp := s.quiet.mp.erase _ } : State) = u
  have hcells : u.cnt.cells = s.cnt.cells := by rw [← hu]; rfl
  exact ((u.mpAcked_cellsOn ..).trans (State.mpGoOn_cellsOn _)).forward.after hcells

/-! #### Resets -/

theorem execWarmNAct_movesOn (s : State) : MovesOn s (execWarmNAct s) :=
  movesOn_ranIf fun _ => State.act_forward (by rfl) ..

theorem execColdNAct_movesOn (s : State) : MovesOn s (execColdNAct s) :=
  movesOn_ranIf fun _ => State.act_forward (by rfl) ..

theorem execPorNFall_movesOn (s : State) : MovesOn s (execPorNFall s) :=
  movesOn_ranIf fun _ => State.Counts.toForward (.then (State.powerOn_counts _) rfl rfl)

theorem execD0Reset_movesOn (s : State) : MovesOn s (execD0Reset s) := by
  refine movesOn_ran ?_
  simp only
  generalize hu : ({ s.quiet with peat := {} } : State) = u
  have hcells : u.cnt.cells = s.cnt.cells := by rw [← hu]; rfl
  exact State.Forward.after (State.Counts.toForward (.then u.powerOn_counts (by rfl) (by rfl))) hcells

@[simp] theorem execPorNRise_cells (s : State) : Keeps s (execPorNRise s) := by
  refine keeps_ranIf.2 fun _ => ?_
  simp only
  split <;> rfl

@[simp] theorem execSourceDeassert_cells (src : Source) (s : State) : Keeps s (execSourceDeassert src s) := by
  simp [execSourceDeassert, State.deassert]

/-- The wait of D4 ends; in an episode of COLD or POWER reach its array is zeroed (R93, R112). -/
theorem execD4ResetEntry_movesOn (s : State) : MovesOn s (execD4ResetEntry s) := by
  refine movesOn_ranIf fun _ => ?_
  simp only
  have hon := s.quiet.enterD4_cellsOn
  generalize s.quiet.enterD4 = u at hon
  split
  · next h => exact ⟨fun _ => Sparse.wf_nil _, fun _ => .inl h⟩
  · exact hon.forward

theorem State.episodeOver_cells (s : State) : s.episodeOver.cnt.cells = s.cnt.cells := by
  unfold State.episodeOver
  split <;> [rfl; (split <;> rfl)]

theorem execDomainRelease_movesOn (s : State) : MovesOn s (execDomainRelease s) := by
  refine movesOn_ranIf fun _ => ?_
  split <;> [exact .of_cells rfl; skip]
  rename_i d _
  simp only
  generalize hu : (s.quiet.unhold d).onCrs _ = u
  have hcells : u.cnt.cells = s.cnt.cells := by rw [← hu]; rfl
  exact ((u.leave_cellsOn d).then ((State.episodeOver_cells _).trans (State.blockOver_cells ..))).forward.after hcells

theorem execSwWarm_movesOn (w : Word) (s : State) : MovesOn s (execSwWarm w s) :=
  movesOn_ranOn fun _ => (State.swReset_counts _ w).toForward

theorem execSwCold_movesOn (w : Word) (s : State) : MovesOn s (execSwCold w s) :=
  movesOn_ranOn fun _ => (State.swReset_counts _ w).toForward

theorem execBlockSample_movesOn (coresWaiting : Bool) (s : State) : MovesOn s (execBlockSample coresWaiting s) := by
  refine movesOn_ranIf fun _ => ?_
  split <;> [exact .of_cells rfl; skip]
  split <;> [exact State.act_forward (by rfl) ..; exact .of_cells rfl]

theorem execWdtSec_movesOn (s : State) : MovesOn s (execWdtSec s) :=
  movesOn_ranIf fun _ => State.act_forward (by rfl) ..

theorem execWdtCtl_movesOn (s : State) : MovesOn s (execWdtCtl s) :=
  movesOn_ranIf fun _ => State.act_forward (by rfl) ..

theorem execWritebackUncorr_movesOn (s : State) : MovesOn s (execWritebackUncorr s) :=
  movesOn_ranIf fun _ => State.act_forward (by rfl) ..

theorem execTamperInput_movesOn (i : Fin 8) (s : State) : MovesOn s (execTamperInput i s) := by
  refine movesOn_ran ?_
  exact State.act_forward (by simp) ..

theorem execScanComplete_movesOn (s : State) : MovesOn s (execScanComplete s) := by
  refine movesOn_ranIf fun _ => ?_
  simp only
  split <;> [exact .of_cells (by simp); exact State.act_forward (by simp) ..]

@[simp] theorem execFenceTripHoldEnd_cells (s : State) : Keeps s (execFenceTripHoldEnd s) := by
  simp [execFenceTripHoldEnd, State.deassert]

/-! #### The programming path and the life cycle -/

theorem execOtpPulseEnd_movesOn (m0 nrm m1 : Bool) (vqps : Nat) (s : State) :
    MovesOn s (execOtpPulseEnd m0 nrm m1 vqps s) := by
  refine movesOn_ranIf fun _ => ?_
  split <;> [exact .of_cells rfl; skip]
  split <;> [exact ((State.pathTo_counts ..).trans (State.afterPath_counts ..)).toForward; exact .of_cells rfl]

theorem execOtpCheckDone_movesOn (vqps later : Nat) (s : State) : MovesOn s (execOtpCheckDone vqps later s) := by
  refine movesOn_ranIf fun _ => ?_
  split <;> [exact .of_cells rfl; skip]
  split
  · split <;> [exact .of_cells rfl; exact (State.pathTo_counts ..).toForward]
  · exact ((State.pathTo_counts ..).trans (State.afterPath_counts ..)).toForward

/-- A command of the OTP controller that is not refused. -/
theorem State.otpCommand_forward {s : State} {f : State → State} (hf : s.Counts (f s)) (w : Word)
    (allowed : LcState → Bool) (refusals : List (Bool × Code)) : s.Forward (s.otpCommand w allowed refusals f) :=
  State.otpCommand_cells_of (fun _ h => .of_cells h) hf.toForward w allowed refusals

theorem execOtpProgram_movesOn (w : Word) (vqps : Nat) (s : State) : MovesOn s (execOtpProgram w vqps s) :=
  movesOn_ranOn fun _ => State.otpCommand_forward (State.burn_counts ..) ..

theorem execOtpAdvance_movesOn (w : Word) (vqps : Nat) (s : State) : MovesOn s (execOtpAdvance w vqps s) :=
  movesOn_ranOn fun _ => State.otpCommand_forward (State.burn_counts ..) ..

theorem execOtpRedirect_movesOn (w : Word) (vqps : Nat) (s : State) : MovesOn s (execOtpRedirect w vqps s) :=
  movesOn_ranOn fun _ => State.otpCommand_forward (State.burn_counts ..) ..

theorem execGenRootHalf_movesOn (w : Word) (vqps : Nat) (s : State) : MovesOn s (execGenRootHalf w vqps s) :=
  movesOn_ranOn fun _ => State.otpCommand_forward (.after (State.burn_counts ..) (by rfl) (by rfl)) ..

@[simp] theorem execLcTransition_cells (w : Word) (vqps : Nat) (s : State) : Keeps s (execLcTransition w vqps s) := by
  refine keeps_ranOn.2 fun _ => ?_
  split <;> [simp; (split <;> simp)]

theorem execLcsPhaseDone_movesOn (vqps : Nat) (s : State) : MovesOn s (execLcsPhaseDone vqps s) :=
  movesOn_ranIf fun _ => (State.lcsPhase_counts ..).toForward

@[simp] theorem execOpenDebug_cells (w : Word) (s : State) : Keeps s (execOpenDebug w s) := by
  refine keeps_ranOn.2 fun _ => ?_
  split <;> simp

@[simp] theorem execDebugGateOpen_cells (s : State) : Keeps s (execDebugGateOpen s) := by simp [execDebugGateOpen]

/-! #### Causeway and the Kiln -/

theorem execCommitAdvance_movesOn (frame : Bytes) (vqps : Nat) (s : State) :
    MovesOn s (execCommitAdvance frame vqps s) :=
  movesOn_ranIf fun _ => State.commit_cells_of (fun _ h => .of_cells h)
    (fun _ h => (State.commitAdvance_counts ..).toForward.after h) ..

@[simp] theorem ranKln_cells (n : Nat) (w : Word) (e : MemErr) (s : State) : Keeps s (ranKln n w e s) := by
  simp [ranKln]

@[simp] theorem execKlnEventApply_cells (s : State) : Keeps s (execKlnEventApply s) := by simp [execKlnEventApply]

@[simp] theorem execKeyMsg_cells (ss : Option Word) (r : Bytes) (out : Option Bytes) (s : State) :
    Keeps s (execKeyMsg ss r out s) := by
  refine keeps_ran.2 (State.spdm_cells (fun t m h => ?_) rfl ..)
  refine State.inSession_cells (fun u x hu => ?_) h ..
  simp only
  repeat' split
  all_goals simp [hu]

end Sys2Proof.Machine
end

section
/-!
PROOFS. No step takes a counter cell back but in a COLD or POWER episode: the registers, and the statement (R112, R342,
R343, R348, R349).
-/
namespace Sys2Proof.Machine

/-! ### Registers -/

theorem movesOn_looked {s : State} {r : Res} (h : MovesOn s.looked r) : MovesOn s r :=
  ⟨fun t ht => (h.of_next t ht).after rfl⟩

theorem otpCmdWrite_movesOn (w : Word) (s : State) : MovesOn s (otpCmdWrite w s) := by
  unfold otpCmdWrite
  split
  · exact (execOtpRead_cells w s).movesOn
  · exact movesOn_looked (execOtpProgram_movesOn ..)
  · exact (execOtpFinalise_cells w s).movesOn
  · exact movesOn_looked (execOtpAdvance_movesOn ..)
  · exact movesOn_looked (execOtpRedirect_movesOn ..)
  · exact movesOn_looked (execGenRootHalf_movesOn ..)
  · exact Keeps.movesOn (keeps_ran.2 (State.otpCommand_cells rfl ..))

@[simp] theorem lcsCmdWrite_cells (w : Word) (s : State) : Keeps s (lcsCmdWrite w s) := by
  unfold lcsCmdWrite
  split
  · exact ⟨(execLcTransition_cells ..).of_next⟩
  · exact execEraseDone_cells w s
  · exact execOpenDebug_cells w s
  · exact keeps_ran.2 (State.lcsRefuse_cells ..)

@[simp] theorem ctxCmdWrite_cells (q : Req) (c : Fin 4) (w : Word) (s : State) : Keeps s (ctxCmdWrite q c w s) := by
  unfold ctxCmdWrite
  split
  · exact execDgeUpdate_cells ..
  · exact execDgeFinal_cells ..
  · exact execDgeAbandon_cells ..
  · exact keeps_ran.2 (State.ctxCommand_cells (fun _ => by simp) ..)

@[simp] theorem kfbCmdWrite_cells (w : Word) (s : State) : Keeps s (kfbCmdWrite w s) := by
  unfold kfbCmdWrite
  split
  · exact execKfbLoad_cells ..
  · exact execKfbRotate_cells ..
  · exact execKfbZeroise_cells ..
  · exact execKfbRevoke_cells ..
  · exact execKfbBind_cells ..
  · exact execKfbRelease_cells ..
  · exact keeps_ran.2 (State.kfbCommand_cells _ (fun _ => rfl) ..)

@[simp] theorem cntCmdWrite_cells (w : Word) (s : State) : Keeps s (cntCmdWrite w s) := by
  unfold cntCmdWrite
  split
  · exact execCntConfigure_cells ..
  · exact execCntRead_cells ..
  · exact execCntAdvance_cells ..
  · exact execCntRetire_cells ..
  · exact keeps_ran.2 rfl

@[simp] theorem attCmdWrite_cells (b : Blk) (w : Word) (s : State) : Keeps s (attCmdWrite b w s) := by
  unfold attCmdWrite
  split
  · exact execPlatformReport_cells ..
  · exact execJobReport_cells ..
  · exact execSignBind_cells ..
  · exact execCertRead_cells ..
  · exact execAttComposite_cells ..
  · exact keeps_ran.2 (by simp)

@[simp] theorem attCtrlWrite_cells (q : Req) (w : Word) (s : State) : Keeps s (attCtrlWrite q w s) := by
  unfold attCtrlWrite
  split <;>
    [(split <;> [exact execHandoverSet_cells ..; exact execHandoverClear_cells ..]); exact execMainReady_cells ..]

theorem prtCmdWrite_movesOn (w : Word) (s : State) : MovesOn s (prtCmdWrite w s) := by
  unfold prtCmdWrite
  split
  · exact execPrtRelease_movesOn ..
  · exact (execPrtQuarantine_cells ..).movesOn
  · exact execScrubRegion_movesOn ..
  · exact (execScrubDone_cells ..).movesOn
  · exact (execJobRecord_cells ..).movesOn
  · exact (execJobForget_cells ..).movesOn
  · exact (execGateEnter_cells ..).movesOn
  · exact (execGateExit_cells ..).movesOn
  · exact execScrubOrphans_movesOn ..
  · exact (keeps_ran.2 (State.prtCommand_cells rfl ..)).movesOn

theorem regWrite_movesOn (q : Req) (p : RegAt) (w : Word) (s : State) : MovesOn s (regWrite q p w s) := by
  obtain ⟨reg, b, k⟩ := p
  cases reg with
  | crsSwReset =>
    change MovesOn s (if bit w 0 then execSwCold w s else execSwWarm w s)
    split <;> [exact execSwCold_movesOn w s; exact execSwWarm_movesOn w s]
  | otpCmd => exact otpCmdWrite_movesOn w s
  | klnCmd => exact (ranKln_cells (cmdCode w) w .none s).movesOn
  | prtCmd => exact prtCmdWrite_movesOn w s
  | dgeAcquire =>
    change MovesOn s (if bit w 0 then execDgeAcquireReq q w s else execDgeAcquireWithdraw q w s)
    split <;> [exact (execDgeAcquireReq_cells q w s).movesOn; exact (execDgeAcquireWithdraw_cells q w s).movesOn]
  | _ => exact Keeps.movesOn (by simp [regWrite])

theorem regTake_cells (q : Req) (p : RegAt) (s : State) : Keeps s (regTake q p s) := by
  unfold regTake
  split <;> simp

theorem regAccess_movesOn (q : Req) (write : Bool) (a : Nat) (v : Word) (s : State) :
    MovesOn s (regAccess q write a v s) := by
  unfold regAccess
  split
  · refine Keeps.movesOn ?_
    simp only
    split <;> [simp; (split <;> [simp; (cases write <;> simp)])]
  · split <;> [exact Keeps.movesOn (by simp); skip]
    split <;> [exact Keeps.movesOn (by simp); skip]
    split <;> [exact regWrite_movesOn ..; exact (regTake_cells ..).movesOn]

theorem plicAccess_cells {f : State → State} (hf : ∀ s, (f s).cnt.cells = s.cnt.cells) (k : Fin 8) (kind : AccKind)
    (n : Nat) (s : State) : Keeps s (plicAccess k kind n f s) := by
  refine keeps_ran.2 ?_
  split <;> [simp; exact hf _]

theorem execRegisterWrite_movesOn (q : Req) (a : RegAddr) (size : Fin 3) (v : Word) (s : State) :
    MovesOn s (execRegisterWrite q a size v s) := by
  -- The offset is a variable here, so that no proof has to compute it.
  have hplic (k : Fin 8) (n o : Nat) : Keeps s (plicAccess k .store n (fun s => s.plicWrite o v) s) :=
    plicAccess_cells (fun _ => State.plicWrite_cells ..) ..
  simp only [execRegisterWrite]
  split
  · split <;> [exact Keeps.movesOn (by simp); exact regAccess_movesOn ..]
  · split <;> [exact (hplic ..).movesOn; skip]
    split <;> [exact Keeps.movesOn (by simp); exact regAccess_movesOn ..]
  · split <;> [exact Keeps.movesOn (by simp); exact regAccess_movesOn ..]
  · exact regAccess_movesOn ..

theorem execIcpRequest_movesOn (write : Bool) (a : IcpAddr) (v : Word) (src : BitVec 2) (tag : BitVec 4) (s : State) :
    MovesOn s (execIcpRequest write a v src tag s) := by
  have hacc : MovesOn s (icpAccess write a v src s) := by
    unfold icpAccess
    split <;> [exact Keeps.movesOn (by simp); exact regAccess_movesOn ..]
  unfold execIcpRequest
  split <;> [exact Keeps.movesOn (by simp); skip]
  split
  · rename_i t ht
    exact ⟨fun u hu => by cases hu; exact ⟨(hacc.of_next t ht).wf, (hacc.of_next t ht).cell⟩⟩
  · exact hacc

/-- No command and no event takes a counter cell back but in a COLD or POWER episode. -/
theorem exec_movesOn (i : Instr) (s : State) : MovesOn s (exec i s) := by
  cases i with
  | registerWrite q a size v => exact execRegisterWrite_movesOn q a size v s
  | icpRequest write a v src tag => exact execIcpRequest_movesOn write a v src tag s
  | cntGrant bank err => exact execCntGrant_movesOn bank err s
  | prtRelease w err => exact execPrtRelease_movesOn w err s
  | scrubRegion w err => exact execScrubRegion_movesOn w err s
  | scrubOrphans w err => exact execScrubOrphans_movesOn w err s
  | drainToken array part gen => exact execDrainToken_movesOn array part gen s
  | eack port age => exact execEack_movesOn port age s
  | kfBeatSend port => exact execKfBeatSend_movesOn port s
  | extensionApply err => exact execExtensionApply_movesOn err s
  | purgeResume => exact execPurgeResume_movesOn s
  | mpReadData tag last err data => exact execMpReadData_movesOn tag last err data s
  | mpWriteAck tag err => exact execMpWriteAck_movesOn tag err s
  | porNFall => exact execPorNFall_movesOn s
  | d0Reset => exact execD0Reset_movesOn s
  | coldNAct => exact execColdNAct_movesOn s
  | warmNAct => exact execWarmNAct_movesOn s
  | d4ResetEntry => exact execD4ResetEntry_movesOn s
  | domainRelease => exact execDomainRelease_movesOn s
  | swWarm w => exact execSwWarm_movesOn w s
  | swCold w => exact execSwCold_movesOn w s
  | blockSample coresWaiting => exact execBlockSample_movesOn coresWaiting s
  | wdtSec => exact execWdtSec_movesOn s
  | wdtCtl => exact execWdtCtl_movesOn s
  | writebackUncorr => exact execWritebackUncorr_movesOn s
  | tamperInput pin => exact execTamperInput_movesOn pin s
  | scanComplete => exact execScanComplete_movesOn s
  | otpProgram w vqps => exact execOtpProgram_movesOn w vqps s
  | otpAdvance w vqps => exact execOtpAdvance_movesOn w vqps s
  | otpRedirect w vqps => exact execOtpRedirect_movesOn w vqps s
  | genRootHalf w vqps => exact execGenRootHalf_movesOn w vqps s
  | otpPulseEnd m0 nrm m1 vqps => exact execOtpPulseEnd_movesOn m0 nrm m1 vqps s
  | otpCheckDone vqps later => exact execOtpCheckDone_movesOn vqps later s
  | lcsPhaseDone vqps => exact execLcsPhaseDone_movesOn vqps s
  | commitAdvance frame vqps => exact execCommitAdvance_movesOn frame vqps s
  | formRoot | sessionOpen | destroyPartition | jobCreate | jobDestroy | saltLoad | klnDerive | klnUnwrap | klnUnseal
  | klnSeal | klnDestroy =>
    exact (ranKln_cells ..).movesOn
  | _ => exact Keeps.movesOn (by simp [exec])

theorem step_forward {s t : State} (h : step s = .next t) : s.Forward t := by
  unfold step at h
  split at h
  · cases h
    exact s.tick_counts.toForward
  · next i rest _ => exact ((exec_movesOn i { s with pending := rest }).of_next t h).after rfl

/-- Settles O30: only a grant, ADVANCE, RETIRE, a fault and a RELEASE write a cell, and none of them sets it back; the
array is zeroed by a reset source and by the entry of D4 alone, in an episode of COLD or POWER reach. -/
theorem countersNeverGoBack : Obligations.CountersNeverGoBack := by
  unfold Obligations.CountersNeverGoBack
  intro s t hwf hstep
  obtain ⟨hkeeps, hcell⟩ := step_forward hstep
  refine ⟨hkeeps hwf, (hcell hwf).imp_right fun h c => ?_⟩
  obtain ⟨hvalue, hexhausted, hfaulted⟩ := h c
  exact ⟨hvalue, hexhausted, hfaulted⟩

end Sys2Proof.Machine
end

section
/-!
PROOFS. The reset cause, the order of release and the grant of the reset registers (R93 to R95, R98 to R101).
-/
namespace Sys2Proof.Machine

/-! ### The cause and the reach of an episode -/

/-- A source below POWER class joins the episode that runs (R98, R100). -/
theorem Episode.after_some {e : Episode} {x : Source} {r : Nat} {doms : List Dom} (hr : r < 5) :
    let f := Episode.after (some e) x r doms
    f.cause = (if e.causeRank ≤ r then x else e.cause) ∧ f.causeRank = max e.causeRank r ∧ f.rank = max e.rank r ∧
      f.doms = (e.doms ++ doms.filter fun d => !e.doms.contains d) ∧
      f.asserted = (if e.asserted.contains x then e.asserted else e.asserted ++ [x]) ∧
      f.acts = e.acts + 1 ∧ f.releasing = false := by
  unfold Episode.after
  rw [if_neg (by omega)]
  exact ⟨rfl, rfl, rfl, rfl, rfl, rfl, rfl⟩

/-- Settles O9, from what `Episode.after` makes of each field. -/
theorem resetCauseIsTheWidestLastSource : Obligations.ResetCauseIsTheWidestLastSource := by
  unfold Obligations.ResetCauseIsTheWidestLastSource
  refine ⟨fun e x r doms hr => ?_, fun old doms => ⟨rfl, rfl⟩⟩
  obtain ⟨hcause, hcauseRank, hrank, hdoms, hasserted, hacts, hreleasing⟩ := Episode.after_some (e := e) (x := x)
    (doms := doms) hr
  refine ⟨hcause, hcauseRank, hrank, fun d => ?_, ?_, fun y hy => ?_, hacts, hreleasing⟩
  · rw [hdoms]
    by_cases hd : d ∈ e.doms <;> simp [hd]
  · rw [hasserted]
    split
    · next h => exact List.contains_iff_mem.1 h
    · simp
  · rw [hasserted]
    split
    · exact hy
    · exact List.mem_append_left _ hy

/-! ### The order of release -/

/-- What a search finds is in the list and satisfies the test, and nothing before it does. -/
theorem find?_eq_some_first {α : Type} [BEq α] [LawfulBEq α] {p : α → Bool} {l : List α} {d : α}
    (h : l.find? p = some d) : p d = true ∧ d ∈ l ∧ ∀ b ∈ l.takeWhile fun x => x != d, p b = false := by
  obtain ⟨hd, as, bs, rfl, has⟩ := List.find?_eq_some_iff_append.1 h
  have hne : ∀ b ∈ as, (b != d) = true := fun b hb => by
    rw [bne_iff_ne]
    rintro rfl
    simpa [hd] using has b hb
  refine ⟨hd, by simp, fun b hb => ?_⟩
  rw [List.takeWhile_append_of_pos hne] at hb
  simpa using has b (by simpa using hb)

/-- What holds of the domain that is released next (R94, R95, R99). -/
theorem State.nextRelease_some {s : State} {d : Dom} (h : s.nextRelease = some d) :
    ∃ e, s.crs.ep = some e ∧ e.asserted = [] ∧ s.crs.pllLock = true ∧ s.crs.strapped = true ∧
      (releaseOrder.find? fun d => e.doms.contains d && (!s.up d || (d == .d4 && e.retire))) = some d ∧
      (d == .d4 && e.retire) = false ∧ (d == .d2 && !s.otp.startupDone) = false := by
  unfold State.nextRelease at h
  split at h
  · cases h
  · next e hep =>
    split at h
    · cases h
    · next hready =>
      split at h
      · cases h
      · next c hfind =>
        split at h <;> cases h
        next hheld =>
          simp only [Bool.or_eq_true, Bool.not_eq_true', not_or, Bool.not_eq_false,
            List.isEmpty_iff] at hready
          simp only [Bool.or_eq_true, not_or, Bool.not_eq_true] at hheld
          obtain ⟨⟨hasserted, hlock⟩, hstrap⟩ := hready
          obtain ⟨⟨hretire, hstartup⟩, -⟩ := hheld
          exact ⟨e, hep, hasserted, hlock, hstrap, hfind, hretire, hstartup⟩

theorem State.unhold_up {d : Dom} (hd : d ∈ releaseOrder) (s : State) : (s.unhold d).up d = true := by
  cases d with
  | d0 | core => simp [releaseOrder] at hd
  | _ => simp [State.unhold, State.up, domIx]

theorem State.episodeOver_released (s : State) : s.episodeOver.crs.released = s.crs.released := by
  unfold State.episodeOver
  split <;> [rfl; (split <;> rfl)]

/-- What follows a release leaves the domain released. -/
theorem execDomainRelease_of_next {s : State} {d : Dom} (h : s.nextRelease = some d) :
    ∃ t, execDomainRelease s = .next t ∧ t.up d = true := by
  obtain ⟨e, -, -, -, -, hfind, -, -⟩ := s.nextRelease_some h
  have hq : s.quiet.nextRelease = some d := h
  refine ⟨_, ranIf_due (by rw [h]; rfl), ?_⟩
  simp only [hq]
  generalize hu : (s.quiet.unhold d).onCrs _ = u
  have hup : u.up d = true := by
    rw [← hu]
    exact State.unhold_up (List.mem_of_find?_eq_some hfind) s.quiet
  have hst : ((u.leave d).blockOver d).still = u.still := by simp
  rw [State.up_of_released (State.episodeOver_released _), State.up_of_still hst]
  exact hup

/-- Settles O8: the search of the release order finds the first domain of the reach that is held. -/
theorem domainsAreReleasedInTheFixedOrder : Obligations.DomainsAreReleasedInTheFixedOrder := by
  unfold Obligations.DomainsAreReleasedInTheFixedOrder
  simp only [exec]
  refine ⟨fun s d h => ?_, fun s d h => execDomainRelease_of_next h, fun s h => ranIf_not (by rw [h]; rfl)⟩
  obtain ⟨e, hep, hasserted, hlock, hstrap, hfind, hretire, hstartup⟩ := s.nextRelease_some h
  obtain ⟨hd, -, hbefore⟩ := find?_eq_some_first hfind
  rw [hretire, Bool.or_false, Bool.and_eq_true, List.contains_iff_mem, Bool.not_eq_true'] at hd
  obtain ⟨hmem, hheld⟩ := hd
  refine ⟨e, hep, hasserted, hlock, hstrap, hmem, hheld, ?_, ?_, fun b hb hreach => ?_⟩
  · rintro rfl
    simpa using hstartup
  · rintro rfl
    simpa using hretire
  · have hb' := hbefore b hb
    simp only [List.contains_iff_mem.2 hreach, Bool.true_and, Bool.or_eq_false_iff, Bool.not_eq_false'] at hb'
    exact hb'.1

/-! ### Who is granted a write of CRS_SW_RESET -/

/-- A gate run: core 7 is in gate mode (R449). -/
def gateRunning : State := { prt := { gate := { active := true } } }

/-- The grant leaves core 7 in gate mode to the gate's own map (R449), which an access is held against before it. -/
theorem grant_gateRunning : gateRunning.grant (.ctl 7) true ⟨.crsSwReset, 0, 0⟩ = true := by decide

/-- Refutes O6: in a gate run, `State.grant` grants core 7 every register, and so a write of CRS_SW_RESET. (The write
still does not reach the register: before the grant is asked, `execRegisterWrite` refuses core 7 what `gateMap` does not
hold.) -/
theorem not_softwareResetNeedsItsKey : ¬ Obligations.SoftwareResetNeedsItsKey := by
  unfold Obligations.SoftwareResetNeedsItsKey
  rintro ⟨-, -, -, hgrant⟩
  obtain ⟨hreset, -⟩ := hgrant gateRunning (.ctl 7) (by decide)
  exact absurd (grant_gateRunning.symm.trans hreset) (by decide)

end Sys2Proof.Machine
end

section
/-!
PROOFS. The watchdogs (R100, R103, R106, R113, R181, R183): a cycle, the kicks and ENABLE.
-/
namespace Sys2Proof.Machine

/-! ### A cycle -/

/-- What a cycle leaves of `s` before the watchdogs count: their state, the memories and the registers, and no event of
theirs among what waits. -/
structure State.BeforeWatchdogs (s u : State) : Prop where
  crs : u.crs = s.crs
  boot : u.boot = s.boot
  regs : u.regs = s.regs
  mrs : u.mrs = s.mrs
  psram : u.psram = s.psram
  csram : u.csram = s.csram
  sec : .wdtSec ∉ u.pending
  ctl : .wdtCtl ∉ u.pending

theorem State.gateTick_beforeWatchdogs {s : State} (h : s.pending = []) :
    s.quiet.BeforeWatchdogs s.quiet.gateCycle.availTick.gateTick := by
  have hcycle : s.quiet.BeforeWatchdogs s.quiet.gateCycle.availTick ∧ s.quiet.gateCycle.availTick.pending = [] := by
    unfold State.availTick State.gateCycle
    split <;> split <;> exact ⟨⟨rfl, rfl, rfl, rfl, rfl, rfl, by simp [h], by simp [h]⟩, h⟩
  obtain ⟨⟨hcrs, hboot, hregs, hmrs, hpsram, hcsram, hsec, hctl⟩, hpending⟩ := hcycle
  generalize s.quiet.gateCycle.availTick = u at *
  unfold State.gateTick
  simp only
  split <;> [split; skip]
  · exact ⟨hcrs, hboot, hregs, hmrs, hpsram, hcsram, by simp [State.raise, hpending], by simp [State.raise, hpending]⟩
  · exact ⟨hcrs, hboot, hregs, hmrs, hpsram, hcsram, hsec, hctl⟩
  · exact ⟨hcrs, hboot, hregs, hmrs, hpsram, hcsram, hsec, hctl⟩

/-- The watchdog of the control cluster counts (R103, R106). -/
def State.ctlRuns (s : State) : Bool := s.up .d5 && bit (s.reg .crsWdtCtlCtrl) 0 && !s.crs.dim

/-- The Tinder ROM reloads the security core's watchdog in this cycle (R181, R183). -/
def State.romReloads (s : State) : Bool :=
  (s.boot.stage == 6 || s.boot.stage == 7) && 0x800000 ≤ (s.reg .crsWdtSecLoad).toNat - (s.crs.secCount - 1)

theorem State.ctlTick_eq (s : State) : s.ctlTick = { s with
    crs := { s.crs with ctlCount := if s.ctlRuns then s.crs.ctlCount - 1 else s.crs.ctlCount }
    pending := s.pending ++ if s.ctlRuns && s.crs.ctlCount == 1 then [.wdtCtl] else [] } := by
  have htick : s.ctlTick =
      if s.ctlRuns && s.crs.ctlCount != 0 then
        if s.crs.ctlCount = 1 then
          { s with crs := { s.crs with ctlCount := s.crs.ctlCount - 1 }, pending := s.pending ++ [.wdtCtl] }
        else { s with crs := { s.crs with ctlCount := s.crs.ctlCount - 1 } }
      else s := rfl
  rw [htick]
  cases s.ctlRuns with
  | false => simp
  | true =>
    by_cases h0 : s.crs.ctlCount = 0
    · have hsame : s.crs.ctlCount - 1 = s.crs.ctlCount := by omega
      have hne : (s.crs.ctlCount == 1) = false := by simp [h0]
      rw [if_neg (by simp [h0]), if_pos rfl, hsame, hne]
      simp
    · by_cases h1 : s.crs.ctlCount = 1 <;> simp [h0, h1]

theorem State.secTick_eq (s : State) : s.secTick = { s with
    crs := { s.crs with
      secCount :=
        if s.up .d2 && s.crs.secCount != 0 then
          if s.romReloads then (s.reg .crsWdtSecLoad).toNat else s.crs.secCount - 1
        else s.crs.secCount }
    pending := s.pending ++ if s.up .d2 && s.crs.secCount == 1 && !s.romReloads then [.wdtSec] else [] } := by
  have htick : s.secTick =
      if s.up .d2 && s.crs.secCount != 0 then
        if s.romReloads then { s with crs := { s.crs with secCount := (s.reg .crsWdtSecLoad).toNat } }
        else if s.crs.secCount = 1 then
          { s with crs := { s.crs with secCount := s.crs.secCount - 1 }, pending := s.pending ++ [.wdtSec] }
        else { s with crs := { s.crs with secCount := s.crs.secCount - 1 } }
      else s := rfl
  rw [htick]
  cases hruns : s.up .d2 && s.crs.secCount != 0 with
  | false =>
    have hends : (s.up .d2 && s.crs.secCount == 1 && !s.romReloads) = false := by
      by_cases h1 : s.crs.secCount = 1 <;> simp_all
    rw [hends]
    simp
  | true =>
    have hd2 : s.up .d2 = true := (Bool.and_eq_true ..).mp hruns |>.1
    cases s.romReloads with
    | true => simp
    | false => by_cases h1 : s.crs.secCount = 1 <;> simp [hd2, h1]

/-- A cycle on an empty queue: each watchdog counts by its own rule, and its event waits behind what else was raised. -/
theorem State.counted_spec {s : State} (h : s.pending = []) :
    let u := s.quiet.counted
    u.crs.secCount = (if s.up .d2 && s.crs.secCount != 0 then
      if s.romReloads then (s.reg .crsWdtSecLoad).toNat else s.crs.secCount - 1 else s.crs.secCount) ∧
    u.crs.ctlCount = (if s.ctlRuns then s.crs.ctlCount - 1 else s.crs.ctlCount) ∧
    (∃ l, Instr.wdtSec ∉ l ∧ Instr.wdtCtl ∉ l ∧
      u.pending = l ++ ((if s.ctlRuns && s.crs.ctlCount == 1 then [.wdtCtl] else []) ++
        if s.up .d2 && s.crs.secCount == 1 && !s.romReloads then [.wdtSec] else [])) ∧
    u.mrs = s.mrs ∧ u.regs = s.regs ∧ u.psram = s.psram ∧ u.csram = s.csram := by
  obtain ⟨hcrs, hboot, hregs, hmrs, hpsram, hcsram, hsec, hctl⟩ := State.gateTick_beforeWatchdogs h
  have hcounted : s.quiet.counted = s.quiet.gateCycle.availTick.gateTick.ctlTick.secTick := rfl
  rw [hcounted]
  generalize s.quiet.gateCycle.availTick.gateTick = b at *
  have hruns : b.ctlRuns = s.ctlRuns := by
    rw [State.ctlRuns, State.up_of_released (congrArg Crs.released hcrs), State.reg, hregs, hcrs]
    rfl
  have hreloads : b.ctlTick.romReloads = s.romReloads := by
    rw [State.ctlTick_eq, State.romReloads, State.reg]
    simp only [hregs, hcrs, hboot]
    rfl
  have hup : b.ctlTick.up .d2 = s.up .d2 := by
    rw [State.ctlTick_eq]
    simp only [State.up, hcrs]
    rfl
  have hload : b.ctlTick.reg .crsWdtSecLoad = s.reg .crsWdtSecLoad := by
    rw [State.ctlTick_eq, State.reg]
    simp only [hregs]
    rfl
  rw [State.secTick_eq, hreloads, hup, hload, State.ctlTick_eq, hruns, hcrs]
  exact ⟨rfl, rfl, ⟨b.pending, hsec, hctl, List.append_assoc ..⟩, hmrs, hregs, hpsram, hcsram⟩

/-! ### Kicks and ENABLE -/

theorem execWdtCtlKick_up {s : State} {q : Req} (hg : s.gateCore q = false) (hq : (q == .sec || s.cluster q) = true)
    (hs : s.serves .d5 = true) (w : Word) : execWdtCtlKick q w s = .next (s.quiet.ctlKick w) := by
  have hg' : s.quiet.gateCore q = false := hg
  have hq' : (q == .sec || s.quiet.cluster q) = true := hq
  rw [execWdtCtlKick, ran_eq]
  simp only [hg', hq', State.quiet_serves, hs]
  rfl

theorem execWdtCtlEnable_up {s : State} (hs : s.serves .d5 = true) (w : Word) :
    execWdtCtlEnable w s = .next (s.quiet.ctlCtrl w) := by
  rw [execWdtCtlEnable, ran_eq]
  simp only [State.quiet_serves, hs]
  rfl

/-- ENABLE is stored; the reload reads LOAD, which the write leaves. -/
theorem State.ctlCtrl_eq (s : State) (w : Word) : s.ctlCtrl w =
    if bit w 0 = true ∧ bit (s.reg .crsWdtCtlCtrl) 0 = false then
      (s.setReg .crsWdtCtlCtrl (w &&& 1)).onCrs fun c => { c with ctlCount := (s.reg .crsWdtCtlLoad).toNat }
    else s.setReg .crsWdtCtlCtrl (w &&& 1) := by
  have hload : (s.setReg .crsWdtCtlCtrl (w &&& 1)).reg .crsWdtCtlLoad = s.reg .crsWdtCtlLoad :=
    State.setReg_reg_ne s _ _ _ 0 0 0 0 (by decide)
  simp only [State.ctlCtrl, hload, Bool.and_eq_true, Bool.not_eq_true']

/-! ### The statement -/

/-- Settles O3: the watchdogs count last in a cycle, the control cluster's first; a kick or ENABLE reloads from LOAD. -/
theorem watchdogsCountAndReload : Obligations.WatchdogsCountAndReload := by
  unfold Obligations.WatchdogsCountAndReload
  refine ⟨fun s h => ⟨?_, ?_⟩, fun w s hs => ranOn_of_eq hs ?_, fun q w s hg hq hs => ?_, fun w s hs => ?_⟩
  · rw [step, h]
    rfl
  · obtain ⟨hsec, hctl, ⟨l, hlsec, hlctl, hpending⟩, hkept⟩ := s.counted_spec h
    intro u load kicks secEnds ctlRuns
    have hkicks : s.romReloads = true ↔ kicks := by simp [State.romReloads, kicks, load]
    have hends : (s.up .d2 && s.crs.secCount == 1 && !s.romReloads) = true ↔ secEnds := by
      simp only [Bool.and_eq_true, beq_iff_eq, Bool.not_eq_true', ← Bool.not_eq_true, hkicks, and_assoc, secEnds]
    have hruns : s.ctlRuns = true ↔ ctlRuns := by simp [State.ctlRuns, ctlRuns, and_assoc]
    have hctlEnds : (s.ctlRuns && s.crs.ctlCount == 1) = true ↔ ctlRuns ∧ s.crs.ctlCount = 1 := by
      simp only [Bool.and_eq_true, beq_iff_eq, hruns]
    refine ⟨?_, ?_, ?_, ?_, fun he hr h1 => ?_, hkept⟩
    · exact hsec.trans (if_congr (by simp only [Bool.and_eq_true, bne_iff_ne]) (if_congr hkicks rfl rfl) rfl)
    · exact hctl.trans (if_congr hruns rfl rfl)
    · rw [hpending, ← hends]
      simp [hlsec]
    · rw [hpending, ← hctlEnds]
      simp [hlctl]
    · rw [hpending, if_pos (hctlEnds.2 ⟨hr, h1⟩), if_pos (hends.2 he)]
      exact List.suffix_append ..
  · have hkey : (fld w 0 8 == 0xA5#8) = true ↔ w.extractLsb' 0 8 = 0xA5#8 := beq_iff_eq
    exact if_congr hkey rfl rfl
  · exact execWdtCtlKick_up hg hq hs w
  · exact (execWdtCtlEnable_up hs w).trans (congrArg _ (s.quiet.ctlCtrl_eq w))

end Sys2Proof.Machine
end

section
/-!
PROOFS. What leaves the OTP controller as it is: one equation for each operation of the model that a reset runs, for
`simp`. Only D1's entry into reset changes it, and that keeps every cell of the array (R112).
-/
namespace Sys2Proof.Machine

@[simp] theorem otp_ite (c : Prop) [Decidable c] (s t : State) :
    (if c then s else t).otp = if c then s.otp else t.otp := apply_ite State.otp c s t

@[simp] theorem otp_foldl {α : Type} {f : State → α → State} (h : ∀ s a, (f s a).otp = s.otp)
    (s : State) (l : List α) : (l.foldl f s).otp = s.otp := by
  induction l generalizing s with
  | nil => rfl
  | cons a l ih => exact (ih _).trans (h s a)

/-! ### The operations that every unit shares -/

@[simp] theorem State.health_otp (s : State) (unit : Nat) (code : Code) (part : Option PartId) :
    (s.health unit code part).otp = s.otp := rfl

@[simp] theorem State.mpIssue_otp (s : State) (write : Bool) (addr beats : Nat) (part : PartId) (ctx : EndpointId)
    (data : Bytes) (owner : MpOwner) :
    (s.mpIssue write addr beats part ctx data owner).otp = s.otp := rfl

/-! ### The fence -/

@[simp] theorem State.avsSend_otp (s : State) (op : AvsOp) : (s.avsSend op).otp = s.otp := by simp [State.avsSend]

@[simp] theorem State.movePoint_otp (s : State) (v d : Nat) : (s.movePoint v d).otp = s.otp := by simp [State.movePoint]

@[simp] theorem State.takePoint_otp (s : State) : s.takePoint.otp = s.otp := by simp [State.takePoint]

@[simp] theorem State.dimEnd_otp (s : State) (why : Nat) : (s.dimEnd why).otp = s.otp := by
  simp only [State.dimEnd]
  split <;> simp

/-! ### Key slots -/

@[simp] theorem State.zeroSlot_otp (s : State) (i : SlotIx) (g : Gen) : (s.zeroSlot i g).otp = s.otp := rfl

/-! ### The key fabric -/

@[simp] theorem State.setEndpoint_otp (s : State) (e : EndpointId) (v : Endpoint) :
    (s.setEndpoint e v).otp = s.otp := rfl

@[simp] theorem State.onPort_otp (s : State) (p : Nat) (f : KfPort → KfPort) : (s.onPort p f).otp = s.otp := rfl

@[simp] theorem State.endTicket_otp (s : State) (t : Nat) (c : Code) : (s.endTicket t c).otp = s.otp := rfl

@[simp] theorem State.settle_otp (s : State) (t n : Nat) (c : Code) : (s.settle t n c).otp = s.otp := by
  simp only [State.settle]
  split <;> simp

@[simp] theorem State.abortCovered_otp (s : State) (r : EmberReq) (p : Nat) : (s.abortCovered r p).otp = s.otp := by
  refine otp_foldl (fun s m => ?_) s _
  split <;> simp

@[simp] theorem State.commitEmber_otp (s : State) (r : EmberReq) : (s.commitEmber r).otp = s.otp := by
  simp only [State.commitEmber]
  repeat' split
  all_goals simp

@[simp] theorem State.klnComplete_otp (s : State) (c : Code) : (s.klnComplete c).otp = s.otp := by
  simp [State.klnComplete]

@[simp] theorem State.klnSettle_otp (s : State) : s.klnSettle.otp = s.otp := by
  simp only [State.klnSettle]
  split <;> simp

@[simp] theorem State.drainEmber_otp (s : State) : s.drainEmber.otp = s.otp := by simp [State.drainEmber]

@[simp] theorem State.raiseEmber_otp (s : State) (r : EmberReq) :
    (s.raiseEmber r).otp = s.otp := by simp [State.raiseEmber]

@[simp] theorem State.abandonOwed_otp (s : State) (e : EndpointId) :
    (s.abandonOwed e).otp = s.otp := by simp [State.abandonOwed]

@[simp] theorem State.unbind_otp (s : State) (e : EndpointId) : (s.unbind e).otp = s.otp := by simp [State.unbind]

/-! ### The Kiln -/

@[simp] theorem State.klnDone_otp (s : State) (c : Code) : (s.klnDone c).otp = s.otp := by simp [State.klnDone]

@[simp] theorem State.formFails_otp (s : State) (c : Code) : (s.formFails c).otp = s.otp := by
  simp only [State.formFails]
  split <;> simp

/-! ### Stream measurement -/

@[simp] theorem State.setStream_otp (s : State) (sid : StreamId) (v : Stream) : (s.setStream sid v).otp = s.otp := rfl

@[simp] theorem State.onStream_otp (s : State) (sid : StreamId) (f : Stream → Stream) :
    (s.onStream sid f).otp = s.otp := rfl

@[simp] theorem State.setExp_otp (s : State) (i : Nat) (v : ExpEntry) : (s.setExp i v).otp = s.otp := rfl

@[simp] theorem State.setMreg_otp (s : State) (i : Nat) (v : MReg) : (s.setMreg i v).otp = s.otp := rfl

@[simp] theorem State.onSmeBlk_otp (s : State) (b : Blk) (f : SmeBlk → SmeBlk) : (s.onSmeBlk b f).otp = s.otp := by
  simp only [State.onSmeBlk]
  split <;> simp

@[simp] theorem State.smeErr_otp (s : State) (e : MemErr) (part : Option PartId) : (s.smeErr e part).otp = s.otp := by
  simp only [State.smeErr]
  split <;> simp

@[simp] theorem State.spoilStream_otp (s : State) (sid : StreamId) : (s.spoilStream sid).otp = s.otp := by
  simp only [State.spoilStream]
  split <;> simp

@[simp] theorem State.ctxErr_otp (s : State) (e : MemErr) (sid : StreamId) :
    (s.ctxErr e sid).otp = s.otp := by simp [State.ctxErr]

@[simp] theorem State.sendEvent_otp (s : State) (e : SmeEvent) :
    (s.sendEvent e).otp = s.otp := by simp [State.sendEvent]

@[simp] theorem State.queueExt_otp (s : State) (r : ExtReq) : (s.queueExt r).otp = s.otp := rfl

@[simp] theorem State.smeDone_otp (s : State) (b : Blk) (c : Code) :
    (s.smeDone b c).otp = s.otp := by simp [State.smeDone]

@[simp] theorem State.purgeTokens_otp (s : State) (p : PartId) :
    (s.purgeTokens p).otp = s.otp := by simp [State.purgeTokens]

@[simp] theorem State.loadStream_otp (s : State) (b : Blk) (sid : StreamId) (digest : Option Bytes) :
    (s.loadStream b sid digest).otp = s.otp := by simp [State.loadStream]

@[simp] theorem State.openStream_otp (s : State) (b : Blk) : (s.openStream b).otp = s.otp := by simp [State.openStream]

@[simp] theorem State.endCtx_otp (s : State) (c : Nat) (code : Code) (digest : Bytes) (aux : Word) :
    (s.endCtx c code digest aux).otp = s.otp := rfl

@[simp] theorem State.zeroMreg_otp (s : State) (i : Nat) (owner : Option PartId) :
    (s.zeroMreg i owner).otp = s.otp := by
  refine (otp_foldl (fun s r => ?_) _ _).trans (by simp)
  split <;> simp

@[simp] theorem State.mrAssign_otp (s : State) (b : Blk) (rsv : Bool) : (s.mrAssign b rsv).otp = s.otp := by
  simp only [State.mrAssign]
  split <;> simp

@[simp] theorem State.mrRead_otp (s : State) (b : Blk) (rsv : Bool) (e : MemErr) :
    (s.mrRead b rsv e).otp = s.otp := by simp [State.mrRead]

@[simp] theorem State.mrExtend_otp (s : State) (b : Blk) (rsv : Bool) :
    (s.mrExtend b rsv).otp = s.otp := by simp [State.mrExtend]

@[simp] theorem State.smeStatus_otp (s : State) (b : Blk) (rsv : Bool) (e : MemErr) :
    (s.smeStatus b rsv e).otp = s.otp := by simp [State.smeStatus]

@[simp] theorem State.expErr_otp (s : State) (e : MemErr) (i : Nat) : (s.expErr e i).otp = s.otp := by
  simp only [State.expErr]
  split <;> simp

@[simp] theorem State.expWrite_otp (s : State) (b : Blk) (rsv : Bool) (e : MemErr) :
    (s.expWrite b rsv e).otp = s.otp := by
  simp only [State.expWrite]
  split <;> simp

@[simp] theorem State.expClear_otp (s : State) (b : Blk) (rsv : Bool) : (s.expClear b rsv).otp = s.otp := by
  simp only [State.expClear]
  split <;> simp

@[simp] theorem State.expRead_otp (s : State) (b : Blk) (rsv : Bool) (e : MemErr) :
    (s.expRead b rsv e).otp = s.otp := by simp [State.expRead]

@[simp] theorem State.smeAbort_otp (s : State) (b : Blk) (rsv : Bool) : (s.smeAbort b rsv).otp = s.otp := by
  simp only [State.smeAbort]
  split <;> simp

@[simp] theorem State.purgeStart_otp (s : State) (p : PartId) (run : SmeRun) :
    (s.purgeStart p run).otp = s.otp := by simp [State.purgeStart]

@[simp] theorem State.purgeEnd_otp (s : State) (p : PartId) : (s.purgeEnd p).otp = s.otp := by simp [State.purgeEnd]

@[simp] theorem State.smeOpen_otp (s : State) (b : Blk) (rsv : Bool) : (s.smeOpen b rsv).otp = s.otp := by
  simp only [State.smeOpen]
  split <;> simp

@[simp] theorem State.smePurge_otp (s : State) (b : Blk) (rsv : Bool) :
    (s.smePurge b rsv).otp = s.otp := by simp [State.smePurge]

@[simp] theorem State.smeRun_otp (s : State) (b : Blk) (code : Nat) (w : Word) (e : MemErr) :
    (s.smeRun b code w e).otp = s.otp := by
  simp only [State.smeRun]
  split <;> simp

@[simp] theorem State.smeNext_otp (s : State) : s.smeNext.otp = s.otp := by
  simp only [State.smeNext]
  repeat' split
  all_goals simp

/-! ### Small digests and the comparator -/

@[simp] theorem State.setCtx_otp (s : State) (c : Nat) (x : DgeCtx) : (s.setCtx c x).otp = s.otp := rfl

@[simp] theorem State.feedCores_otp (s : State) : s.feedCores.otp = s.otp := by simp [State.feedCores]

@[simp] theorem State.readNext_otp (s : State) (c : Nat) : (s.readNext c).otp = s.otp := by
  simp only [State.readNext]
  split <;> simp

@[simp] theorem State.askSlice_otp (s : State) (r : CmpReq) : (s.askSlice r).otp = s.otp := rfl

@[simp] theorem State.deliver_otp (s : State) (c : Nat) (dest : DgeDest) : (s.deliver c dest).otp = s.otp := by
  simp only [State.deliver]
  split <;> simp

@[simp] theorem State.dgeProgress_otp (s : State) (c : Nat) : (s.dgeProgress c).otp = s.otp := by
  simp only [State.dgeProgress]
  repeat' split
  all_goals simp

@[simp] theorem State.abandonNow_otp (s : State) (c : Nat) : (s.abandonNow c).otp = s.otp := by simp [State.abandonNow]

@[simp] theorem State.abandonCtx_otp (s : State) (c : Nat) (code : Code) :
    (s.abandonCtx c code).otp = s.otp := by simp [State.abandonCtx]

@[simp] theorem State.forceAbandon_otp (s : State) (c : Nat) :
    (s.forceAbandon c).otp = s.otp := by simp [State.forceAbandon]

@[simp] theorem State.faultCtx_otp (s : State) (c : Nat) : (s.faultCtx c).otp = s.otp := rfl

@[simp] theorem State.dgeReadDone_otp (s : State) (c : Nat) (gen : Gen) (data : Bytes) (err : Bool) :
    (s.dgeReadDone c gen data err).otp = s.otp := by
  simp only [State.dgeReadDone]
  repeat' split
  all_goals simp

@[simp] theorem State.dgeAbandonHolders_otp (s : State) (p : BitVec 4 → Bool) :
    (s.dgeAbandonHolders p).otp = s.otp := by simp [State.dgeAbandonHolders]

/-! ### The partition manager -/

@[simp] theorem State.setPart_otp (s : State) (p : PartId) (v : PartEntry) : (s.setPart p v).otp = s.otp := rfl

@[simp] theorem State.setRegion_otp (s : State) (i : Nat) (v : Region) : (s.setRegion i v).otp = s.otp := rfl

@[simp] theorem State.prtDone_otp (s : State) (c : Code) : (s.prtDone c).otp = s.otp := rfl

@[simp] theorem State.zeroScratch_otp (s : State) : s.zeroScratch.otp = s.otp := rfl

@[simp] theorem State.sendScrub_otp (s : State) (i : Nat) : (s.sendScrub i).otp = s.otp := rfl

@[simp] theorem State.relTo_otp (s : State) (st : RelStage) : (s.relTo st).otp = s.otp := rfl

@[simp] theorem State.relUnbind_otp (s : State) (p : PartId) : (s.relUnbind p).otp = s.otp := by simp [State.relUnbind]

@[simp] theorem State.relJobs_otp (s : State) (p : PartId) : (s.relJobs p).otp = s.otp := rfl

@[simp] theorem State.relPurged_otp (s : State) (p : PartId) : (s.relPurged p).otp = s.otp := by simp [State.relPurged]

@[simp] theorem State.relEnd_otp (s : State) (p : PartId) : (s.relEnd p).otp = s.otp := by
  simp only [State.relEnd, State.onPrt_otp, State.setPart_otp]
  exact otp_foldl (by intros; rfl) _ _

@[simp] theorem State.fillStep_otp (s : State) : s.fillStep.otp = s.otp := by
  unfold State.fillStep
  split
  · rfl
  · split <;> rfl

@[simp] theorem State.orphanStep_otp (s : State) : s.orphanStep.otp = s.otp := by
  simp only [State.orphanStep]
  split <;> simp

@[simp] theorem State.orphanDone_otp (s : State) (i : Nat) (ok : Bool) :
    (s.orphanDone i ok).otp = s.otp := by simp [State.orphanDone]

@[simp] theorem State.relFail_otp (s : State) : s.relFail.otp = s.otp := rfl

/-! ### The public-key engine -/

@[simp] theorem State.pkeCode_otp (s : State) (b : Blk) (k : Code) : (s.pkeCode b k).otp = s.otp := by
  simp only [State.pkeCode]
  split <;> simp

@[simp] theorem State.pkeEnd_otp (s : State) (c : PkeCmd) (k : Code) : (s.pkeEnd c k).otp = s.otp := by
  simp only [State.pkeEnd]
  split <;> simp

/-! ### Attestation -/

@[simp] theorem State.attEdge_otp (s : State) (b : Blk) : (s.attEdge b).otp = s.otp := rfl

@[simp] theorem State.attDone_otp (s : State) (b : Blk) (c : Code) (len : Nat) : (s.attDone b c len).otp = s.otp := rfl

@[simp] theorem State.attEnd_otp (s : State) (c : AttCmd) (k : Code) (len : Nat) :
    (s.attEnd c k len).otp = s.otp := by simp [State.attEnd]

@[simp] theorem State.attRefused_otp (s : State) : s.attRefused.otp = s.otp := rfl

@[simp] theorem State.attWrite_otp (s : State) (b : Blk) (a : Nat) (bs : Bytes) : (s.attWrite b a bs).otp = s.otp := by
  simp only [State.attWrite]
  split <;> simp

@[simp] theorem State.attOutput_otp (s : State) (c : AttCmd) (bs : Bytes) (k : Code) :
    (s.attOutput c bs k).otp = s.otp := by simp [State.attOutput]

@[simp] theorem State.attAsk_otp (s : State) : s.attAsk.otp = s.otp := by simp [State.attAsk]

@[simp] theorem State.attRunTo_otp (s : State) (r : AttRun) : (s.attRunTo r).otp = s.otp := rfl

@[simp] theorem State.attDefer_otp (s : State) (r : AttRun) (c : AttCmd) : (s.attDefer r c).otp = s.otp := rfl

@[simp] theorem State.attBegin_otp (s : State) (c : AttCmd) : (s.attBegin c).otp = s.otp := by
  simp only [State.attBegin]
  split <;> simp

@[simp] theorem State.attNext_otp (s : State) : s.attNext.otp = s.otp := by
  simp only [State.attNext]
  repeat' split
  all_goals simp

@[simp] theorem State.attGoOn_otp (s : State) : s.attGoOn.otp = s.otp := by simp [State.attGoOn]

@[simp] theorem State.certKeys_otp (s : State) (r : AttRun) (keys : Bytes) : (s.certKeys r keys).otp = s.otp := rfl

@[simp] theorem State.attSigned_otp (s : State) (r : AttRun) (sig : Bytes) : (s.attSigned r sig).otp = s.otp := by
  simp only [State.attSigned]
  repeat' split
  all_goals simp

@[simp] theorem State.attAnswer_otp (s : State) (k : Code) (out : Bytes) : (s.attAnswer k out).otp = s.otp := by
  simp only [State.attAnswer]
  repeat' split
  all_goals simp

theorem State.pkeAnswer_otp {k : Code} (h : k ≠ .done) (s : State) (c : PkeCmd) (out : Bytes) :
    (s.pkeAnswer c k out).otp = s.otp := by
  simp only [State.pkeAnswer, if_neg h]
  split <;> simp

@[simp] theorem State.pkeAbandon_otp (s : State) : s.pkeAbandon.otp = s.otp := by
  simp only [State.pkeAbandon]
  split <;> [rfl; exact State.pkeAnswer_otp (by decide) ..]

/-! ### Mailboxes -/

@[simp] theorem State.onMslot_otp (s : State) (i : Nat) (f : MbxSlot → MbxSlot) : (s.onMslot i f).otp = s.otp := rfl

@[simp] theorem State.ring_otp (s : State) (i : Nat) (w : Word) : (s.ring i w).otp = s.otp := by simp [State.ring]

@[simp] theorem State.sideReset_otp (s : State) (m : Nat) (b : Bool) : (s.sideReset m b).otp = s.otp := rfl

@[simp] theorem State.sidesReset_otp (s : State) (d : Dom) : (s.sidesReset d).otp = s.otp := by simp [State.sidesReset]

/-! ### The resident firmware -/

@[simp] theorem State.fwPost_otp (s : State) (i : Nat) (ws : List Word) : (s.fwPost i ws).otp = s.otp := rfl

@[simp] theorem State.ioHead_otp (s : State) (g : FwIo) : (s.ioHead g).otp = s.otp := rfl

@[simp] theorem State.ioFail_otp (s : State) (c : Code) : (s.ioFail c).otp = s.otp := by
  simp only [State.ioFail]
  split <;> simp

@[simp] theorem State.coreIssue_otp (s : State) (write : Bool) (addr beats : Nat) (data : Bytes) :
    (s.coreIssue write addr beats data).otp = s.otp := rfl

@[simp] theorem State.ioWrite_otp (s : State) (a : Nat) (data : Bytes) :
    (s.ioWrite a data).otp = s.otp := by simp [State.ioWrite]

@[simp] theorem State.ioStep_otp (s : State) : s.ioStep.otp = s.otp := by
  simp only [State.ioStep]
  repeat' split
  all_goals simp

@[simp] theorem State.ioGo_otp (s : State) : s.ioGo.otp = s.otp := by simp [State.ioGo]

@[simp] theorem State.ioLost_otp (s : State) : s.ioLost.otp = s.otp := rfl

/-! ### Rings of the host -/

@[simp] theorem State.setRing_otp (s : State) (r : Nat) (v : Ring) : (s.setRing r v).otp = s.otp := rfl

@[simp] theorem State.lookAt_otp (s : State) (x : FwRead) (addr beats : Nat) :
    (s.lookAt x addr beats).otp = s.otp := rfl

@[simp] theorem State.lookDescriptor_otp (s : State) (r : Nat) (gen : Gen) (addr left : Nat) :
    (s.lookDescriptor r gen addr left).otp = s.otp := rfl

@[simp] theorem State.entryRead_otp (s : State) (r : Nat) (gen : Gen) (e : Bytes) :
    (s.entryRead r gen e).otp = s.otp := by simp [State.entryRead]

@[simp] theorem State.blockRead_otp (s : State) (r : Nat) (gen : Gen) (b : Bytes) :
    (s.blockRead r gen b).otp = s.otp := by simp [State.blockRead]

@[simp] theorem State.lookDone_otp (s : State) (data : Bytes) (err : Bool) : (s.lookDone data err).otp = s.otp := by
  simp only [State.lookDone]
  repeat' split
  all_goals simp

/-! ### What a reset clears -/

@[simp] theorem State.clearDom_otp (s : State) (d : Dom) : (s.clearDom d).otp = s.otp := rfl

@[simp] theorem State.chunkAcked_otp (s : State) (sid : StreamId) (gen : Gen) (err : Bool) :
    (s.chunkAcked sid gen err).otp = s.otp := by simp [State.chunkAcked]

@[simp] theorem State.pkeDropC_otp (s : State) : s.pkeDropC.otp = s.otp := by simp [State.pkeDropC]

@[simp] theorem State.tearNvm_otp (s : State) : s.tearNvm.otp = s.otp := by
  unfold State.tearNvm
  split <;> [rfl; (split <;> rfl)]

@[simp] theorem State.letCtx_otp (s : State) (c : Nat) (g : Gen) : (s.letCtx c g).otp = s.otp := by simp [State.letCtx]

@[simp] theorem State.updDrop_otp (s : State) : s.updDrop.otp = s.otp := by
  simp only [State.updDrop]
  repeat' split
  all_goals simp

/-! ### The reset sequencer, the watchdogs and DIM -/

@[simp] theorem State.lcsStopped_otp (s : State) : s.lcsStopped.otp = s.otp := by simp [State.lcsStopped]

@[simp] theorem State.dimReset_otp (s : State) (doms : List Dom) :
    (s.dimReset doms).otp = s.otp := by simp [State.dimReset]

/-! ### Confluence records and commands of the Kiln -/

@[simp] theorem State.destroyPart_otp (s : State) (p : PartId) (owner : EmberOwner) (src : EmberSrc) :
    (s.destroyPart p owner src).otp = s.otp := by
  simp only [State.destroyPart, State.raiseEmber_otp, State.onKln_otp]
  exact otp_foldl (fun _ _ => State.zeroSlot_otp ..) ..

/-! ### A RELEASE, and what waits for the memory port -/

theorem State.relStep_otp {s t : State} (h : s.relStep = some t) : t.otp = s.otp := by
  unfold State.relStep at h
  split at h <;> [cases h; skip]
  simp only at h
  split at h
  case h_7 =>
    split at h
    · split at h <;> cases h
      simp
    · split at h
      · cases h
      · split at h <;> cases h <;> simp
  case h_1 | h_2 | h_3 | h_4 | h_5 =>
    split at h <;> cases h
    simp
  case h_6 | h_8 => cases h

@[simp] theorem State.relRun_otp (n : Nat) (s : State) : (State.relRun n s).otp = s.otp := by
  induction n generalizing s with
  | zero => rfl
  | succ n ih =>
    unfold State.relRun
    split <;> [rfl; exact (ih _).trans (State.relStep_otp ‹_›)]

@[simp] theorem State.prtGoOn_otp (s : State) : s.prtGoOn.otp = s.otp := by simp [State.prtGoOn]

@[simp] theorem State.scrubAcked_otp (s : State) (i : Nat) (err : Bool) :
    (s.scrubAcked i err).otp = s.otp := by simp [State.scrubAcked]

@[simp] theorem State.fillAcked_otp (s : State) (i : Nat) (err : Bool) : (s.fillAcked i err).otp = s.otp := by
  simp only [State.fillAcked]
  split <;> simp

@[simp] theorem State.mpLost_otp (s : State) (r : MpReq) : (s.mpLost r).otp = s.otp := by
  simp only [State.mpLost]
  split <;> simp

/-! ### The stages of a reset source -/

@[simp] theorem State.passSlot_otp (s : State) (i : SlotIx) : (s.passSlot i).otp = s.otp := by
  simp only [State.passSlot]
  repeat' split
  all_goals simp

@[simp] theorem State.keyPass_otp (s : State) (rank : Nat) (fresh : Bool) : (s.keyPass rank fresh).otp = s.otp := by
  simp [State.keyPass]

@[simp] theorem State.hold_otp (s : State) (d : Dom) : (s.hold d).otp = s.otp := rfl

@[simp] theorem State.closeDebug_otp (s : State) : s.closeDebug.otp = s.otp := rfl

@[simp] theorem State.zeroD4_otp (s : State) : s.zeroD4.otp = s.otp := rfl

@[simp] theorem State.enterCore_otp (s : State) : s.enterCore.otp = s.otp := rfl

theorem State.enter_otp (s : State) {d : Dom} (h : d ≠ .d1) : (s.enter d).otp = s.otp := by
  cases d with
  | d1 => exact absurd rfl h
  | _ => simp [State.enter, State.enterD2, State.enterD3, State.enterD4, State.enterD5, State.enterD6]

/-- The array keeps its cells as a domain enters reset (R112). -/
theorem State.enter_otpCells (s : State) (d : Dom) : (s.enter d).otp.cells = s.otp.cells := by
  by_cases h : d = .d1
  · subst h
    rfl
  · rw [s.enter_otp h]

/-- No reset source changes a cell of the OTP array. -/
theorem State.act_otpCells (s : State) (x : Source) (rank : Nat) (doms : List Dom) :
    (s.act x rank doms).otp.cells = s.otp.cells := by
  unfold State.act
  extract_lets e s₁ s₂ s₃ s₄ s₅ entersD2 now waits s₆ s₇ s₈ s₉ s₁₀ s₁₁ s₁₂
  have h₇ : s₇.otp = s.otp := by simp [s₇, s₆, s₅, s₄, s₃, s₂, s₁]
  have h₈ : s₈.otp.cells = s₇.otp.cells :=
    State.foldl_stepIn_keeps (P := fun t => t.otp.cells = s₇.otp.cells)
      (fun t d _ ht => (t.enter_otpCells d).trans ht) e waits (fun _ => id) rfl
  have hlast : (if rank = 5 then s₁₂.enterCore else s₁₂).otp = s₈.otp := by simp [s₁₂, s₁₁, s₁₀, s₉]
  rw [hlast, h₈, h₇]

end Sys2Proof.Machine
end

section
/-!
PROOFS. The commands of the OTP controller (R127, R128, R131 to R139): what a command that nothing refuses does, and
what a refused one leaves.
-/
namespace Sys2Proof.Machine

/-! ### Accepted and refused -/

theorem State.otpCommand_of_lowest {s : State} {w : Word} {allowed : LcState → Bool} {refusals : List (Bool × Code)}
    {f : State → State} {c : Code} (h : lowest ((s.otpBusy, .busy) :: (!allowed s.lcs.state, .deniedLc) ::
      (rsvSet .otpCmd w, .deniedAttr) :: refusals) = some c) :
    s.otpCommand w allowed refusals f = s.onOtp fun o => { o with code := c, burned := 0 } := by
  rw [State.otpCommand, h]

/-- A command that no refusal of its own meets, written without a reserved bit while the path is free and in a state
that allows it, takes effect. -/
theorem State.otpCommand_accepted {s : State} {w : Word} {allowed : LcState → Bool} {refusals : List (Bool × Code)}
    {f : State → State} (hbusy : s.otpBusy = false) (hrsv : rsvSet .otpCmd w = false)
    (hallowed : allowed s.lcs.state = true) (hown : ∀ x ∈ refusals, x.1 = false) :
    s.otpCommand w allowed refusals f = f s := by
  have hnone : lowest ((s.otpBusy, .busy) :: (!allowed s.lcs.state, .deniedLc) :: (rsvSet .otpCmd w, .deniedAttr) ::
      refusals) = none := by
    rw [lowest_eq_none]
    simpa [hbusy, hallowed, hrsv] using hown
  rw [State.otpCommand, hnone]

/-- A refused command records a code, that of one of its refusals, and changes nothing else. -/
theorem State.otpCommand_refused {s : State} {w : Word} {allowed : LcState → Bool} {refusals : List (Bool × Code)}
    (f : State → State) (hdone : ∀ x ∈ refusals, x.2 ≠ .done)
    (h : allowed s.lcs.state = false ∨ ∃ c, (true, c) ∈ refusals) : ∃ c, c ≠ .done ∧
    s.otpCommand w allowed refusals f = s.onOtp fun o => { o with code := c, burned := 0 } := by
  have hsome : ∃ d, (true, d) ∈ (s.otpBusy, .busy) :: (!allowed s.lcs.state, .deniedLc) ::
      (rsvSet .otpCmd w, .deniedAttr) :: refusals := by
    rcases h with h | ⟨c, hc⟩
    · exact ⟨.deniedLc, by simp [h]⟩
    · exact ⟨c, by simp [hc]⟩
  obtain ⟨d, hd⟩ := hsome
  obtain ⟨c, hc⟩ := lowest_isSome hd
  refine ⟨c, ?_, State.otpCommand_of_lowest hc⟩
  rintro rfl
  have hmem := (lowest_least hc).1
  simp only [List.mem_cons, Prod.mk.injEq, reduceCtorEq, and_false, false_or] at hmem
  exact hdone _ hmem rfl

/-! ### The commands -/

section
variable {s : State} {w : Word} (hs : s.serves .d1 = true) (hbusy : s.otpBusy = false) (hrsv : rsvSet .otpCmd w = false)
include hs hbusy hrsv

/-- A command that nothing refuses: its effect. -/
theorem ranOn_otpCommand {allowed : LcState → Bool} {refusals : State → List (Bool × Code)}
    {f : State → State → State} {t : State} (hallowed : allowed s.lcs.state = true)
    (hown : ∀ x ∈ refusals s.quiet, x.1 = false) (ht : f s.quiet s.quiet = t) :
    ranOn .d1 (fun u => u.otpCommand w allowed (refusals u) (f u)) s = .next t :=
  ranOn_of_eq hs ((State.otpCommand_accepted (s := s.quiet) hbusy hrsv hallowed hown).trans ht)

theorem execOtpRead_accepted (hash : s.lcs.state ≠ .ash) (hinv : s.lcs.state ≠ .invalid)
    (hrow : s.otp.readForbidden s.otpRowOp = false) (href : s.otpRef ≠ 3) :
    execOtpRead w s = .next (s.quiet.onOtp fun o =>
      { o with
        code := .done
        burned := 0
        rdata :=
          if s.otpRef = 0 then (o.readRow s.otpRowOp).nrm
          else if s.otpRef = 1 then (o.readRow s.otpRowOp).m0 else (o.readRow s.otpRowOp).m1 }) := by
  have hown : (s.otp.readForbidden s.otpRowOp || s.otpRef == 3) = false := by simp [hrow, href]
  exact ranOn_otpCommand hs hbusy hrsv (by simp [hash, hinv]) (List.forall_mem_singleton.2 hown) rfl

theorem execOtpProgram_accepted (hst : early s.lcs.state = true) (hrow : programForbidden s.otpRowOp = false)
    (hopen : s.otp.rowFinal s.otpRowOp = false) (hones : (s.otp.sense s.otpRowOp).nrm &&& ~~~ s.otpData = 0) (v : Nat) :
    execOtpProgram w v s = .next (s.quiet.burn .program [s.otp.burnOf (s.otpRowOp, s.otpData)] v) := by
  have hown : (programForbidden s.otpRowOp || s.otp.rowFinal s.otpRowOp ||
      ((s.otp.sense s.otpRowOp).nrm &&& ~~~ s.otpData) != 0) = false := by simp [hrow, hopen, hones]
  exact ranOn_otpCommand hs hbusy hrsv hst (List.forall_mem_singleton.2 hown) rfl

theorem execOtpFinalise_accepted (hst : early s.lcs.state = true)
    (hopen : ((finalIndex s.otpRegion).any fun f => !s.otp.finalised f) = true) :
    execOtpFinalise w s = .next (s.quiet.onOtp fun o =>
      { o with run := some ⟨.finalise s.otpRegion, [], .checks, 0, false⟩ }) :=
  ranOn_otpCommand hs hbusy hrsv hst (List.forall_mem_singleton.2 (congrArg not hopen)) rfl

theorem execOtpAdvance_accepted (hst : early s.lcs.state = true ∨ s.lcs.state = .field) (hctr : s.otpCounter ≤ 4)
    (hmax : s.otpTarget ≤ 64 * (counterRows s.otpCounter).length)
    (hcont : counterContiguous ((counterRows s.otpCounter).map s.otp.sense) = true) (v : Nat) :
    execOtpAdvance w v s = .next (s.quiet.burn .advance (s.otp.advanceBurns s.otpCounter s.otpTarget) v) := by
  have hown : ∀ x ∈ [(decide (4 < s.otpCounter), Code.deniedAttr),
      (decide (64 * (counterRows s.otpCounter).length < s.otpTarget), .badLength),
      (!counterContiguous ((counterRows s.otpCounter).map s.otp.sense), .integrity)], x.1 = false := by
    simp [hctr, hmax, hcont]
  exact ranOn_otpCommand hs hbusy hrsv (by simpa using hst) hown rfl

theorem execOtpRedirect_accepted (hst : early s.lcs.state = true) (hrow : s.otpRowOp < 0x350) {i : Nat}
    (hspare : s.otp.freeSpare = some i) (v : Nat) :
    execOtpRedirect w v s = .next (s.quiet.burn .redirect
      [⟨0x400 + i, if s.otpRowOp ∈ [0x080, 0x081, 0x082, 0x083, 0x088] then 0 else (s.otp.sense s.otpRowOp).nrm,
        BitVec.allOnes 64⟩, ⟨0x410 + i, entryWord s.otpRowOp, BitVec.allOnes 64⟩] v) := by
  have hown : ∀ x ∈ [(decide (0x350 ≤ s.otpRowOp), Code.deniedAttr), (s.otp.freeSpare.isNone, .noResource)],
      x.1 = false := by
    simp [hrow, hspare]
  have hi : s.quiet.otp.freeSpare.getD 0 = i := congrArg (Option.getD · 0) hspare
  refine ranOn_otpCommand hs hbusy hrsv hst hown ?_
  simp only [hi, List.contains_iff_mem]
  rfl

/-- GEN_ROOT_HALF burns four words that it draws, or, while the TRNG's health test has failed, draws nothing (R490). -/
theorem execGenRootHalf_blank (hst : s.lcs.state = .stock)
    (hblank : ∀ n ∈ [0x080, 0x081, 0x082, 0x083, 0x088], rowBlank (s.otp.sense n) = true) (v : Nat) :
    execGenRootHalf w v s =
      .next (if s.trng.fail = true then s.quiet.onOtp fun o => { o with code := .integrity, burned := 0 } else
        (s.quiet.drew 32).burn (.rootHalf ((List.range 4).map s.rootWord))
          (((List.range 4).map s.rootWord).zipIdx.map fun e => s.otp.burnOf (0x080 + e.2, e.1)) v) := by
  have hrows : ([0x080, 0x081, 0x082, 0x083, 0x088].any fun n => !rowBlank (s.otp.sense n)) = false := by
    simpa using hblank
  have hstock : (s.lcs.state == .stock) = true := by simp [hst]
  cases hfail : s.trng.fail with
  | true =>
    rw [if_pos rfl]
    have hlow : lowest [(s.otpBusy, .busy), (!s.lcs.state == .stock, .deniedLc), (rsvSet .otpCmd w, .deniedAttr),
        ([0x080, 0x081, 0x082, 0x083, 0x088].any fun n => !rowBlank (s.otp.sense n), .deniedAttr),
        (s.trng.fail, .integrity)] = some .integrity := by
      rw [hbusy, hstock, hrsv, hrows, hfail]
      rfl
    exact ranOn_of_eq hs (State.otpCommand_of_lowest (s := s.quiet) hlow)
  | false =>
    rw [if_neg Bool.false_ne_true]
    have hown : ∀ x ∈ [([0x080, 0x081, 0x082, 0x083, 0x088].any fun n => !rowBlank (s.otp.sense n), Code.deniedAttr),
        (s.trng.fail, .integrity)], x.1 = false := by
      rw [hrows, hfail]
      simp
    exact ranOn_otpCommand hs hbusy hrsv hstock hown rfl

end

/-- PROGRAM in another state than RAW, TEST and STOCK, of a row of a finalised region, or with a 0 over a bit that reads
1, is refused before any pulse (R128, R131, R133). -/
theorem execOtpProgram_refused {s : State} (hs : s.serves .d1 = true) (h : early s.lcs.state = false ∨
      s.otp.rowFinal s.otpRowOp = true ∨ (s.otp.sense s.otpRowOp).nrm &&& ~~~ s.otpData ≠ 0) (w : Word) (v : Nat) :
    ∃ c, c ≠ .done ∧ execOtpProgram w v s = .next (s.quiet.onOtp fun o => { o with code := c, burned := 0 }) := by
  have hden : early s.lcs.state = false ∨ ∃ c, (true, c) ∈ [(programForbidden s.otpRowOp ||
      s.otp.rowFinal s.otpRowOp || ((s.otp.sense s.otpRowOp).nrm &&& ~~~ s.otpData) != 0, Code.deniedAttr)] := by
    refine h.imp_right fun h => ⟨.deniedAttr, ?_⟩
    rcases h with h | h
    · simp [h]
    · simp only [bne_iff_ne.2 h, Bool.or_true, List.mem_singleton]
  obtain ⟨c, hc, heq⟩ := State.otpCommand_refused (s := s.quiet) (w := w)
    (fun u => u.burn .program [u.otp.burnOf (s.otpRowOp, u.otpData)] v) (by simp) hden
  exact ⟨c, hc, ranOn_of_eq hs heq⟩

/-- Settles O11: each command is taken where no refusal of R131 to R138 applies; PROGRAM is refused where one does. -/
theorem otpCommandsCompleteOrAreRefused : Obligations.OtpCommandsCompleteOrAreRefused := by
  unfold Obligations.OtpCommandsCompleteOrAreRefused
  refine ⟨⟨fun w s hs hbusy hrsv hash hinv hrow href => ?_, fun w v s hs hbusy hrsv hst hrow hopen hones => ?_,
    fun w v i s hs hbusy hrsv hst hrow hspare => ?_, fun w v s hs hbusy hrsv hst hctr hmax hcont => ?_⟩,
    fun w v s hs h => ?_⟩
  · exact execOtpRead_accepted hs hbusy hrsv hash hinv hrow href
  · exact execOtpProgram_accepted hs hbusy hrsv hst hrow hopen hones v
  · exact execOtpRedirect_accepted hs hbusy hrsv hst hrow hspare v
  · exact execOtpAdvance_accepted hs hbusy hrsv hst hctr hmax hcont v
  · obtain ⟨c, hc, heq⟩ := execOtpProgram_refused hs h w v
    exact ⟨_, heq, hc, rfl, rfl⟩

end Sys2Proof.Machine
end

section
/-!
PROOFS. The programming path (R118, R127, R129, R130, R139): how the end of a pulse and of a check moves it on, and what
its end leaves in OTP_RESULT.
-/
namespace Sys2Proof.Machine

/-! ### The start-up read -/

theorem State.avsSend_lcs (s : State) (op : AvsOp) : (s.avsSend op).lcs = s.lcs := by
  simp only [State.avsSend]
  split <;> rfl

/-- As the fence takes up its limits (R523), nothing of the life-cycle controller moves. -/
theorem State.fenceStart_lcs (s : State) : s.fenceStart.lcs = s.lcs := by
  simp [State.fenceStart, State.avsSend_lcs]

@[simp] theorem State.fenceStart_otp (s : State) : s.fenceStart.otp = s.otp := by simp [State.fenceStart]

/-- The start-up read decides the state of the life cycle from the rows that it reads (R118, R145, R146). -/
theorem execOtpStartupDone_due {s : State} (hup : s.up .d1 = true) (hdone : s.otp.startupDone = false)
    (drift : List (Nat × Row3)) : ∃ t, execOtpStartupDone drift s = .next t ∧ t.otp.startupDone = true ∧
      t.lcs.state = lcDecode ((s.otp.drift drift).startupRead.snapRow) := by
  refine ⟨_, ranIf_due (by simp [hup, hdone]), ?_, ?_⟩
  · simp only [State.fenceStart_otp, Otp.startupFinish]
  · simp only [State.fenceStart_lcs, State.quiet_otp]

/-! ### What the end of the path leaves -/

/-- Outside the life-cycle controller's burn, an end of the path leaves its code and the bits burned, and frees the
path. -/
theorem State.pathTo_ended (s : State) (o : Otp) {c : Code} {job : OtpJob} (h : job ≠ .lcCopies) (burned : Nat) :
    s.pathTo (o, some ⟨c, job, burned⟩) = { s with otp := o.complete c job burned } := if_neg h

/-- Only an ADVANCE has anything to follow its end (R517). -/
theorem State.afterPath_of_ne {job : OtpJob} (h : job ≠ .advance) (s : State) (vqps : Nat) : s.afterPath vqps job = s :=
  if_pos (by simp [h])

/-! ### OTP_PULSE_END -/

/-- While a pulse runs, its end moves the path on. -/
theorem execOtpPulseEnd_due {s : State} {r : OtpRun} {i k : Nat} (hrun : s.otp.run = some r)
    (hph : r.phase = .pulse i k) (m0 nrm m1 : Bool) (vqps : Nat) : execOtpPulseEnd m0 nrm m1 vqps s =
      .next ((s.quiet.pathTo (s.otp.pulseEnd r i k m0 nrm m1 vqps)).afterPath vqps r.job) := by
  refine ranIf_of_eq (by simp [hrun, hph]) ?_
  simp only [State.quiet_otp, hrun, hph]

/-- The array once a pulse of bit `i` of row `n` has left it to read as given. -/
def Otp.pulsed (o : Otp) (n i : Nat) (m0 nrm m1 : Bool) : Otp :=
  { o with cells := Sparse.put {} o.cells n (pulsedRow (o.cell n) i m0 nrm m1) }

/-- A bit that read 0 at MARGIN_1 and reads 0 there after its pulse: up to three further pulses, while VQPS is in its
window. -/
theorem Otp.pulseEnd_failed {o : Otp} {r : OtpRun} {b : Burn} {bs : List Burn} {i : Nat} (hr : r.todo = b :: bs)
    (hwf : Sparse.wf ({} : Row3) o.cells = true) (hbit : (o.cell b.row).m1.getLsbD i = false) (k : Nat) (m0 nrm : Bool)
    (vqps : Nat) : o.pulseEnd r i k m0 nrm false vqps =
      if k < 3 then
        if vqpsInWindow vqps then
          ({ o.pulsed b.row i m0 nrm false with run := some { r with phase := .pulse i (k + 1) } }, none)
        else ({ o.pulsed b.row i m0 nrm false with run := none }, some ⟨.aborted, r.job, r.burned⟩)
      else ({ o.pulsed b.row i m0 nrm false with run := none }, some ⟨.integrity, r.job, r.burned⟩) := by
  have hcell : (o.pulsed b.row i m0 nrm false).cell b.row = pulsedRow (o.cell b.row) i m0 nrm false :=
    Sparse.get_put hwf
  have hfails : ¬((o.pulsed b.row i m0 nrm false).cell b.row).m1.getLsbD i = true := by
    rw [hcell]
    simpa [pulsedRow] using hbit
  simp only [Otp.pulseEnd, hr]
  exact if_neg hfails

/-- PROGRAM at a bit that does not burn (R129, R130). -/
theorem execOtpPulseEnd_failed {s : State} {r : OtpRun} {b : Burn} {i k : Nat} (hrun : s.otp.run = some r)
    (hph : r.phase = .pulse i k) (htodo : r.todo = [b]) (hjob : r.job = .program)
    (hwf : Sparse.wf ({} : Row3) s.otp.cells = true) (hbit : (s.otp.cell b.row).m1.getLsbD i = false) (m0 nrm : Bool)
    (v : Nat) : ∃ t, execOtpPulseEnd m0 nrm false v s = .next t ∧
      if 3 ≤ k then t.otp.run = none ∧ t.otp.code = .integrity ∧ t.otp.burned = r.burned
      else if vqpsInWindow v = true then t.otp.run = some { r with phase := .pulse i (k + 1) } ∧ t.otp.code = s.otp.code
      else t.otp.run = none ∧ t.otp.code = .aborted ∧ t.otp.burned = r.burned := by
  refine ⟨_, execOtpPulseEnd_due hrun hph m0 nrm false v, ?_⟩
  rw [State.afterPath_of_ne (by simp [hjob]), Otp.pulseEnd_failed htodo hwf hbit]
  by_cases hk : k < 3
  · rw [if_neg (by omega), if_pos hk]
    by_cases hv : vqpsInWindow v = true
    · rw [if_pos hv, if_pos hv]
      exact ⟨rfl, rfl⟩
    · rw [if_neg hv, if_neg hv, State.pathTo_ended _ _ (by simp [hjob]), hjob]
      exact ⟨rfl, rfl, rfl⟩
  · rw [if_pos (by omega), if_neg hk, State.pathTo_ended _ _ (by simp [hjob]), hjob]
    exact ⟨rfl, rfl, rfl⟩

/-! ### OTP_CHECK_DONE -/

/-- While a row's three-reference read runs, the path goes on from it. -/
theorem execOtpCheckDone_row {s : State} {r : OtpRun} (hrun : s.otp.run = some r) (hph : r.phase = .rowCheck)
    (v later : Nat) : execOtpCheckDone v later s =
      .next ((s.quiet.pathTo (s.otp.rowChecked r v)).afterPath v r.job) := by
  refine ranIf_of_eq (by simp [hrun, hph]) ?_
  simp only [State.quiet_otp, hrun, hph]
  split
  · next h => cases h
  · rfl

/-- A row is not marginal and holds `d` exactly if it reads `d` at every reference (R119, R130). -/
theorem rowMarginal_or_ne_eq_false {c : Row3} {d : BitVec 64} :
    (rowMarginal c || c.nrm != d) = false ↔ c.m0 = d ∧ c.nrm = d ∧ c.m1 = d := by
  simp only [rowMarginal, Bool.or_eq_false_iff, bne_eq_false_iff_eq]
  constructor
  · rintro ⟨⟨h0, h1⟩, hd⟩
    exact ⟨h0.trans hd, hd, h1.symm.trans hd⟩
  · rintro ⟨h0, hd, h1⟩
    exact ⟨⟨h0.trans hd.symm, hd.trans h1.symm⟩, hd⟩

/-- PROGRAM with nothing left to burn ends with DONE (R131). -/
theorem Otp.goOn_program (o : Otp) {r : OtpRun} (htodo : r.todo = []) (hjob : r.job = .program) (v : Nat) :
    o.goOn r v = ({ o with run := none }, some ⟨.done, .program, r.burned⟩) := by
  have hnext : o.nextPulse r v = none := by simp [Otp.nextPulse, Otp.skipDone, htodo]
  simp only [Otp.goOn, hnext, hjob]

/-- The last row of PROGRAM is read: DONE if it holds its data at every reference, else INTEGRITY. -/
theorem Otp.rowChecked_program (o : Otp) {r : OtpRun} {b : Burn} (htodo : r.todo = [b]) (hjob : r.job = .program)
    (v : Nat) : o.rowChecked r v = ({ o with run := none },
      some ⟨if (o.cell b.row).m0 = b.data ∧ (o.cell b.row).nrm = b.data ∧ (o.cell b.row).m1 = b.data then .done
        else .integrity, .program, r.burned⟩) := by
  simp only [Otp.rowChecked, htodo]
  by_cases hrow : (rowMarginal (o.cell b.row) || (o.cell b.row).nrm != b.data) = false
  · rw [if_neg (ne_true_of_eq_false hrow), if_pos (rowMarginal_or_ne_eq_false.1 hrow)]
    exact o.goOn_program (r := { r with todo := [] }) rfl hjob v
  · rw [if_pos (eq_true_of_ne_false hrow), if_neg (mt rowMarginal_or_ne_eq_false.2 hrow), hjob]

/-- PROGRAM once the row that it burned has been read (R130, R131). -/
theorem execOtpCheckDone_program {s : State} {r : OtpRun} {b : Burn} (hrun : s.otp.run = some r)
    (hph : r.phase = .rowCheck) (htodo : r.todo = [b]) (hjob : r.job = .program) (v later : Nat) :
    ∃ t, execOtpCheckDone v later s = .next t ∧ t.otp.run = none ∧ t.otp.burned = r.burned ∧
      t.otp.cells = s.otp.cells ∧ t.otp.code =
        if (s.otp.cell b.row).m0 = b.data ∧ (s.otp.cell b.row).nrm = b.data ∧ (s.otp.cell b.row).m1 = b.data then .done
        else .integrity := by
  refine ⟨_, execOtpCheckDone_row hrun hph v later, ?_⟩
  rw [State.afterPath_of_ne (by simp [hjob]), Otp.rowChecked_program _ htodo hjob, State.pathTo_ended _ _ (by simp)]
  exact ⟨rfl, rfl, rfl, rfl⟩

/-- While the checks of FINALISE run: a refusal that they find ends the command (R127). -/
theorem execOtpCheckDone_refused {s : State} {r : OtpRun} {n v : Nat} {c : Code} (hrun : s.otp.run = some r)
    (hph : r.phase = .checks) (hjob : r.job = .finalise n) (hc : lowest (s.otp.finRefusals n v) = some c)
    (later : Nat) : execOtpCheckDone v later s = .next (s.quiet.onOtp fun o => o.complete c (.finalise n) 0) := by
  refine ranIf_of_eq (by simp [hrun, hph]) ?_
  simp only [State.quiet_otp, hrun, hph, hjob, hc]

/-- While the checks of FINALISE run, and find no refusal: the rows of the digest are burned (R127 step 8). -/
theorem execOtpCheckDone_digest {s : State} {r : OtpRun} {n v : Nat} (hrun : s.otp.run = some r)
    (hph : r.phase = .checks) (hjob : r.job = .finalise n) (hc : lowest (s.otp.finRefusals n v) = none) (later : Nat) :
    execOtpCheckDone v later s = .next (s.quiet.pathTo
      (s.otp.goOn { r with todo := (s.otp.digestRows n).map s.otp.burnOf, first := false } later)) := by
  refine ranIf_of_eq (by simp [hrun, hph]) ?_
  simp only [State.quiet_otp, hrun, hph, hjob, hc]

/-- A pulse is needed and VQPS is outside its window: the path stops (R129). -/
theorem Otp.goOn_unsupplied {o : Otp} {r : OtpRun} (h : ∃ b ∈ r.todo, o.pulseBits b ≠ 0) {vqps : Nat}
    (hv : vqpsInWindow vqps = false) : o.goOn r vqps =
      ({ o with run := none }, some ⟨if r.first then .supplyWindow else .aborted, r.job, r.burned⟩) := by
  obtain ⟨b, hb, hbits⟩ := h
  cases hskip : o.skipDone r.todo with
  | nil => exact absurd (List.dropWhile_eq_nil_iff.1 hskip b hb) (by simpa using hbits)
  | cons c cs =>
    have hnext : o.nextPulse r vqps =
        some ({ o with run := none }, some ⟨if r.first then .supplyWindow else .aborted, r.job, r.burned⟩) := by
      simp [Otp.nextPulse, hskip, hv]
    simp only [Otp.goOn, hnext]

/-- Settles O12: each event of the path goes by what is due, and the path ends as R127 to R130 and R139 say. -/
theorem otpPathBurnsBitByBit : Obligations.OtpPathBurnsBitByBit := by
  unfold Obligations.OtpPathBurnsBitByBit
  refine ⟨fun drift s hup hdone => execOtpStartupDone_due hup hdone drift, fun w s hs hbusy hrsv hst hopen => ?_,
    fun w v s hs hbusy hrsv hst hblank => ?_, fun m0 n m1 v i k s r hrun hph => ?_, fun v later s r hrun hph => ?_,
    fun m0 n v i k s b r hrun hph htodo hjob hwf hbit => ?_, fun v later s b r hrun hph htodo hjob => ?_,
    fun v later k s r hrun hph hjob => ⟨fun c hc => ?_, fun hc => ⟨?_, fun hneeds hv => ?_⟩⟩⟩
  · exact execOtpFinalise_accepted hs hbusy hrsv hst hopen
  · exact execGenRootHalf_blank hs hbusy hrsv hst hblank v
  · exact execOtpPulseEnd_due hrun hph m0 n m1 v
  · exact execOtpCheckDone_row hrun hph v later
  · exact execOtpPulseEnd_failed hrun hph htodo hjob hwf hbit m0 n v
  · exact execOtpCheckDone_program hrun hph htodo hjob v later
  · exact ⟨_, execOtpCheckDone_refused hrun hph hjob hc later, rfl, rfl, rfl⟩
  · exact execOtpCheckDone_digest hrun hph hjob hc later
  · refine ⟨_, execOtpCheckDone_digest hrun hph hjob hc later, ?_⟩
    rw [Otp.goOn_unsupplied hneeds hv, State.pathTo_ended _ _ (by simp [hjob])]
    simp only [hjob]
    exact ⟨rfl, rfl, rfl, rfl⟩

end Sys2Proof.Machine
end

section
/-!
PROOFS. The cells of the OTP array (R117, R130): a pulse sets bits of its own row, and nothing else on the programming
path changes a cell.
-/
namespace Sys2Proof.Machine

/-! ### One row -/

/-- Every bit that reads 1 in `r` at a reference reads 1 in `t` at it. -/
def BitsIn (r t : Row3) : Prop :=
  r.m0 &&& ~~~ t.m0 = 0 ∧ r.nrm &&& ~~~ t.nrm = 0 ∧ r.m1 &&& ~~~ t.m1 = 0

theorem BitsIn.refl (r : Row3) : BitsIn r r :=
  ⟨BitVec.and_not_self .., BitVec.and_not_self .., BitVec.and_not_self ..⟩

/-- A pulse leaves every bit that read 1 (R117). -/
theorem bitsIn_pulsedRow (r : Row3) (i : Nat) (m0 nrm m1 : Bool) : BitsIn r (pulsedRow r i m0 nrm m1) := by
  have hset (v k : BitVec 64) (b : Bool) : v &&& ~~~ (if b = true then v ||| k else v) = 0 := by
    cases b with
    | false => exact BitVec.and_not_self v
    | true => ext j; simp +contextual
  exact ⟨hset .., hset .., hset ..⟩

/-! ### The path -/

theorem Otp.cell_of_cells {o p : Otp} (h : p.cells = o.cells) (n : Nat) : p.cell n = o.cell n := by
  rw [Otp.cell, h, Otp.cell]

@[simp] theorem Otp.complete_cells (o : Otp) (c : Code) (job : OtpJob) (burned : Nat) :
    (o.complete c job burned).cells = o.cells := by
  have hreload : (if burned = 0 then o else o.reload [0x080, 0x081, 0x082, 0x083, 0x088]).cells = o.cells := by
    split <;> rfl
  cases job with
  | rootHalf _ | rootMark => exact hreload
  | _ => rfl

theorem Otp.nextPulse_cells {o : Otp} {r : OtpRun} {vqps : Nat} {x : Otp × Option PathEnd}
    (h : o.nextPulse r vqps = some x) : x.1.cells = o.cells := by
  unfold Otp.nextPulse at h
  split at h <;> [cases h; (split at h <;> cases h <;> rfl)]

@[simp] theorem Otp.goOn_cells (o : Otp) (r : OtpRun) (vqps : Nat) : (o.goOn r vqps).1.cells = o.cells := by
  unfold Otp.goOn
  split
  · exact Otp.nextPulse_cells ‹_›
  · split
    · simp only
      split <;> [(split <;> [exact Otp.nextPulse_cells ‹_›; rfl]); rfl]
    · rfl
    · split <;> [(split <;> [exact Otp.nextPulse_cells ‹_›; rfl]); rfl]
    · rfl

@[simp] theorem Otp.rowChecked_cells (o : Otp) (r : OtpRun) (vqps : Nat) : (o.rowChecked r vqps).1.cells = o.cells := by
  unfold Otp.rowChecked
  split <;> [exact o.goOn_cells ..; (split <;> [rfl; exact o.goOn_cells ..])]

/-- The end of a pulse leaves its row as the pulse left it, and every other row as it was. -/
theorem Otp.pulseEnd_cells (o : Otp) {r : OtpRun} {b : Burn} {bs : List Burn} (hr : r.todo = b :: bs) (i k : Nat)
    (m0 nrm m1 : Bool) (vqps : Nat) : (o.pulseEnd r i k m0 nrm m1 vqps).1.cells =
      Sparse.put {} o.cells b.row (pulsedRow (o.cell b.row) i m0 nrm m1) := by
  simp only [Otp.pulseEnd, hr]
  repeat' split
  all_goals rfl

/-- No bit of the array reads 0 again after a pulse. -/
theorem Otp.bitsIn_pulseEnd {o : Otp} (hwf : Sparse.wf ({} : Row3) o.cells = true) (r : OtpRun) (i k : Nat)
    (m0 nrm m1 : Bool) (vqps n : Nat) : BitsIn (o.cell n) ((o.pulseEnd r i k m0 nrm m1 vqps).1.cell n) := by
  cases hr : r.todo with
  | nil =>
    have hcells : (o.pulseEnd r i k m0 nrm m1 vqps).1.cells = o.cells := by rw [Otp.pulseEnd, hr]
    rw [Otp.cell_of_cells hcells]
    exact .refl _
  | cons b bs =>
    unfold Otp.cell
    rw [o.pulseEnd_cells hr]
    by_cases hn : n = b.row
    · rw [hn, Sparse.get_put hwf]
      exact bitsIn_pulsedRow ..
    · rw [Sparse.get_put_ne hwf hn]
      exact .refl _

/-! ### What takes over the path's end -/

@[simp] theorem State.lcEnd_otpCells (s : State) (c : Code) (burned : Nat) :
    (s.lcEnd c burned).otp.cells = s.otp.cells := State.act_otpCells ..

@[simp] theorem State.pathTo_otpCells (s : State) (r : Otp × Option PathEnd) : (s.pathTo r).otp.cells = r.1.cells := by
  unfold State.pathTo
  split
  · rfl
  · split <;> [(simp only; split); skip]
    · rfl
    · exact State.lcEnd_otpCells ..
    · exact Otp.complete_cells ..

@[simp] theorem State.burn_otpCells (s : State) (job : OtpJob) (todo : List Burn) (vqps : Nat) :
    (s.burn job todo vqps).otp.cells = s.otp.cells := by simp [State.burn]

@[simp] theorem State.cwyPhase_otp (s : State) (p : Nat) : (s.cwyPhase p).otp = s.otp := by
  simp [State.cwyPhase, State.cwyField]

@[simp] theorem State.advanceGoOn_otpCells (vqps : Nat) (l : List (Nat × Nat)) (s : State) :
    (State.advanceGoOn vqps l s).otp.cells = s.otp.cells := by
  induction l generalizing s with
  | nil => simp [State.advanceGoOn]
  | cons e l ih =>
    obtain ⟨c, target⟩ := e
    have hburn : (State.burn { s with fw := { s.fw with advance := l } } .advance (s.otp.advanceBurns c target)
        vqps).otp.cells = s.otp.cells := State.burn_otpCells ..
    simp only [State.advanceGoOn]
    generalize State.burn _ _ _ _ = b at *
    split <;> [skip; exact ih s]
    split <;> [exact hburn; skip]
    split <;> [exact (ih b).trans hburn; exact (congrArg Otp.cells (State.cwyPhase_otp ..)).trans hburn]

@[simp] theorem State.afterPath_otpCells (s : State) (vqps : Nat) (job : OtpJob) :
    (s.afterPath vqps job).otp.cells = s.otp.cells := by
  unfold State.afterPath
  split <;> [rfl; (split <;> exact State.advanceGoOn_otpCells ..)]

/-! ### OTP_PULSE_END and OTP_CHECK_DONE -/

/-- No bit of the array reads 0 again after OTP_PULSE_END. -/
theorem execOtpPulseEnd_bitsIn {s t : State} {m0 nrm m1 : Bool} {vqps : Nat}
    (hwf : Sparse.wf ({} : Row3) s.otp.cells = true) (h : execOtpPulseEnd m0 nrm m1 vqps s = .next t) (n : Nat) :
    BitsIn (s.otp.cell n) (t.otp.cell n) := by
  rcases ranIf_next h with ⟨-, rfl⟩ | ⟨-, rfl⟩
  · split
    · exact BitsIn.refl _
    · next r _ =>
      split
      · next i k _ =>
        have hcells : ((s.quiet.pathTo (s.otp.pulseEnd r i k m0 nrm m1 vqps)).afterPath vqps r.job).otp.cells =
            (s.otp.pulseEnd r i k m0 nrm m1 vqps).1.cells := by simp
        exact Otp.cell_of_cells hcells n ▸ Otp.bitsIn_pulseEnd hwf ..
      · exact BitsIn.refl _
  · exact BitsIn.refl _

/-- OTP_CHECK_DONE changes no cell. -/
theorem execOtpCheckDone_otpCells {s t : State} {vqps later : Nat} (h : execOtpCheckDone vqps later s = .next t) :
    t.otp.cells = s.otp.cells := by
  rcases ranIf_next h with ⟨-, rfl⟩ | ⟨-, rfl⟩
  · split <;> [rfl; skip]
    split
    · split <;> simp
    · simp
  · rfl

/-- Settles O13: a pulse only sets bits of its row, and a check sets none. -/
theorem pulsesOnlySetBits : Obligations.PulsesOnlySetBits := by
  unfold Obligations.PulsesOnlySetBits
  rintro i s t (⟨m0, nrm, m1, vqps, rfl⟩ | ⟨vqps, later, rfl⟩) hwf h n
  · exact execOtpPulseEnd_bitsIn hwf h n
  · exact Otp.cell_of_cells (execOtpCheckDone_otpCells h) n ▸ BitsIn.refl (s.otp.cell n)

end Sys2Proof.Machine
end

section
/-!
PROOFS. The life-cycle controller: TRANSITION on its token, its phases, and where it is refused (R142, R148, R153 to
R156, R166, R490).
-/
namespace Sys2Proof.Machine

/-! ### TRANSITION -/

/-- A transition that step 1 does not refuse turns on the comparison of its token (R153, R154). -/
theorem execLcTransition_taken {s : State} {w : Word} {v : Nat} (hd1 : s.serves .d1 = true)
    (h : lowest (s.transitionRefusals w v) = none) : execLcTransition w v s = .next
      (if sha3_384 (s.regBytes .lcsToken 0 8) = s.otp.shadowBytes (tokenRow s.lcTarget) 6 then s.quiet.transitionRuns
      else s.quiet.onLcs fun l => { l with fails := min 4 (l.fails + 1), resCode := .notEqual }) := by
  have hquiet : lowest (s.quiet.transitionRefusals w v) = none := h
  rw [execLcTransition, ranOn_up hd1, hquiet]
  rfl

/-- A transition with a refusal of step 1 records a code that is not DONE, and nothing else. -/
theorem execLcTransition_refused {s : State} {w : Word} {v : Nat} {d : Code} (hd1 : s.serves .d1 = true)
    (h : (true, d) ∈ s.transitionRefusals w v) :
    ∃ c, c ≠ .done ∧ execLcTransition w v s = .next (s.quiet.lcsRefuse c) := by
  obtain ⟨c, hc⟩ := lowest_isSome h
  refine ⟨c, ?_, ?_⟩
  · rintro rfl
    have hmem := (lowest_least hc).1
    simp [State.transitionRefusals] at hmem
  · have hquiet : lowest (s.quiet.transitionRefusals w v) = some c := hc
    rw [execLcTransition, ranOn_up hd1, hquiet]

/-- A pair of R148 leads to the next state or to ASH, from a state that is neither ASH nor invalid. -/
theorem pairAllowed_forward {st : LcState} {target : Nat} (h : pairAllowed st target = true) :
    st ≠ .ash ∧ st ≠ .invalid ∧ (target = st.code + 1 ∨ target = 5) := by
  cases st <;> simp_all [pairAllowed, LcState.code]

/-- DENIED_LC stands among the refusals where no transition leads on (R148, R153). -/
theorem State.transitionRefusals_deniedLc {s : State} (h : s.lcs.state = .ash ∨ s.lcs.state = .invalid ∨
    4 ≤ s.lcs.fails ∨ (s.lcTarget ≠ 5 ∧ s.lcTarget ≠ s.lcs.state.code + 1)) (w : Word) (v : Nat) :
    (true, .deniedLc) ∈ s.transitionRefusals w v := by
  have hdenied : (!pairAllowed s.lcs.state s.lcTarget || decide (4 ≤ s.lcs.fails)) = true := by
    cases hp : pairAllowed s.lcs.state s.lcTarget with
    | false => rfl
    | true =>
      obtain ⟨hash, hinv, htarget⟩ := pairAllowed_forward hp
      rcases h with h | h | h | ⟨h5, hnext⟩
      · exact absurd h hash
      · exact absurd h hinv
      · exact decide_eq_true h
      · exact (htarget.elim hnext h5).elim
  simp [State.transitionRefusals, hdenied]

/-- Settles O15: a transition that R148 does not allow meets DENIED_LC, and a refused one records its code alone. -/
theorem lifeCycleOnlyMovesForward : Obligations.LifeCycleOnlyMovesForward := by
  unfold Obligations.LifeCycleOnlyMovesForward
  simp only [exec]
  intro w v s hd1 h
  obtain ⟨c, hc, hexec⟩ := execLcTransition_refused hd1 (State.transitionRefusals_deniedLc h w v)
  exact ⟨_, hexec, hc, rfl, rfl, rfl⟩

/-! ### The phases -/

/-- A timed phase of a transition ends with what the phase does. -/
theorem execLcsPhaseDone_of_eq {s t : State} {v : Nat} (hopen : s.lcs.opening = false)
    (hphase : s.lcs.phase ∈ [LcPhase.destroying, .rootAction, .reading, .pump, .decoding])
    (h : s.quiet.lcsPhase v = t) : execLcsPhaseDone v s = .next t :=
  ranIf_of_eq (by simpa [hopen, or_assoc] using hphase) h

/-- The root action leaves the life-cycle controller. -/
@[simp] theorem State.rootAction_lcs (s : State) : s.rootAction.lcs = s.lcs := by
  simp only [State.rootAction]
  split <;> simp

/-- TEST fills the peat store with bytes of the TRNG and their complement (R155). -/
theorem State.rootAction_test {s : State} (h : s.lcs.target = .test) :
    s.rootAction.peat.secret = keyOf (s.draw 32) ∧ s.rootAction.peat.secretN = ~~~keyOf (s.draw 32) := by
  simp [State.rootAction, h]

/-- RETURN and ASH zero the peat store (R156). -/
theorem State.rootAction_zeroes {s : State} (h : s.lcs.target = .ret ∨ s.lcs.target = .ash) :
    s.rootAction.peat.secret = 0 ∧ s.rootAction.peat.secretN = 0 := by
  rcases h with h | h <;> simp [State.rootAction, h]

section
variable {s : State} (v : Nat)

theorem State.lcsPhase_destroying (h : s.lcs.phase = .destroying) : s.lcsPhase v = s.onLcs fun l => { l with
    phase := if l.target = .test ∨ l.target = .ret ∨ l.target = .ash then .rootAction else .reading } := by
  rw [State.lcsPhase, h]
  simp only [State.onLcs]
  split <;> rfl

theorem State.lcsPhase_rootAction_failed (h : s.lcs.phase = .rootAction) (ht : s.lcs.target = .test)
    (hfail : s.trng.fail = true) : s.lcsPhase v = s.lcEnd .integrity 0 := by
  rw [State.lcsPhase, h]
  exact if_pos ⟨ht, hfail⟩

/-- The root action, done: RETURN awaits the erasure with DONE recorded, every other target goes on to the reading. -/
theorem State.lcsPhase_rootAction (h : s.lcs.phase = .rootAction) (hok : ¬ (s.lcs.target = .test ∧ s.trng.fail = true)) :
    (s.lcsPhase v).peat = s.rootAction.peat ∧
      (s.lcsPhase v).lcs.phase = (if s.lcs.target = .ret then .awaitErase else .reading) ∧
      (s.lcs.target = .ret → (s.lcsPhase v).lcs.resCode = .done) := by
  rw [State.lcsPhase, h]
  simp only [if_neg hok, State.rootAction_lcs]
  split
  · exact ⟨rfl, rfl, fun _ => rfl⟩
  · next hne => exact ⟨rfl, rfl, fun hret => absurd hret hne⟩

theorem State.lcsPhase_reading (h : s.lcs.phase = .reading) :
    s.lcsPhase v = s.onLcs fun l => { l with phase := .pump } := by
  rw [State.lcsPhase, h]

theorem State.lcsPhase_pump (h : s.lcs.phase = .pump) : s.lcsPhase v =
    (s.onLcs fun l => { l with phase := .programming }).pathTo (s.otp.goOn
      ⟨.lcCopies, (copyRows s.lcs.target).map s.otp.burnOf, .rowCheck, 0, s.lcs.eraseDone⟩ v) := by
  rw [State.lcsPhase, h]
  rfl

theorem State.lcsPhase_decoding (h : s.lcs.phase = .decoding) :
    s.lcsPhase v = s.lcEnd (if lcDecode s.otp.sense = s.lcs.target then .done else .integrity) s.lcs.burned := by
  rw [State.lcsPhase, h]

end

/-- ERASE_DONE at AWAIT_ERASE in FIELD, with the path free, goes on at the reading (R156, R166). -/
theorem execEraseDone_taken {s : State} {w : Word} (hd1 : s.serves .d1 = true) (hst : s.lcs.state = .field)
    (hphase : s.lcs.phase = .awaitErase) (hw : rsvSet .lcsCmd w = false) (hrun : s.otp.run = none)
    (hup : s.otp.startupDone = true) :
    execEraseDone w s = .next (s.quiet.onLcs fun l => { l with phase := .reading, eraseDone := true }) := by
  have hnone : lowest [(s.quiet.lcsBusy || s.quiet.otp.run.isSome || !s.quiet.otp.startupDone, .busy),
      (s.quiet.lcs.state != .field, .deniedLc),
      (rsvSet .lcsCmd w || s.quiet.lcs.phase != .awaitErase, .deniedAttr)] = none := by
    simp [lowest_eq_none, State.lcsBusy, hphase, hst, hw, hrun, hup]
  rw [execEraseDone, ranOn_up hd1]
  simp only [hnone]

/-- Settles O14: a transition that step 1 lets through turns on its token alone, and each timed phase has one end. -/
theorem transitionsRunOnTheirTokenInOrder : Obligations.TransitionsRunOnTheirTokenInOrder := by
  unfold Obligations.TransitionsRunOnTheirTokenInOrder
  simp only [exec]
  refine ⟨fun w v s hd1 h => execLcTransition_taken hd1 h, fun v s hopen h => ?destroying,
    fun v s hopen h ht hfail => ?rootActionFailed, fun v s hopen h hok => ?rootAction, fun v s hopen h => ?reading,
    fun v s hopen h => ?pump, fun v s hopen h => ?decoding,
    fun w s hd1 hst hphase hw hrun hup => execEraseDone_taken hd1 hst hphase hw hrun hup⟩
  case destroying => exact execLcsPhaseDone_of_eq hopen (by simp [h]) (State.lcsPhase_destroying (s := s.quiet) v h)
  case rootActionFailed =>
    exact execLcsPhaseDone_of_eq hopen (by simp [h]) (State.lcsPhase_rootAction_failed (s := s.quiet) v h ht hfail)
  case rootAction =>
    obtain ⟨hpeat, hphase, hdone⟩ := State.lcsPhase_rootAction (s := s.quiet) v h hok
    refine ⟨_, execLcsPhaseDone_of_eq hopen (by simp [h]) rfl, ?_⟩
    rw [hpeat]
    exact ⟨fun ht => State.rootAction_test (s := s.quiet) ht, hphase, hdone,
      fun ht => State.rootAction_zeroes (s := s.quiet) ht⟩
  case reading => exact execLcsPhaseDone_of_eq hopen (by simp [h]) (State.lcsPhase_reading (s := s.quiet) v h)
  case pump => exact execLcsPhaseDone_of_eq hopen (by simp [h]) (State.lcsPhase_pump (s := s.quiet) v h)
  case decoding => exact execLcsPhaseDone_of_eq hopen (by simp [h]) (State.lcsPhase_decoding (s := s.quiet) v h)

end Sys2Proof.Machine
end

section
/-!
PROOFS. The partition manager: the definition of a partition, job digests and QUARANTINE (R163, R428 to R433, R440,
R454, R461, R462).
-/
namespace Sys2Proof.Machine

/-! ### The code of R14, refusal by refusal -/

theorem Code.num_eq_ctorIdx (c : Code) : c.num = c.ctorIdx := by cases c <;> rfl

theorem Code.num_injective : Function.Injective Code.num := fun a b h => by
  rw [Code.num_eq_ctorIdx, Code.num_eq_ctorIdx] at h
  rw [← Code.ofNat_ctorIdx a, h, Code.ofNat_ctorIdx]

/-- A refusal that applies and has the lowest code gives the code. -/
theorem lowest_of_least {l : List (Bool × Code)} {c : Code} (h : (true, c) ∈ l)
    (hle : ∀ d, (true, d) ∈ l → c.num ≤ d.num) : lowest l = some c := by
  obtain ⟨d, hd⟩ := lowest_isSome h
  obtain ⟨hmem, hleast⟩ := lowest_least hd
  rw [hd, Code.num_injective (Nat.le_antisymm (hleast c h) (hle d hmem))]

/-- Refusals with no lower code, put after others of which one applies, change nothing. -/
theorem lowest_append_of_some {l m : List (Bool × Code)} {c : Code} (h : lowest l = some c)
    (hm : ∀ d, (true, d) ∈ m → c.num ≤ d.num) : lowest (l ++ m) = some c := by
  obtain ⟨hmem, hle⟩ := lowest_least h
  refine lowest_of_least (List.mem_append_left m hmem) fun d hd => ?_
  exact (List.mem_append.1 hd).elim (hle d) (hm d)

theorem lowest_cons_false (c : Code) (l : List (Bool × Code)) : lowest ((false, c) :: l) = lowest l := by
  cases h : lowest l <;> simp [lowest, h]

/-- Refusals of which none applies, put before others, change nothing. -/
theorem lowest_append_of_none {l : List (Bool × Code)} (h : lowest l = none) (m : List (Bool × Code)) :
    lowest (l ++ m) = lowest m := by
  rw [lowest_eq_none] at h
  induction l with
  | nil => rfl
  | cons x l ih =>
    obtain ⟨b, c⟩ := x
    obtain ⟨rfl, hl⟩ := List.forall_mem_cons.1 h
    rw [List.cons_append, lowest_cons_false, ih hl]

/-! ### Refusals of the partition manager -/

theorem prtRefusal_none (early refusals : List (Bool × Code)) :
    prtRefusal early refusals .none = lowest (early ++ refusals) := rfl

/-- An uncorrectable error of a table gives INTEGRITY where no refusal without a table applies. -/
theorem prtRefusal_uncorr {early : List (Bool × Code)} (h : lowest early = none) (refusals : List (Bool × Code)) :
    prtRefusal early refusals .uncorr = some .integrity := lowest_append_of_none h _

/-- A refusal without a table, of a code up to INTEGRITY, comes before an uncorrectable error (R14). -/
theorem prtRefusal_uncorr_of_early {early : List (Bool × Code)} {c : Code} (h : lowest early = some c)
    (hc : c.num ≤ Code.integrity.num) (refusals : List (Bool × Code)) :
    prtRefusal early refusals .uncorr = some c :=
  lowest_append_of_some h fun d hd => by cases List.mem_singleton.1 hd; exact hc

theorem State.prtHealth_of_ne {s : State} {c : Code} (h : c ≠ .integrity) : s.prtHealth c = s := if_neg h

/-- A command that its own refusals stop records their code. -/
theorem State.prtCommand_refused {s : State} {w : Word} {err : MemErr} {early refusals : List (Bool × Code)}
    {c : Code} (f : State → State) (hbusy : s.prtBusy = false) (hw : rsvSet .prtCmd w = false)
    (h : prtRefusal early refusals err = some c) : s.prtCommand w err early refusals f = (s.prtHealth c).prtDone c := by
  have hcode : prtRefusal ((s.prtBusy, .busy) :: (rsvSet .prtCmd w, .deniedAttr) :: early) refusals err = some c := by
    rw [hbusy, hw, prtRefusal, List.cons_append, List.cons_append, lowest_cons_false, lowest_cons_false]
    exact h
  rw [State.prtCommand, hcode]

/-- One that a refusal other than an error of its tables stops does nothing else. -/
theorem State.prtCommand_denied {s : State} {w : Word} {err : MemErr} {early refusals : List (Bool × Code)} {c : Code}
    (f : State → State) (hbusy : s.prtBusy = false) (hw : rsvSet .prtCmd w = false)
    (h : prtRefusal early refusals err = some c) (hc : c ≠ .integrity) :
    s.prtCommand w err early refusals f = s.prtDone c := by
  rw [State.prtCommand_refused f hbusy hw h, State.prtHealth_of_ne hc]

/-- One that an error of its tables stops reports it to the health queue of unit 6 (R461, R543). -/
theorem State.prtCommand_uncorr {s : State} {w : Word} {early refusals : List (Bool × Code)} (f : State → State)
    (hbusy : s.prtBusy = false) (hw : rsvSet .prtCmd w = false) (h : lowest early = none) :
    s.prtCommand w .uncorr early refusals f = (s.health 6 .integrity).prtDone .integrity :=
  State.prtCommand_refused f hbusy hw (prtRefusal_uncorr h _)

/-! ### Entries put one after another -/

/-- The keys of an array in canonical form are distinct. -/
theorem Sparse.nodup_keys {α : Type} [DecidableEq α] {d : α} {m : Sparse α} (h : Sparse.wf d m = true) :
    (m.map Prod.fst).Nodup := by
  induction m with
  | nil => exact List.nodup_nil
  | cons e m ih =>
    obtain ⟨habove, -, hm⟩ := Sparse.wf_cons.1 h
    refine List.nodup_cons.2 ⟨fun hmem => ?_, ih hm⟩
    obtain ⟨f, hf, hkey⟩ := List.mem_map.1 hmem
    exact absurd hkey (habove f hf).ne'

section
variable {α : Type} [DecidableEq α] {d : α} {l : List (Nat × α)}

/-- A key that no entry names reads as before. -/
theorem Sparse.get_putMany_of_not_mem (hd : ∀ e ∈ l, e.2 ≠ d) {k : Nat} (hk : ∀ e ∈ l, e.1 ≠ k) (m : Sparse α) :
    Sparse.get d (Sparse.putMany d m l) k = Sparse.get d m k := by
  induction l generalizing m with
  | nil => rfl
  | cons e l ih =>
    obtain ⟨hed, hld⟩ := List.forall_mem_cons.1 hd
    obtain ⟨hek, hlk⟩ := List.forall_mem_cons.1 hk
    exact (ih hld hlk _).trans ((Sparse.get_put_of_ne hed).trans (if_neg hek.symm))

/-- A key that one entry names reads what the entry puts. -/
theorem Sparse.get_putMany_of_mem (hd : ∀ e ∈ l, e.2 ≠ d) (hl : (l.map Prod.fst).Nodup) {e : Nat × α} (he : e ∈ l)
    (m : Sparse α) : Sparse.get d (Sparse.putMany d m l) e.1 = e.2 := by
  induction l generalizing m with
  | nil => cases he
  | cons f l ih =>
    obtain ⟨hfd, hld⟩ := List.forall_mem_cons.1 hd
    obtain ⟨hfresh, hnodup⟩ := List.nodup_cons.1 hl
    rcases List.mem_cons.1 he with rfl | he
    · exact (Sparse.get_putMany_of_not_mem hld (fun g hg h => hfresh (List.mem_map.2 ⟨g, hg, h⟩)) _).trans
        ((Sparse.get_put_of_ne hfd).trans (if_pos rfl))
    · exact ih hld hnodup he _

end

/-! ### A partition defined -/

/-- The partition manager once the staged partition is defined. -/
def State.definedPrt (s : State) : Prt :=
  { s.prt with
    parts := Sparse.put {} s.prt.parts s.stgPart.toNat
      { st := .active, conf := s.stgConf, chunk := s.stgChunk, arrays := s.stgArrays }
    regions := Sparse.putMany {} s.prt.regions (s.stagedRegions s.stgPart)
    gens := Sparse.put 0 s.prt.gens s.stgPart.toNat (s.partGen s.stgPart + 1)
    epoch := s.prt.epoch + 1 }

/-- Regions put one after another. -/
theorem State.foldl_setRegion_entries (l : List (Nat × Region)) (s : State) :
    l.foldl (fun s e => s.setRegion e.1 e.2) s = s.onPrt fun t => { t with regions := Sparse.putMany {} t.regions l } := by
  induction l generalizing s with
  | nil => rfl
  | cons e l ih => exact ih _

/-- A definition changes the partition manager and the engine's marks, and for a confidential partition the debug gate
and the duty of the fence (R163, R431, R538). -/
theorem State.define_eq (s : State) : ∃ m, s.define =
    if s.stgConf then
      ((State.onLcs { s with sme := m, prt := s.definedPrt } fun l => { l with confClosed := true }).closeDebug).boostOff
    else { s with sme := m, prt := s.definedPrt } := by
  refine ⟨{ s.sme with released := s.sme.released &&& ~~~ s.groupsOf s.stgPart }, ?_⟩
  rw [State.define]
  simp only [State.foldl_setRegion_entries]
  rfl

theorem State.define_prt (s : State) : s.define.prt = s.definedPrt := by
  obtain ⟨m, h⟩ := s.define_eq
  rw [h]
  split <;> rfl

theorem State.define_memories (s : State) :
    s.define.psram = s.psram ∧ s.define.csram = s.csram ∧ s.define.regs = s.regs := by
  obtain ⟨m, h⟩ := s.define_eq
  rw [h]
  split <;> exact ⟨rfl, rfl, rfl⟩

theorem State.define_confidential {s : State} (hc : s.stgConf = true) :
    s.define.lcs.confClosed = true ∧ s.define.lcs.debugOpen = false ∧ s.define.fnc.d = min s.fnc.d s.fnc.planDuty := by
  obtain ⟨m, h⟩ := s.define_eq
  rw [h, if_pos hc]
  exact ⟨rfl, rfl, rfl⟩

theorem State.define_plain_lcs {s : State} (hc : s.stgConf = false) : s.define.lcs = s.lcs := by
  obtain ⟨m, h⟩ := s.define_eq
  rw [h, hc]
  rfl

theorem State.define_partEntry (s : State) (q : PartId) : s.define.partEntry q = if q = s.stgPart then
    { st := .active, conf := s.stgConf, chunk := s.stgChunk, arrays := s.stgArrays } else s.partEntry q := by
  have hactive : ({ st := .active, conf := s.stgConf, chunk := s.stgChunk, arrays := s.stgArrays } : PartEntry) ≠ {} :=
    fun h => PartState.noConfusion (congrArg PartEntry.st h)
  rw [State.partEntry, State.define_prt]
  exact (Sparse.get_put_of_ne hactive).trans (by simp only [BitVec.toNat_inj]; rfl)

theorem State.define_partGen {s : State} (hp : s.stgPart ≠ 0) (hwf : Sparse.wf 0 s.prt.gens = true) :
    s.define.partGen s.stgPart = s.partGen s.stgPart + 1 := by
  rw [State.partGen, if_neg hp, State.define_prt]
  exact Sparse.get_put hwf

theorem State.define_partGen_ne {s : State} (hwf : Sparse.wf 0 s.prt.gens = true) {q : PartId} (hq : q ≠ s.stgPart) :
    s.define.partGen q = s.partGen q := by
  rw [State.partGen, State.partGen, State.define_prt]
  congr 1
  exact Sparse.get_put_ne hwf fun h => hq (BitVec.toNat_inj.1 h)

/-- What a staged region commits to names a kind. -/
theorem State.stagedRegions_ne {s : State} {p : PartId} : ∀ e ∈ s.stagedRegions p, e.2 ≠ {} := by
  intro e he hdefault
  obtain ⟨x, hx, rfl⟩ := List.mem_map.1 he
  have hkind : x.2.kind = 0 := congrArg Region.kind hdefault
  simp [hkind] at hx

theorem State.stagedRegions_nodup {s : State} (h : Sparse.wf {} s.prt.staged = true) (p : PartId) :
    ((s.stagedRegions p).map Prod.fst).Nodup := by
  rw [State.stagedRegions, List.map_map]
  exact Sparse.nodup_keys (Sparse.wf_filter h)

/-- A staged region becomes the committed one of its number. -/
theorem State.define_region_staged {s : State} (h : Sparse.wf {} s.prt.staged = true) {e : Nat × Region}
    (he : e ∈ s.stagedRegions s.stgPart) : s.define.region e.1 = e.2 := by
  rw [State.region, State.define_prt]
  exact Sparse.get_putMany_of_mem State.stagedRegions_ne (State.stagedRegions_nodup h _) he _

/-- A region of a number that none staged has is as before. -/
theorem State.define_region_other {s : State} {i : Nat} (h : ∀ e ∈ s.stagedRegions s.stgPart, e.1 ≠ i) :
    s.define.region i = s.region i := by
  rw [State.region, State.define_prt]
  exact Sparse.get_putMany_of_not_mem State.stagedRegions_ne h _

/-- What a commit that nothing refuses leaves (R428 to R433). -/
theorem State.defined_spec {s : State} (hp : s.stgPart ≠ 0) (hgens : Sparse.wf 0 s.prt.gens = true)
    (hstaged : Sparse.wf {} s.prt.staged = true) :
    let p := s.stgPart
    let t := s.define.onPrt fun t => { t with commitCode := .done }
    t.prt.commitCode = .done ∧ t.partGen p = s.partGen p + 1 ∧ t.prt.epoch = s.prt.epoch + 1 ∧
      t.partEntry p = { st := .active, conf := s.stgConf, chunk := s.stgChunk, arrays := s.stgArrays } ∧
      (∀ q, q ≠ p → t.partEntry q = s.partEntry q ∧ t.partGen q = s.partGen q) ∧
      (∀ e ∈ s.stagedRegions p, t.region e.1 = e.2) ∧
      (∀ i, (∀ e ∈ s.stagedRegions p, e.1 ≠ i) → t.region i = s.region i) ∧
      (s.stgConf = true → t.lcs.confClosed = true ∧ t.lcs.debugOpen = false ∧ t.fnc.d = min s.fnc.d s.fnc.planDuty) ∧
      (s.stgConf = false → t.lcs = s.lcs) ∧ t.psram = s.psram ∧ t.csram = s.csram ∧ t.regs = s.regs :=
  ⟨rfl, State.define_partGen hp hgens, congrArg Prt.epoch s.define_prt,
    (s.define_partEntry _).trans (if_pos rfl),
    fun q hq => ⟨(s.define_partEntry q).trans (if_neg hq), State.define_partGen_ne hgens hq⟩,
    fun _ he => State.define_region_staged hstaged he, fun _ hi => State.define_region_other hi,
    State.define_confidential, State.define_plain_lcs, s.define_memories⟩

/-! ### PRT_COMMIT -/

theorem execPrtCommit_written {s : State} {w : Word} (hd2 : s.serves .d2 = true) (hw : bit w 0 = true) (err : MemErr) :
    execPrtCommit w err s = .next (s.quiet.prtCommit err) := by
  rw [execPrtCommit, ranOn_up hd2, if_pos hw]

theorem State.prtCommit_refused {s : State} {err : MemErr} {c : Code}
    (h : prtRefusal s.commitEarly s.commitRefusals err = some c) :
    s.prtCommit err = (s.prtHealth c).onPrt fun t => { t with commitCode := c } := by
  rw [State.prtCommit, h]

/-- A commit that a refusal stops, other than an error of the tables, records its code and nothing else. -/
theorem State.prtCommit_denied {s : State} {err : MemErr} {c : Code}
    (h : prtRefusal s.commitEarly s.commitRefusals err = some c) (hc : c ≠ .integrity) :
    s.prtCommit err = s.onPrt fun t => { t with commitCode := c } := by
  rw [State.prtCommit_refused h, State.prtHealth_of_ne hc]

theorem State.prtCommit_accepted {s : State} (h : lowest (s.commitEarly ++ s.commitRefusals) = none) :
    s.prtCommit .none = s.define.onPrt fun t => { t with commitCode := .done } := by
  rw [State.prtCommit, prtRefusal_none, h]

/-- Nothing but BUSY and DENIED_ATTR refuses a commit. -/
theorem State.commit_codes {s : State} {c : Code} (h : (true, c) ∈ s.commitEarly ++ s.commitRefusals) :
    c = .busy ∨ c = .deniedAttr := by
  simp only [State.commitEarly, State.commitRefusals, List.cons_append, List.nil_append, List.mem_cons, Prod.mk.injEq,
    List.not_mem_nil, or_false] at h
  rcases h with ⟨-, h⟩ | ⟨-, h⟩ | ⟨-, h⟩
  · exact .inl h
  · exact .inr h
  · exact .inr h

theorem State.commit_code_ne_integrity {s : State} {c : Code} (h : (true, c) ∈ s.commitEarly ++ s.commitRefusals) :
    c ≠ .integrity := by
  rcases State.commit_codes h with rfl | rfl <;> decide

/-- What is staged refuses a commit with the same code where a table has an uncorrectable error (R14, R461). -/
theorem State.commit_uncorr_of_early {s : State} {c : Code} (h : lowest s.commitEarly = some c) :
    prtRefusal s.commitEarly s.commitRefusals .uncorr = some c ∧ c ≠ .integrity := by
  have hcodes := State.commit_codes (List.mem_append_left s.commitRefusals (lowest_least h).1)
  have hle : c.num ≤ Code.integrity.num := by rcases hcodes with rfl | rfl <;> decide
  have hne : c ≠ .integrity := by rcases hcodes with rfl | rfl <;> decide
  exact ⟨prtRefusal_uncorr_of_early h hle _, hne⟩

/-- Partition 0 is never committed (R429). -/
theorem State.stgPart_ne_zero {s : State} (h : lowest (s.commitEarly ++ s.commitRefusals) = none) : s.stgPart ≠ 0 := by
  intro hzero
  have hdenied := lowest_eq_none.1 h _ (List.mem_append_left _ (List.mem_cons_of_mem _ List.mem_cons_self))
  simp only [hzero, beq_self_eq_true, Bool.true_or, Bool.true_eq_false] at hdenied

/-! ### Job digests and QUARANTINE -/

section
variable {s : State} {w : Word} (h : s.prtTakes w)
include h

/-- JOB_RECORD and JOB_FORGET meet an uncorrectable error before any refusal of their own (R461). -/
theorem execJobRecord_uncorr :
    execJobRecord w .uncorr s = .next ((s.quiet.health 6 .integrity).prtDone .integrity) := by
  obtain ⟨hd2, -, hbusy, hw⟩ := prtTakes_quiet h
  rw [execJobRecord, ranOn_up hd2, State.prtCommand_uncorr _ hbusy hw rfl]

theorem execJobForget_uncorr :
    execJobForget w .uncorr s = .next ((s.quiet.health 6 .integrity).prtDone .integrity) := by
  obtain ⟨hd2, -, hbusy, hw⟩ := prtTakes_quiet h
  rw [execJobForget, ranOn_up hd2, State.prtCommand_uncorr _ hbusy hw rfl]

theorem execJobRecord_taken (hst : s.partState s.prtPart = .active) (hjob : s.jobDigest s.prtPart s.prtJob = none)
    {i : Nat} (hi : s.freeJob = some i) : execJobRecord w .none s = .next ((s.quiet.setJob i
      (some ⟨s.prtPart, s.prtJob, s.regBytes .prtOpGate 0 16, s.regBytes .prtOpPolicy 0 16⟩)).prtDone .done) := by
  obtain ⟨hd2, -, hbusy, hw⟩ := prtTakes_quiet h
  have hst' : s.quiet.partState s.quiet.prtPart = .active := hst
  have hjob' : s.quiet.jobDigest s.quiet.prtPart s.quiet.prtJob = none := hjob
  have hi' : s.quiet.freeJob = some i := hi
  rw [execJobRecord, ranOn_up hd2, State.prtCommand_taken _ hbusy hw (by simp) (by simp [hst', hjob', hi']), hi']
  rfl

theorem execJobRecord_full (hst : s.partState s.prtPart = .active) (hjob : s.jobDigest s.prtPart s.prtJob = none)
    (hfree : s.freeJob = none) : execJobRecord w .none s = .next (s.quiet.prtDone .noResource) := by
  obtain ⟨hd2, -, hbusy, hw⟩ := prtTakes_quiet h
  have hst' : s.quiet.partState s.quiet.prtPart = .active := hst
  have hjob' : s.quiet.jobDigest s.quiet.prtPart s.quiet.prtJob = none := hjob
  have hfree' : s.quiet.freeJob = none := hfree
  have hcode : prtRefusal [] [(s.quiet.partState s.quiet.prtPart != .active ||
      (s.quiet.jobDigest s.quiet.prtPart s.quiet.prtJob).isSome, .deniedAttr), (s.quiet.freeJob.isNone, .noResource)]
      .none = some .noResource := by
    rw [hst', hjob', hfree']
    rfl
  rw [execJobRecord, ranOn_up hd2, State.prtCommand_denied _ hbusy hw hcode (by decide)]

theorem execJobForget_taken {i : Nat} {d : JobDigest} (hjob : s.jobDigest s.prtPart s.prtJob = some (i, d)) :
    execJobForget w .none s = .next ((s.quiet.setJob i none).prtDone .done) := by
  obtain ⟨hd2, -, hbusy, hw⟩ := prtTakes_quiet h
  have hjob' : s.quiet.jobDigest s.quiet.prtPart s.quiet.prtJob = some (i, d) := hjob
  rw [execJobForget, ranOn_up hd2, State.prtCommand_taken _ hbusy hw (by simp) (by simp [hjob']), hjob']

theorem execJobForget_absent (hjob : s.jobDigest s.prtPart s.prtJob = none) :
    execJobForget w .none s = .next (s.quiet.prtDone .deniedAttr) := by
  obtain ⟨hd2, -, hbusy, hw⟩ := prtTakes_quiet h
  have hjob' : s.quiet.jobDigest s.quiet.prtPart s.quiet.prtJob = none := hjob
  rw [execJobForget, ranOn_up hd2,
    State.prtCommand_denied (c := .deniedAttr) _ hbusy hw (by rw [hjob']; rfl) (by decide)]

/-- QUARANTINE of partition 0 is refused whatever the tables hold (R426, R454). -/
theorem execPrtQuarantine_zero (hp : s.prtPart = 0) (err : MemErr) :
    execPrtQuarantine w err s = .next (s.quiet.prtDone .deniedAttr) := by
  obtain ⟨hd2, hd4, hbusy, hw⟩ := prtTakes_quiet h
  have hp' : s.quiet.prtPart = 0 := hp
  have hearly : lowest [(!s.quiet.up .d4, .busy), (s.quiet.prtPart == 0, .deniedAttr)] = some .deniedAttr := by
    rw [hd4, hp']
    rfl
  have hcode : prtRefusal [(!s.quiet.up .d4, .busy), (s.quiet.prtPart == 0, .deniedAttr)]
      [(s.quiet.partState s.quiet.prtPart != .active, .deniedAttr)] err = some .deniedAttr := by
    cases err with
    | uncorr => exact prtRefusal_uncorr_of_early hearly (by decide) _
    | _ => exact lowest_append_of_some hearly (by simp)
  rw [execPrtQuarantine, ranOn_up hd2, State.prtCommand_denied _ hbusy hw hcode (by decide)]

theorem execPrtQuarantine_uncorr (hp : s.prtPart ≠ 0) :
    execPrtQuarantine w .uncorr s = .next ((s.quiet.health 6 .integrity).prtDone .integrity) := by
  obtain ⟨hd2, hd4, hbusy, hw⟩ := prtTakes_quiet h
  have hp' : ¬ s.quiet.prtPart = 0#6 := hp
  have hearly : lowest [(!s.quiet.up .d4, .busy), (s.quiet.prtPart == 0, .deniedAttr)] = none := by
    simp [lowest_eq_none, hd4, hp']
  rw [execPrtQuarantine, ranOn_up hd2, State.prtCommand_uncorr _ hbusy hw hearly]

theorem execPrtQuarantine_taken (hp : s.prtPart ≠ 0) (hst : s.partState s.prtPart = .active) :
    execPrtQuarantine w .none s = .next
      (((((s.quiet.setPart s.prtPart { s.partEntry s.prtPart with st := .quarantined }).raiseEmber
        (zeroiseGroup s.prtPart .none .prt)).gateStop s.prtPart .quarantine).onPrt fun t =>
          { t with cntQuar := tally t.cntQuar }).prtDone .done) := by
  obtain ⟨hd2, hd4, hbusy, hw⟩ := prtTakes_quiet h
  have hp' : ¬ s.quiet.prtPart = 0#6 := hp
  have hst' : s.quiet.partState s.quiet.prtPart = .active := hst
  rw [execPrtQuarantine, ranOn_up hd2,
    State.prtCommand_taken _ hbusy hw (by simp [hd4, hp']) (by simp [hst'])]
  rfl

end

/-- Settles O48: which refusal's code R14 takes, and what a definition puts where. -/
theorem partitionsAreDefinedWithTheirJobs : Obligations.PartitionsAreDefinedWithTheirJobs := by
  unfold Obligations.PartitionsAreDefinedWithTheirJobs
  refine ⟨fun w s hd2 hw => ⟨fun c hc => ?refused, fun c hc => ?refusedEarly, fun hc => ?error,
      fun hc hgens hstaged => ?done⟩,
    fun w s h => ⟨?jobErrors, ?quarantineError, fun hp => execPrtQuarantine_zero h hp .none⟩,
    fun w s h hst hjob => ⟨fun i hi => execJobRecord_taken h hst hjob hi, execJobRecord_full h hst hjob⟩,
    fun w s h => ⟨fun i d hjob => execJobForget_taken h hjob, execJobForget_absent h⟩,
    fun w s h hp hst => execPrtQuarantine_taken h hp hst⟩
  case refused =>
    have hne := State.commit_code_ne_integrity (lowest_least hc).1
    exact (execPrtCommit_written hd2 hw .none).trans (congrArg _ (State.prtCommit_denied (s := s.quiet) hc hne))
  case refusedEarly =>
    obtain ⟨hcode, hne⟩ := State.commit_uncorr_of_early hc
    exact (execPrtCommit_written hd2 hw .uncorr).trans (congrArg _ (State.prtCommit_denied (s := s.quiet) hcode hne))
  case error =>
    exact (execPrtCommit_written hd2 hw .uncorr).trans
      (congrArg _ (State.prtCommit_refused (s := s.quiet) (prtRefusal_uncorr hc _)))
  case done =>
    exact ⟨_, (execPrtCommit_written hd2 hw .none).trans (congrArg _ (State.prtCommit_accepted (s := s.quiet) hc)),
      State.defined_spec (s := s.quiet) (State.stgPart_ne_zero hc) hgens hstaged⟩
  case jobErrors =>
    exact List.forall_mem_cons.2 ⟨execJobRecord_uncorr h, List.forall_mem_singleton.2 (execJobForget_uncorr h)⟩
  case quarantineError =>
    split
    · next hp => exact execPrtQuarantine_zero h hp .uncorr
    · next hp => exact execPrtQuarantine_uncorr h hp

end Sys2Proof.Machine
end
